-- ==== Sys2Proof/Word.lean ====
section
/-!
DEFINITION. The plainest types: a byte, the 64-bit word of a register (R6), and the reading
of a two's-complement field. Field values are natural numbers below 2 to the field's width.
-/
namespace Sys2Proof

/-- One byte. -/
abbrev Byte := BitVec 8

/-- A 64-bit word: a register's contents (R6). -/
abbrev Word := BitVec 64

/-- The value of a `w`-bit two's-complement field that holds `v`. -/
def signedOf (w v : Nat) : Int :=
  if v % 2 ^ w < 2 ^ (w - 1) then (v % 2 ^ w : Nat) else (v % 2 ^ w : Nat) - 2 ^ w

/-- The `w`-bit two's-complement field for an integer. -/
def unsignedOf (w : Nat) (x : Int) : Nat := (x % 2 ^ w).toNat

/-- Bits `[lo + w - 1 : lo]` of a number. -/
def bitsOf (v lo w : Nat) : Nat := v / 2 ^ lo % 2 ^ w

/-- One bit of a number. -/
def bitOf (v i : Nat) : Bool := v.testBit i

/-- Clamp an integer between two bounds. -/
def clampInt (lo hi x : Int) : Int := if x < lo then lo else if hi < x then hi else x

end Sys2Proof
end

