-- ==== Sys2Proof/Syntax.lean ====
section
/-!
DEFINITION. The commands and events the block takes: one constructor of `Instr` for each row of the spec's table of
operations and events (opcode_table.json), with the row's operands. An operand `t` is the schedule time, in ns, at
which the command or event comes.
-/
namespace Sys2Proof

/-- A frame, or any run of bytes, first byte first. -/
abbrev Frame := List Byte

/-- The places of data blocks of a container, counted from its head. -/
abbrev Blocks := List Nat

/-- Blocks a ring port hears: their bytes, and the blocks with a bad sync header (R389), counted from the first. -/
structure RingRun where
  bytes : Frame
  bad : Blocks
deriving DecidableEq, Repr

/-- A transfer of an I²C master whose SCL has stayed low (R163): for how many ns, the bytes read before it, and when. -/
structure I2cStall where
  low : Nat
  data : Frame
  t : Nat
deriving DecidableEq, Repr

/-- Lanes read wrong: the beat, and the mask of its lanes (data 0 to 31, check 32 to 39). -/
abbrev Errs := List (Nat × Nat)

/-- What a core access is for: a fetch, a load, a store, LR.W, SC.W, or an atomic memory operation of its funct5 (R466). -/
inductive AccKind where
  | fetch | load | store | lr | sc
  | amo (op : Nat)
deriving DecidableEq, Repr

/-- Who makes an access (00_scope.md, R45, R487): the core in machine mode, the core in user mode, or the host. -/
inductive Src where
  | coreM | coreU | host
deriving DecidableEq, Repr

/-- A handshake channel (02_islands_and_handshakes.md, table "Channel ranks"): its rank and the islands it joins. -/
structure Chan where
  rank : Nat
  src : Nat
  dst : Nat
deriving DecidableEq, Repr

/-- A function with EN and DONE (R76, table "Disabling with work in flight"). -/
inductive Func where
  | port (n : Nat)
  | ringPort (d : Nat)
  | juggler (pipe j : Nat)
  | shaper (h : Nat)
  | spill (s : Nat)
  | gwMap (m : Nat)
  | dma (c : Nat)
deriving DecidableEq, Repr

/-- A Juggler context: pipeline (0 PA, 1 PB), Juggler, context (R217). -/
structure CtxId where
  pipe : Nat
  jug : Nat
  ctx : Nat
deriving DecidableEq, Repr

/-- What a check code finds on a read (R232, R343, R470): nothing, an error it corrects, or one it cannot. -/
inductive Ecc where
  | clean | corrected | uncorrectable
deriving DecidableEq, Repr

/-- The key of a fragment-table entry (R186): source, destination, identification, protocol. -/
structure FragKey where
  srcAddr : Frame
  dstAddr : Frame
  ident : Nat
  proto : Nat
deriving DecidableEq, Repr

/-- A block of a 64b/66b stream: its two-bit sync header, and its eight bytes in the order they travel. -/
abbrev CodeBlock := Nat × Frame

/-- A cascade message (R269, table "Cascade head block payload") with its data blocks' contents. -/
structure CasMsg where
  kind : Nat
  origin : Nat
  sender : Nat
  seen : Nat
  tag : Nat
  table : Nat
  execSlot : Nat
  key : Frame
  action : Nat
  index : Nat
deriving DecidableEq, Repr

/-- A selector of R324: a mirror session's, a port sampler's, or a pipeline's precise-sample selector (R552). -/
inductive SelectorId where
  | mirror (m : Nat)
  | sampler (p : Nat)
  | precise (pipe : Nat)
deriving DecidableEq, Repr

/-- How an I²C transfer ends (R163). -/
inductive I2cEnd where
  | ok
  | nack (byteIndex : Nat)
  | arbLost
deriving DecidableEq, Repr

/-- A change of the host's settings of the function (R478, R481): its controls, one vector's mask bit, or the sizes in Device Control. -/
inductive MsixChange where
  | control (busMaster enable funcMask : Bool)
  | vector (v : Nat) (masked : Bool)
  | device (maxPayload maxRead : Nat)
deriving DecidableEq, Repr

/-- An inbound PCI Express memory request (R480): the BAR (0, 2 or 4; another number is an address in none), the byte
offset, the bytes and which of them are enabled. -/
structure PcieReq where
  wr : Bool
  bar : Nat
  off : Nat
  data : Frame
  enable : List Bool
  poisoned : Bool
deriving DecidableEq, Repr

/-- How a DMA descriptor's transfer ends (R482); `corrected` ends well, with a corrected read of SRAM on the way (R470). -/
inductive DmaEnd where
  | ok | corrected | cplError | poisoned | linkDown | localEcc
deriving DecidableEq, Repr


/-- Which tag a field request is for (ISO/IEC 15693-3): any that is not quiet, the one of a UID, or the selected one. -/
inductive TagWho where
  | any
  | uid (u : Nat)
  | selected
deriving DecidableEq, Repr

/-- The instructions of the test access port (R574): those of IEEE 1149.1, and the two of the RISC-V debug transport. -/
inductive TapInstr where
  | bypass | idcode | sample | extest | clamp | highz | dtmcs | dmi
deriving DecidableEq, Repr

/-- The commands and events of the block, one constructor per row of the table of operations and events. -/
inductive Instr where
  /-- REGISTER_WRITE (R7): A write to a register field that has no step of its own updates the addressed bits under the access-code rules. -/
  | registerWrite (src : Src) (isl : Nat) (off : Nat) (size : Nat) (data : Nat)
  /-- POP_WINDOW_READ (R13): An aligned 64-bit read of a pop window returns and removes the oldest FIFO entry, or returns VALID = 0 when the FIFO is empty. -/
  | popWindowRead (src : Src) (isl : Nat) (off : Nat) (size : Nat)
  /-- UNMAPPED_ACCESS (R10): An access to an unoccupied offset reads 0 or is ignored, and sets MI.ACC_STAT.UNMAPPED with the last-access details. -/
  | unmappedAccess (src : Src) (isl : Nat) (off : Nat)
  /-- ISLAND_DOWN_ACCESS (R47): An access to the window of an island that is powered down or held in reset is answered by MI with 0, or is ignored. -/
  | islandDownAccess (src : Src) (isl : Nat) (off : Nat) (wr : Bool)
  /-- CORE_ACCESS_FAULT (R33): A core access outside every mapped range raises an access-fault exception and sets UNMAPPED. -/
  | coreAccessFault (addr : Nat) (kind : AccKind) (user : Bool) (t : Nat)
  /-- CORE_DRAM_ACCESS (R32): A core access through the paged DRAM range reaches the DRAM offset selected by the current page. -/
  | coreDramAccess (src : Src) (kind : AccKind) (addr : Nat) (size : Nat) (data : Nat) (t : Nat)
  /-- HOST_BAR4_ACCESS (R35): A host access through BAR4 reaches the DRAM offset based on MI.BAR4_WIN.BASE, subject to HOST_BAR4. -/
  | hostBar4Access (off : Nat) (size : Nat) (wr : Bool) (data : Frame) (t : Nat)
  /-- PLL_LOCK (R53): An island PLL reports lock, which allows the boot ROM to release that island from reset. -/
  | pllLock (isl : Nat) (t : Nat)
  /-- PLL_UNLOCK (R54): An island PLL loses lock; the device sets UNLOCK and treats the event as a progress-monitor trip with cause PLL unlock. -/
  | pllUnlock (isl : Nat) (t : Nat)
  /-- CHANNEL_ITEM_ARRIVAL (R56): An item written into a handshake channel reaches the receiving island within the crossing bound. -/
  | channelItemArrival (ch : Chan)
  /-- CREDIT_RETURN (R55): A credit that the receiver returned on removing an item reaches the sender. -/
  | creditReturn (ch : Chan)
  /-- PROGRESS_MONITOR_TRIP (R61): An island has held items without progress for TIMEOUT; the device records the trip, raises the status source and, with ACTION = 1, resets the island. -/
  | progressMonitorTrip (isl : Nat) (t : Nat)
  /-- ISLAND_RESET_HOLD_END (R62): The 128-cycle reset hold, or the PLL relock, ends; STATE becomes replaying and ingress and egress replay begin. -/
  | islandResetHoldEnd (isl : Nat) (t : Nat)
  /-- ISLAND_REPLAY_DONE (R62): Replay completes; STATE becomes running and the island status source is raised a second time. -/
  | islandReplayDone (isl : Nat) (t : Nat)
  /-- ISL_CMD_RESET (R62): Firmware forces the reset and replay of an island through MI.ISL_CMD.RESET. -/
  | islCmdReset (src : Src) (mask : Nat) (t : Nat)
  /-- ISL_CMD_OFF (R75): In Rehearsal, firmware powers down an island that meets its condition, after the island's functions are disabled. -/
  | islCmdOff (src : Src) (mask : Nat)
  /-- FUNCTION_DISABLE (R76): A write of EN = 0 stops a function's new work at once and starts finishing or discarding its in-flight work. -/
  | functionDisable (src : Src) (fn : Func)
  /-- FUNCTION_DISABLE_DONE (R76): A disabled function's in-flight work has drained, and its DONE bit sets. -/
  | functionDisableDone (fn : Func)
  /-- FUNCTION_ENABLE (R77): A write of EN = 1 restarts a function, or is held until the cycle after its DONE sets. -/
  | functionEnable (src : Src) (fn : Func)
  /-- IMG_CHECK (R109): MI.IMG_CMD.CHECK runs the loader checks on the image at MI.IMG_SRC without applying anything. -/
  | imgCheck (src : Src) (t : Nat)
  /-- IMG_LOAD (R100): MI.IMG_CMD.LOAD checks a full image from the flash window in Rigging, then applies its structural sections and its initial epoch. -/
  | imgLoad (src : Src) (t : Nat)
  /-- IMG_STAGE (R103): MI.IMG_CMD.STAGE checks a partial image and stages its sections into the staged epoch. -/
  | imgStage (src : Src) (t : Nat)
  /-- IMG_COMMIT (R105): MI.IMG_CMD.COMMIT hands the staged partial image to the epoch commit. -/
  | imgCommit (src : Src) (t : Nat)
  /-- IMG_ABORT (R105): MI.IMG_CMD.ABORT hands the staged partial image to the staged-epoch abort. -/
  | imgAbort (src : Src) (t : Nat)
  /-- IMG_CMD_DONE (R118): A running loader command completes, and ERROR, DETAIL, PASS and BUSY are updated. -/
  | imgCmdDone (t : Nat)
  /-- FUSE_PROGRAM_KEY_HASH (R115): AO.FUSE_PROG with OP = program blows a blank key-hash slot from AO.FUSE_DATA, subject to the hold-up check. -/
  | fuseProgramKeyHash (src : Src) (slot : Nat) (t : Nat)
  /-- FUSE_REVOKE (R114): AO.FUSE_PROG with OP = revoke blows a slot's KEYn_REVOKED bit, unless that slot is the last unrevoked one after FIELD_SEAL. -/
  | fuseRevoke (src : Src) (slot : Nat) (t : Nat)
  /-- FUSE_OP_DONE (R115): A fuse operation ends, with its read-back result and FAIL set if it failed. -/
  | fuseOpDone (ok : Bool) (t : Nat)
  /-- AO_POR (R564): VDD_AO rises or falls below its monitor threshold, and the whole device is reset with source AO_POR. -/
  | aoPor (t : Nat)
  /-- AO_POR_RELEASE (R564): Eight AO_CLK cycles after VDD_AO is valid, the always-on island leaves AO_POR. -/
  | aoPorRelease (t : Nat)
  /-- CORE_LOSS (R123): VDD_CORE falls below its monitor threshold, and the device is reset with source CORE_LOSS. -/
  | coreLoss (t : Nat)
  /-- PIN_RESET (R571): RESET_N is held low for at least 10 µs, and the device is reset with source PIN. -/
  | pinReset (t : Nat)
  /-- RESET_RELEASE (R122): RESET_N rises with the rails valid, and the management island's PLL is started toward boot. -/
  | resetRelease (t : Nat)
  /-- FW_RESET (R144): A core write of MI.RST_CMD.FW_RESET with KEY 0xA5 causes a device reset with source FIRMWARE. -/
  | fwReset (src : Src) (key : Nat) (t : Nat)
  /-- HOST_RESET (R144): A PCIe write of MI.RST_CMD.HOST_RESET with KEY 0xA5 causes a device reset with source HOST, where SECURITY permits it. -/
  | hostReset (src : Src) (key : Nat) (t : Nat)
  /-- DEBUG_RESET (R41): A non-debug-module reset requested over the RISC-V debug interface causes a device reset with source DEBUG. -/
  | debugReset (t : Nat)
  /-- REPLAY_ENTRY (R131): Firmware calls the boot ROM replay entry, which imports any pending tag pages and rebuilds the epoch chain from the journal. -/
  | replayEntry (user : Bool) (t : Nat)
  /-- PORAN_REPLAY (R529): After SCHED_VALID and SETTLE_MS, the replay engine judges each journaled Poran command and re-issues those still ahead. -/
  | poranReplay (t : Nat)
  /-- REPLAY_SCHED_TIMEOUT (R529): SCHED_WAIT_S passes without SCHED_VALID; the engine sets SCHED_TIMEOUT and skips Poran replay. -/
  | replaySchedTimeout (t : Nat)
  /-- MODE_REQ_GO (R132): Firmware requests a transition to TARGET, which the device accepts or refuses within 1 µs. -/
  | modeReqGo (src : Src) (target : Nat) (t : Nat)
  /-- MODE_TRANSITION_COMPLETE (R43): An accepted transition meets its completion point, and MODE and its effects change. -/
  | modeTransitionComplete (t : Nat)
  /-- MODE_REQ_TIMEOUT (R134): A Rehearsal-to-Performance transition is refused when its conditions are not all met within four matrix boundaries. -/
  | modeReqTimeout (t : Nat)
  /-- TRIGGER_RING (R136): JOIN_OK has stayed 0 for RING_GRACE, so the RING trigger fires. -/
  | triggerRing (t : Nat)
  /-- BYPASS_E_ENERGISE (R139): 10 ms after the optics are powered on entry to Rehearsal, RI energises BYPASS_HOLD_E. -/
  | bypassEEnergise (t : Nat)
  /-- BYPASS_W_ENERGISE (R139): RI energises BYPASS_HOLD_W after RING_E marker lock, or 100 ms after BYPASS_HOLD_E, whichever comes first. -/
  | bypassWEnergise (t : Nat)
  /-- BYPASS_E_DEENERGISE (R140): 20 ms after de-energising BYPASS_HOLD_W on the way to Rigging, RI de-energises BYPASS_HOLD_E. -/
  | bypassEDeenergise (t : Nat)
  /-- RX_FRAME (R152): A MAC receives a frame whole, checks its length, FCS and code, and copies it into the ingress FIFO or discards it. -/
  | rxFrame (port : Nat) (bytes : Frame) (codeErr : Bool) (t : Nat)
  /-- PAUSE_RX (R158): A received PAUSE starts, replaces or ends the transmit hold on a port with PAUSE_HONOUR set. -/
  | pauseRx (port : Nat) (quanta : Nat) (t : Nat)
  /-- PAUSE_HOLD_END (R158): A PAUSE hold's q × 512 bit times expire, and transmission resumes. -/
  | pauseHoldEnd (port : Nat) (t : Nat)
  /-- PAUSE_HOLD_LIMIT (R159): A hold reaches 65,535 quanta without a break; the device ends it and sends a frame before honouring the next PAUSE. -/
  | pauseHoldLimit (port : Nat) (t : Nat)
  /-- LINK_DOWN (R161): An enabled port loses link; frames on the wire are aborted, and queued frames are flushed or kept according to LINK_FLUSH. -/
  | linkDown (port : Nat) (t : Nat)
  /-- LINK_UP (R170): A port gains link, and its L_CUR is reset to 0. -/
  | linkUp (port : Nat) (speed : Nat) (half : Bool) (t : Nat)
  /-- I2C_GO (R163): MI.I2C_XFER.GO starts an I²C transfer, writing and then optionally reading up to 32 bytes. -/
  | i2cGo (src : Src) (bus : Nat) (addr : Nat) (rdLen : Nat) (wrLen : Nat)
  /-- BUS_CLEAR (R164): A BUS_CLEAR pulse sends nine SCL clocks with SDA released, followed by a stop. -/
  | busClear (src : Src) (bus : Nat)
  /-- I2C_DONE (R163): An I²C transfer ends by success, NACK or lost arbitration, and DONE sets. -/
  | i2cDone (bus : Nat) (outcome : I2cEnd) (data : Frame)
  /-- I2C_TIMEOUT (R163): SCL is held low, or a stretched clock waited for, beyond TIMEOUT; the transfer ends and the master releases the lines. -/
  | i2cTimeout (bus : Nat) (stall : I2cStall)
  /-- ALLOC_WRITE (R165): A write to a port's ALLOC or P_FULL is accepted, or refused when it would break the domain budget. -/
  | allocWrite (src : Src) (port : Nat) (alloc : Nat) (pFull : Nat)
  /-- BUDGET_WRITE (R165): A write to a domain's BUDGET is accepted, or refused when it is below SUM_ALLOC. -/
  | budgetWrite (src : Src) (dom : Nat) (budget : Nat) (riseMax : Nat)
  /-- PARSE_WALK (R174): The parser walks the parse graph over a frame's 128-byte window, stamps its epoch and ends with a result, SHORT or PARSE_DEPTH. -/
  | parseWalk (source : Nat) (t : Nat)
  /-- FRAG_ENTRY_EXPIRE (R190): A fragment-table entry reaches AGE_MS without a hit and is removed. -/
  | fragEntryExpire (key : FragKey) (t : Nat)
  /-- EPOCH_COMMIT (R202): MI.EPOCH_CMD.COMMIT accepts the staged epoch and samples its alignment to wait for the switch point. -/
  | epochCommit (src : Src) (t : Nat)
  /-- EPOCH_ABORT (R207): MI.EPOCH_CMD.ABORT discards the staged epoch, whether dirty or pending, and starts the copy-back. -/
  | epochAbort (src : Src) (t : Nat)
  /-- EPOCH_SWITCH (R205): At its switch point, with the serving islands running, the staged epoch becomes current and the old epoch starts retiring. -/
  | epochSwitch (t : Nat)
  /-- EPOCH_RETIRE (R198): The retiring epoch has no work in flight and its bank has been copied, so RETIRED sets. -/
  | epochRetire (t : Nat)
  /-- RETIRE_SLOW (R199): An epoch has been retiring for longer than RETIRE_WARN, so RETIRE_SLOW sets. -/
  | retireSlow (t : Nat)
  /-- EPOCH_ABORT_DONE (R207): The aborted epoch's trial frames have drained and the copy-back is complete, so ABORT_DONE sets. -/
  | epochAbortDone (t : Nat)
  /-- TUPD_WRITE_ENTRY (R201): MI.TUPD_CMD.GO with OP = write writes one entry into the staged bank, or into the pause batch. -/
  | tupdWriteEntry (src : Src)
  /-- TUPD_INVALIDATE_ENTRY (R201): MI.TUPD_CMD.GO with OP = invalidate invalidates one entry in the staged bank, or in the pause batch. -/
  | tupdInvalidateEntry (src : Src)
  /-- PAUSE_GO (R209): PAUSE_GO stops dispatch for the named ports and waits for their dispatched packets to drain. -/
  | pauseGo (src : Src) (t : Nat)
  /-- PAUSE_DISCARD (R209): PAUSE_DISCARD empties the pause-mode batch. -/
  | pauseDiscard (src : Src)
  /-- PAUSE_APPLY (R209): Once the named ports have drained, the batch is applied, dispatch resumes and PAUSE_DONE sets. -/
  | pauseApply (t : Nat)
  /-- PAUSE_TIMEOUT (R210): Dispatch has not resumed 100 µs after the pause began; the batch is rolled back and PAUSE_FAIL sets. -/
  | pauseTimeout (t : Nat)
  /-- PACKET_DISPATCH (R218): A waiting packet is granted a free Juggler context, its routine is looked up and its PHV is filled. -/
  | packetDispatch (pipe : Nat) (gw : Bool) (t : Nat)
  /-- TURNSTILE_SHED (R286): The oldest class 0 to 5 head has waited beyond SHED_WAIT, so one lowest-class head is shed with ADMIT_OVERLOAD. -/
  | turnstileShed (pipe : Nat) (t : Nat)
  /-- NOP (R223): The NOP micro-instruction retires with no effect. -/
  | nop (x : CtxId) (ecc : Ecc) (t : Nat)
  /-- LDF (R223): LDF loads a PHV field into a general register. -/
  | ldf (x : CtxId) (ecc : Ecc) (t : Nat)
  /-- STF (R223): STF stores the low bits of a register into a PHV field. -/
  | stf (x : CtxId) (ecc : Ecc) (t : Nat)
  /-- LDI (R223): LDI loads an immediate into a register. -/
  | ldi (x : CtxId) (ecc : Ecc) (t : Nat)
  /-- ALU_ADD (R222): ALU with function add computes RA plus the operand and sets Z and C. -/
  | aluAdd (x : CtxId) (ecc : Ecc) (t : Nat)
  /-- ALU_SUBTRACT (R222): ALU with function subtract computes RA minus the operand and sets Z and C. -/
  | aluSubtract (x : CtxId) (ecc : Ecc) (t : Nat)
  /-- ALU_AND (R222): ALU with function and computes a bitwise AND and sets Z. -/
  | aluAnd (x : CtxId) (ecc : Ecc) (t : Nat)
  /-- ALU_OR (R222): ALU with function or computes a bitwise OR and sets Z. -/
  | aluOr (x : CtxId) (ecc : Ecc) (t : Nat)
  /-- ALU_XOR (R222): ALU with function xor computes a bitwise XOR and sets Z. -/
  | aluXor (x : CtxId) (ecc : Ecc) (t : Nat)
  /-- ALU_SHIFT_LEFT (R222): ALU with function shift left shifts RA left by the operand. -/
  | aluShiftLeft (x : CtxId) (ecc : Ecc) (t : Nat)
  /-- ALU_SHIFT_RIGHT (R222): ALU with function shift right shifts RA right by the operand. -/
  | aluShiftRight (x : CtxId) (ecc : Ecc) (t : Nat)
  /-- ALU_MINIMUM (R222): ALU with function minimum takes the unsigned minimum of RA and the operand. -/
  | aluMinimum (x : CtxId) (ecc : Ecc) (t : Nat)
  /-- ALU_MAXIMUM (R222): ALU with function maximum takes the unsigned maximum of RA and the operand. -/
  | aluMaximum (x : CtxId) (ecc : Ecc) (t : Nat)
  /-- CMP (R222): CMP sets Z and C from RA minus the operand. -/
  | cmp (x : CtxId) (ecc : Ecc) (t : Nat)
  /-- JMP (R223): JMP sets the next address to TARGET. -/
  | jmp (x : CtxId) (ecc : Ecc) (t : Nat)
  /-- CALL (R223): CALL pushes the return address and jumps to TARGET, faulting with STACK when the stack is full. -/
  | call (x : CtxId) (ecc : Ecc) (t : Nat)
  /-- RET (R223): RET pops the next address, faulting with STACK when the stack is empty. -/
  | ret (x : CtxId) (ecc : Ecc) (t : Nat)
  /-- SRCH (R225): SRCH reserves a response credit and issues a search of a table into a result slot. -/
  | srch (x : CtxId) (ecc : Ecc) (t : Nat)
  /-- SWAIT (R226): SWAIT makes the context wait for a slot's result and then sets HIT. -/
  | swait (x : CtxId) (ecc : Ecc) (t : Nat)
  /-- ACT_FROM_SLOT (R194): ACT with SUB[0] = 0 merges a hit slot's action word into the accumulator. -/
  | actFromSlot (x : CtxId) (ecc : Ecc) (t : Nat)
  /-- ACT_FROM_IMM (R194): ACT with SUB[0] = 1 merges the immediate action word into the accumulator. -/
  | actFromImm (x : CtxId) (ecc : Ecc) (t : Nat)
  /-- INS (R229): INS inserts zero bytes into the header window and raises EMIT. -/
  | ins (x : CtxId) (ecc : Ecc) (t : Nat)
  /-- DEL (R229): DEL deletes bytes from the header window and lowers EMIT. -/
  | del (x : CtxId) (ecc : Ecc) (t : Nat)
  /-- CSUM (R223): CSUM updates a one's-complement checksum incrementally for a 16-bit change. -/
  | csum (x : CtxId) (ecc : Ecc) (t : Nat)
  /-- TIME (R223): TIME writes the current schedule time into the PHV. -/
  | time (x : CtxId) (ecc : Ecc) (t : Nat)
  /-- CSW (R231): CSW writes a control-store word into the staged bank, or is refused with CSR set. -/
  | csw (x : CtxId) (ecc : Ecc) (t : Nat)
  /-- FAULT (R237): The FAULT instruction faults the routine with code EXPLICIT. -/
  | fault (x : CtxId) (ecc : Ecc) (t : Nat)
  /-- ILLEGAL_OPCODE (R223): An unlisted opcode, or a gateway operation outside its role, faults with ILLEGAL when it issues. -/
  | illegalOpcode (x : CtxId) (ecc : Ecc) (t : Nat)
  /-- END (R228): END applies the default action, composes the frame and passes it to BI in per-port receive order. -/
  | endRoutine (x : CtxId) (ecc : Ecc) (t : Nat)
  /-- BUDGET_STOP (R236): A context reaches its routine budget; the frame is delivered as received to the Sideshow with JUGGLER_BUDGET. -/
  | budgetStop (x : CtxId) (t : Nat)
  /-- SEARCH_RESPONSE (R225): A search result returns into its reserved slot, and a context waiting in SWAIT becomes ready. -/
  | searchResponse (id : Nat) (t : Nat)
  /-- CS_READ (R231): PA.CS_CMD.READ copies a control-store word of the chosen bank into CS_DATA. -/
  | csRead (src : Src) (pipe : Nat)
  /-- CS_WRITE (R231): PA.CS_CMD.WRITE writes CS_DATA into the staged bank, or is refused. -/
  | csWrite (src : Src) (pipe : Nat)
  /-- SEARCH_LOOKUP (R251): SI looks up a search request against a TCAM slice or hash table of the packet's epoch bank. -/
  | searchLookup (id : Nat) (t : Nat)
  /-- LEARNED_AGE_OUT (R261): A learned bridge entry has received no LEARN hit for AGE_S seconds and is removed. -/
  | learnedAgeOut (vidMac : Nat) (t : Nat)
  /-- CASCADE_EXEC_SLOT (R264): At a cascade search's execute slot, each member samples MATCH_IN_N, drives MATCH_OUT_N and decides whether it wins. -/
  | cascadeExecSlot (origin : Nat) (tag : Nat) (matchIn : Bool) (t : Nat)
  /-- CASCADE_SEARCH_TIMEOUT (R266): A cascade search is not complete by slot t + 96, and the slice's LOST setting decides its result. -/
  | cascadeSearchTimeout (tag : Nat) (t : Nat)
  /-- CAS_REQ_RX (R265): A REQ message arrives: a member adds its SEEN bit, looks up and forwards, or the requester consumes its own REQ. -/
  | casReqRx (lane : Nat) (w : List CodeBlock) (t : Nat)
  /-- CAS_RESULT_RX (R265): A RESULT message is consumed by its requester, or forwarded by the other members. -/
  | casResultRx (lane : Nat) (w : List CodeBlock) (t : Nat)
  /-- CAS_MISS_RX (R265): A MISS message is consumed by its requester, or forwarded by the other members. -/
  | casMissRx (lane : Nat) (w : List CodeBlock) (t : Nat)
  /-- CAS_HELLO_TIMER (R270): A DOWN member with CX link sends HELLO every 1 ms and enters TRAIN. -/
  | casHelloTimer (t : Nat)
  /-- CAS_HELLO_RX (R271): A HELLO is received and forwarded, or on its return to position 0 starts training. -/
  | casHelloRx (lane : Nat) (w : List CodeBlock) (t : Nat)
  /-- CAS_TRAIN_PULSE (R270): A TRAIN member samples MATCH_IN_N low, sets its slot counter, pulses MATCH_OUT_N and sends READY. -/
  | casTrainPulse (t : Nat)
  /-- CAS_READY_RX (R271): A READY message is received; position 0 sends UP once every member is ready. -/
  | casReadyRx (lane : Nat) (w : List CodeBlock) (t : Nat)
  /-- CAS_UP_RX (R271): An UP message makes the member UP and is forwarded. -/
  | casUpRx (lane : Nat) (w : List CodeBlock) (t : Nat)
  /-- CAS_DOWN_RX (R271): A DOWN message makes a member in UP or TRAIN DOWN and is forwarded once. -/
  | casDownRx (lane : Nat) (w : List CodeBlock) (t : Nat)
  /-- RETRAIN (R270): SI.CAS_CMD.RETRAIN makes the member DOWN, sends DOWN and retrains. -/
  | retrain (src : Src) (t : Nat)
  /-- PROBE_GO (R273): A probe GO starts a lookup, zeroes RES0 and RES1, and abandons any outstanding probe. -/
  | probeGo (src : Src) (probe : Nat) (seq : Nat) (bank : Nat) (table : Nat) (t : Nat)
  /-- PROBE_COMPLETE (R273): A probe completes, and RES0 and RES1 take the result in one SI cycle. -/
  | probeComplete (probe : Nat) (t : Nat)
  /-- BI_ADMISSION (R281): BI decides each frame from a pipeline island: it admits the frame under the dynamic limits or spill rules, or drops it. -/
  | biAdmission (pipe : Nat) (t : Nat)
  /-- SPILL_WRITE_ACK (R290): DI acknowledges a spill write, and its staging cells are freed. -/
  | spillWriteAck (spill : Nat) (t : Nat)
  /-- SPILL_READBACK_START (R291): With the head segment below SPILL_OFF and room in the reserve, BI starts reading back the oldest DRAM frame. -/
  | spillReadbackStart (spill : Nat) (t : Nat)
  /-- SPILL_READBACK_DONE (R291): A read-back frame is appended to the head segment, or is dropped with SPILL_ECC. -/
  | spillReadbackDone (spill : Nat) (t : Nat)
  /-- CAROUSEL_SELECT (R305): The Carousel picks the next frame of a port by window, strict priority and DWRR, and charges the shapers. -/
  | carouselSelect (port : Nat) (t : Nat)
  /-- SHAPER_REFILL_TICK (R316): Every 1 µs, every enabled bucket is refilled from RATE and clamped at BURST. -/
  | shaperRefillTick (t : Nat)
  /-- SHAPER_RATE_WRITE (R318): A write to RATE takes effect at the next tick, with optional FORGIVE of the bucket's debt. -/
  | shaperRateWrite (src : Src) (shaper : Nat) (excess : Bool) (rate : Nat) (forgive : Bool)
  /-- SHAPER_BURST_WRITE (R319): A write to BURST takes effect at the next tick, clamping a positive bucket to the new burst. -/
  | shaperBurstWrite (src : Src) (shaper : Nat) (excess : Bool) (burst : Nat)
  /-- CLASS7_SERVICE_START (R312): 2 µs before a port window opens, the Carousel begins serving queue 7 of the port. -/
  | class7ServiceStart (port : Nat) (t : Nat)
  /-- GUARD_START (R314): The guard band before a window begins, and the MAC starts no further ordinary-lane frame. -/
  | guardStart (port : Nat) (t : Nat)
  /-- PORT_WINDOW_OPEN (R418): A port window of the running mode opens, and the MAC may begin class-7 frames that fit. -/
  | portWindowOpen (port : Nat) (t : Nat)
  /-- PORT_WINDOW_CLOSE (R418): A port window closes, and the ordinary lane reopens. -/
  | portWindowClose (port : Nat) (t : Nat)
  /-- EGRESS_TX_START (R313): The MAC takes a frame from the scheduled or ordinary lane and begins transmitting it. -/
  | egressTxStart (port : Nat) (t : Nat)
  /-- TRANSMIT_CONFIRM (R71): The last bit of a frame leaves; the transmit record is updated and BI releases the descriptor and cells. -/
  | transmitConfirm (port : Nat) (t : Nat)
  /-- SELECTOR_SEED_WRITE (R324): A seed write loads a selector's LFSR and reloads its gap count. -/
  | selectorSeedWrite (src : Src) (sel : SelectorId) (seed : Nat)
  /-- SIDESHOW_RING_WRITE (R331): A Sideshow entry is written into its receive ring and PROD advances, or it is discarded when the ring is full. -/
  | sideshowRingWrite (ring : Nat) (t : Nat)
  /-- INJECT_PROD_ADVANCE (R333): Software advances the PROD of an injection ring, handing slots to the device. -/
  | injectProdAdvance (src : Src) (ring : Nat) (prod : Nat)
  /-- INJECT_DESCRIPTOR (R334): The device takes an injection slot; it re-injects the frame, sends it DIRECT to BI, or refuses a bad descriptor. -/
  | injectDescriptor (ring : Nat) (t : Nat)
  /-- DRAM_REQUEST_SERVE (R339): DI serves the highest-priority ready request with its page hint and check code. -/
  | dramRequestServe (errs : Errs) (t : Nat)
  /-- DRAM_REFRESH (R342): A rank's refresh interval expires; its open rows are precharged and REFRESH is issued. -/
  | dramRefresh (rank : Nat) (t : Nat)
  /-- TRAIN_MODE_WRITE (R348): Setting TRAIN_MODE in Rigging clears DRAM_READY, suspends retraining and holds requesters; outside Rigging it is refused. -/
  | trainModeWrite (src : Src) (v : Bool) (t : Nat)
  /-- INIT (R352): DI.CTL.INIT runs the DDR4 reset sequence or a self-refresh exit, loads MR0 to MR6 and runs ZQCL. -/
  | initDram (src : Src) (t : Nat)
  /-- INIT_DONE (R352): INIT completes, INIT_DONE sets and SR_RETAINED clears. -/
  | initDone (t : Nat)
  /-- MRS_GO (R351): DI.MRS.GO writes a mode register of a rank. -/
  | mrsGo (src : Src) (value : Nat) (mr : Nat) (rank : Nat) (t : Nat)
  /-- TRN_WRITE (R349): The helper writes the pattern into the training area. -/
  | trnWrite (src : Src) (pattern : Nat) (rank : Nat) (burst : Nat) (len : Nat) (t : Nat)
  /-- TRN_READ_CMP (R350): The helper reads the training area and counts mismatches per lane. -/
  | trnReadCmp (src : Src) (pattern : Nat) (rank : Nat) (burst : Nat) (len : Nat) (errs : Errs) (t : Nat)
  /-- TRN_WRCMP (R350): The helper writes and then reads back the pattern, counting mismatches. -/
  | trnWrcmp (src : Src) (pattern : Nat) (rank : Nat) (burst : Nat) (len : Nat) (errs : Errs) (t : Nat)
  /-- TRN_WLVL (R349): The helper runs a write-leveling sample and reports WL_SEEN. -/
  | trnWlvl (src : Src) (rank : Nat) (seen : Nat) (t : Nat)
  /-- TRN_CA_PAR (R349): The helper issues MPR reads and counts ALERT_N parity errors. -/
  | trnCaPar (src : Src) (rank : Nat) (errors : Nat) (t : Nat)
  /-- TRN_WRITE_CLR (R350): The helper clears every lane error counter and TOTAL. -/
  | trnWriteClr (src : Src) (t : Nat)
  /-- TRAIN_OP_DONE (R349): A helper operation completes, and TRN_STAT.DONE sets. -/
  | trainOpDone (t : Nat)
  /-- RETRAIN_SLICE (R354): Every PERIOD_MS, DI runs a retraining slice that adjusts one byte lane's read delay. -/
  | retrainSlice (low : Errs) (high : Errs) (ns : Nat) (t : Nat)
  /-- TIME_STEP_1MS (R372): At each 1 ms step, the selector acts, switches progress, wall time is slewed and holdover quality is updated. -/
  | timeStep1ms (t : Nat)
  /-- TIME_UPDATE_1S (R370): At each whole second, F1, F64 and D are computed and each reference's state changes. -/
  | timeUpdate1s (t : Nat)
  /-- PTP_MEAS_SUBMIT (R369): A 64-bit write of a PTP phase sample is accepted, or discarded as stale. -/
  | ptpMeasSubmit (src : Src) (u : Nat) (offset : Nat) (t2lo : Nat) (t : Nat)
  /-- PPS_IN_EDGE (R368): A PPS_IN edge is timestamped and folded into a phase sample. -/
  | ppsInEdge (rising : Bool) (t : Nat)
  /-- PPS_OUT_EDGE (R377): A PPS_OUT edge falls due and is emitted or suppressed, and PPS_OFS takes WALL_OFS. -/
  | ppsOutEdge (t : Nat)
  /-- STEP_GO (R380): Firmware requests a wall-time step, which becomes pending unless WALL_Q is LOCKED. -/
  | stepGo (src : Src) (t : Nat)
  /-- STEP_CANCEL (R380): STEP_CANCEL discards any pending wall-time step. -/
  | stepCancel (src : Src) (t : Nat)
  /-- RING_MARKER_CANDIDATE (R397): An unlocked port finds a marker candidate with a good CRC; it extends or starts a train, and declares lock at the third marker. -/
  | ringMarkerCandidate (d : Nat) (run : RingRun) (block : Nat) (res : Nat) (t : Nat)
  /-- RING_TRAIN_EXPIRE (R397): A train's expected position passes without a consistent candidate, and the train is removed. -/
  | ringTrainExpire (d : Nat) (block : Nat) (t : Nat)
  /-- RING_MARKER_RX (R399): A locked port receives a present marker, passes it to time and schedule logic, and repeats or terminates it. -/
  | ringMarkerRx (d : Nat) (run : RingRun) (res : Nat) (t : Nat)
  /-- RING_MARKER_MISSING (R399): An expected marker position passes without a present marker; four in a row end marker lock. -/
  | ringMarkerMissing (d : Nat) (t : Nat)
  /-- MARKER_ORIGINATE (R394): At each basic-cycle start, the Ringmaster originates a marker on both ports. -/
  | markerOriginate (t : Nat)
  /-- RING_BLOCK_LOCK_LOSS (R399): A ring port loses clause 49 block lock, ending marker lock. -/
  | ringBlockLockLoss (d : Nat) (t : Nat)
  /-- RING_CONTAINER_RX (R404): A container head is received; the container is delivered, repeated or stripped, with first-copy deduplication. -/
  | ringContainerRx (d : Nat) (head : Frame) (data : Frame) (bad : Blocks) (t : Nat)
  /-- RING_CONTAINER_INSERT (R405): With the transit buffer empty and the schedule permitting, the node starts a local container. -/
  | ringContainerInsert (d : Nat) (t : Nat)
  /-- DEDUP_EXPIRE (R407): A deduplication entry expires 250 µs after it was made. -/
  | dedupExpire (node : Nat) (cycle : Nat) (window : Nat) (index : Nat) (t : Nat)
  /-- LINK_SERVICE_RX (R409): Link-service blocks are received, and a link-delay sample is taken. -/
  | linkServiceRx (d : Nat) (run : RingRun) (t : Nat)
  /-- LS_STALE (R409): No link-service sample is taken for 16 cycles, so LS_STALE sets. -/
  | lsStale (d : Nat) (t : Nat)
  /-- FORCE_BYP_WRITE (R414): A write of FORCE_BYP changes a coil, or is refused while the other coil's hit is active. -/
  | forceBypWrite (src : Src) (d : Nat) (v : Bool)
  /-- BYPASS_HIT_END (R413): 15 ms after a coil change, its HIT bit clears. -/
  | bypassHitEnd (coil : Nat) (t : Nat)
  /-- BASIC_CYCLE_START (R415): A basic cycle starts at a multiple of 500,000 ns, and kind-4 gateway triggers fire. -/
  | basicCycleStart (t : Nat)
  /-- MATRIX_BOUNDARY (R133): A matrix boundary arrives: JOIN_OK may set, TALLY clears, request ages advance and agreed modes apply. -/
  | matrixBoundary (t : Nat)
  /-- COLDSTART (R426): The coldstart timer expires with no markers seen, and the eligible node becomes Ringmaster. -/
  | coldstart (t : Nat)
  /-- MCHG_GO (R432): RI.MCHG_REQ.GO requests a schedule-mode change, which becomes WAITING or is REFUSED. -/
  | mchgGo (src : Src) (mode : Nat)
  /-- MCHG_CANCEL (R432): CANCEL withdraws a WAITING mode-change request. -/
  | mchgCancel (src : Src)
  /-- SIG_PUB (R422): A write to RI.SIG_PUB publishes a window's transmit back bank and increments PUB_SEQ. -/
  | sigPub (src : Src) (mask : Nat)
  /-- SIGNAL_SNAPSHOT (R421): At START of an owned signal window, the published bank is snapshotted and sent as a signal container. -/
  | signalSnapshot (w : Nat) (t : Nat)
  /-- SIGNAL_MISSED (R424): No signal container is delivered 250 µs after a window's START, so MISSED sets. -/
  | signalMissed (w : Nat) (t : Nat)
  /-- TRIGGER_DISPATCH (R450): A queued gateway trigger is dispatched to a gateway context with a trigger record. -/
  | triggerDispatch (pipe : Nat) (t : Nat)
  /-- GXLT (R452): GXLT applies a signal map: it unpacks, rescales with saturation and repacks the value. -/
  | gxlt (x : CtxId) (ecc : Ecc) (t : Nat)
  /-- GOUT (R453): GOUT loads a template body into the output buffer and selects it. -/
  | gout (x : CtxId) (ecc : Ecc) (t : Nat)
  /-- GEMIT (R456): GEMIT completes the template, assigns SEQ and passes one copy per port to BI. -/
  | gemit (x : CtxId) (ecc : Ecc) (t : Nat)
  /-- GPUB (R453): GPUB publishes a window's transmit back bank. -/
  | gpub (x : CtxId) (ecc : Ecc) (t : Nat)
  /-- FA_ASSERT (R458): FA_IN_N has read low throughout DEB_MS, so FA becomes asserted. -/
  | faAssert (t : Nat)
  /-- FA_RELEASE (R458): FA_IN_N has read high throughout DEB_MS, so FA becomes released. -/
  | faRelease (t : Nat)
  /-- EMERGENCY_REPEAT (R459): Every REPEAT_S seconds while FA stays asserted, an emergency burst is sent again. -/
  | emergencyRepeat (t : Nat)
  /-- INTERRUPT_EDGE (R476): A source line rises and PEND sets; a host-targeted source sends MSI-X. -/
  | interruptEdge (n : Nat) (t : Nat)
  /-- IC_CLAIM (R477): A read of MI.IC_CLAIM returns the highest-priority pending source and puts it in service. -/
  | icClaim (t : Nat)
  /-- IC_COMPLETE (R477): A write to MI.IC_COMPLETE takes a source out of service. -/
  | icComplete (src : Src) (n : Nat) (t : Nat)
  /-- IC_HEOI (R478): A host write to MI.IC_HEOI takes every source of a vector out of service. -/
  | icHeoi (src : Src) (mask : Nat) (t : Nat)
  /-- MSIX_UNMASK (R478): The host unmasks or enables MSI-X, and held messages are sent. -/
  | msixUnmask (change : MsixChange) (t : Nat)
  /-- MACHINE_TIMER (R467): MI.MTIME reaches MTIMECMP, and the machine timer interrupt pends. -/
  | machineTimer (t : Nat)
  /-- PCIE_INBOUND_REQUEST (R480): An inbound PCIe request is split, converted and delivered, or answered Unsupported Request. -/
  | pcieInboundRequest (req : PcieReq) (ecc : Ecc) (t : Nat)
  /-- PCIE_LINK_RESET (R124): PERST_N, hot reset or link-down resets only the PCIe bridge. -/
  | pcieLinkReset (perst : Bool) (t : Nat)
  /-- DMA_DESCRIPTOR_START (R482): An enabled DMA channel with PROD ahead of CONS starts its next descriptor. -/
  | dmaDescriptorStart (ch : Nat) (t : Nat)
  /-- DMA_DESC_DONE (R482): A DMA descriptor completes or fails; STATUS is written and CONS advances or the channel halts. -/
  | dmaDescDone (ch : Nat) (outcome : DmaEnd) (t : Nat)
  /-- DMA_CPL_TIMEOUT (R482): No completion arrives within 50 ms, and the descriptor ends with CPL_TIMEOUT. -/
  | dmaCplTimeout (ch : Nat) (t : Nat)
  /-- H2C_SET (R484): A host write to H2C_SET sets doorbell bits toward the core. -/
  | h2cSet (src : Src) (mask : Nat) (t : Nat)
  /-- C2H_SET (R483): A core write to C2H_SET sets doorbell bits toward the host. -/
  | c2hSet (src : Src) (mask : Nat) (t : Nat)
  /-- SENSOR_CONVERSION (R485): A sensor channel converts at its period, updating VALUE, MIN and MAX and the limit flags. -/
  | sensorConversion (ch : Nat) (value : Nat) (t : Nat)
  /-- MINMAX_CLR (R485): MI.SENS_CMD.MINMAX_CLR restarts a channel's minimum and maximum. -/
  | minmaxClr (src : Src) (mask : Nat) (t : Nat)
  /-- WDT_SERVICE (R487): A machine-mode write of KEY 0xC3 reloads REMAIN and records the service time; other writes are refused. -/
  | wdtService (src : Src) (size : Nat) (key : Nat) (t : Nat)
  /-- WDT_CFG_WRITE (R488): A machine-mode write to MI.WDT_CFG is accepted and reloads REMAIN, or is refused. -/
  | wdtCfgWrite (src : Src) (timeout : Nat) (warn : Nat) (grace : Nat) (en : Bool) (t : Nat)
  /-- WDT_WARNING (R490): REMAIN reaches WARN_MS, raising MI local source 0. -/
  | wdtWarning (t : Nat)
  /-- WATCHDOG_EXPIRY (R491): REMAIN reaches 0; the PC evidence is captured and the device resets with source WATCHDOG. -/
  | watchdogExpiry (pc : Nat) (machine : Bool) (t : Nat)
  /-- ERASE_GUARD_RUNOUT (R489): One erase has suspended the watchdog for 2 s, and counting resumes. -/
  | eraseGuardRunout (t : Nat)
  /-- DEBUG_HALT (R489): The debug module halts the core, freezing the watchdog count. -/
  | debugHalt (t : Nat)
  /-- DEBUG_RESUME (R489): The core resumes from a debug halt, and REMAIN is raised to GRACE_MS if it is below it. -/
  | debugResume (t : Nat)
  /-- INVENTORY (R494): The tag answers an ISO/IEC 15693 Inventory command. -/
  | inventory (oneSlot : Bool) (afi : (Option Nat)) (maskLen : Nat) (mask : Nat) (t : Nat)
  /-- STAY_QUIET (R494): The tag processes Stay quiet. -/
  | stayQuiet (who : TagWho) (t : Nat)
  /-- SELECT (R494): The tag processes Select. -/
  | select (who : TagWho) (t : Nat)
  /-- RESET_TO_READY (R494): The tag processes Reset to ready. -/
  | resetToReady (who : TagWho) (t : Nat)
  /-- READ_SINGLE_BLOCK (R496): The tag returns one block of the committed copy. -/
  | readSingleBlock (who : TagWho) (security : Bool) (block : Nat) (t : Nat)
  /-- WRITE_SINGLE_BLOCK (R498): A field write claims the page if needed and writes a block into the field shadow, or is refused. -/
  | writeSingleBlock (who : TagWho) (block : Nat) (data : Frame) (t : Nat)
  /-- READ_MULTIPLE_BLOCKS (R494): The tag returns up to 8 blocks of committed copies. -/
  | readMultipleBlocks (who : TagWho) (security : Bool) (first : Nat) (countM1 : Nat) (t : Nat)
  /-- GET_SYSTEM_INFORMATION (R494): The tag returns its system information. -/
  | getSystemInformation (who : TagWho) (t : Nat)
  /-- TAG_UNSUPPORTED_COMMAND (R494): The tag answers an unsupported command with error 0x01, or not at all. -/
  | tagUnsupportedCommand (who : TagWho) (t : Nat)
  /-- CLAIM (R498): The custom CLAIM command claims pages for the field session, subject to wired ownership and sealing. -/
  | claim (who : TagWho) (mfg : Nat) (pages : Nat) (t : Nat)
  /-- RELEASE (R497): The custom RELEASE command discards, or commits in ascending order, the pages the session holds. -/
  | release (who : TagWho) (mfg : Nat) (pages : Nat) (mode : Nat) (t : Nat)
  /-- GET_SESSION (R497): The custom GET_SESSION command returns the ownership and pending masks and the seal state. -/
  | getSession (who : TagWho) (mfg : Nat) (t : Nat)
  /-- TAG_COMMIT_DONE (R496): A page commit writes its generation byte, making the new copy committed; a field commit sets the pending bit. -/
  | tagCommitDone (ok : Bool) (t : Nat)
  /-- TAG_FIELD_PRESENT (R494): A reader's field appears at the tag antenna. -/
  | tagFieldPresent (t : Nat)
  /-- TAG_FIELD_LOSS (R498): The reader's field is lost, ending the field session's claims and discarding their shadows. -/
  | tagFieldLoss (t : Nat)
  /-- TAG_SESSION_TIMEOUT (R498): 2 s pass without a valid command, and the field session's claims end. -/
  | tagSessionTimeout (t : Nat)
  /-- TAG_CMD_CLAIM (R501): Firmware claims a page for the wired side, or is refused OWNED_BY_FIELD. -/
  | tagCmdClaim (src : Src) (page : Nat) (token : Bool) (t : Nat)
  /-- TAG_CMD_RELEASE (R499): Firmware releases a wired claim. -/
  | tagCmdRelease (src : Src) (page : Nat) (token : Bool) (t : Nat)
  /-- TAG_CMD_READ (R501): Firmware reads a page's committed copy into AO.TAG_BUF, with OWNED_FLAG reporting field ownership. -/
  | tagCmdRead (src : Src) (page : Nat) (token : Bool) (t : Nat)
  /-- TAG_CMD_COMMIT (R504): Firmware commits AO.TAG_BUF into a wired-held page, with token verification after FIELD_SEAL. -/
  | tagCmdCommit (src : Src) (page : Nat) (token : Bool) (t : Nat)
  /-- TAG_PEND_CLEAR (R507): A W1C write to AO.TAG_PEND programs the pending mask in EEPROM. -/
  | tagPendClear (src : Src) (mask : Nat) (t : Nat)
  /-- FLASH_PROGRAM (R512): MI.FLASH_CMD PROGRAM is refused, deferred by the hold-up check, or started. -/
  | flashProgram (src : Src) (lenM1 : Nat) (t : Nat)
  /-- FLASH_ERASE_4K (R512): MI.FLASH_CMD ERASE_4K is refused, deferred, or started. -/
  | flashErase4k (src : Src) (lenM1 : Nat) (t : Nat)
  /-- FLASH_ERASE_64K (R512): MI.FLASH_CMD ERASE_64K is refused, deferred, or started. -/
  | flashErase64k (src : Src) (lenM1 : Nat) (t : Nat)
  /-- FLASH_OP_DONE (R512): A flash program or erase completes; DONE sets and the instruction cache is invalidated. -/
  | flashOpDone (t : Nat)
  /-- PF_ASSERT (R516): POWER_FAIL_N is detected low; PF sets, new stores are refused and the journal flush starts. -/
  | pfAssert (t : Nat)
  /-- PF_DEASSERT (R576): POWER_FAIL_N is detected high again, and stores are accepted again. -/
  | pfDeassert (t : Nat)
  /-- JNL_APPEND (R520): A 64-byte record is given SEQ, TIME and CRC and queued for programming, or refused. -/
  | jnlAppend (src : Src) (t : Nat)
  /-- JNL_COPY (R524): A journal record is re-appended byte for byte with FLAGS.COPY. -/
  | jnlCopy (src : Src) (t : Nat)
  /-- JNL_ERASE_OLDEST (R523): The oldest journal block in use is erased, unless it holds the head. -/
  | jnlEraseOldest (src : Src) (t : Nat)
  /-- JNL_PROGRAM_DONE (R520): A journal program completes with a good read-back, and DURABLE_SEQ advances. -/
  | jnlProgramDone (bad : Blocks) (t : Nat)
  /-- JNL_RETRY_TICK (R515): At each 1 ms step, the engine retries a deferred journal program or flush. -/
  | jnlRetryTick (t : Nat)
  /-- ROLLBACK_ADV (R537): AO.ROLLBACK_CTL.GO advances the rollback counter within the fuse, hold-up and value limits. -/
  | rollbackAdv (src : Src) (t : Nat)
  /-- SEAL_GO (R538): AO.SEAL_CMD with KEY 0x5A journals a SEAL record, checks hold-up and blows FIELD_SEAL. -/
  | sealGo (src : Src) (key : Nat) (t : Nat)
  /-- CLEAR_ALL (R542): CNT_CTL.CLEAR_ALL zeroes every event counter and overflow bit of the island. -/
  | clearAll (src : Src) (isl : Nat)
  /-- SNAP_GO (R547): MI.SNAP_CMD.GO schedules a device-wide snapshot at time T. -/
  | snapGo (src : Src) (atEn : Bool) (t : Nat)
  /-- SNAPSHOT_CAPTURE (R547): An island's schedule time reaches T, and it copies its counters into the snapshot, or misses. -/
  | snapshotCapture (isl : Nat) (t : Nat)
  /-- PS_ENABLE (R554): A write of PS_CFG.EN = 1 resets WR_IDX and FULL and reloads the sample selector. -/
  | psEnable (src : Src) (pipe : Nat) (data : Nat)
  /-- VDD_CORE_MONITOR_RELEASE (R123): VDD_CORE rises back above 0.710 V while RESET_N is high, and the device leaves its CORE_LOSS reset. -/
  | vddCoreMonitorRelease (t : Nat)
  /-- RING_BLOCK_LOCK_ACQUIRED (R391): A ring port gains clause 49 block lock; the transmitter switches to loop timing and the marker search starts with an empty train table. -/
  | ringBlockLockAcquired (d : Nat) (t : Nat)
  /-- PCIE_LINK_UP (R124): The PCIe link comes up, setting MI.PCIE_EVT.LINK_CHG and raising MI local source 7. -/
  | pcieLinkUp (speed : Nat) (width : Nat) (t : Nat)
  /-- TAP_INSTRUCTION_LOAD (R574): An instruction is loaded through the JTAG test access port; EXTEST, CLAMP and HIGHZ are accepted only with RESET_N low, and only BYPASS and IDCODE after FIELD_SEAL. -/
  | tapInstructionLoad (instr : TapInstr) (t : Nat)
  /-- DMI_ACCESS (R473): A DMI read or write arrives through the debug transport module, and returns 0 or is ignored while DEBUG_OFF or FIELD_SEAL closes the debug module. -/
  | dmiAccess (wr : Bool) (addr : Nat) (data : Nat) (t : Nat)
  /-- CORE_SRAM_ACCESS (R470): A core fetch, load or store reaches SRAM; the check code corrects and writes back, raises an access fault, or causes a FATAL reset on an uncorrectable fetch. -/
  | coreSramAccess (src : Src) (kind : AccKind) (addr : Nat) (size : Nat) (data : Nat) (ecc : Ecc) (t : Nat)
  /-- SEAL_RECORD_TIMEOUT (R538): The SEAL record has not become durable 100 ms after SEAL_CMD.GO, so the seal fails with FAIL_AT = 2 and the fuse stays unblown. -/
  | sealRecordTimeout (t : Nat)
  /-- TAG_READ_DONE (R501): A wired tag READ, which takes up to 1 ms, completes; AO.TAG_BUF and OWNED_FLAG are updated and WIRED_DONE sets. -/
  | tagReadDone (t : Nat)
  /-- TAG_PEND_WRITE_DONE (R506): A program of the EEPROM pending mask completes after up to 4 ms, and AO.TAG_STAT.BUSY clears. -/
  | tagPendWriteDone (t : Nat)
deriving DecidableEq, Repr

end Sys2Proof
end

