-- ==== Sys2Proof/WellFormed.lean ====
section
/-!
DEFINITION. Well-formed commands: every operand lies in the range the spec gives it (island numbers, ports, contexts, register
offsets and access sizes, masks, lengths). The meanings are total: outside these ranges a command that names nothing changes
nothing.
-/
namespace Sys2Proof

/-- Access sizes in bytes (R7). -/
def sizeOk (n : Nat) : Bool := n == 1 || n == 2 || n == 4 || n == 8

/-- Ports 0 to 100 (01_architecture.md, table "Port numbers"). -/
def portOk (p : Nat) : Bool := decide (p ≤ 100)

/-- Pipelines PA and PB, Jugglers 0 to 15, contexts 0 to 3 (R217). -/
def ctxOk (x : CtxId) : Bool := decide (x.pipe < 2 ∧ x.jug < 16 ∧ x.ctx < 4)

/-- A channel joins two different islands of the table "Channel ranks". -/
def chanOk (c : Chan) : Bool := decide (1 ≤ c.rank ∧ c.rank ≤ 9 ∧ c.src < 16 ∧ c.dst < 16 ∧ c.src ≠ c.dst)

/-- The functions of the table "Disabling with work in flight". -/
def funcOk : Func → Bool
  | .port n => decide (n < 96 ∨ (98 ≤ n ∧ n ≤ 100))
  | .ringPort d => decide (d < 2)
  | .juggler k j => decide (k < 2 ∧ j < 16)
  | .shaper h => decide (h < 918)
  | .spill i => decide (i < 24)
  | .gwMap m => decide (m < 4096)
  | .dma c => decide (c < 4)

/-- Blocks of the CX stream: a sync header of two bits, and 8 bytes (R268). -/
def codeOk (w : List CodeBlock) : Bool := w.all fun b => b.1 < 4 && b.2.length == 8

/-- Whether a command is well-formed. -/
def Instr.wf : Instr → Bool
  | .registerWrite _ isl off size data => decide (isl < 0x10) && decide (off < 0x100000) && sizeOk size && decide (data < 0x10000000000000000)
  | .popWindowRead _ isl off size => decide (isl < 0x10) && decide (off < 0x100000) && sizeOk size
  | .unmappedAccess _ isl off => decide (isl < 0x10) && decide (off < 0x100000)
  | .islandDownAccess _ isl off _ => decide (isl < 0x10) && decide (off < 0x100000)
  | .coreAccessFault addr _ _ _ => decide (addr < 0x100000000)
  | .coreDramAccess _ _ addr size data _ => decide (addr < 0x100000000) && sizeOk size && decide (data < 0x10000000000000000)
  | .hostBar4Access off _ _ _ _ => decide (off < 0x10000000)
  | .pllLock isl _ => decide (isl < 0x10)
  | .pllUnlock isl _ => decide (isl < 0x10)
  | .channelItemArrival ch => chanOk ch
  | .creditReturn ch => chanOk ch
  | .progressMonitorTrip isl _ => decide (isl < 0x10)
  | .islandResetHoldEnd isl _ => decide (isl < 0x10)
  | .islandReplayDone isl _ => decide (isl < 0x10)
  | .islCmdReset _ mask _ => decide (mask < 0x10000)
  | .islCmdOff _ mask => decide (mask < 0x10000)
  | .functionDisable _ fn => funcOk fn
  | .functionDisableDone fn => funcOk fn
  | .functionEnable _ fn => funcOk fn
  | .imgCheck _ _ => true
  | .imgLoad _ _ => true
  | .imgStage _ _ => true
  | .imgCommit _ _ => true
  | .imgAbort _ _ => true
  | .imgCmdDone _ => true
  | .fuseProgramKeyHash _ slot _ => decide (slot < 0x2)
  | .fuseRevoke _ slot _ => decide (slot < 0x2)
  | .fuseOpDone _ _ => true
  | .aoPor _ => true
  | .aoPorRelease _ => true
  | .coreLoss _ => true
  | .pinReset _ => true
  | .resetRelease _ => true
  | .fwReset _ key _ => decide (key < 0x100)
  | .hostReset _ key _ => decide (key < 0x100)
  | .debugReset _ => true
  | .replayEntry _ _ => true
  | .poranReplay _ => true
  | .replaySchedTimeout _ => true
  | .modeReqGo _ target _ => decide (target < 0x4)
  | .modeTransitionComplete _ => true
  | .modeReqTimeout _ => true
  | .triggerRing _ => true
  | .bypassEEnergise _ => true
  | .bypassWEnergise _ => true
  | .bypassEDeenergise _ => true
  | .rxFrame port _ _ _ => portOk port
  | .pauseRx port quanta _ => portOk port && decide (quanta < 0x10000)
  | .pauseHoldEnd port _ => portOk port
  | .pauseHoldLimit port _ => portOk port
  | .linkDown port _ => portOk port
  | .linkUp port speed _ _ => portOk port && decide (speed < 0x4)
  | .i2cGo _ bus addr rdLen wrLen => decide (bus < 0x4) && decide (addr < 0x80) && decide (rdLen < 0x21) && decide (wrLen < 0x21)
  | .busClear _ bus => decide (bus < 0x4)
  | .i2cDone bus _ _ => decide (bus < 0x4)
  | .i2cTimeout bus _ => decide (bus < 0x4)
  | .allocWrite _ port alloc pFull => portOk port && decide (alloc < 0x10000) && decide (pFull < 0x10000)
  | .budgetWrite _ dom budget riseMax => decide (dom < 0x8) && decide (budget < 0x10000) && decide (riseMax < 0x10000)
  | .parseWalk source _ => decide (source < 0x70)
  | .fragEntryExpire _ _ => true
  | .epochCommit _ _ => true
  | .epochAbort _ _ => true
  | .epochSwitch _ => true
  | .epochRetire _ => true
  | .retireSlow _ => true
  | .epochAbortDone _ => true
  | .tupdWriteEntry _ => true
  | .tupdInvalidateEntry _ => true
  | .pauseGo _ _ => true
  | .pauseDiscard _ => true
  | .pauseApply _ => true
  | .pauseTimeout _ => true
  | .packetDispatch pipe _ _ => decide (pipe < 0x2)
  | .turnstileShed pipe _ => decide (pipe < 0x2)
  | .nop x _ _ => ctxOk x
  | .ldf x _ _ => ctxOk x
  | .stf x _ _ => ctxOk x
  | .ldi x _ _ => ctxOk x
  | .aluAdd x _ _ => ctxOk x
  | .aluSubtract x _ _ => ctxOk x
  | .aluAnd x _ _ => ctxOk x
  | .aluOr x _ _ => ctxOk x
  | .aluXor x _ _ => ctxOk x
  | .aluShiftLeft x _ _ => ctxOk x
  | .aluShiftRight x _ _ => ctxOk x
  | .aluMinimum x _ _ => ctxOk x
  | .aluMaximum x _ _ => ctxOk x
  | .cmp x _ _ => ctxOk x
  | .jmp x _ _ => ctxOk x
  | .call x _ _ => ctxOk x
  | .ret x _ _ => ctxOk x
  | .srch x _ _ => ctxOk x
  | .swait x _ _ => ctxOk x
  | .actFromSlot x _ _ => ctxOk x
  | .actFromImm x _ _ => ctxOk x
  | .ins x _ _ => ctxOk x
  | .del x _ _ => ctxOk x
  | .csum x _ _ => ctxOk x
  | .time x _ _ => ctxOk x
  | .csw x _ _ => ctxOk x
  | .fault x _ _ => ctxOk x
  | .illegalOpcode x _ _ => ctxOk x
  | .endRoutine x _ _ => ctxOk x
  | .budgetStop x _ => ctxOk x
  | .searchResponse _ _ => true
  | .csRead _ pipe => decide (pipe < 0x2)
  | .csWrite _ pipe => decide (pipe < 0x2)
  | .searchLookup _ _ => true
  | .learnedAgeOut vidMac _ => decide (vidMac < 0x10000000000000000)
  | .cascadeExecSlot origin tag _ _ => decide (origin < 0x4) && decide (tag < 0x1000)
  | .cascadeSearchTimeout tag _ => decide (tag < 0x1000)
  | .casReqRx lane w _ => decide (lane < 2) && codeOk w
  | .casResultRx lane w _ => decide (lane < 2) && codeOk w
  | .casMissRx lane w _ => decide (lane < 2) && codeOk w
  | .casHelloTimer _ => true
  | .casHelloRx lane w _ => decide (lane < 2) && codeOk w
  | .casTrainPulse _ => true
  | .casReadyRx lane w _ => decide (lane < 2) && codeOk w
  | .casUpRx lane w _ => decide (lane < 2) && codeOk w
  | .casDownRx lane w _ => decide (lane < 2) && codeOk w
  | .retrain _ _ => true
  | .probeGo _ probe seq bank table _ => decide (probe < 0x2) && decide (seq < 0x100) && decide (bank < 0x2) && decide (table < 0xA)
  | .probeComplete probe _ => decide (probe < 0x2)
  | .biAdmission pipe _ => decide (pipe < 0x2)
  | .spillWriteAck spill _ => decide (spill < 0x18)
  | .spillReadbackStart spill _ => decide (spill < 0x18)
  | .spillReadbackDone spill _ => decide (spill < 0x18)
  | .carouselSelect port _ => portOk port
  | .shaperRefillTick _ => true
  | .shaperRateWrite _ shaper _ rate _ => decide (shaper < 0x396) && decide (rate < 0x10000000000000000)
  | .shaperBurstWrite _ shaper _ burst => decide (shaper < 0x396) && decide (burst < 0x100000000)
  | .class7ServiceStart port _ => portOk port
  | .guardStart port _ => portOk port
  | .portWindowOpen port _ => portOk port
  | .portWindowClose port _ => portOk port
  | .egressTxStart port _ => portOk port
  | .transmitConfirm port _ => portOk port
  | .selectorSeedWrite _ _ seed => decide (seed < 0x100000000)
  | .sideshowRingWrite ring _ => decide (ring < 0x8)
  | .injectProdAdvance _ ring prod => decide (ring < 0xA) && decide (prod < 0x100000000)
  | .injectDescriptor ring _ => decide (ring < 0xA)
  | .dramRequestServe _ _ => true
  | .dramRefresh rank _ => decide (rank < 0x2)
  | .trainModeWrite _ _ _ => true
  | .initDram _ _ => true
  | .initDone _ => true
  | .mrsGo _ value mr rank _ => decide (value < 0x40000) && decide (mr < 0x7) && decide (rank < 0x2)
  | .trnWrite _ pattern rank burst len _ => decide (pattern < 0x100) && decide (rank < 0x2) && decide (burst < 0x100000000) && decide (len < 0x100000000)
  | .trnReadCmp _ pattern rank burst len _ _ => decide (pattern < 0x100) && decide (rank < 0x2) && decide (burst < 0x100000000) && decide (len < 0x100000000)
  | .trnWrcmp _ pattern rank burst len _ _ => decide (pattern < 0x100) && decide (rank < 0x2) && decide (burst < 0x100000000) && decide (len < 0x100000000)
  | .trnWlvl _ rank seen _ => decide (rank < 0x2) && decide (seen < 0x100000000)
  | .trnCaPar _ rank errors _ => decide (rank < 0x2) && decide (errors < 0x100000000)
  | .trnWriteClr _ _ => true
  | .trainOpDone _ => true
  | .retrainSlice _ _ ns _ => decide (ns < 0x100000000)
  | .timeStep1ms _ => true
  | .timeUpdate1s _ => true
  | .ptpMeasSubmit _ u offset t2lo _ => decide (u < 0x2) && decide (offset < 0x10000000000000000) && decide (t2lo < 0x10000000000000000)
  | .ppsInEdge _ _ => true
  | .ppsOutEdge _ => true
  | .stepGo _ _ => true
  | .stepCancel _ _ => true
  | .ringMarkerCandidate d _ block res _ => decide (d < 0x2) && decide (block < 0x10000000000000000) && decide (res < 0x42)
  | .ringTrainExpire d block _ => decide (d < 0x2) && decide (block < 0x100)
  | .ringMarkerRx d _ res _ => decide (d < 0x2) && decide (res < 0x42)
  | .ringMarkerMissing d _ => decide (d < 0x2)
  | .markerOriginate _ => true
  | .ringBlockLockLoss d _ => decide (d < 0x2)
  | .ringContainerRx d _ _ _ _ => decide (d < 0x2)
  | .ringContainerInsert d _ => decide (d < 0x2)
  | .dedupExpire node cycle window index _ => decide (node < 0x20) && decide (cycle < 0x100000000) && decide (window < 0x100) && decide (index < 0x100)
  | .linkServiceRx d _ _ => decide (d < 0x2)
  | .lsStale d _ => decide (d < 0x2)
  | .forceBypWrite _ d _ => decide (d < 0x2)
  | .bypassHitEnd coil _ => decide (coil < 0x2)
  | .basicCycleStart _ => true
  | .matrixBoundary _ => true
  | .coldstart _ => true
  | .mchgGo _ mode => decide (mode < 0x4)
  | .mchgCancel _ => true
  | .sigPub _ mask => decide (mask < 0x100000000)
  | .signalSnapshot w _ => decide (w < 0x20)
  | .signalMissed w _ => decide (w < 0x20)
  | .triggerDispatch pipe _ => decide (pipe < 0x2)
  | .gxlt x _ _ => ctxOk x
  | .gout x _ _ => ctxOk x
  | .gemit x _ _ => ctxOk x
  | .gpub x _ _ => ctxOk x
  | .faAssert _ => true
  | .faRelease _ => true
  | .emergencyRepeat _ => true
  | .interruptEdge n _ => decide (n < 0x80)
  | .icClaim _ => true
  | .icComplete _ n _ => decide (n < 0x80)
  | .icHeoi _ mask _ => decide (mask < 0x100000000)
  | .msixUnmask _ _ => true
  | .machineTimer _ => true
  | .pcieInboundRequest _ _ _ => true
  | .pcieLinkReset _ _ => true
  | .dmaDescriptorStart ch _ => decide (ch < 0x4)
  | .dmaDescDone ch _ _ => decide (ch < 0x4)
  | .dmaCplTimeout ch _ => decide (ch < 0x4)
  | .h2cSet _ mask _ => decide (mask < 0x100000000)
  | .c2hSet _ mask _ => decide (mask < 0x100000000)
  | .sensorConversion ch value _ => decide (ch < 0xD) && decide (value < 0x10000)
  | .minmaxClr _ mask _ => decide (mask < 0x2000)
  | .wdtService _ size key _ => sizeOk size && decide (key < 0x100)
  | .wdtCfgWrite _ timeout warn grace _ _ => decide (timeout < 0x10000) && decide (warn < 0x10000) && decide (grace < 0x10000)
  | .wdtWarning _ => true
  | .watchdogExpiry pc _ _ => decide (pc < 0x100000000)
  | .eraseGuardRunout _ => true
  | .debugHalt _ => true
  | .debugResume _ => true
  | .inventory _ _ maskLen mask _ => decide (maskLen < 0x41) && decide (mask < 0x10000000000000000)
  | .stayQuiet _ _ => true
  | .select _ _ => true
  | .resetToReady _ _ => true
  | .readSingleBlock _ _ block _ => decide (block < 0x100)
  | .writeSingleBlock _ block _ _ => decide (block < 0x100)
  | .readMultipleBlocks _ _ first countM1 _ => decide (first < 0x100) && decide (countM1 < 0x100)
  | .getSystemInformation _ _ => true
  | .tagUnsupportedCommand _ _ => true
  | .claim _ mfg pages _ => decide (mfg < 0x100) && decide (pages < 0x100000000)
  | .release _ mfg pages mode _ => decide (mfg < 0x100) && decide (pages < 0x100000000) && decide (mode < 0x100)
  | .getSession _ mfg _ => decide (mfg < 0x100)
  | .tagCommitDone _ _ => true
  | .tagFieldPresent _ => true
  | .tagFieldLoss _ => true
  | .tagSessionTimeout _ => true
  | .tagCmdClaim _ page _ _ => decide (page < 0x20)
  | .tagCmdRelease _ page _ _ => decide (page < 0x20)
  | .tagCmdRead _ page _ _ => decide (page < 0x20)
  | .tagCmdCommit _ page _ _ => decide (page < 0x20)
  | .tagPendClear _ mask _ => decide (mask < 0x100000000)
  | .flashProgram _ lenM1 _ => decide (lenM1 < 0x100)
  | .flashErase4k _ lenM1 _ => decide (lenM1 < 0x100)
  | .flashErase64k _ lenM1 _ => decide (lenM1 < 0x100)
  | .flashOpDone _ => true
  | .pfAssert _ => true
  | .pfDeassert _ => true
  | .jnlAppend _ _ => true
  | .jnlCopy _ _ => true
  | .jnlEraseOldest _ _ => true
  | .jnlProgramDone _ _ => true
  | .jnlRetryTick _ => true
  | .rollbackAdv _ _ => true
  | .sealGo _ key _ => decide (key < 0x100)
  | .clearAll _ isl => decide (isl < 0x10)
  | .snapGo _ _ _ => true
  | .snapshotCapture isl _ => decide (isl < 0x10)
  | .psEnable _ pipe data => decide (pipe < 0x2) && decide (data < 0x10000000000000000)
  | .vddCoreMonitorRelease _ => true
  | .ringBlockLockAcquired d _ => decide (d < 0x2)
  | .pcieLinkUp speed width _ => decide (speed < 0x4) && decide (width < 0x8)
  | .tapInstructionLoad _ _ => true
  | .dmiAccess _ addr data _ => decide (addr < 0x80) && decide (data < 0x100000000)
  | .coreSramAccess _ _ addr size data _ _ => decide (addr < 0x100000000) && sizeOk size && decide (data < 0x10000000000000000)
  | .sealRecordTimeout _ => true
  | .tagReadDone _ => true
  | .tagPendWriteDone _ => true

end Sys2Proof
end

