-- ==== Sys2Proof/Config.lean ====
section
/-!
DEFINITION. What an implementation fixes and the spec leaves open. Every constant here is opaque: nothing in Lean can
evaluate it, so a statement about the model holds whatever its value is (notes/assumptions/3.md).
-/
namespace Sys2Proof.Config

/-- The `n`-th free value: what the device delivers where the spec states no value. The step reads and advances the
counter `State.free` to take a new one. -/
opaque freeValue : Nat → Nat

/-- The fixed depth of a handshake channel, by its key (02_islands_and_handshakes.md gives no number). -/
opaque channelDepth : Nat → Nat

/-- A byte of DRAM after a full INIT (R352), by the INIT and the offset; a byte of SRAM after a device reset (R471), by the
reset and the offset. -/
opaque dramByte : Nat → Nat → Nat
opaque sramByte : Nat → Nat → Nat

/-- Instructions the core has retired by a clock reading: no command says when it retires one (R466). -/
opaque retired : Nat → Nat

/-- Keldom's JEP106 identity in IDCODE (R574), which the spec does not give. -/
opaque jepId : Nat

end Sys2Proof.Config
end

