-- ==== Sys2Proof/Machine/RegMap.lean ====
section
/-!
DEFINITION. The register map: one named `Field` per register field of the spec's register tables (00_scope.md to
20_electrical.md), with the island, the offset in that island's window (R6), the lowest bit, the width and the reset
value that its table gives. Arrays of registers are functions of their indices. A reset the tables leave to the fuses,
the image or the board is what notes/assumptions/2.md names, 0 where it names none.
-/
namespace Sys2Proof.Machine

/-- One register field: island index, register offset in the island's 1 MiB window, lowest bit, width, reset value. -/
structure Field where
  isl : Nat
  off : Nat
  lo : Nat
  width : Nat
  reset : Nat
deriving DecidableEq, Repr

/-- The place of a field in the whole register space: no two fields of the map share it. -/
def Field.key (f : Field) : Nat := (f.isl * 0x100000 + f.off) * 64 + f.lo

/-- The page hints at reset (11_dram.md, DI.REQ_CFG): requesters 0 to 5. -/
def diHintReset (r : Nat) : Nat := if r = 0 then 1 else if r = 3 then 2 else 0


def MI.CHIP_ID.VENDOR : Field := ⟨0, 0x0, 48, 16, 0x4B53⟩
def MI.CHIP_ID.PART : Field := ⟨0, 0x0, 32, 16, 0xF96⟩
def MI.CHIP_ID.STEP_LETTER : Field := ⟨0, 0x0, 28, 4, 2⟩
def MI.CHIP_ID.STEP_NUMBER : Field := ⟨0, 0x0, 24, 4, 0⟩
def MI.CHIP_ID.VARIANT : Field := ⟨0, 0x0, 16, 8, 1⟩

def MI.ACC_STAT.LAST_ADDR : Field := ⟨0, 0x8, 20, 20, 0⟩
def MI.ACC_STAT.LAST_ISLAND : Field := ⟨0, 0x8, 16, 4, 0⟩
def MI.ACC_STAT.LAST_SRC : Field := ⟨0, 0x8, 7, 1, 0⟩
def MI.ACC_STAT.NARROW_POP : Field := ⟨0, 0x8, 1, 1, 0⟩
def MI.ACC_STAT.UNMAPPED : Field := ⟨0, 0x8, 0, 1, 0⟩

def MI.ACC_CLR.NARROW_POP : Field := ⟨0, 0x10, 1, 1, 0⟩
def MI.ACC_CLR.UNMAPPED : Field := ⟨0, 0x10, 0, 1, 0⟩

def MI.MODE_STAT.CAUSE : Field := ⟨0, 0x20, 8, 8, 0⟩
def MI.MODE_STAT.PREV_MODE : Field := ⟨0, 0x20, 4, 2, 0⟩
def MI.MODE_STAT.IN_TRANSIT : Field := ⟨0, 0x20, 2, 1, 0⟩
def MI.MODE_STAT.MODE : Field := ⟨0, 0x20, 0, 2, 0⟩

def MI.DRAM_WIN.OOR : Field := ⟨0, 0x40, 8, 1, 0⟩
def MI.DRAM_WIN.PAGE : Field := ⟨0, 0x40, 0, 4, 1⟩

def MI.BAR4_WIN.OOR : Field := ⟨0, 0x48, 8, 1, 0⟩
def MI.BAR4_WIN.BASE : Field := ⟨0, 0x48, 0, 6, 0⟩

def MI.ISL_STAT.STATE : Field := ⟨0, 0x28, 0, 32, 0xAAAAAAA5⟩

def MI.PMON_CFG.EN (i : Nat) : Field := ⟨0, 0x100 + 0x8 * i, 16, 1, 0⟩
def MI.PMON_CFG.ACTION (i : Nat) : Field := ⟨0, 0x100 + 0x8 * i, 12, 1, 1⟩
def MI.PMON_CFG.TIMEOUT (i : Nat) : Field := ⟨0, 0x100 + 0x8 * i, 0, 10, 0x14⟩

def MI.PMON_STAT.TRIP_CNT (i : Nat) : Field := ⟨0, 0x180 + 0x8 * i, 48, 16, 0⟩
def MI.PMON_STAT.TRIP_OVF (i : Nat) : Field := ⟨0, 0x180 + 0x8 * i, 47, 1, 0⟩
def MI.PMON_STAT.TRIPPED (i : Nat) : Field := ⟨0, 0x180 + 0x8 * i, 46, 1, 0⟩
def MI.PMON_STAT.LAST_CAUSE (i : Nat) : Field := ⟨0, 0x180 + 0x8 * i, 44, 2, 0⟩
def MI.PMON_STAT.LAST_OUTAGE (i : Nat) : Field := ⟨0, 0x180 + 0x8 * i, 0, 32, 0⟩

def MI.REPLAY_STAT.ING_REPLAYED_OVF (i : Nat) : Field := ⟨0, 0x200 + 0x8 * i, 63, 1, 0⟩
def MI.REPLAY_STAT.ING_REPLAYED (i : Nat) : Field := ⟨0, 0x200 + 0x8 * i, 48, 15, 0⟩
def MI.REPLAY_STAT.ING_SUPPRESSED_OVF (i : Nat) : Field := ⟨0, 0x200 + 0x8 * i, 47, 1, 0⟩
def MI.REPLAY_STAT.ING_SUPPRESSED (i : Nat) : Field := ⟨0, 0x200 + 0x8 * i, 32, 15, 0⟩
def MI.REPLAY_STAT.EGR_REISSUED_OVF (i : Nat) : Field := ⟨0, 0x200 + 0x8 * i, 31, 1, 0⟩
def MI.REPLAY_STAT.EGR_REISSUED (i : Nat) : Field := ⟨0, 0x200 + 0x8 * i, 16, 15, 0⟩
def MI.REPLAY_STAT.DUP_SENT_OVF (i : Nat) : Field := ⟨0, 0x200 + 0x8 * i, 15, 1, 0⟩
def MI.REPLAY_STAT.DUP_SENT (i : Nat) : Field := ⟨0, 0x200 + 0x8 * i, 0, 15, 0⟩

def MI.ISL_CMD.OFF : Field := ⟨0, 0x280, 18, 14, 0⟩
def MI.ISL_CMD.RESET : Field := ⟨0, 0x280, 2, 14, 0⟩

def MI.PLL_STAT.UNLOCK : Field := ⟨0, 0x288, 16, 16, 0⟩
def MI.PLL_STAT.LOCK : Field := ⟨0, 0x288, 0, 16, 2⟩

def MI.BI_LOST.OVF : Field := ⟨0, 0x290, 63, 1, 0⟩
def MI.BI_LOST.COUNT : Field := ⟨0, 0x290, 0, 48, 0⟩

def MI.IMG_SRC.LEN : Field := ⟨0, 0x400, 32, 25, 0⟩
def MI.IMG_SRC.ADDR : Field := ⟨0, 0x400, 0, 32, 0⟩

def MI.IMG_CMD.ABORT : Field := ⟨0, 0x408, 4, 1, 0⟩
def MI.IMG_CMD.COMMIT : Field := ⟨0, 0x408, 3, 1, 0⟩
def MI.IMG_CMD.STAGE : Field := ⟨0, 0x408, 2, 1, 0⟩
def MI.IMG_CMD.LOAD : Field := ⟨0, 0x408, 1, 1, 0⟩
def MI.IMG_CMD.CHECK : Field := ⟨0, 0x408, 0, 1, 0⟩

def MI.IMG_STAT.DETAIL : Field := ⟨0, 0x410, 48, 8, 0xFF⟩
def MI.IMG_STAT.ERROR : Field := ⟨0, 0x410, 40, 8, 0⟩
def MI.IMG_STAT.CMD_DROPPED : Field := ⟨0, 0x410, 15, 1, 0⟩
def MI.IMG_STAT.WR_REFUSED : Field := ⟨0, 0x410, 14, 1, 0⟩
def MI.IMG_STAT.DRIFT : Field := ⟨0, 0x410, 13, 1, 0⟩
def MI.IMG_STAT.KEY_USED : Field := ⟨0, 0x410, 11, 2, 0⟩
def MI.IMG_STAT.STAGED : Field := ⟨0, 0x410, 10, 1, 0⟩
def MI.IMG_STAT.ERR : Field := ⟨0, 0x410, 9, 1, 0⟩
def MI.IMG_STAT.PASS : Field := ⟨0, 0x410, 8, 1, 0⟩
def MI.IMG_STAT.BUSY : Field := ⟨0, 0x410, 3, 1, 0⟩
def MI.IMG_STAT.LAST_CMD : Field := ⟨0, 0x410, 0, 3, 0⟩

def MI.IMG_CONFIG_ID.ID : Field := ⟨0, 0x418, 0, 64, 0⟩

def MI.IMG_FULL_ID.ID : Field := ⟨0, 0x420, 0, 64, 0⟩

def MI.IMG_STAGED_ID.ID : Field := ⟨0, 0x428, 0, 64, 0⟩

def MI.IMG_ROLLBACK.VER : Field := ⟨0, 0x430, 0, 64, 0⟩

def AO.KEYHASH.HASH (s k : Nat) : Field := ⟨1, 0x100 + 0x20 * s + 0x8 * k, 0, 64, 0⟩

def AO.FUSE_STAT.KEY1_PARTIAL : Field := ⟨1, 0x140, 6, 1, 0⟩
def AO.FUSE_STAT.KEY0_PARTIAL : Field := ⟨1, 0x140, 5, 1, 0⟩
def AO.FUSE_STAT.FIELD_SEAL : Field := ⟨1, 0x140, 4, 1, 0⟩
def AO.FUSE_STAT.KEY1_REVOKED : Field := ⟨1, 0x140, 3, 1, 0⟩
def AO.FUSE_STAT.KEY0_REVOKED : Field := ⟨1, 0x140, 2, 1, 0⟩
def AO.FUSE_STAT.KEY1_PROG : Field := ⟨1, 0x140, 1, 1, 0⟩
def AO.FUSE_STAT.KEY0_PROG : Field := ⟨1, 0x140, 0, 1, 0⟩

def AO.ROLLBACK_CNT.COUNT : Field := ⟨1, 0x148, 0, 64, 0⟩

def AO.FUSE_DATA.DATA (k : Nat) : Field := ⟨1, 0x160 + 0x8 * k, 0, 64, 0⟩

def AO.FUSE_PROG.FAIL : Field := ⟨1, 0x180, 17, 1, 0⟩
def AO.FUSE_PROG.BUSY : Field := ⟨1, 0x180, 16, 1, 0⟩
def AO.FUSE_PROG.GO : Field := ⟨1, 0x180, 8, 1, 0⟩
def AO.FUSE_PROG.SLOT : Field := ⟨1, 0x180, 4, 1, 0⟩
def AO.FUSE_PROG.OP : Field := ⟨1, 0x180, 0, 2, 0⟩

def MI.MODE_REQ.GO : Field := ⟨0, 0x30, 8, 1, 0⟩
def MI.MODE_REQ.TARGET : Field := ⟨0, 0x30, 0, 2, 0⟩

def MI.MODE_REQ_STAT.REFUSE : Field := ⟨0, 0x38, 12, 4, 0⟩
def MI.MODE_REQ_STAT.LAST_TARGET : Field := ⟨0, 0x38, 10, 2, 0⟩
def MI.MODE_REQ_STAT.REFUSED : Field := ⟨0, 0x38, 1, 1, 0⟩
def MI.MODE_REQ_STAT.PENDING : Field := ⟨0, 0x38, 0, 1, 0⟩

def MI.MODE_COND.TRIP_ISLAND : Field := ⟨0, 0x50, 20, 4, 0⟩
def MI.MODE_COND.TRIG_TRIPS : Field := ⟨0, 0x50, 10, 1, 0⟩
def MI.MODE_COND.TRIG_TIME : Field := ⟨0, 0x50, 9, 1, 0⟩
def MI.MODE_COND.TRIG_RING : Field := ⟨0, 0x50, 8, 1, 0⟩
def MI.MODE_COND.RING_USED : Field := ⟨0, 0x50, 6, 1, 0⟩
def MI.MODE_COND.TIME_OK : Field := ⟨0, 0x50, 5, 1, 0⟩
def MI.MODE_COND.JOIN_OK : Field := ⟨0, 0x50, 4, 1, 0⟩
def MI.MODE_COND.REPLAY_DONE : Field := ⟨0, 0x50, 3, 1, 0⟩
def MI.MODE_COND.ISLANDS_OK : Field := ⟨0, 0x50, 2, 1, 0⟩
def MI.MODE_COND.DRAM_READY : Field := ⟨0, 0x50, 1, 1, 0⟩
def MI.MODE_COND.IMAGE_OK : Field := ⟨0, 0x50, 0, 1, 0⟩

def MI.SN_CFG.FATAL_LIMIT : Field := ⟨0, 0x68, 32, 4, 8⟩
def MI.SN_CFG.TRIP_WINDOW : Field := ⟨0, 0x68, 24, 8, 0xA⟩
def MI.SN_CFG.TRIP_LIMIT : Field := ⟨0, 0x68, 20, 4, 3⟩
def MI.SN_CFG.TRIPS_EN : Field := ⟨0, 0x68, 14, 1, 1⟩
def MI.SN_CFG.TIME_EN : Field := ⟨0, 0x68, 13, 1, 1⟩
def MI.SN_CFG.RING_EN : Field := ⟨0, 0x68, 12, 1, 1⟩
def MI.SN_CFG.RING_GRACE : Field := ⟨0, 0x68, 0, 10, 0x64⟩

def MI.SN_SCENE.SENT_CNT : Field := ⟨0, 0x70, 48, 16, 0⟩
def MI.SN_SCENE.EN : Field := ⟨0, 0x70, 32, 1, 0⟩
def MI.SN_SCENE.GROUP : Field := ⟨0, 0x70, 16, 16, 0⟩
def MI.SN_SCENE.SCENE : Field := ⟨0, 0x70, 0, 8, 0⟩

def MI.BOOT_STAT.TAG_IMPORTED : Field := ⟨0, 0x60, 32, 1, 0⟩
def MI.BOOT_STAT.SLOT_B_ERR : Field := ⟨0, 0x60, 24, 8, 0⟩
def MI.BOOT_STAT.SLOT_A_ERR : Field := ⟨0, 0x60, 16, 8, 0⟩
def MI.BOOT_STAT.SLOT_B_FAIL : Field := ⟨0, 0x60, 9, 1, 0⟩
def MI.BOOT_STAT.SLOT_A_FAIL : Field := ⟨0, 0x60, 8, 1, 0⟩
def MI.BOOT_STAT.SLOT_LOADED : Field := ⟨0, 0x60, 4, 2, 3⟩
def MI.BOOT_STAT.PHASE : Field := ⟨0, 0x60, 0, 4, 0⟩

def MI.RST_CMD.KEY : Field := ⟨0, 0x58, 8, 8, 0⟩
def MI.RST_CMD.HOST_RESET : Field := ⟨0, 0x58, 1, 1, 0⟩
def MI.RST_CMD.FW_RESET : Field := ⟨0, 0x58, 0, 1, 0⟩

def AO.RST_CAUSE.RST_CNT : Field := ⟨1, 0x20, 48, 16, 0⟩
def AO.RST_CAUSE.SEEN : Field := ⟨1, 0x20, 8, 8, 0⟩
def AO.RST_CAUSE.LAST : Field := ⟨1, 0x20, 0, 4, 1⟩

def PI.PORT_CTL.LINK_FLUSH (a k : Nat) : Field := ⟨10 + a, 0x1000 + 0x8 * k, 2, 1, 1⟩
def PI.PORT_CTL.PAUSE_HONOUR (a k : Nat) : Field := ⟨10 + a, 0x1000 + 0x8 * k, 1, 1, 0⟩
def PI.PORT_CTL.EN (a k : Nat) : Field := ⟨10 + a, 0x1000 + 0x8 * k, 0, 1, 0⟩

def PI.PORT_STAT.LINK_DOWN_CNT (a k : Nat) : Field := ⟨10 + a, 0x1080 + 0x8 * k, 48, 16, 0⟩
def PI.PORT_STAT.HELD (a k : Nat) : Field := ⟨10 + a, 0x1080 + 0x8 * k, 7, 1, 0⟩
def PI.PORT_STAT.HDX_REFUSED (a k : Nat) : Field := ⟨10 + a, 0x1080 + 0x8 * k, 6, 1, 0⟩
def PI.PORT_STAT.LINK_CHG (a k : Nat) : Field := ⟨10 + a, 0x1080 + 0x8 * k, 5, 1, 0⟩
def PI.PORT_STAT.DONE (a k : Nat) : Field := ⟨10 + a, 0x1080 + 0x8 * k, 4, 1, 0⟩
def PI.PORT_STAT.SPEED (a k : Nat) : Field := ⟨10 + a, 0x1080 + 0x8 * k, 1, 2, 0⟩
def PI.PORT_STAT.LINK (a k : Nat) : Field := ⟨10 + a, 0x1080 + 0x8 * k, 0, 1, 0⟩

def PI.PORT_CNT.COUNT (a k c : Nat) : Field := ⟨10 + a, 0x2000 + 0x80 * k + 0x8 * c, 0, 64, 0⟩

def PI.PORT_CNT_OVF.OVF (a k : Nat) : Field := ⟨10 + a, 0x2800 + 0x8 * k, 0, 16, 0⟩

def UI.PORT_CTL.LINK_FLUSH (u : Nat) : Field := ⟨4, 0x1000 + 0x8 * u, 2, 1, 1⟩
def UI.PORT_CTL.PAUSE_HONOUR (u : Nat) : Field := ⟨4, 0x1000 + 0x8 * u, 1, 1, 0⟩
def UI.PORT_CTL.EN (u : Nat) : Field := ⟨4, 0x1000 + 0x8 * u, 0, 1, 0⟩

def UI.PORT_STAT.LINK_DOWN_CNT (u : Nat) : Field := ⟨4, 0x1080 + 0x8 * u, 48, 16, 0⟩
def UI.PORT_STAT.HELD (u : Nat) : Field := ⟨4, 0x1080 + 0x8 * u, 7, 1, 0⟩
def UI.PORT_STAT.LINK_CHG (u : Nat) : Field := ⟨4, 0x1080 + 0x8 * u, 5, 1, 0⟩
def UI.PORT_STAT.DONE (u : Nat) : Field := ⟨4, 0x1080 + 0x8 * u, 4, 1, 0⟩
def UI.PORT_STAT.FAULT (u : Nat) : Field := ⟨4, 0x1080 + 0x8 * u, 3, 1, 0⟩
def UI.PORT_STAT.SPEED (u : Nat) : Field := ⟨4, 0x1080 + 0x8 * u, 1, 2, 0⟩
def UI.PORT_STAT.LINK (u : Nat) : Field := ⟨4, 0x1080 + 0x8 * u, 0, 1, 0⟩

def UI.PORT_CNT.COUNT (u c : Nat) : Field := ⟨4, 0x2000 + 0x80 * u + 0x8 * c, 0, 64, 0⟩

def UI.PORT_CNT_OVF.OVF (u : Nat) : Field := ⟨4, 0x2800 + 0x8 * u, 0, 16, 0⟩

def UI.SFP_IO.TX_DISABLE (u : Nat) : Field := ⟨4, 0x1100 + 0x8 * u, 4, 1, 1⟩
def UI.SFP_IO.MOD_ABS (u : Nat) : Field := ⟨4, 0x1100 + 0x8 * u, 2, 1, 1⟩
def UI.SFP_IO.RX_LOS (u : Nat) : Field := ⟨4, 0x1100 + 0x8 * u, 1, 1, 1⟩
def UI.SFP_IO.TX_FAULT (u : Nat) : Field := ⟨4, 0x1100 + 0x8 * u, 0, 1, 0⟩

def MI.I2C_CFG.EN (b : Nat) : Field := ⟨0, 0x800 + 0x8 * b, 16, 1, 0⟩
def MI.I2C_CFG.MODE (b : Nat) : Field := ⟨0, 0x800 + 0x8 * b, 8, 2, 0⟩
def MI.I2C_CFG.TIMEOUT (b : Nat) : Field := ⟨0, 0x800 + 0x8 * b, 0, 8, 0x19⟩

def MI.I2C_XFER.GO (b : Nat) : Field := ⟨0, 0x820 + 0x8 * b, 31, 1, 0⟩
def MI.I2C_XFER.BUS_CLEAR (b : Nat) : Field := ⟨0, 0x820 + 0x8 * b, 30, 1, 0⟩
def MI.I2C_XFER.ADDR (b : Nat) : Field := ⟨0, 0x820 + 0x8 * b, 16, 7, 0⟩
def MI.I2C_XFER.RD_LEN (b : Nat) : Field := ⟨0, 0x820 + 0x8 * b, 8, 6, 0⟩
def MI.I2C_XFER.WR_LEN (b : Nat) : Field := ⟨0, 0x820 + 0x8 * b, 0, 6, 0⟩

def MI.I2C_STAT.NACK_AT (b : Nat) : Field := ⟨0, 0x840 + 0x8 * b, 8, 6, 0⟩
def MI.I2C_STAT.TIMEOUT (b : Nat) : Field := ⟨0, 0x840 + 0x8 * b, 4, 1, 0⟩
def MI.I2C_STAT.ARB_LOST (b : Nat) : Field := ⟨0, 0x840 + 0x8 * b, 3, 1, 0⟩
def MI.I2C_STAT.NACK (b : Nat) : Field := ⟨0, 0x840 + 0x8 * b, 2, 1, 0⟩
def MI.I2C_STAT.DONE (b : Nat) : Field := ⟨0, 0x840 + 0x8 * b, 1, 1, 0⟩
def MI.I2C_STAT.BUSY (b : Nat) : Field := ⟨0, 0x840 + 0x8 * b, 0, 1, 0⟩

def MI.I2C_BUF.DATA (b w : Nat) : Field := ⟨0, 0x900 + 0x20 * b + 0x8 * w, 0, 64, 0⟩

def BI.PWR_CFG.STEP : Field := ⟨8, 0xF000, 32, 16, 0x1388⟩
def BI.PWR_CFG.HORIZON : Field := ⟨8, 0xF000, 8, 8, 0x40⟩
def BI.PWR_CFG.EN : Field := ⟨8, 0xF000, 0, 1, 1⟩

def BI.PWR_DOM.SUM_ALLOC (d : Nat) : Field := ⟨8, 0xF008 + 0x8 * d, 32, 16, 0⟩
def BI.PWR_DOM.RISE_MAX (d : Nat) : Field := ⟨8, 0xF008 + 0x8 * d, 16, 16, 0⟩
def BI.PWR_DOM.BUDGET (d : Nat) : Field := ⟨8, 0xF008 + 0x8 * d, 0, 16, 0⟩

def BI.PWR_STAT.DEFERRED : Field := ⟨8, 0xF050, 48, 16, 0⟩
def BI.PWR_STAT.OVER_RISE : Field := ⟨8, 0xF050, 32, 16, 0⟩
def BI.PWR_STAT.CNT_OVF : Field := ⟨8, 0xF050, 2, 1, 0⟩
def BI.PWR_STAT.OVER_RISE_SEEN : Field := ⟨8, 0xF050, 1, 1, 0⟩
def BI.PWR_STAT.ALLOC_REFUSED : Field := ⟨8, 0xF050, 0, 1, 0⟩

def BI.PWR_PORT.DOMAIN (k : Nat) : Field := ⟨8, 0xF100 + 0x8 * k, 48, 4, 0xF⟩
def BI.PWR_PORT.L_CUR (k : Nat) : Field := ⟨8, 0xF100 + 0x8 * k, 32, 16, 0⟩
def BI.PWR_PORT.P_FULL (k : Nat) : Field := ⟨8, 0xF100 + 0x8 * k, 16, 16, 0⟩
def BI.PWR_PORT.ALLOC (k : Nat) : Field := ⟨8, 0xF100 + 0x8 * k, 0, 16, 0⟩

def P.PARSE_FRAG_MODE.SLOW (p : Nat) : Field := ⟨5 + p, 0x200, 0, 51, 0⟩

def P.PARSE_STAT.DEPTH_OVF (p : Nat) : Field := ⟨5 + p, 0x208, 63, 1, 0⟩
def P.PARSE_STAT.DEPTH (p : Nat) : Field := ⟨5 + p, 0x208, 32, 31, 0⟩
def P.PARSE_STAT.SHORT_OVF (p : Nat) : Field := ⟨5 + p, 0x208, 31, 1, 0⟩
def P.PARSE_STAT.SHORT (p : Nat) : Field := ⟨5 + p, 0x208, 1, 30, 0⟩
def P.PARSE_STAT.BAD_FRAG (p : Nat) : Field := ⟨5 + p, 0x208, 0, 1, 0⟩

def SI.FRAG_CFG.FLUSH_ON_COMMIT : Field := ⟨7, 0x300, 17, 1, 0⟩
def SI.FRAG_CFG.EN : Field := ⟨7, 0x300, 16, 1, 1⟩
def SI.FRAG_CFG.AGE_MS : Field := ⟨7, 0x300, 0, 16, 0xFA⟩

def SI.FRAG_STAT.TABLE_FULL : Field := ⟨7, 0x308, 48, 16, 0⟩
def SI.FRAG_STAT.EXPIRED : Field := ⟨7, 0x308, 32, 16, 0⟩
def SI.FRAG_STAT.NO_FIRST : Field := ⟨7, 0x308, 16, 16, 0⟩
def SI.FRAG_STAT.CNT_OVF : Field := ⟨7, 0x308, 12, 1, 0⟩
def SI.FRAG_STAT.OCCUPANCY : Field := ⟨7, 0x308, 0, 11, 0⟩

def MI.EPOCH_CFG.RETIRE_WARN : Field := ⟨0, 0x500, 32, 10, 0xA⟩
def MI.EPOCH_CFG.ALIGN : Field := ⟨0, 0x500, 0, 2, 0⟩

def MI.EPOCH_AT.TIME : Field := ⟨0, 0x508, 0, 64, 0⟩

def MI.EPOCH_CMD.ABORT : Field := ⟨0, 0x510, 1, 1, 0⟩
def MI.EPOCH_CMD.COMMIT : Field := ⟨0, 0x510, 0, 1, 0⟩

def MI.EPOCH_STAT.ERROR : Field := ⟨0, 0x518, 40, 8, 0⟩
def MI.EPOCH_STAT.RETIRE_SLOW : Field := ⟨0, 0x518, 39, 1, 0⟩
def MI.EPOCH_STAT.ABORT_DONE : Field := ⟨0, 0x518, 38, 1, 0⟩
def MI.EPOCH_STAT.RETIRED : Field := ⟨0, 0x518, 37, 1, 0⟩
def MI.EPOCH_STAT.SLIPPED : Field := ⟨0, 0x518, 36, 1, 0⟩
def MI.EPOCH_STAT.SWITCH_WAIT : Field := ⟨0, 0x518, 35, 1, 0⟩
def MI.EPOCH_STAT.PENDING : Field := ⟨0, 0x518, 34, 1, 0⟩
def MI.EPOCH_STAT.STAGED_DIRTY : Field := ⟨0, 0x518, 33, 1, 0⟩
def MI.EPOCH_STAT.RETIRING_VALID : Field := ⟨0, 0x518, 32, 1, 0⟩
def MI.EPOCH_STAT.COMMIT_CNT : Field := ⟨0, 0x518, 16, 16, 0⟩
def MI.EPOCH_STAT.STAGED : Field := ⟨0, 0x518, 8, 4, 1⟩
def MI.EPOCH_STAT.RETIRING : Field := ⟨0, 0x518, 4, 4, 0⟩
def MI.EPOCH_STAT.CURRENT : Field := ⟨0, 0x518, 0, 4, 0⟩

def MI.EPOCH_INFL.TRIAL : Field := ⟨0, 0x520, 48, 16, 0⟩
def MI.EPOCH_INFL.RETIRING : Field := ⟨0, 0x520, 24, 24, 0⟩
def MI.EPOCH_INFL.CURRENT : Field := ⟨0, 0x520, 0, 24, 0⟩

def MI.TBL_MODE.PAUSE : Field := ⟨0, 0x528, 0, 10, 0⟩

def MI.TUPD_ADDR.OP : Field := ⟨0, 0x540, 32, 2, 0⟩
def MI.TUPD_ADDR.TABLE : Field := ⟨0, 0x540, 16, 6, 0⟩
def MI.TUPD_ADDR.INDEX : Field := ⟨0, 0x540, 0, 16, 0⟩

def MI.TUPD_DATA.DATA (w : Nat) : Field := ⟨0, 0x548 + 0x8 * w, 0, 64, 0⟩

def MI.TUPD_PORTS.PORTS (h : Nat) : Field := ⟨0, 0x588 + 0x8 * h, 0, 64, 0⟩

def MI.TUPD_CMD.PAUSE_DISCARD : Field := ⟨0, 0x598, 2, 1, 0⟩
def MI.TUPD_CMD.PAUSE_GO : Field := ⟨0, 0x598, 1, 1, 0⟩
def MI.TUPD_CMD.GO : Field := ⟨0, 0x598, 0, 1, 0⟩

def MI.TUPD_STAT.PAUSE_LAST_NS : Field := ⟨0, 0x5A0, 48, 16, 0⟩
def MI.TUPD_STAT.BATCH_LEN : Field := ⟨0, 0x5A0, 40, 8, 0⟩
def MI.TUPD_STAT.ERROR : Field := ⟨0, 0x5A0, 32, 8, 0⟩
def MI.TUPD_STAT.PAUSE_FAIL : Field := ⟨0, 0x5A0, 3, 1, 0⟩
def MI.TUPD_STAT.PAUSE_DONE : Field := ⟨0, 0x5A0, 2, 1, 0⟩
def MI.TUPD_STAT.PAUSE_RUNNING : Field := ⟨0, 0x5A0, 1, 1, 0⟩
def MI.TUPD_STAT.ERR : Field := ⟨0, 0x5A0, 0, 1, 0⟩

def P.JUG_CTL.EN (p j : Nat) : Field := ⟨5 + p, 0x400 + 0x8 * j, 0, 1, 1⟩

def P.JUG_STAT.GATEWAY (p j : Nat) : Field := ⟨5 + p, 0x480 + 0x8 * j, 5, 1, 0⟩
def P.JUG_STAT.DONE (p j : Nat) : Field := ⟨5 + p, 0x480 + 0x8 * j, 4, 1, 0⟩
def P.JUG_STAT.BUSY (p j : Nat) : Field := ⟨5 + p, 0x480 + 0x8 * j, 0, 4, 0⟩

def P.JUG_RATE.PKTS (p : Nat) : Field := ⟨5 + p, 0x500, 16, 32, 0⟩
def P.JUG_RATE.AVG_X16 (p : Nat) : Field := ⟨5 + p, 0x500, 0, 16, 0⟩

def P.JUG_BUDGET_CNT.OVF (p : Nat) : Field := ⟨5 + p, 0x508, 63, 1, 0⟩
def P.JUG_BUDGET_CNT.COUNT (p : Nat) : Field := ⟨5 + p, 0x508, 0, 63, 0⟩

def P.JUG_FAULT_CNT.OVF (p : Nat) : Field := ⟨5 + p, 0x510, 63, 1, 0⟩
def P.JUG_FAULT_CNT.COUNT (p : Nat) : Field := ⟨5 + p, 0x510, 0, 63, 0⟩

def P.JUG_FAULT_LOST.OVF (p : Nat) : Field := ⟨5 + p, 0x518, 63, 1, 0⟩
def P.JUG_FAULT_LOST.COUNT (p : Nat) : Field := ⟨5 + p, 0x518, 0, 63, 0⟩

def P.JUG_LOST_CNT.OVF (p : Nat) : Field := ⟨5 + p, 0x520, 63, 1, 0⟩
def P.JUG_LOST_CNT.COUNT (p : Nat) : Field := ⟨5 + p, 0x520, 0, 63, 0⟩

def P.JUG_CNT_STAT.EN_REFUSED (p : Nat) : Field := ⟨5 + p, 0x528, 0, 1, 0⟩

def P.CS_ADDR.BANK (p : Nat) : Field := ⟨5 + p, 0x600, 16, 1, 0⟩
def P.CS_ADDR.ADDR (p : Nat) : Field := ⟨5 + p, 0x600, 0, 13, 0⟩

def P.CS_DATA.DATA (p k : Nat) : Field := ⟨5 + p, 0x608 + 0x8 * k, 0, 64, 0⟩

def P.CS_CMD.READ (p : Nat) : Field := ⟨5 + p, 0x618, 1, 1, 0⟩
def P.CS_CMD.WRITE (p : Nat) : Field := ⟨5 + p, 0x618, 0, 1, 0⟩

def P.CS_STAT.REFUSED (p : Nat) : Field := ⟨5 + p, 0x620, 48, 16, 0⟩
def P.CS_STAT.ECC_CORR (p : Nat) : Field := ⟨5 + p, 0x620, 32, 16, 0⟩
def P.CS_STAT.ERROR (p : Nat) : Field := ⟨5 + p, 0x620, 24, 8, 0⟩
def P.CS_STAT.CSW_ERROR (p : Nat) : Field := ⟨5 + p, 0x620, 20, 4, 0⟩
def P.CS_STAT.CNT_OVF (p : Nat) : Field := ⟨5 + p, 0x620, 2, 1, 0⟩
def P.CS_STAT.ECC_UNCORR (p : Nat) : Field := ⟨5 + p, 0x620, 1, 1, 0⟩
def P.CS_STAT.DONE (p : Nat) : Field := ⟨5 + p, 0x620, 0, 1, 0⟩

def SI.SLICE_CFG.DEPTH (n : Nat) : Field := ⟨7, 0x0 + 0x8 * n, 48, 16, 0⟩
def SI.SLICE_CFG.RANGE_HI (n : Nat) : Field := ⟨7, 0x0 + 0x8 * n, 32, 16, 0⟩
def SI.SLICE_CFG.RANGE_LO (n : Nat) : Field := ⟨7, 0x0 + 0x8 * n, 16, 16, 0⟩
def SI.SLICE_CFG.LOST (n : Nat) : Field := ⟨7, 0x0 + 0x8 * n, 7, 1, 0⟩
def SI.SLICE_CFG.MODE (n : Nat) : Field := ⟨7, 0x0 + 0x8 * n, 6, 1, 0⟩
def SI.SLICE_CFG.TYPE (n : Nat) : Field := ⟨7, 0x0 + 0x8 * n, 5, 1, 0⟩
def SI.SLICE_CFG.WIDTH (n : Nat) : Field := ⟨7, 0x0 + 0x8 * n, 0, 2, 0⟩

def SI.CAS_CFG.COUNT : Field := ⟨7, 0x40, 4, 3, 1⟩
def SI.CAS_CFG.POSITION : Field := ⟨7, 0x40, 0, 2, 0⟩

def SI.CAS_STAT.DOWN_CNT : Field := ⟨7, 0x48, 48, 16, 0⟩
def SI.CAS_STAT.SEEN_LAST : Field := ⟨7, 0x48, 16, 4, 0⟩
def SI.CAS_STAT.STATE_CHG : Field := ⟨7, 0x48, 2, 1, 0⟩
def SI.CAS_STAT.STATE : Field := ⟨7, 0x48, 0, 2, 0⟩

def SI.CAS_CNT.INCOMPLETE : Field := ⟨7, 0x50, 48, 16, 0⟩
def SI.CAS_CNT.CRC_ERR : Field := ⟨7, 0x50, 32, 16, 0⟩
def SI.CAS_CNT.LATE : Field := ⟨7, 0x50, 16, 16, 0⟩
def SI.CAS_CNT.OVF : Field := ⟨7, 0x50, 0, 1, 0⟩

def SI.CAS_CMD.RETRAIN : Field := ⟨7, 0x58, 0, 1, 0⟩

def SI.HASH_CFG.AGE_S : Field := ⟨7, 0x100, 16, 16, 0x12C⟩
def SI.HASH_CFG.OVF_EN : Field := ⟨7, 0x100, 1, 1, 0⟩
def SI.HASH_CFG.LEARN_EN : Field := ⟨7, 0x100, 0, 1, 0⟩

def SI.HASH_STAT.LEARN_FULL : Field := ⟨7, 0x108, 48, 16, 0⟩
def SI.HASH_STAT.MOVES : Field := ⟨7, 0x108, 32, 16, 0⟩
def SI.HASH_STAT.AGED : Field := ⟨7, 0x108, 16, 16, 0⟩
def SI.HASH_STAT.OVF : Field := ⟨7, 0x108, 0, 1, 0⟩

def SI.HASH_OCC.FLOW_OVF_USED : Field := ⟨7, 0x110, 48, 14, 0⟩
def SI.HASH_OCC.BR_OVF_USED : Field := ⟨7, 0x110, 33, 15, 0⟩
def SI.HASH_OCC.FLOW_USED : Field := ⟨7, 0x110, 17, 16, 0⟩
def SI.HASH_OCC.BR_USED : Field := ⟨7, 0x110, 0, 17, 0⟩

def SI.TBL_REJECT.REASON : Field := ⟨7, 0x118, 56, 8, 0⟩
def SI.TBL_REJECT.TABLE : Field := ⟨7, 0x118, 48, 6, 0⟩
def SI.TBL_REJECT.INDEX : Field := ⟨7, 0x118, 0, 16, 0⟩

def SI.PROBE_KEY.KEY (p w : Nat) : Field := ⟨7, 0x400 + 0x80 * p + 0x8 * w, 0, 64, 0⟩

def SI.PROBE_CMD.SEQ (p : Nat) : Field := ⟨7, 0x428 + 0x80 * p, 48, 16, 0⟩
def SI.PROBE_CMD.GO (p : Nat) : Field := ⟨7, 0x428 + 0x80 * p, 32, 1, 0⟩
def SI.PROBE_CMD.BANK (p : Nat) : Field := ⟨7, 0x428 + 0x80 * p, 16, 1, 0⟩
def SI.PROBE_CMD.TABLE (p : Nat) : Field := ⟨7, 0x428 + 0x80 * p, 0, 4, 0⟩

def SI.PROBE_RES0.VALID (p : Nat) : Field := ⟨7, 0x430 + 0x80 * p, 63, 1, 0⟩
def SI.PROBE_RES0.SEQ (p : Nat) : Field := ⟨7, 0x430 + 0x80 * p, 32, 16, 0⟩
def SI.PROBE_RES0.STATUS (p : Nat) : Field := ⟨7, 0x430 + 0x80 * p, 24, 8, 0⟩
def SI.PROBE_RES0.LOC (p : Nat) : Field := ⟨7, 0x430 + 0x80 * p, 16, 1, 0⟩
def SI.PROBE_RES0.INDEX (p : Nat) : Field := ⟨7, 0x430 + 0x80 * p, 0, 16, 0⟩

def SI.PROBE_RES1.ACTION (p : Nat) : Field := ⟨7, 0x438 + 0x80 * p, 0, 64, 0⟩

def P.TS_CFG.RES_EN (p : Nat) : Field := ⟨5 + p, 0x680, 16, 1, 1⟩
def P.TS_CFG.SHED_WAIT (p : Nat) : Field := ⟨5 + p, 0x680, 0, 16, 0xFA0⟩

def P.TS_STAT.OLDEST_NS (p : Nat) : Field := ⟨5 + p, 0x688, 32, 16, 0⟩
def P.TS_STAT.SHED_SEEN (p : Nat) : Field := ⟨5 + p, 0x688, 1, 1, 0⟩
def P.TS_STAT.SHEDDING (p : Nat) : Field := ⟨5 + p, 0x688, 0, 1, 0⟩

def P.TS_DROP.OVF (p c : Nat) : Field := ⟨5 + p, 0x690 + 0x8 * c, 63, 1, 0⟩
def P.TS_DROP.COUNT (p c : Nat) : Field := ⟨5 + p, 0x690 + 0x8 * c, 0, 63, 0⟩

def BI.BUF_STAT.STAGE_USED : Field := ⟨8, 0x0, 48, 13, 0⟩
def BI.BUF_STAT.RESERVE_USED : Field := ⟨8, 0x0, 32, 10, 0⟩
def BI.BUF_STAT.FREE_SHARED : Field := ⟨8, 0x0, 0, 17, 0⟩

def BI.BUF_CFG.STAGE_MAX : Field := ⟨8, 0x8, 32, 13, 0⟩
def BI.BUF_CFG.SHARED_TOTAL : Field := ⟨8, 0x8, 0, 17, 0⟩

def BI.ADM_CNT.OVF (r : Nat) : Field := ⟨8, 0x10 + 0x8 * r, 63, 1, 0⟩
def BI.ADM_CNT.COUNT (r : Nat) : Field := ⟨8, 0x10 + 0x8 * r, 0, 63, 0⟩

def BI.ADM_EVT.SPILL_ECC_SEEN : Field := ⟨8, 0x30, 2, 1, 0⟩
def BI.ADM_EVT.STAGE_FULL : Field := ⟨8, 0x30, 1, 1, 0⟩
def BI.ADM_EVT.DROP_SEEN : Field := ⟨8, 0x30, 0, 1, 0⟩

def BI.Q_CFG.MIN_CELLS (q : Nat) : Field := ⟨8, 0x10000 + 0x8 * q, 32, 16, 0⟩
def BI.Q_CFG.RED (q : Nat) : Field := ⟨8, 0x10000 + 0x8 * q, 8, 4, 0⟩
def BI.Q_CFG.YEL (q : Nat) : Field := ⟨8, 0x10000 + 0x8 * q, 4, 4, 0⟩
def BI.Q_CFG.ALPHA (q : Nat) : Field := ⟨8, 0x10000 + 0x8 * q, 0, 4, 0⟩

def BI.Q_OCC.FRAMES (q : Nat) : Field := ⟨8, 0x12000 + 0x8 * q, 32, 17, 0⟩
def BI.Q_OCC.CELLS (q : Nat) : Field := ⟨8, 0x12000 + 0x8 * q, 0, 17, 0⟩

def BI.SPILL_CTL.OFF (s : Nat) : Field := ⟨8, 0x14000 + 0x8 * s, 32, 16, 0⟩
def BI.SPILL_CTL.ON (s : Nat) : Field := ⟨8, 0x14000 + 0x8 * s, 16, 16, 0⟩
def BI.SPILL_CTL.EN (s : Nat) : Field := ⟨8, 0x14000 + 0x8 * s, 0, 1, 0⟩

def BI.SPILL_STAT.RB (s : Nat) : Field := ⟨8, 0x14100 + 0x8 * s, 44, 10, 0⟩
def BI.SPILL_STAT.DRAM_CELLS (s : Nat) : Field := ⟨8, 0x14100 + 0x8 * s, 16, 22, 0⟩
def BI.SPILL_STAT.HELD_TAIL (s : Nat) : Field := ⟨8, 0x14100 + 0x8 * s, 2, 1, 0⟩
def BI.SPILL_STAT.ACTIVE (s : Nat) : Field := ⟨8, 0x14100 + 0x8 * s, 1, 1, 0⟩
def BI.SPILL_STAT.DONE (s : Nat) : Field := ⟨8, 0x14100 + 0x8 * s, 0, 1, 0⟩

def BI.CAR_PORT.C7_DEFER (p : Nat) : Field := ⟨8, 0x20000 + 0x8 * p, 48, 16, 0⟩
def BI.CAR_PORT.C7_DEFER_OVF (p : Nat) : Field := ⟨8, 0x20000 + 0x8 * p, 47, 1, 0⟩
def BI.CAR_PORT.WIN_OPEN (p : Nat) : Field := ⟨8, 0x20000 + 0x8 * p, 40, 1, 0⟩
def BI.CAR_PORT.GUARD_NS (p : Nat) : Field := ⟨8, 0x20000 + 0x8 * p, 8, 32, 0⟩
def BI.CAR_PORT.OVERHEAD (p : Nat) : Field := ⟨8, 0x20000 + 0x8 * p, 0, 6, 0x14⟩

def BI.DWRR_Q.DEFICIT (q : Nat) : Field := ⟨8, 0x21000 + 0x8 * q, 32, 17, 0⟩
def BI.DWRR_Q.QUANTUM (q : Nat) : Field := ⟨8, 0x21000 + 0x8 * q, 0, 16, 0x600⟩

def BI.SHP_CTL.EN (h : Nat) : Field := ⟨8, 0x30000 + 0x8 * h, 0, 1, 0⟩

def BI.SHP_STAT.LEVEL (h : Nat) : Field := ⟨8, 0x32000 + 0x8 * h, 4, 2, 0⟩
def BI.SHP_STAT.SAT_E (h : Nat) : Field := ⟨8, 0x32000 + 0x8 * h, 3, 1, 0⟩
def BI.SHP_STAT.SAT_C (h : Nat) : Field := ⟨8, 0x32000 + 0x8 * h, 2, 1, 0⟩
def BI.SHP_STAT.DONE (h : Nat) : Field := ⟨8, 0x32000 + 0x8 * h, 0, 1, 0⟩

def BI.SHP_LVL.EB (h : Nat) : Field := ⟨8, 0x34000 + 0x8 * h, 32, 32, 0⟩
def BI.SHP_LVL.CB (h : Nat) : Field := ⟨8, 0x34000 + 0x8 * h, 0, 32, 0⟩

def BI.SHP_CIR.FORGIVE (h : Nat) : Field := ⟨8, 0x36000 + 0x8 * h, 63, 1, 0⟩
def BI.SHP_CIR.RATE (h : Nat) : Field := ⟨8, 0x36000 + 0x8 * h, 0, 22, 0⟩

def BI.SHP_EIR.FORGIVE (h : Nat) : Field := ⟨8, 0x3A000 + 0x8 * h, 63, 1, 0⟩
def BI.SHP_EIR.RATE (h : Nat) : Field := ⟨8, 0x3A000 + 0x8 * h, 0, 22, 0⟩

def BI.SHP_CBS.BURST (h : Nat) : Field := ⟨8, 0x38000 + 0x8 * h, 0, 31, 0xFFFF⟩

def BI.SHP_EBS.BURST (h : Nat) : Field := ⟨8, 0x3C000 + 0x8 * h, 0, 31, 0xFFFF⟩

def BI.MIR_CFG.N (m : Nat) : Field := ⟨8, 0x40000 + 0x8 * m, 48, 16, 1⟩
def BI.MIR_CFG.MODE (m : Nat) : Field := ⟨8, 0x40000 + 0x8 * m, 47, 1, 0⟩
def BI.MIR_CFG.DEST (m : Nat) : Field := ⟨8, 0x40000 + 0x8 * m, 32, 8, 0x65⟩
def BI.MIR_CFG.CLASS (m : Nat) : Field := ⟨8, 0x40000 + 0x8 * m, 8, 3, 0⟩
def BI.MIR_CFG.TRUNC (m : Nat) : Field := ⟨8, 0x40000 + 0x8 * m, 1, 1, 1⟩
def BI.MIR_CFG.EN (m : Nat) : Field := ⟨8, 0x40000 + 0x8 * m, 0, 1, 0⟩

def BI.SMP_CFG.N (p : Nat) : Field := ⟨8, 0x40100 + 0x8 * p, 48, 16, 1⟩
def BI.SMP_CFG.MODE (p : Nat) : Field := ⟨8, 0x40100 + 0x8 * p, 47, 1, 0⟩
def BI.SMP_CFG.EN (p : Nat) : Field := ⟨8, 0x40100 + 0x8 * p, 0, 1, 0⟩

def BI.MIR_SEED.SEED (m : Nat) : Field := ⟨8, 0x40080 + 0x8 * m, 0, 32, 1⟩

def BI.SMP_SEED.SEED (p : Nat) : Field := ⟨8, 0x40500 + 0x8 * p, 0, 32, 1⟩

def BI.SS_QMAP.QUEUES (k : Nat) : Field := ⟨8, 0x50000 + 0x8 * k, 0, 64, 0⟩

def BI.SS_RING_CFG.TARGET (r : Nat) : Field := ⟨8, 0x50100 + 0x20 * r, 20, 1, 0⟩
def BI.SS_RING_CFG.EN (r : Nat) : Field := ⟨8, 0x50100 + 0x20 * r, 16, 1, 0⟩
def BI.SS_RING_CFG.SLOT_LOG2 (r : Nat) : Field := ⟨8, 0x50100 + 0x20 * r, 8, 5, 8⟩
def BI.SS_RING_CFG.SIZE_LOG2 (r : Nat) : Field := ⟨8, 0x50100 + 0x20 * r, 0, 5, 4⟩

def BI.SS_RING_BASE.BASE (r : Nat) : Field := ⟨8, 0x50108 + 0x20 * r, 0, 64, 0⟩

def BI.SS_RING_PROD.INDEX (r : Nat) : Field := ⟨8, 0x50110 + 0x20 * r, 0, 32, 0⟩

def BI.SS_RING_CONS.INDEX (r : Nat) : Field := ⟨8, 0x50118 + 0x20 * r, 0, 32, 0⟩

def BI.SS_RING_STAT.DISCARD (r : Nat) : Field := ⟨8, 0x50300 + 0x8 * r, 48, 16, 0⟩
def BI.SS_RING_STAT.BAD_DESC (r : Nat) : Field := ⟨8, 0x50300 + 0x8 * r, 32, 16, 0⟩
def BI.SS_RING_STAT.CNT_OVF (r : Nat) : Field := ⟨8, 0x50300 + 0x8 * r, 2, 1, 0⟩
def BI.SS_RING_STAT.BAD_DESC_SEEN (r : Nat) : Field := ⟨8, 0x50300 + 0x8 * r, 1, 1, 0⟩
def BI.SS_RING_STAT.DISCARD_SEEN (r : Nat) : Field := ⟨8, 0x50300 + 0x8 * r, 0, 1, 0⟩

def DI.CFG.CAPACITY : Field := ⟨9, 0x0, 0, 35, 0⟩
def DI.CFG.SPEED : Field := ⟨9, 0x0, 36, 4, 0⟩
def DI.CFG.DENSITY : Field := ⟨9, 0x0, 40, 2, 0⟩
def DI.CFG.WIDTH : Field := ⟨9, 0x0, 42, 1, 0⟩
def DI.CFG.RANKS_M1 : Field := ⟨9, 0x0, 43, 1, 0⟩

def DI.CTL.TRAIN_MODE : Field := ⟨9, 0x8, 0, 1, 0⟩
def DI.CTL.INIT : Field := ⟨9, 0x8, 1, 1, 0⟩
def DI.CTL.REF_2X : Field := ⟨9, 0x8, 2, 1, 0⟩
def DI.CTL.PERIODIC_EN : Field := ⟨9, 0x8, 3, 1, 1⟩
def DI.CTL.PERIOD_MS : Field := ⟨9, 0x8, 16, 16, 0x64⟩

def DI.REQ_CFG.HINT (r : Nat) : Field := ⟨9, 0x100 + 0x8 * r, 0, 2, diHintReset r⟩

def DI.MRS.VALUE : Field := ⟨9, 0x200, 0, 18, 0⟩
def DI.MRS.MR : Field := ⟨9, 0x200, 20, 3, 0⟩
def DI.MRS.RANK : Field := ⟨9, 0x200, 24, 1, 0⟩
def DI.MRS.GO : Field := ⟨9, 0x200, 32, 1, 0⟩
def DI.MRS.DONE : Field := ⟨9, 0x200, 33, 1, 0⟩

def DI.TRN_CFG.OP : Field := ⟨9, 0x300, 0, 3, 0⟩
def DI.TRN_CFG.PATTERN : Field := ⟨9, 0x300, 4, 2, 0⟩
def DI.TRN_CFG.RANK : Field := ⟨9, 0x300, 8, 1, 0⟩
def DI.TRN_CFG.BURST : Field := ⟨9, 0x300, 12, 9, 0⟩
def DI.TRN_CFG.LEN : Field := ⟨9, 0x300, 22, 9, 0⟩
def DI.TRN_CFG.GO : Field := ⟨9, 0x300, 32, 1, 0⟩

def DI.TRN_USER.DATA (w : Nat) : Field := ⟨9, 0x308 + 0x8 * w, 0, 64, 0⟩

def DI.TRN_STAT.BUSY : Field := ⟨9, 0x348, 0, 1, 0⟩
def DI.TRN_STAT.DONE : Field := ⟨9, 0x348, 1, 1, 0⟩
def DI.TRN_STAT.INIT_DONE : Field := ⟨9, 0x348, 2, 1, 0⟩
def DI.TRN_STAT.MODE_REFUSED : Field := ⟨9, 0x348, 3, 1, 0⟩
def DI.TRN_STAT.WL_SEEN : Field := ⟨9, 0x348, 4, 5, 0⟩
def DI.TRN_STAT.SR_RETAINED : Field := ⟨9, 0x348, 9, 1, 0⟩
def DI.TRN_STAT.TOTAL : Field := ⟨9, 0x348, 32, 32, 0⟩

def DI.TRN_ERR.E0 (g : Nat) : Field := ⟨9, 0x380 + 0x8 * g, 0, 15, 0⟩
def DI.TRN_ERR.OVF0 (g : Nat) : Field := ⟨9, 0x380 + 0x8 * g, 15, 1, 0⟩
def DI.TRN_ERR.E1 (g : Nat) : Field := ⟨9, 0x380 + 0x8 * g, 16, 15, 0⟩
def DI.TRN_ERR.OVF1 (g : Nat) : Field := ⟨9, 0x380 + 0x8 * g, 31, 1, 0⟩
def DI.TRN_ERR.E2 (g : Nat) : Field := ⟨9, 0x380 + 0x8 * g, 32, 15, 0⟩
def DI.TRN_ERR.OVF2 (g : Nat) : Field := ⟨9, 0x380 + 0x8 * g, 47, 1, 0⟩
def DI.TRN_ERR.E3 (g : Nat) : Field := ⟨9, 0x380 + 0x8 * g, 48, 15, 0⟩
def DI.TRN_ERR.OVF3 (g : Nat) : Field := ⟨9, 0x380 + 0x8 * g, 63, 1, 0⟩

def DI.DQ_DLY.RD (b : Nat) : Field := ⟨9, 0x400 + 0x8 * b, 0, 7, 0x20⟩
def DI.DQ_DLY.WR (b : Nat) : Field := ⟨9, 0x400 + 0x8 * b, 8, 7, 0x20⟩

def DI.DQS_DLY.WR (y : Nat) : Field := ⟨9, 0x540 + 0x8 * y, 0, 9, 0⟩
def DI.DQS_DLY.GATE (y : Nat) : Field := ⟨9, 0x540 + 0x8 * y, 16, 8, 0⟩
def DI.DQS_DLY.VREF (y : Nat) : Field := ⟨9, 0x540 + 0x8 * y, 32, 6, 0x20⟩

def DI.CA_DLY.DLY (s : Nat) : Field := ⟨9, 0x580 + 0x8 * s, 0, 7, 0x20⟩

def DI.RTR_STAT.SLICES : Field := ⟨9, 0x680, 0, 32, 0⟩
def DI.RTR_STAT.LAST_NS : Field := ⟨9, 0x680, 32, 16, 0⟩
def DI.RTR_STAT.DRIFT_FAIL : Field := ⟨9, 0x680, 48, 1, 0⟩

def DI.ECC_STAT.CORR_SEEN : Field := ⟨9, 0x800, 0, 1, 0⟩
def DI.ECC_STAT.UNCORR_SEEN : Field := ⟨9, 0x800, 1, 1, 0⟩
def DI.ECC_STAT.LOG_LOST : Field := ⟨9, 0x800, 8, 8, 0⟩
def DI.ECC_STAT.UNCORR : Field := ⟨9, 0x800, 16, 15, 0⟩
def DI.ECC_STAT.UNCORR_OVF : Field := ⟨9, 0x800, 31, 1, 0⟩
def DI.ECC_STAT.CORR : Field := ⟨9, 0x800, 32, 31, 0⟩
def DI.ECC_STAT.CORR_OVF : Field := ⟨9, 0x800, 63, 1, 0⟩

def DI.ECC_INJ.FLIP : Field := ⟨9, 0x810, 0, 40, 0⟩
def DI.ECC_INJ.ARM : Field := ⟨9, 0x810, 40, 1, 0⟩

def DI.RH_CFG.THRESHOLD : Field := ⟨9, 0x900, 0, 32, 0⟩
def DI.RH_CFG.ACT_RATE : Field := ⟨9, 0x900, 32, 8, 0⟩

def DI.RH_STAT.THROTTLED : Field := ⟨9, 0x908, 0, 6, 0⟩
def DI.RH_STAT.UNTHROTTLED : Field := ⟨9, 0x908, 6, 1, 0⟩
def DI.RH_STAT.LAST_BANK : Field := ⟨9, 0x908, 8, 4, 0⟩
def DI.RH_STAT.LAST_RANK : Field := ⟨9, 0x908, 12, 1, 0⟩
def DI.RH_STAT.LAST_GROUP : Field := ⟨9, 0x908, 13, 7, 0⟩
def DI.RH_STAT.LAST_REQ : Field := ⟨9, 0x908, 20, 3, 0⟩
def DI.RH_STAT.EVENTS : Field := ⟨9, 0x908, 32, 16, 0⟩
def DI.RH_STAT.EVENTS_OVF : Field := ⟨9, 0x908, 48, 1, 0⟩

def TI.CFG.FSTEP_PPB : Field := ⟨2, 0x0, 56, 8, 2⟩
def TI.CFG.STEP_US : Field := ⟨2, 0x0, 32, 16, 0x64⟩
def TI.CFG.WTR_S : Field := ⟨2, 0x0, 24, 8, 0x1E⟩
def TI.CFG.NONREVERT : Field := ⟨2, 0x0, 17, 1, 0⟩
def TI.CFG.FORCE_EN : Field := ⟨2, 0x0, 16, 1, 0⟩
def TI.CFG.FORCE_REF : Field := ⟨2, 0x0, 8, 3, 0⟩
def TI.CFG.SLEW_PPM : Field := ⟨2, 0x0, 0, 7, 0xA⟩

def TI.QUAL_CFG.SOFT_PPB : Field := ⟨2, 0x8, 0, 16, 0x32⟩
def TI.QUAL_CFG.HARD_PPB : Field := ⟨2, 0x8, 16, 16, 0xC8⟩
def TI.QUAL_CFG.JUMP_PPB : Field := ⟨2, 0x8, 32, 16, 0x1388⟩

def TI.HOLD_CFG.RATE_PS : Field := ⟨2, 0x10, 0, 16, 0xADA⟩
def TI.HOLD_CFG.SCHED_SPEC_NS : Field := ⟨2, 0x10, 16, 16, 0xFA⟩
def TI.HOLD_CFG.WALL_SPEC_NS : Field := ⟨2, 0x10, 32, 16, 0x2710⟩
def TI.HOLD_CFG.FREERUN_H : Field := ⟨2, 0x10, 48, 8, 0x18⟩
def TI.HOLD_CFG.LOCK_NS : Field := ⟨2, 0x10, 56, 8, 0x64⟩

def TI.REF_CFG.PRIORITY (r : Nat) : Field := ⟨2, 0x20 + 0x8 * r, 8, 3, r⟩
def TI.REF_CFG.EN (r : Nat) : Field := ⟨2, 0x20 + 0x8 * r, 0, 1, 0⟩

def TI.REF_STAT.F64_PPB (r : Nat) : Field := ⟨2, 0x40 + 0x8 * r, 40, 24, 0⟩
def TI.REF_STAT.D_PPB (r : Nat) : Field := ⟨2, 0x40 + 0x8 * r, 16, 24, 0⟩
def TI.REF_STAT.WTR_LEFT (r : Nat) : Field := ⟨2, 0x40 + 0x8 * r, 8, 8, 0⟩
def TI.REF_STAT.D_DEF (r : Nat) : Field := ⟨2, 0x40 + 0x8 * r, 7, 1, 0⟩
def TI.REF_STAT.CAUSE (r : Nat) : Field := ⟨2, 0x40 + 0x8 * r, 4, 3, 1⟩
def TI.REF_STAT.STATE (r : Nat) : Field := ⟨2, 0x40 + 0x8 * r, 0, 2, 0⟩

def TI.SEL_STAT.OUT_PPB : Field := ⟨2, 0x60, 32, 32, 0⟩
def TI.SEL_STAT.RETARGET_CNT : Field := ⟨2, 0x60, 16, 16, 0⟩
def TI.SEL_STAT.TRAINED : Field := ⟨2, 0x60, 15, 1, 0⟩
def TI.SEL_STAT.SCHED_VALID : Field := ⟨2, 0x60, 14, 1, 0⟩
def TI.SEL_STAT.WALL_Q : Field := ⟨2, 0x60, 12, 2, 3⟩
def TI.SEL_STAT.SCHED_Q : Field := ⟨2, 0x60, 10, 2, 3⟩
def TI.SEL_STAT.ROLE : Field := ⟨2, 0x60, 8, 2, 3⟩
def TI.SEL_STAT.INTEG_FROZEN : Field := ⟨2, 0x60, 7, 1, 0⟩
def TI.SEL_STAT.SWITCHING : Field := ⟨2, 0x60, 6, 1, 0⟩
def TI.SEL_STAT.TARGET : Field := ⟨2, 0x60, 3, 3, 7⟩
def TI.SEL_STAT.SELECTED : Field := ⟨2, 0x60, 0, 3, 7⟩

def TI.EST.SCHED_NS : Field := ⟨2, 0x68, 0, 32, 0⟩
def TI.EST.WALL_NS : Field := ⟨2, 0x68, 32, 32, 0⟩

def TI.EVT.Q_CHG : Field := ⟨2, 0x70, 0, 1, 0⟩
def TI.EVT.REF_CHG : Field := ⟨2, 0x70, 1, 1, 0⟩
def TI.EVT.SW_DONE : Field := ⟨2, 0x70, 2, 1, 0⟩
def TI.EVT.STEP_APPLIED : Field := ⟨2, 0x70, 3, 1, 0⟩
def TI.EVT.STEP_REFUSED : Field := ⟨2, 0x70, 4, 1, 0⟩
def TI.EVT.IRREGULAR : Field := ⟨2, 0x70, 5, 1, 0⟩
def TI.EVT.STEP_PENDING : Field := ⟨2, 0x70, 8, 1, 0⟩

def TI.MEAS_STAT.STALE : Field := ⟨2, 0x78, 0, 16, 0⟩
def TI.MEAS_STAT.TXTS_LOST : Field := ⟨2, 0x78, 16, 16, 0⟩
def TI.MEAS_STAT.OVF : Field := ⟨2, 0x78, 32, 1, 0⟩

def TI.SCHED.TIME : Field := ⟨2, 0x80, 0, 64, 0⟩

def TI.WALL_OFS.OFS : Field := ⟨2, 0x90, 0, 64, 0⟩

def TI.WALL_OFS_AT.TIME : Field := ⟨2, 0x98, 0, 64, 0⟩

def TI.WALL_OFS_PREV.OFS : Field := ⟨2, 0xA0, 0, 64, 0⟩

def TI.STEP.AMOUNT : Field := ⟨2, 0xA8, 0, 64, 0⟩

def TI.CMD.STEP_GO : Field := ⟨2, 0xB0, 0, 1, 0⟩
def TI.CMD.STEP_CANCEL : Field := ⟨2, 0xB0, 1, 1, 0⟩

def TI.PTP_MEAS.OFFSET (u : Nat) : Field := ⟨2, 0xC0 + 0x8 * u, 0, 32, 0⟩
def TI.PTP_MEAS.T2_LO (u : Nat) : Field := ⟨2, 0xC0 + 0x8 * u, 32, 32, 0⟩

def TI.PPS_CFG.OUT_EN : Field := ⟨2, 0x100, 0, 1, 0⟩
def TI.PPS_CFG.OUT_POL : Field := ⟨2, 0x100, 1, 1, 0⟩
def TI.PPS_CFG.IN_POL : Field := ⟨2, 0x100, 2, 1, 0⟩
def TI.PPS_CFG.WIDTH_MS : Field := ⟨2, 0x100, 16, 9, 0x64⟩

def TI.PPS_LAST.TIME : Field := ⟨2, 0x108, 0, 64, 0⟩

def TI.PPS_INTV.INTV : Field := ⟨2, 0x110, 0, 32, 0⟩
def TI.PPS_INTV.IRREG : Field := ⟨2, 0x110, 32, 1, 0⟩

def TI.PPS_OFS.OFS : Field := ⟨2, 0x118, 0, 64, 0⟩

def TI.PPS_IN_TS.TIME : Field := ⟨2, 0x120, 0, 64, 0⟩

def TI.TS_CFG.PTP_EN (p : Nat) : Field := ⟨2, 0x400 + 0x8 * p, 0, 1, 0⟩
def TI.TS_CFG.ONE_STEP (p : Nat) : Field := ⟨2, 0x400 + 0x8 * p, 1, 1, 0⟩
def TI.TS_CFG.RX_ADJ (p : Nat) : Field := ⟨2, 0x400 + 0x8 * p, 16, 16, 0⟩
def TI.TS_CFG.TX_ADJ (p : Nat) : Field := ⟨2, 0x400 + 0x8 * p, 32, 16, 0⟩

def RI.NODE_CFG.NODE : Field := ⟨3, 0x0, 0, 5, 0⟩

def RI.TIME_SRC.USED : Field := ⟨3, 0x8, 8, 1, 0⟩
def RI.TIME_SRC.PREF : Field := ⟨3, 0x8, 0, 1, 0⟩

def RI.RING_CTL.ASYM_NS (d : Nat) : Field := ⟨3, 0x10 + 0x8 * d, 16, 16, 0⟩
def RI.RING_CTL.FORCE_BYP (d : Nat) : Field := ⟨3, 0x10 + 0x8 * d, 1, 1, 0⟩
def RI.RING_CTL.EN (d : Nat) : Field := ⟨3, 0x10 + 0x8 * d, 0, 1, 0⟩

def RI.RING_STAT.LOCK_LOSS_CNT (d : Nat) : Field := ⟨3, 0x20 + 0x8 * d, 48, 16, 0⟩
def RI.RING_STAT.NB_VALID (d : Nat) : Field := ⟨3, 0x20 + 0x8 * d, 21, 1, 0⟩
def RI.RING_STAT.NEIGHBOUR (d : Nat) : Field := ⟨3, 0x20 + 0x8 * d, 16, 5, 0⟩
def RI.RING_STAT.TRAINS (d : Nat) : Field := ⟨3, 0x20 + 0x8 * d, 8, 3, 0⟩
def RI.RING_STAT.LS_STALE (d : Nat) : Field := ⟨3, 0x20 + 0x8 * d, 6, 1, 0⟩
def RI.RING_STAT.INCONSIST (d : Nat) : Field := ⟨3, 0x20 + 0x8 * d, 5, 1, 0⟩
def RI.RING_STAT.LOCK_CHG (d : Nat) : Field := ⟨3, 0x20 + 0x8 * d, 4, 1, 0⟩
def RI.RING_STAT.DONE (d : Nat) : Field := ⟨3, 0x20 + 0x8 * d, 3, 1, 0⟩
def RI.RING_STAT.LOOP_TIMED (d : Nat) : Field := ⟨3, 0x20 + 0x8 * d, 2, 1, 0⟩
def RI.RING_STAT.MARKER_LOCK (d : Nat) : Field := ⟨3, 0x20 + 0x8 * d, 1, 1, 0⟩
def RI.RING_STAT.BLOCK_LOCK (d : Nat) : Field := ⟨3, 0x20 + 0x8 * d, 0, 1, 0⟩

def RI.RING_DLY.RES_NS (d : Nat) : Field := ⟨3, 0x30 + 0x8 * d, 32, 32, 0⟩
def RI.RING_DLY.HOP_NS (d : Nat) : Field := ⟨3, 0x30 + 0x8 * d, 0, 32, 0⟩

def RI.MARKER.BYTES (d w : Nat) : Field := ⟨3, 0x40 + 0x20 * d + 0x8 * w, 0, 64, 0⟩

def RI.SFP_IO.TX_DISABLE (d : Nat) : Field := ⟨3, 0x80 + 0x8 * d, 4, 1, 1⟩
def RI.SFP_IO.MOD_ABS (d : Nat) : Field := ⟨3, 0x80 + 0x8 * d, 2, 1, 1⟩
def RI.SFP_IO.RX_LOS (d : Nat) : Field := ⟨3, 0x80 + 0x8 * d, 1, 1, 1⟩
def RI.SFP_IO.TX_FAULT (d : Nat) : Field := ⟨3, 0x80 + 0x8 * d, 0, 1, 0⟩

def RI.BYP_STAT.CHG_CNT : Field := ⟨3, 0x90, 48, 16, 0⟩
def RI.BYP_STAT.CHG : Field := ⟨3, 0x90, 5, 1, 0⟩
def RI.BYP_STAT.FORCE_REFUSED : Field := ⟨3, 0x90, 4, 1, 0⟩
def RI.BYP_STAT.HIT_W : Field := ⟨3, 0x90, 3, 1, 0⟩
def RI.BYP_STAT.HIT_E : Field := ⟨3, 0x90, 2, 1, 0⟩
def RI.BYP_STAT.DRIVE_W : Field := ⟨3, 0x90, 1, 1, 0⟩
def RI.BYP_STAT.DRIVE_E : Field := ⟨3, 0x90, 0, 1, 0⟩

def RI.RING_CNT.COUNT (d c : Nat) : Field := ⟨3, 0x100 + 0x80 * d + 0x8 * c, 0, 64, 0⟩

def RI.RING_CNT_OVF.OVF (d : Nat) : Field := ⟨3, 0x200 + 0x8 * d, 0, 16, 0⟩

def RI.SCHED_CFG.COLD_MS : Field := ⟨3, 0x400, 32, 8, 0x64⟩
def RI.SCHED_CFG.CS_MODE : Field := ⟨3, 0x400, 24, 2, 0⟩
def RI.SCHED_CFG.CS_EN : Field := ⟨3, 0x400, 16, 1, 0⟩
def RI.SCHED_CFG.VETO : Field := ⟨3, 0x400, 2, 1, 0⟩
def RI.SCHED_CFG.REQ_EN : Field := ⟨3, 0x400, 1, 1, 0⟩

def RI.SCHED_STAT.MATRIX_ID : Field := ⟨3, 0x408, 40, 8, 0⟩
def RI.SCHED_STAT.MEMBERS : Field := ⟨3, 0x408, 32, 6, 0⟩
def RI.SCHED_STAT.RM_NODE : Field := ⟨3, 0x408, 24, 5, 0⟩
def RI.SCHED_STAT.CYCLE : Field := ⟨3, 0x408, 16, 6, 0⟩
def RI.SCHED_STAT.MODE : Field := ⟨3, 0x408, 12, 2, 0⟩
def RI.SCHED_STAT.CS_STATE : Field := ⟨3, 0x408, 8, 2, 0⟩
def RI.SCHED_STAT.SCALE_CONFLICT : Field := ⟨3, 0x408, 7, 1, 0⟩
def RI.SCHED_STAT.MISMATCH : Field := ⟨3, 0x408, 6, 1, 0⟩
def RI.SCHED_STAT.JOINED : Field := ⟨3, 0x408, 5, 1, 0⟩
def RI.SCHED_STAT.AGREED_PENDING : Field := ⟨3, 0x408, 4, 1, 0⟩
def RI.SCHED_STAT.JOIN_CHG : Field := ⟨3, 0x408, 3, 1, 0⟩
def RI.SCHED_STAT.ROLE_CHG : Field := ⟨3, 0x408, 2, 1, 0⟩
def RI.SCHED_STAT.CONFLICT_SEEN : Field := ⟨3, 0x408, 1, 1, 0⟩
def RI.SCHED_STAT.MODE_CHG : Field := ⟨3, 0x408, 0, 1, 0⟩

def RI.MCHG_REQ.CANCEL : Field := ⟨3, 0x410, 9, 1, 0⟩
def RI.MCHG_REQ.GO : Field := ⟨3, 0x410, 8, 1, 0⟩
def RI.MCHG_REQ.MODE : Field := ⟨3, 0x410, 0, 2, 0⟩

def RI.MCHG_STAT.TALLY : Field := ⟨3, 0x418, 32, 32, 0⟩
def RI.MCHG_STAT.OUTCOME : Field := ⟨3, 0x418, 15, 1, 0⟩
def RI.MCHG_STAT.REQ_AGE : Field := ⟨3, 0x418, 8, 2, 0⟩
def RI.MCHG_STAT.LAST_MODE : Field := ⟨3, 0x418, 4, 2, 0⟩
def RI.MCHG_STAT.STATUS : Field := ⟨3, 0x418, 0, 3, 0⟩

def RI.SIG_PUB.PUB : Field := ⟨3, 0x420, 0, 32, 0⟩

def RI.CS_PRIO.ELIGIBLE (n : Nat) : Field := ⟨3, 0x500 + 0x8 * n, 3, 1, 0⟩
def RI.CS_PRIO.PRIO (n : Nat) : Field := ⟨3, 0x500 + 0x8 * n, 0, 3, 0⟩

def RI.SIG_STAT.PUB_SEQ (w : Nat) : Field := ⟨3, 0x600 + 0x8 * w, 0, 16, 0⟩
def RI.SIG_STAT.RX_SEQ (w : Nat) : Field := ⟨3, 0x600 + 0x8 * w, 16, 16, 0⟩
def RI.SIG_STAT.SNAP_SEQ (w : Nat) : Field := ⟨3, 0x600 + 0x8 * w, 32, 16, 0⟩
def RI.SIG_STAT.MISSED (w : Nat) : Field := ⟨3, 0x600 + 0x8 * w, 48, 1, 0⟩

def RI.SIG_TX.DATA (w k : Nat) : Field := ⟨3, 0x10000 + 0x100 * w + 0x8 * k, 0, 64, 0⟩

def RI.SIG_RX.DATA (w k : Nat) : Field := ⟨3, 0x20000 + 0x100 * w + 0x8 * k, 0, 64, 0⟩

def BI.SCH_LOCAL.RUNNING : Field := ⟨8, 0x60000, 4, 2, 0⟩
def BI.SCH_LOCAL.MODE : Field := ⟨8, 0x60000, 0, 2, 0⟩

def RI.GW_CFG.SRC_MAC : Field := ⟨3, 0x700, 16, 48, 0⟩
def RI.GW_CFG.ETYPE : Field := ⟨3, 0x700, 0, 16, 0x88B5⟩

def RI.GW_EMERG.EN : Field := ⟨3, 0x708, 40, 1, 1⟩
def RI.GW_EMERG.REPEAT_S : Field := ⟨3, 0x708, 32, 8, 1⟩
def RI.GW_EMERG.CCT : Field := ⟨3, 0x708, 16, 16, 0xFA0⟩
def RI.GW_EMERG.LEVEL : Field := ⟨3, 0x708, 0, 16, 0xFFFF⟩

def RI.GW_STAT.EMERG_SENT : Field := ⟨3, 0x710, 48, 16, 0⟩
def RI.GW_STAT.TPL_ERR : Field := ⟨3, 0x710, 32, 16, 0⟩
def RI.GW_STAT.TRIG_LOST : Field := ⟨3, 0x710, 16, 16, 0⟩
def RI.GW_STAT.COALESCED : Field := ⟨3, 0x710, 4, 12, 0⟩
def RI.GW_STAT.CNT_OVF : Field := ⟨3, 0x710, 3, 1, 0⟩
def RI.GW_STAT.TPL_ERR_SEEN : Field := ⟨3, 0x710, 2, 1, 0⟩
def RI.GW_STAT.TRIG_LOST_SEEN : Field := ⟨3, 0x710, 1, 1, 0⟩
def RI.GW_STAT.EMITTING : Field := ⟨3, 0x710, 0, 1, 0⟩

def RI.GW_EVT.FA_ASSERT : Field := ⟨3, 0x718, 0, 1, 0⟩
def RI.GW_EVT.FA_RELEASE : Field := ⟨3, 0x718, 1, 1, 0⟩

def RI.GW_MAP_CTL.EN (m : Nat) : Field := ⟨3, 0x30000 + 0x8 * m, 0, 1, 1⟩

def RI.GW_MAP_STAT.HELD (m : Nat) : Field := ⟨3, 0x38000 + 0x8 * m, 2, 1, 0⟩
def RI.GW_MAP_STAT.SAT_SEEN (m : Nat) : Field := ⟨3, 0x38000 + 0x8 * m, 1, 1, 0⟩
def RI.GW_MAP_STAT.DONE (m : Nat) : Field := ⟨3, 0x38000 + 0x8 * m, 0, 1, 0⟩

def RI.GW_SEQ.NEXT (g : Nat) : Field := ⟨3, 0x40000 + 0x8 * g, 32, 16, 0⟩
def RI.GW_SEQ.VALID (g : Nat) : Field := ⟨3, 0x40000 + 0x8 * g, 16, 1, 0⟩
def RI.GW_SEQ.GROUP (g : Nat) : Field := ⟨3, 0x40000 + 0x8 * g, 0, 16, 0⟩

def RI.GW_SEQ_ANY.NEXT : Field := ⟨3, 0x40800, 0, 16, 0⟩

def AO.SIDEBAND.DEB_MS : Field := ⟨1, 0x200, 16, 8, 0x14⟩
def AO.SIDEBAND.FA_RELEASE : Field := ⟨1, 0x200, 9, 1, 0⟩
def AO.SIDEBAND.FA_ASSERT : Field := ⟨1, 0x200, 8, 1, 0⟩
def AO.SIDEBAND.SB : Field := ⟨1, 0x200, 4, 4, 0xF⟩
def AO.SIDEBAND.FA : Field := ⟨1, 0x200, 1, 1, 0⟩
def AO.SIDEBAND.FA_PIN : Field := ⟨1, 0x200, 0, 1, 1⟩

def MI.MTIME.TIME : Field := ⟨0, 0xC00, 0, 64, 0⟩

def MI.MTIMECMP.TIME : Field := ⟨0, 0xC08, 0, 64, 0xFFFFFFFFFFFFFFFF⟩

def MI.MSIP.MSIP : Field := ⟨0, 0xC10, 0, 1, 0⟩

def MI.IC_CFG.VEC (n : Nat) : Field := ⟨0, 0x1000 + 0x8 * n, 8, 5, 0⟩
def MI.IC_CFG.TARGET (n : Nat) : Field := ⟨0, 0x1000 + 0x8 * n, 4, 1, 0⟩
def MI.IC_CFG.INSVC (n : Nat) : Field := ⟨0, 0x1000 + 0x8 * n, 3, 1, 0⟩
def MI.IC_CFG.PRIO (n : Nat) : Field := ⟨0, 0x1000 + 0x8 * n, 0, 3, 0⟩

def MI.IC_PEND.PEND (k : Nat) : Field := ⟨0, 0x1400 + 0x8 * k, 0, 64, 0⟩

def MI.IC_THRESH.THRESH : Field := ⟨0, 0x1410, 0, 3, 0⟩

def MI.IC_COMPLETE.SOURCE : Field := ⟨0, 0x1420, 0, 7, 0⟩

def MI.IC_HEOI.VEC : Field := ⟨0, 0x1428, 0, 32, 0⟩

def MI.PCIE_ID.VENDOR : Field := ⟨0, 0x2000, 0, 16, 0⟩
def MI.PCIE_ID.DEVICE : Field := ⟨0, 0x2000, 16, 16, 0xF96⟩
def MI.PCIE_ID.REVISION : Field := ⟨0, 0x2000, 32, 8, 0x20⟩

def MI.PCIE_STAT.LINK_UP : Field := ⟨0, 0x2008, 0, 1, 0⟩
def MI.PCIE_STAT.SPEED : Field := ⟨0, 0x2008, 1, 3, 0⟩
def MI.PCIE_STAT.WIDTH : Field := ⟨0, 0x2008, 4, 4, 0⟩
def MI.PCIE_STAT.BME : Field := ⟨0, 0x2008, 8, 1, 0⟩
def MI.PCIE_STAT.MSIX_EN : Field := ⟨0, 0x2008, 9, 1, 0⟩
def MI.PCIE_STAT.FUNC_MASK : Field := ⟨0, 0x2008, 10, 1, 0⟩

def MI.PCIE_EVT.LINK_CHG : Field := ⟨0, 0x2010, 0, 1, 0⟩
def MI.PCIE_EVT.PERST_SEEN : Field := ⟨0, 0x2010, 1, 1, 0⟩
def MI.PCIE_EVT.BAD_BE : Field := ⟨0, 0x2010, 2, 1, 0⟩
def MI.PCIE_EVT.POISON_IN : Field := ⟨0, 0x2010, 3, 1, 0⟩
def MI.PCIE_EVT.UR_SENT : Field := ⟨0, 0x2010, 4, 1, 0⟩
def MI.PCIE_EVT.CPL_TIMEOUT : Field := ⟨0, 0x2010, 5, 1, 0⟩
def MI.PCIE_EVT.BAD_BE_CNT : Field := ⟨0, 0x2010, 32, 16, 0⟩

def MI.DMA_CTL.EN (c : Nat) : Field := ⟨0, 0x3000 + 0x20 * c, 0, 1, 0⟩
def MI.DMA_CTL.SIZE_LOG2 (c : Nat) : Field := ⟨0, 0x3000 + 0x20 * c, 8, 5, 4⟩

def MI.DMA_STAT.DONE (c : Nat) : Field := ⟨0, 0x3008 + 0x20 * c, 0, 1, 0⟩
def MI.DMA_STAT.HALTED (c : Nat) : Field := ⟨0, 0x3008 + 0x20 * c, 1, 1, 0⟩
def MI.DMA_STAT.DESC_DONE (c : Nat) : Field := ⟨0, 0x3008 + 0x20 * c, 2, 1, 0⟩
def MI.DMA_STAT.ERR (c : Nat) : Field := ⟨0, 0x3008 + 0x20 * c, 3, 1, 0⟩
def MI.DMA_STAT.ERR_CODE (c : Nat) : Field := ⟨0, 0x3008 + 0x20 * c, 4, 3, 0⟩
def MI.DMA_STAT.CONS (c : Nat) : Field := ⟨0, 0x3008 + 0x20 * c, 32, 16, 0⟩

def MI.DMA_BASE.ADDR (c : Nat) : Field := ⟨0, 0x3010 + 0x20 * c, 0, 32, 0⟩

def MI.DMA_PROD.PROD (c : Nat) : Field := ⟨0, 0x3018 + 0x20 * c, 0, 16, 0⟩

def MI.SENS.VALUE (ch : Nat) : Field := ⟨0, 0x5000 + 0x8 * ch, 0, 16, 0⟩
def MI.SENS.MIN (ch : Nat) : Field := ⟨0, 0x5000 + 0x8 * ch, 16, 16, 0⟩
def MI.SENS.MAX (ch : Nat) : Field := ⟨0, 0x5000 + 0x8 * ch, 32, 16, 0⟩
def MI.SENS.VALID (ch : Nat) : Field := ⟨0, 0x5000 + 0x8 * ch, 48, 1, 0⟩
def MI.SENS.HI_SEEN (ch : Nat) : Field := ⟨0, 0x5000 + 0x8 * ch, 49, 1, 0⟩
def MI.SENS.LO_SEEN (ch : Nat) : Field := ⟨0, 0x5000 + 0x8 * ch, 50, 1, 0⟩

def MI.SENS_LIM.LO (ch : Nat) : Field := ⟨0, 0x5080 + 0x8 * ch, 0, 16, 0⟩
def MI.SENS_LIM.HI (ch : Nat) : Field := ⟨0, 0x5080 + 0x8 * ch, 16, 16, 0⟩
def MI.SENS_LIM.EN (ch : Nat) : Field := ⟨0, 0x5080 + 0x8 * ch, 32, 1, 0⟩

def MI.SENS_CMD.MINMAX_CLR : Field := ⟨0, 0x5100, 0, 13, 0⟩

def MI.MSIX_TABLE.DATA (v w : Nat) : Field := ⟨0, 0x6000 + 0x10 * v + 0x8 * w, 0, 64, if w = 1 then 0x100000000 else 0⟩

def MI.MSIX_PBA.PBA : Field := ⟨0, 0x6800, 0, 32, 0⟩

def MI.MBX_H2C.DATA (w : Nat) : Field := ⟨0, 0x7000 + 0x8 * w, 0, 64, 0⟩

def MI.MBX_C2H.DATA (w : Nat) : Field := ⟨0, 0x7800 + 0x8 * w, 0, 64, 0⟩

def MI.MBX_H2C_SET.SET : Field := ⟨0, 0x7F00, 0, 32, 0⟩

def MI.MBX_H2C_BELL.BELL : Field := ⟨0, 0x7F08, 0, 32, 0⟩

def MI.MBX_C2H_SET.SET : Field := ⟨0, 0x7F10, 0, 32, 0⟩

def MI.MBX_C2H_BELL.BELL : Field := ⟨0, 0x7F18, 0, 32, 0⟩

def MI.MBX_RSVD.ZERO (w : Nat) : Field := ⟨0, 0x7F20 + 0x8 * w, 0, 64, 0⟩

def MI.SRAM_ECC.CORR_SEEN : Field := ⟨0, 0x8100, 0, 1, 0⟩
def MI.SRAM_ECC.UNCORR_SEEN : Field := ⟨0, 0x8100, 1, 1, 0⟩
def MI.SRAM_ECC.HOST_DROP : Field := ⟨0, 0x8100, 8, 8, 0⟩
def MI.SRAM_ECC.UNCORR : Field := ⟨0, 0x8100, 16, 14, 0⟩
def MI.SRAM_ECC.OVF : Field := ⟨0, 0x8100, 31, 1, 0⟩
def MI.SRAM_ECC.CORR : Field := ⟨0, 0x8100, 32, 31, 0⟩

def MI.WDT_CFG.EN : Field := ⟨0, 0x4000, 48, 1, 1⟩
def MI.WDT_CFG.GRACE_MS : Field := ⟨0, 0x4000, 32, 16, 0x64⟩
def MI.WDT_CFG.WARN_MS : Field := ⟨0, 0x4000, 16, 16, 0xC8⟩
def MI.WDT_CFG.TIMEOUT_MS : Field := ⟨0, 0x4000, 0, 16, 0x7D0⟩

def MI.WDT_SVC.KEY : Field := ⟨0, 0x4008, 0, 8, 0⟩

def MI.WDT_STAT.EXPIRED_CNT : Field := ⟨0, 0x4010, 48, 16, 0⟩
def MI.WDT_STAT.REFUSED : Field := ⟨0, 0x4010, 32, 16, 0⟩
def MI.WDT_STAT.REMAIN : Field := ⟨0, 0x4010, 16, 16, 0x7D0⟩
def MI.WDT_STAT.GUARD_OUT : Field := ⟨0, 0x4010, 5, 1, 0⟩
def MI.WDT_STAT.ERASE_SUSP : Field := ⟨0, 0x4010, 4, 1, 0⟩
def MI.WDT_STAT.DEBUG_FROZEN : Field := ⟨0, 0x4010, 3, 1, 0⟩
def MI.WDT_STAT.OVF : Field := ⟨0, 0x4010, 2, 1, 0⟩
def MI.WDT_STAT.REFUSED_SEEN : Field := ⟨0, 0x4010, 1, 1, 0⟩
def MI.WDT_STAT.WARNED : Field := ⟨0, 0x4010, 0, 1, 0⟩

def MI.WDT_EVID_PC.VALID : Field := ⟨0, 0x4018, 34, 1, 0⟩
def MI.WDT_EVID_PC.DEBUG_HALTED : Field := ⟨0, 0x4018, 33, 1, 0⟩
def MI.WDT_EVID_PC.PRIV : Field := ⟨0, 0x4018, 32, 1, 0⟩
def MI.WDT_EVID_PC.PC : Field := ⟨0, 0x4018, 0, 32, 0⟩

def MI.WDT_LAST_SVC.WALL_NS : Field := ⟨0, 0x4020, 0, 64, 0⟩

def AO.TAG_STAT.FIELD_COMMITS : Field := ⟨1, 0x400, 48, 16, 0⟩
def AO.TAG_STAT.WIRED_REFUSED : Field := ⟨1, 0x400, 32, 16, 0⟩
def AO.TAG_STAT.LAST_ERR : Field := ⟨1, 0x400, 24, 8, 0⟩
def AO.TAG_STAT.CNT_OVF : Field := ⟨1, 0x400, 7, 1, 0⟩
def AO.TAG_STAT.WIRED_DONE : Field := ⟨1, 0x400, 6, 1, 0⟩
def AO.TAG_STAT.FIELD_COMMIT : Field := ⟨1, 0x400, 5, 1, 0⟩
def AO.TAG_STAT.FIELD_CHG : Field := ⟨1, 0x400, 4, 1, 0⟩
def AO.TAG_STAT.BUSY : Field := ⟨1, 0x400, 3, 1, 0⟩
def AO.TAG_STAT.OWNED_FLAG : Field := ⟨1, 0x400, 2, 1, 0⟩
def AO.TAG_STAT.SESSION : Field := ⟨1, 0x400, 1, 1, 0⟩
def AO.TAG_STAT.FIELD : Field := ⟨1, 0x400, 0, 1, 0⟩

def AO.TAG_OWN.FIELD : Field := ⟨1, 0x408, 0, 32, 0⟩
def AO.TAG_OWN.WIRED : Field := ⟨1, 0x408, 32, 32, 0⟩

def AO.TAG_PEND.PEND : Field := ⟨1, 0x410, 0, 32, 0⟩

def AO.TAG_CMD.PAGE : Field := ⟨1, 0x418, 0, 5, 0⟩
def AO.TAG_CMD.OP : Field := ⟨1, 0x418, 8, 3, 0⟩
def AO.TAG_CMD.GO : Field := ⟨1, 0x418, 16, 1, 0⟩
def AO.TAG_CMD.TOKEN : Field := ⟨1, 0x418, 17, 1, 0⟩

def AO.TAG_BLANK.BLANK : Field := ⟨1, 0x420, 0, 32, 0xFFFFFFFF⟩

def AO.TAG_UID.UID : Field := ⟨1, 0x428, 0, 64, 0xE000000000000000⟩

def AO.TAG_BUF.DATA (k : Nat) : Field := ⟨1, 0x440 + 0x8 * k, 0, 64, 0⟩

def AO.TAG_TOKEN.DATA (k : Nat) : Field := ⟨1, 0x540 + 0x8 * k, 0, 64, 0⟩

def MI.FLASH_CMD.OP : Field := ⟨0, 0x9000, 0, 3, 0⟩
def MI.FLASH_CMD.LEN_M1 : Field := ⟨0, 0x9000, 8, 8, 0⟩
def MI.FLASH_CMD.GO : Field := ⟨0, 0x9000, 16, 1, 0⟩

def MI.FLASH_ADDR.ADDR : Field := ⟨0, 0x9008, 0, 27, 0⟩

def MI.FLASH_SRC.ADDR : Field := ⟨0, 0x9010, 0, 32, 0⟩

def MI.FLASH_STAT.BUSY : Field := ⟨0, 0x9018, 0, 1, 0⟩
def MI.FLASH_STAT.DONE : Field := ⟨0, 0x9018, 1, 1, 0⟩
def MI.FLASH_STAT.DEFERRED : Field := ⟨0, 0x9018, 2, 1, 0⟩
def MI.FLASH_STAT.REFUSED : Field := ⟨0, 0x9018, 3, 1, 0⟩
def MI.FLASH_STAT.ERASING : Field := ⟨0, 0x9018, 4, 1, 0⟩
def MI.FLASH_STAT.SIZE_MISMATCH : Field := ⟨0, 0x9018, 5, 1, 0⟩
def MI.FLASH_STAT.REFUSE : Field := ⟨0, 0x9018, 8, 4, 0⟩
def MI.FLASH_STAT.SIZE_MIB : Field := ⟨0, 0x9018, 32, 8, 0⟩

def MI.HU_CFG.CAP_UF : Field := ⟨0, 0x9100, 0, 16, 0⟩
def MI.HU_CFG.VMIN_MV : Field := ⟨0, 0x9100, 16, 16, 0⟩
def MI.HU_CFG.SCALE : Field := ⟨0, 0x9100, 32, 16, 0⟩

def MI.HU_STAT.E_MJ : Field := ⟨0, 0x9108, 0, 32, 0⟩
def MI.HU_STAT.DEFER_CNT : Field := ⟨0, 0x9108, 32, 16, 0⟩
def MI.HU_STAT.DEFERRED_SEEN : Field := ⟨0, 0x9108, 48, 1, 0⟩
def MI.HU_STAT.PF : Field := ⟨0, 0x9108, 49, 1, 0⟩
def MI.HU_STAT.PF_SEEN : Field := ⟨0, 0x9108, 50, 1, 0⟩
def MI.HU_STAT.FLUSH_DONE : Field := ⟨0, 0x9108, 51, 1, 0⟩
def MI.HU_STAT.FLUSH_SHORT : Field := ⟨0, 0x9108, 52, 1, 0⟩
def MI.HU_STAT.OVF : Field := ⟨0, 0x9108, 53, 1, 0⟩

def MI.JNL_REC.DATA (w : Nat) : Field := ⟨0, 0x9200 + 0x8 * w, 0, 64, 0⟩

def MI.JNL_CMD.APPEND : Field := ⟨0, 0x9240, 0, 1, 0⟩
def MI.JNL_CMD.COPY : Field := ⟨0, 0x9240, 1, 1, 0⟩
def MI.JNL_CMD.ERASE_OLDEST : Field := ⟨0, 0x9240, 2, 1, 0⟩

def MI.JNL_COPY.OFS : Field := ⟨0, 0x9248, 0, 22, 0⟩

def MI.JNL_CFG.LOW_KIB : Field := ⟨0, 0x9250, 0, 16, 0x200⟩

def MI.JNL_SEQ.LAST_SEQ : Field := ⟨0, 0x9258, 0, 32, 0⟩
def MI.JNL_SEQ.DURABLE_SEQ : Field := ⟨0, 0x9258, 32, 32, 0⟩

def MI.JNL_STAT.QUEUED : Field := ⟨0, 0x9260, 0, 7, 0⟩
def MI.JNL_STAT.ERROR : Field := ⟨0, 0x9260, 8, 4, 0⟩
def MI.JNL_STAT.FREE_BLOCKS : Field := ⟨0, 0x9260, 16, 12, 0⟩
def MI.JNL_STAT.TORN : Field := ⟨0, 0x9260, 32, 12, 0⟩
def MI.JNL_STAT.LOST : Field := ⟨0, 0x9260, 48, 12, 0⟩
def MI.JNL_STAT.LOW : Field := ⟨0, 0x9260, 60, 1, 0⟩
def MI.JNL_STAT.LOST_SEEN : Field := ⟨0, 0x9260, 61, 1, 0⟩
def MI.JNL_STAT.ERR : Field := ⟨0, 0x9260, 62, 1, 0⟩
def MI.JNL_STAT.OVF : Field := ⟨0, 0x9260, 63, 1, 0⟩

def MI.RPLY_CFG.PORAN_EN : Field := ⟨0, 0x9300, 0, 1, 1⟩
def MI.RPLY_CFG.SCHED_WAIT_S : Field := ⟨0, 0x9300, 8, 8, 2⟩
def MI.RPLY_CFG.LOOKBACK_S : Field := ⟨0, 0x9300, 16, 16, 0x12C⟩
def MI.RPLY_CFG.SETTLE_MS : Field := ⟨0, 0x9300, 32, 16, 0x19⟩

def MI.RPLY_STAT.EPOCHS : Field := ⟨0, 0x9308, 0, 8, 0⟩
def MI.RPLY_STAT.REISSUED : Field := ⟨0, 0x9308, 8, 8, 0⟩
def MI.RPLY_STAT.LATE : Field := ⟨0, 0x9308, 16, 8, 0⟩
def MI.RPLY_STAT.SCALE_SKIP : Field := ⟨0, 0x9308, 24, 8, 0⟩
def MI.RPLY_STAT.TPL_MISSING : Field := ⟨0, 0x9308, 32, 8, 0⟩
def MI.RPLY_STAT.CHAIN_BROKEN : Field := ⟨0, 0x9308, 40, 1, 0⟩
def MI.RPLY_STAT.EPOCH_PARTIAL : Field := ⟨0, 0x9308, 41, 1, 0⟩
def MI.RPLY_STAT.SCHED_TIMEOUT : Field := ⟨0, 0x9308, 42, 1, 0⟩
def MI.RPLY_STAT.TRIAL_EXHAUSTED : Field := ⟨0, 0x9308, 43, 1, 0⟩
def MI.RPLY_STAT.TRIES_DEFERRED : Field := ⟨0, 0x9308, 44, 1, 0⟩
def MI.RPLY_STAT.IN_TRIAL : Field := ⟨0, 0x9308, 45, 1, 0⟩

def MI.LOG_BASE.BASE : Field := ⟨0, 0x9400, 0, 35, 0⟩
def MI.LOG_BASE.SIZE_LOG2 : Field := ⟨0, 0x9400, 40, 5, 0⟩
def MI.LOG_BASE.EN : Field := ⟨0, 0x9400, 48, 1, 0⟩

def MI.LOG_IDX.PROD : Field := ⟨0, 0x9408, 0, 32, 0⟩
def MI.LOG_IDX.CONS : Field := ⟨0, 0x9408, 32, 32, 0⟩

def MI.LOG_STAT.LOST : Field := ⟨0, 0x9410, 0, 32, 0⟩
def MI.LOG_STAT.LOST_SEEN : Field := ⟨0, 0x9410, 32, 1, 0⟩

def AO.ROLLBACK_ADV.VALUE : Field := ⟨1, 0x190, 0, 64, 0⟩

def AO.ROLLBACK_CTL.GO : Field := ⟨1, 0x198, 0, 1, 0⟩
def AO.ROLLBACK_CTL.BUSY : Field := ⟨1, 0x198, 1, 1, 0⟩
def AO.ROLLBACK_CTL.FAIL : Field := ⟨1, 0x198, 2, 1, 0⟩
def AO.ROLLBACK_CTL.ADV_LEFT : Field := ⟨1, 0x198, 8, 7, 0x40⟩

def AO.SEAL_CMD.GO : Field := ⟨1, 0x1A0, 0, 1, 0⟩
def AO.SEAL_CMD.KEY : Field := ⟨1, 0x1A0, 8, 8, 0⟩
def AO.SEAL_CMD.BUSY : Field := ⟨1, 0x1A0, 16, 1, 0⟩
def AO.SEAL_CMD.FAIL : Field := ⟨1, 0x1A0, 17, 1, 0⟩
def AO.SEAL_CMD.FAIL_AT : Field := ⟨1, 0x1A0, 18, 2, 0⟩

def C.CNT_SEL.THRESH (i k : Nat) : Field := ⟨i, 0xF0000 + 0x8 * k, 32, 32, 0⟩
def C.CNT_SEL.EN (i k : Nat) : Field := ⟨i, 0xF0000 + 0x8 * k, 31, 1, 0⟩
def C.CNT_SEL.CMP (i k : Nat) : Field := ⟨i, 0xF0000 + 0x8 * k, 30, 1, 0⟩
def C.CNT_SEL.EDGE (i k : Nat) : Field := ⟨i, 0xF0000 + 0x8 * k, 29, 1, 0⟩
def C.CNT_SEL.MODE (i k : Nat) : Field := ⟨i, 0xF0000 + 0x8 * k, 24, 2, 0⟩
def C.CNT_SEL.ARG (i k : Nat) : Field := ⟨i, 0xF0000 + 0x8 * k, 12, 12, 0⟩
def C.CNT_SEL.EVENT (i k : Nat) : Field := ⟨i, 0xF0000 + 0x8 * k, 0, 12, 0⟩

def C.CNT.COUNT (i k : Nat) : Field := ⟨i, 0xF0100 + 0x8 * k, 0, 48, 0⟩

def C.CNT_OVF.OVF (i : Nat) : Field := ⟨i, 0xF0200, 0, 32, 0⟩

def C.CNT_CTL.FREEZE (i : Nat) : Field := ⟨i, 0xF0208, 0, 1, 0⟩
def C.CNT_CTL.CLEAR_ALL (i : Nat) : Field := ⟨i, 0xF0208, 1, 1, 0⟩
def C.CNT_CTL.VIEW_CORE (i : Nat) : Field := ⟨i, 0xF0208, 8, 1, 0⟩
def C.CNT_CTL.VIEW_HOST (i : Nat) : Field := ⟨i, 0xF0208, 9, 1, 0⟩

def C.CNT_SNAP_STAT.SEQ (i : Nat) : Field := ⟨i, 0xF0210, 0, 16, 0⟩
def C.CNT_SNAP_STAT.HELD (i : Nat) : Field := ⟨i, 0xF0210, 16, 1, 0⟩
def C.CNT_SNAP_STAT.T_LO (i : Nat) : Field := ⟨i, 0xF0210, 32, 32, 0⟩

def MI.SNAP_CMD.GO : Field := ⟨0, 0xA000, 0, 1, 0⟩
def MI.SNAP_CMD.AT_EN : Field := ⟨0, 0xA000, 1, 1, 0⟩

def MI.SNAP_AT.TIME : Field := ⟨0, 0xA008, 0, 64, 0⟩

def MI.SNAP_STAT.SNAP_SEQ : Field := ⟨0, 0xA010, 0, 16, 0⟩
def MI.SNAP_STAT.BUSY : Field := ⟨0, 0xA010, 16, 1, 0⟩
def MI.SNAP_STAT.DONE : Field := ⟨0, 0xA010, 17, 1, 0⟩
def MI.SNAP_STAT.MISSED : Field := ⟨0, 0xA010, 18, 1, 0⟩
def MI.SNAP_STAT.MISSED_MASK : Field := ⟨0, 0xA010, 32, 16, 0⟩

def MI.SNAP_TIME.TIME : Field := ⟨0, 0xA018, 0, 64, 0⟩

def BI.QSTAT.COUNT (q c : Nat) : Field := ⟨8, 0x80000 + 0x40 * q + 0x8 * c, 0, 64, 0⟩

def BI.QSTAT_OVF.OVF (q : Nat) : Field := ⟨8, 0x8D000 + 0x8 * q, 0, 7, 0⟩

def BI.PSTAT.COUNT (p c : Nat) : Field := ⟨8, 0x90000 + 0x40 * p + 0x8 * c, 0, 64, 0⟩

def BI.PSTAT_OVF.OVF (p : Nat) : Field := ⟨8, 0x92000 + 0x8 * p, 0, 6, 0⟩

def P.PS_CFG.N (p : Nat) : Field := ⟨5 + p, 0x700, 48, 16, 0x400⟩
def P.PS_CFG.MODE (p : Nat) : Field := ⟨5 + p, 0x700, 47, 1, 0⟩
def P.PS_CFG.STOP (p : Nat) : Field := ⟨5 + p, 0x700, 44, 1, 0⟩
def P.PS_CFG.JMASK (p : Nat) : Field := ⟨5 + p, 0x700, 16, 16, 0xFFFF⟩
def P.PS_CFG.EPOCH_EN (p : Nat) : Field := ⟨5 + p, 0x700, 8, 1, 0⟩
def P.PS_CFG.EPOCH (p : Nat) : Field := ⟨5 + p, 0x700, 4, 4, 0⟩
def P.PS_CFG.FREEZE (p : Nat) : Field := ⟨5 + p, 0x700, 1, 1, 0⟩
def P.PS_CFG.EN (p : Nat) : Field := ⟨5 + p, 0x700, 0, 1, 0⟩

def P.PS_SEED.SEED (p : Nat) : Field := ⟨5 + p, 0x708, 0, 32, 1⟩

def P.PS_STAT.WR_IDX (p : Nat) : Field := ⟨5 + p, 0x710, 0, 32, 0⟩
def P.PS_STAT.DROPPED (p : Nat) : Field := ⟨5 + p, 0x710, 32, 16, 0⟩
def P.PS_STAT.FULL (p : Nat) : Field := ⟨5 + p, 0x710, 48, 1, 0⟩
def P.PS_STAT.FULL_SEEN (p : Nat) : Field := ⟨5 + p, 0x710, 49, 1, 0⟩
def P.PS_STAT.OVF (p : Nat) : Field := ⟨5 + p, 0x710, 50, 1, 0⟩
def P.PS_STAT.DRAM_DROP (p : Nat) : Field := ⟨5 + p, 0x710, 56, 8, 0⟩

def P.PS_DRAM.BASE (p : Nat) : Field := ⟨5 + p, 0x718, 0, 35, 0⟩
def P.PS_DRAM.SIZE_LOG2 (p : Nat) : Field := ⟨5 + p, 0x718, 40, 5, 0xA⟩
def P.PS_DRAM.EN (p : Nat) : Field := ⟨5 + p, 0x718, 48, 1, 0⟩

def P.PS_BUF.DATA (p e k : Nat) : Field := ⟨5 + p, 0x4000 + 0x10 * e + 0x8 * k, 0, 64, 0⟩

def AO.PIN_STAT.FIELD_PRESENT : Field := ⟨1, 0x30, 7, 1, 0⟩
def AO.PIN_STAT.VDD_CORE_OK : Field := ⟨1, 0x30, 6, 1, 0⟩
def AO.PIN_STAT.TEST_MODE : Field := ⟨1, 0x30, 5, 1, 0⟩
def AO.PIN_STAT.HOLD_W : Field := ⟨1, 0x30, 4, 1, 0⟩
def AO.PIN_STAT.HOLD_E : Field := ⟨1, 0x30, 3, 1, 0⟩
def AO.PIN_STAT.PF : Field := ⟨1, 0x30, 2, 1, 0⟩
def AO.PIN_STAT.POWER_FAIL_N : Field := ⟨1, 0x30, 1, 1, 1⟩
def AO.PIN_STAT.RESET_N : Field := ⟨1, 0x30, 0, 1, 0⟩

end Sys2Proof.Machine
end

