-- ==== Sys2Proof/Machine/RegRows.lean ====
section
/-!
DEFINITION. The register tables as rows: which fields stand in the register at an offset of an island, under which access
code (00_scope.md, table "Access codes"), whether the host may write it, and whether it is a pop window (R12).
-/
namespace Sys2Proof.Machine

/-- The access codes of 00_scope.md. -/
inductive Acc where
  | ro | rw | wo | w1c | w1p | ros
deriving DecidableEq, Repr

/-- One dimension of an array of registers: how many, how far apart, and the index of the first. -/
structure Dim where
  count : Nat
  stride : Nat
  first : Nat
deriving DecidableEq, Repr

/-- One row of a register table. `fields` gives the fields for the indices of an array (the island-relative index first
where the row stands in several islands). -/
structure RegRow where
  off : Nat
  dims : List Dim
  hostWrites : Bool
  pop : Bool
  fields : List Nat → List (Field × Acc)

def rows0Part0 : List RegRow :=
  [
   /- MI.CHIP_ID -/ ⟨0x0, [], true, false, fun _ => [(MI.CHIP_ID.VENDOR, .ro), (MI.CHIP_ID.PART, .ro), (MI.CHIP_ID.STEP_LETTER, .ro), (MI.CHIP_ID.STEP_NUMBER, .ro), (MI.CHIP_ID.VARIANT, .ro)]⟩,
   /- MI.ACC_STAT -/ ⟨0x8, [], true, false, fun _ => [(MI.ACC_STAT.LAST_ADDR, .ro), (MI.ACC_STAT.LAST_ISLAND, .ro), (MI.ACC_STAT.LAST_SRC, .ro), (MI.ACC_STAT.NARROW_POP, .ros), (MI.ACC_STAT.UNMAPPED, .ros)]⟩,
   /- MI.ACC_CLR -/ ⟨0x10, [], true, false, fun _ => [(MI.ACC_CLR.NARROW_POP, .w1c), (MI.ACC_CLR.UNMAPPED, .w1c)]⟩,
   /- MI.MODE_STAT -/ ⟨0x20, [], true, false, fun _ => [(MI.MODE_STAT.CAUSE, .ro), (MI.MODE_STAT.PREV_MODE, .ro), (MI.MODE_STAT.IN_TRANSIT, .ro), (MI.MODE_STAT.MODE, .ro)]⟩,
   /- MI.DRAM_WIN -/ ⟨0x40, [], false, false, fun _ => [(MI.DRAM_WIN.OOR, .w1c), (MI.DRAM_WIN.PAGE, .rw)]⟩,
   /- MI.BAR4_WIN -/ ⟨0x48, [], true, false, fun _ => [(MI.BAR4_WIN.OOR, .w1c), (MI.BAR4_WIN.BASE, .rw)]⟩,
   /- MI.ISL_STAT -/ ⟨0x28, [], true, false, fun _ => [(MI.ISL_STAT.STATE, .ro)]⟩,
   /- MI.PMON_CFG -/ ⟨0x110, [⟨14, 0x8, 2⟩], true, false, fun ix => [(MI.PMON_CFG.EN (ix.getD 0 0), .rw), (MI.PMON_CFG.ACTION (ix.getD 0 0), .rw), (MI.PMON_CFG.TIMEOUT (ix.getD 0 0), .rw)]⟩,
   /- MI.PMON_STAT -/ ⟨0x190, [⟨14, 0x8, 2⟩], true, false, fun ix => [(MI.PMON_STAT.TRIP_CNT (ix.getD 0 0), .ro), (MI.PMON_STAT.TRIP_OVF (ix.getD 0 0), .w1c), (MI.PMON_STAT.TRIPPED (ix.getD 0 0), .w1c), (MI.PMON_STAT.LAST_CAUSE (ix.getD 0 0), .ro), (MI.PMON_STAT.LAST_OUTAGE (ix.getD 0 0), .ro)]⟩,
   /- MI.REPLAY_STAT -/ ⟨0x210, [⟨14, 0x8, 2⟩], true, false, fun ix => [(MI.REPLAY_STAT.ING_REPLAYED_OVF (ix.getD 0 0), .w1c), (MI.REPLAY_STAT.ING_REPLAYED (ix.getD 0 0), .ro), (MI.REPLAY_STAT.ING_SUPPRESSED_OVF (ix.getD 0 0), .w1c), (MI.REPLAY_STAT.ING_SUPPRESSED (ix.getD 0 0), .ro), (MI.REPLAY_STAT.EGR_REISSUED_OVF (ix.getD 0 0), .w1c), (MI.REPLAY_STAT.EGR_REISSUED (ix.getD 0 0), .ro), (MI.REPLAY_STAT.DUP_SENT_OVF (ix.getD 0 0), .w1c), (MI.REPLAY_STAT.DUP_SENT (ix.getD 0 0), .ro)]⟩,
   /- MI.ISL_CMD -/ ⟨0x280, [], false, false, fun _ => [(MI.ISL_CMD.OFF, .w1p), (MI.ISL_CMD.RESET, .w1p)]⟩,
   /- MI.PLL_STAT -/ ⟨0x288, [], true, false, fun _ => [(MI.PLL_STAT.UNLOCK, .w1c), (MI.PLL_STAT.LOCK, .ro)]⟩
  ]

def rows0Part1 : List RegRow :=
  [
   /- MI.BI_LOST -/ ⟨0x290, [], true, false, fun _ => [(MI.BI_LOST.OVF, .w1c), (MI.BI_LOST.COUNT, .ro)]⟩,
   /- MI.IMG_SRC -/ ⟨0x400, [], false, false, fun _ => [(MI.IMG_SRC.LEN, .rw), (MI.IMG_SRC.ADDR, .rw)]⟩,
   /- MI.IMG_CMD -/ ⟨0x408, [], false, false, fun _ => [(MI.IMG_CMD.ABORT, .w1p), (MI.IMG_CMD.COMMIT, .w1p), (MI.IMG_CMD.STAGE, .w1p), (MI.IMG_CMD.LOAD, .w1p), (MI.IMG_CMD.CHECK, .w1p)]⟩,
   /- MI.IMG_STAT -/ ⟨0x410, [], true, false, fun _ => [(MI.IMG_STAT.DETAIL, .ro), (MI.IMG_STAT.ERROR, .ro), (MI.IMG_STAT.CMD_DROPPED, .w1c), (MI.IMG_STAT.WR_REFUSED, .w1c), (MI.IMG_STAT.DRIFT, .ro), (MI.IMG_STAT.KEY_USED, .ro), (MI.IMG_STAT.STAGED, .ro), (MI.IMG_STAT.ERR, .w1c), (MI.IMG_STAT.PASS, .ro), (MI.IMG_STAT.BUSY, .ro), (MI.IMG_STAT.LAST_CMD, .ro)]⟩,
   /- MI.IMG_CONFIG_ID -/ ⟨0x418, [], true, false, fun _ => [(MI.IMG_CONFIG_ID.ID, .ro)]⟩,
   /- MI.IMG_FULL_ID -/ ⟨0x420, [], true, false, fun _ => [(MI.IMG_FULL_ID.ID, .ro)]⟩,
   /- MI.IMG_STAGED_ID -/ ⟨0x428, [], true, false, fun _ => [(MI.IMG_STAGED_ID.ID, .ro)]⟩,
   /- MI.IMG_ROLLBACK -/ ⟨0x430, [], true, false, fun _ => [(MI.IMG_ROLLBACK.VER, .ro)]⟩,
   /- MI.MODE_REQ -/ ⟨0x30, [], false, false, fun _ => [(MI.MODE_REQ.GO, .w1p), (MI.MODE_REQ.TARGET, .rw)]⟩,
   /- MI.MODE_REQ_STAT -/ ⟨0x38, [], true, false, fun _ => [(MI.MODE_REQ_STAT.REFUSE, .ro), (MI.MODE_REQ_STAT.LAST_TARGET, .ro), (MI.MODE_REQ_STAT.REFUSED, .w1c), (MI.MODE_REQ_STAT.PENDING, .ro)]⟩,
   /- MI.MODE_COND -/ ⟨0x50, [], true, false, fun _ => [(MI.MODE_COND.TRIP_ISLAND, .ro), (MI.MODE_COND.TRIG_TRIPS, .w1c), (MI.MODE_COND.TRIG_TIME, .w1c), (MI.MODE_COND.TRIG_RING, .w1c), (MI.MODE_COND.RING_USED, .ro), (MI.MODE_COND.TIME_OK, .ro), (MI.MODE_COND.JOIN_OK, .ro), (MI.MODE_COND.REPLAY_DONE, .ro), (MI.MODE_COND.ISLANDS_OK, .ro), (MI.MODE_COND.DRAM_READY, .rw), (MI.MODE_COND.IMAGE_OK, .ro)]⟩,
   /- MI.SN_CFG -/ ⟨0x68, [], true, false, fun _ => [(MI.SN_CFG.FATAL_LIMIT, .rw), (MI.SN_CFG.TRIP_WINDOW, .rw), (MI.SN_CFG.TRIP_LIMIT, .rw), (MI.SN_CFG.TRIPS_EN, .rw), (MI.SN_CFG.TIME_EN, .rw), (MI.SN_CFG.RING_EN, .rw), (MI.SN_CFG.RING_GRACE, .rw)]⟩
  ]

def rows0Part2 : List RegRow :=
  [
   /- MI.SN_SCENE -/ ⟨0x70, [], true, false, fun _ => [(MI.SN_SCENE.SENT_CNT, .ro), (MI.SN_SCENE.EN, .rw), (MI.SN_SCENE.GROUP, .rw), (MI.SN_SCENE.SCENE, .rw)]⟩,
   /- MI.BOOT_STAT -/ ⟨0x60, [], true, false, fun _ => [(MI.BOOT_STAT.TAG_IMPORTED, .ro), (MI.BOOT_STAT.SLOT_B_ERR, .ro), (MI.BOOT_STAT.SLOT_A_ERR, .ro), (MI.BOOT_STAT.SLOT_B_FAIL, .ros), (MI.BOOT_STAT.SLOT_A_FAIL, .ros), (MI.BOOT_STAT.SLOT_LOADED, .ro), (MI.BOOT_STAT.PHASE, .ro)]⟩,
   /- MI.RST_CMD -/ ⟨0x58, [], true, false, fun _ => [(MI.RST_CMD.KEY, .wo), (MI.RST_CMD.HOST_RESET, .w1p), (MI.RST_CMD.FW_RESET, .w1p)]⟩,
   /- MI.I2C_CFG -/ ⟨0x800, [⟨4, 0x8, 0⟩], false, false, fun ix => [(MI.I2C_CFG.EN (ix.getD 0 0), .rw), (MI.I2C_CFG.MODE (ix.getD 0 0), .rw), (MI.I2C_CFG.TIMEOUT (ix.getD 0 0), .rw)]⟩,
   /- MI.I2C_XFER -/ ⟨0x820, [⟨4, 0x8, 0⟩], false, false, fun ix => [(MI.I2C_XFER.GO (ix.getD 0 0), .w1p), (MI.I2C_XFER.BUS_CLEAR (ix.getD 0 0), .w1p), (MI.I2C_XFER.ADDR (ix.getD 0 0), .rw), (MI.I2C_XFER.RD_LEN (ix.getD 0 0), .rw), (MI.I2C_XFER.WR_LEN (ix.getD 0 0), .rw)]⟩,
   /- MI.I2C_STAT -/ ⟨0x840, [⟨4, 0x8, 0⟩], false, false, fun ix => [(MI.I2C_STAT.NACK_AT (ix.getD 0 0), .ro), (MI.I2C_STAT.TIMEOUT (ix.getD 0 0), .w1c), (MI.I2C_STAT.ARB_LOST (ix.getD 0 0), .w1c), (MI.I2C_STAT.NACK (ix.getD 0 0), .w1c), (MI.I2C_STAT.DONE (ix.getD 0 0), .w1c), (MI.I2C_STAT.BUSY (ix.getD 0 0), .ro)]⟩,
   /- MI.I2C_BUF -/ ⟨0x900, [⟨4, 0x20, 0⟩, ⟨4, 0x8, 0⟩], false, false, fun ix => [(MI.I2C_BUF.DATA (ix.getD 0 0) (ix.getD 1 0), .rw)]⟩,
   /- MI.EPOCH_CFG -/ ⟨0x500, [], false, false, fun _ => [(MI.EPOCH_CFG.RETIRE_WARN, .rw), (MI.EPOCH_CFG.ALIGN, .rw)]⟩,
   /- MI.EPOCH_AT -/ ⟨0x508, [], false, false, fun _ => [(MI.EPOCH_AT.TIME, .rw)]⟩,
   /- MI.EPOCH_CMD -/ ⟨0x510, [], false, false, fun _ => [(MI.EPOCH_CMD.ABORT, .w1p), (MI.EPOCH_CMD.COMMIT, .w1p)]⟩,
   /- MI.EPOCH_STAT -/ ⟨0x518, [], false, false, fun _ => [(MI.EPOCH_STAT.ERROR, .ro), (MI.EPOCH_STAT.RETIRE_SLOW, .w1c), (MI.EPOCH_STAT.ABORT_DONE, .w1c), (MI.EPOCH_STAT.RETIRED, .w1c), (MI.EPOCH_STAT.SLIPPED, .w1c), (MI.EPOCH_STAT.SWITCH_WAIT, .ro), (MI.EPOCH_STAT.PENDING, .ro), (MI.EPOCH_STAT.STAGED_DIRTY, .ro), (MI.EPOCH_STAT.RETIRING_VALID, .ro), (MI.EPOCH_STAT.COMMIT_CNT, .ro), (MI.EPOCH_STAT.STAGED, .ro), (MI.EPOCH_STAT.RETIRING, .ro), (MI.EPOCH_STAT.CURRENT, .ro)]⟩,
   /- MI.EPOCH_INFL -/ ⟨0x520, [], false, false, fun _ => [(MI.EPOCH_INFL.TRIAL, .ro), (MI.EPOCH_INFL.RETIRING, .ro), (MI.EPOCH_INFL.CURRENT, .ro)]⟩
  ]

def rows0Part3 : List RegRow :=
  [
   /- MI.TBL_MODE -/ ⟨0x528, [], false, false, fun _ => [(MI.TBL_MODE.PAUSE, .rw)]⟩,
   /- MI.TUPD_ADDR -/ ⟨0x540, [], false, false, fun _ => [(MI.TUPD_ADDR.OP, .rw), (MI.TUPD_ADDR.TABLE, .rw), (MI.TUPD_ADDR.INDEX, .rw)]⟩,
   /- MI.TUPD_DATA -/ ⟨0x548, [⟨8, 0x8, 0⟩], false, false, fun ix => [(MI.TUPD_DATA.DATA (ix.getD 0 0), .rw)]⟩,
   /- MI.TUPD_PORTS -/ ⟨0x588, [⟨2, 0x8, 0⟩], false, false, fun ix => [(MI.TUPD_PORTS.PORTS (ix.getD 0 0), .rw)]⟩,
   /- MI.TUPD_CMD -/ ⟨0x598, [], false, false, fun _ => [(MI.TUPD_CMD.PAUSE_DISCARD, .w1p), (MI.TUPD_CMD.PAUSE_GO, .w1p), (MI.TUPD_CMD.GO, .w1p)]⟩,
   /- MI.TUPD_STAT -/ ⟨0x5A0, [], false, false, fun _ => [(MI.TUPD_STAT.PAUSE_LAST_NS, .ro), (MI.TUPD_STAT.BATCH_LEN, .ro), (MI.TUPD_STAT.ERROR, .ro), (MI.TUPD_STAT.PAUSE_FAIL, .w1c), (MI.TUPD_STAT.PAUSE_DONE, .w1c), (MI.TUPD_STAT.PAUSE_RUNNING, .ro), (MI.TUPD_STAT.ERR, .w1c)]⟩,
   /- MI.MTIME -/ ⟨0xC00, [], false, false, fun _ => [(MI.MTIME.TIME, .rw)]⟩,
   /- MI.MTIMECMP -/ ⟨0xC08, [], false, false, fun _ => [(MI.MTIMECMP.TIME, .rw)]⟩,
   /- MI.MSIP -/ ⟨0xC10, [], false, false, fun _ => [(MI.MSIP.MSIP, .rw)]⟩,
   /- MI.IC_CFG -/ ⟨0x1000, [⟨128, 0x8, 0⟩], false, false, fun ix => [(MI.IC_CFG.VEC (ix.getD 0 0), .rw), (MI.IC_CFG.TARGET (ix.getD 0 0), .rw), (MI.IC_CFG.INSVC (ix.getD 0 0), .ro), (MI.IC_CFG.PRIO (ix.getD 0 0), .rw)]⟩,
   /- MI.IC_PEND -/ ⟨0x1400, [⟨2, 0x8, 0⟩], false, false, fun ix => [(MI.IC_PEND.PEND (ix.getD 0 0), .ro)]⟩,
   /- MI.IC_THRESH -/ ⟨0x1410, [], false, false, fun _ => [(MI.IC_THRESH.THRESH, .rw)]⟩
  ]

def rows0Part4 : List RegRow :=
  [
   /- MI.IC_CLAIM -/ ⟨0x1418, [], false, true, fun _ => []⟩,
   /- MI.IC_COMPLETE -/ ⟨0x1420, [], false, false, fun _ => [(MI.IC_COMPLETE.SOURCE, .wo)]⟩,
   /- MI.IC_HEOI -/ ⟨0x1428, [], true, false, fun _ => [(MI.IC_HEOI.VEC, .w1c)]⟩,
   /- MI.PCIE_ID -/ ⟨0x2000, [], false, false, fun _ => [(MI.PCIE_ID.VENDOR, .ro), (MI.PCIE_ID.DEVICE, .ro), (MI.PCIE_ID.REVISION, .ro)]⟩,
   /- MI.PCIE_STAT -/ ⟨0x2008, [], false, false, fun _ => [(MI.PCIE_STAT.LINK_UP, .ro), (MI.PCIE_STAT.SPEED, .ro), (MI.PCIE_STAT.WIDTH, .ro), (MI.PCIE_STAT.BME, .ro), (MI.PCIE_STAT.MSIX_EN, .ro), (MI.PCIE_STAT.FUNC_MASK, .ro)]⟩,
   /- MI.PCIE_EVT -/ ⟨0x2010, [], false, false, fun _ => [(MI.PCIE_EVT.LINK_CHG, .w1c), (MI.PCIE_EVT.PERST_SEEN, .w1c), (MI.PCIE_EVT.BAD_BE, .w1c), (MI.PCIE_EVT.POISON_IN, .w1c), (MI.PCIE_EVT.UR_SENT, .w1c), (MI.PCIE_EVT.CPL_TIMEOUT, .w1c), (MI.PCIE_EVT.BAD_BE_CNT, .ro)]⟩,
   /- MI.DMA_CTL -/ ⟨0x3000, [⟨4, 0x20, 0⟩], false, false, fun ix => [(MI.DMA_CTL.EN (ix.getD 0 0), .rw), (MI.DMA_CTL.SIZE_LOG2 (ix.getD 0 0), .rw)]⟩,
   /- MI.DMA_STAT -/ ⟨0x3008, [⟨4, 0x20, 0⟩], false, false, fun ix => [(MI.DMA_STAT.DONE (ix.getD 0 0), .ro), (MI.DMA_STAT.HALTED (ix.getD 0 0), .ro), (MI.DMA_STAT.DESC_DONE (ix.getD 0 0), .w1c), (MI.DMA_STAT.ERR (ix.getD 0 0), .w1c), (MI.DMA_STAT.ERR_CODE (ix.getD 0 0), .ro), (MI.DMA_STAT.CONS (ix.getD 0 0), .ro)]⟩,
   /- MI.DMA_BASE -/ ⟨0x3010, [⟨4, 0x20, 0⟩], false, false, fun ix => [(MI.DMA_BASE.ADDR (ix.getD 0 0), .rw)]⟩,
   /- MI.DMA_PROD -/ ⟨0x3018, [⟨4, 0x20, 0⟩], false, false, fun ix => [(MI.DMA_PROD.PROD (ix.getD 0 0), .rw)]⟩,
   /- MI.SENS -/ ⟨0x5000, [⟨13, 0x8, 0⟩], false, false, fun ix => [(MI.SENS.VALUE (ix.getD 0 0), .ro), (MI.SENS.MIN (ix.getD 0 0), .ro), (MI.SENS.MAX (ix.getD 0 0), .ro), (MI.SENS.VALID (ix.getD 0 0), .ro), (MI.SENS.HI_SEEN (ix.getD 0 0), .w1c), (MI.SENS.LO_SEEN (ix.getD 0 0), .w1c)]⟩,
   /- MI.SENS_LIM -/ ⟨0x5080, [⟨13, 0x8, 0⟩], false, false, fun ix => [(MI.SENS_LIM.LO (ix.getD 0 0), .rw), (MI.SENS_LIM.HI (ix.getD 0 0), .rw), (MI.SENS_LIM.EN (ix.getD 0 0), .rw)]⟩
  ]

def rows0Part5 : List RegRow :=
  [
   /- MI.SENS_CMD -/ ⟨0x5100, [], false, false, fun _ => [(MI.SENS_CMD.MINMAX_CLR, .w1p)]⟩,
   /- MI.MSIX_TABLE -/ ⟨0x6000, [⟨32, 0x10, 0⟩, ⟨2, 0x8, 0⟩], true, false, fun ix => [(MI.MSIX_TABLE.DATA (ix.getD 0 0) (ix.getD 1 0), .rw)]⟩,
   /- MI.MSIX_PBA -/ ⟨0x6800, [], false, false, fun _ => [(MI.MSIX_PBA.PBA, .ro)]⟩,
   /- MI.MBX_H2C -/ ⟨0x7000, [⟨256, 0x8, 0⟩], true, false, fun ix => [(MI.MBX_H2C.DATA (ix.getD 0 0), .rw)]⟩,
   /- MI.MBX_C2H -/ ⟨0x7800, [⟨224, 0x8, 0⟩], false, false, fun ix => [(MI.MBX_C2H.DATA (ix.getD 0 0), .rw)]⟩,
   /- MI.MBX_H2C_SET -/ ⟨0x7F00, [], true, false, fun _ => [(MI.MBX_H2C_SET.SET, .w1p)]⟩,
   /- MI.MBX_H2C_BELL -/ ⟨0x7F08, [], false, false, fun _ => [(MI.MBX_H2C_BELL.BELL, .w1c)]⟩,
   /- MI.MBX_C2H_SET -/ ⟨0x7F10, [], false, false, fun _ => [(MI.MBX_C2H_SET.SET, .w1p)]⟩,
   /- MI.MBX_C2H_BELL -/ ⟨0x7F18, [], true, false, fun _ => [(MI.MBX_C2H_BELL.BELL, .w1c)]⟩,
   /- MI.MBX_RSVD -/ ⟨0x7F20, [⟨28, 0x8, 0⟩], false, false, fun ix => [(MI.MBX_RSVD.ZERO (ix.getD 0 0), .ro)]⟩,
   /- MI.SRAM_ECC -/ ⟨0x8100, [], false, false, fun _ => [(MI.SRAM_ECC.CORR_SEEN, .w1c), (MI.SRAM_ECC.UNCORR_SEEN, .w1c), (MI.SRAM_ECC.HOST_DROP, .ro), (MI.SRAM_ECC.UNCORR, .ro), (MI.SRAM_ECC.OVF, .w1c), (MI.SRAM_ECC.CORR, .ro)]⟩,
   /- MI.WDT_CFG -/ ⟨0x4000, [], false, false, fun _ => [(MI.WDT_CFG.EN, .rw), (MI.WDT_CFG.GRACE_MS, .rw), (MI.WDT_CFG.WARN_MS, .rw), (MI.WDT_CFG.TIMEOUT_MS, .rw)]⟩
  ]

def rows0Part6 : List RegRow :=
  [
   /- MI.WDT_SVC -/ ⟨0x4008, [], false, false, fun _ => [(MI.WDT_SVC.KEY, .wo)]⟩,
   /- MI.WDT_STAT -/ ⟨0x4010, [], false, false, fun _ => [(MI.WDT_STAT.EXPIRED_CNT, .ro), (MI.WDT_STAT.REFUSED, .ro), (MI.WDT_STAT.REMAIN, .ro), (MI.WDT_STAT.GUARD_OUT, .w1c), (MI.WDT_STAT.ERASE_SUSP, .ro), (MI.WDT_STAT.DEBUG_FROZEN, .ro), (MI.WDT_STAT.OVF, .w1c), (MI.WDT_STAT.REFUSED_SEEN, .w1c), (MI.WDT_STAT.WARNED, .w1c)]⟩,
   /- MI.WDT_EVID_PC -/ ⟨0x4018, [], false, false, fun _ => [(MI.WDT_EVID_PC.VALID, .ro), (MI.WDT_EVID_PC.DEBUG_HALTED, .ro), (MI.WDT_EVID_PC.PRIV, .ro), (MI.WDT_EVID_PC.PC, .ro)]⟩,
   /- MI.WDT_LAST_SVC -/ ⟨0x4020, [], false, false, fun _ => [(MI.WDT_LAST_SVC.WALL_NS, .ro)]⟩,
   /- MI.FLASH_CMD -/ ⟨0x9000, [], false, false, fun _ => [(MI.FLASH_CMD.OP, .rw), (MI.FLASH_CMD.LEN_M1, .rw), (MI.FLASH_CMD.GO, .w1p)]⟩,
   /- MI.FLASH_ADDR -/ ⟨0x9008, [], false, false, fun _ => [(MI.FLASH_ADDR.ADDR, .rw)]⟩,
   /- MI.FLASH_SRC -/ ⟨0x9010, [], false, false, fun _ => [(MI.FLASH_SRC.ADDR, .rw)]⟩,
   /- MI.FLASH_STAT -/ ⟨0x9018, [], false, false, fun _ => [(MI.FLASH_STAT.BUSY, .ro), (MI.FLASH_STAT.DONE, .w1c), (MI.FLASH_STAT.DEFERRED, .w1c), (MI.FLASH_STAT.REFUSED, .w1c), (MI.FLASH_STAT.ERASING, .ro), (MI.FLASH_STAT.SIZE_MISMATCH, .ro), (MI.FLASH_STAT.REFUSE, .ro), (MI.FLASH_STAT.SIZE_MIB, .ro)]⟩,
   /- MI.HU_CFG -/ ⟨0x9100, [], false, false, fun _ => [(MI.HU_CFG.CAP_UF, .rw), (MI.HU_CFG.VMIN_MV, .rw), (MI.HU_CFG.SCALE, .rw)]⟩,
   /- MI.HU_STAT -/ ⟨0x9108, [], false, false, fun _ => [(MI.HU_STAT.E_MJ, .ro), (MI.HU_STAT.DEFER_CNT, .ro), (MI.HU_STAT.DEFERRED_SEEN, .w1c), (MI.HU_STAT.PF, .ro), (MI.HU_STAT.PF_SEEN, .w1c), (MI.HU_STAT.FLUSH_DONE, .w1c), (MI.HU_STAT.FLUSH_SHORT, .w1c), (MI.HU_STAT.OVF, .w1c)]⟩,
   /- MI.JNL_REC -/ ⟨0x9200, [⟨8, 0x8, 0⟩], false, false, fun ix => [(MI.JNL_REC.DATA (ix.getD 0 0), .rw)]⟩,
   /- MI.JNL_CMD -/ ⟨0x9240, [], false, false, fun _ => [(MI.JNL_CMD.APPEND, .w1p), (MI.JNL_CMD.COPY, .w1p), (MI.JNL_CMD.ERASE_OLDEST, .w1p)]⟩
  ]

def rows0Part7 : List RegRow :=
  [
   /- MI.JNL_COPY -/ ⟨0x9248, [], false, false, fun _ => [(MI.JNL_COPY.OFS, .rw)]⟩,
   /- MI.JNL_CFG -/ ⟨0x9250, [], false, false, fun _ => [(MI.JNL_CFG.LOW_KIB, .rw)]⟩,
   /- MI.JNL_SEQ -/ ⟨0x9258, [], false, false, fun _ => [(MI.JNL_SEQ.LAST_SEQ, .ro), (MI.JNL_SEQ.DURABLE_SEQ, .ro)]⟩,
   /- MI.JNL_STAT -/ ⟨0x9260, [], false, false, fun _ => [(MI.JNL_STAT.QUEUED, .ro), (MI.JNL_STAT.ERROR, .ro), (MI.JNL_STAT.FREE_BLOCKS, .ro), (MI.JNL_STAT.TORN, .ro), (MI.JNL_STAT.LOST, .ro), (MI.JNL_STAT.LOW, .w1c), (MI.JNL_STAT.LOST_SEEN, .w1c), (MI.JNL_STAT.ERR, .w1c), (MI.JNL_STAT.OVF, .w1c)]⟩,
   /- MI.RPLY_CFG -/ ⟨0x9300, [], false, false, fun _ => [(MI.RPLY_CFG.PORAN_EN, .rw), (MI.RPLY_CFG.SCHED_WAIT_S, .rw), (MI.RPLY_CFG.LOOKBACK_S, .rw), (MI.RPLY_CFG.SETTLE_MS, .rw)]⟩,
   /- MI.RPLY_STAT -/ ⟨0x9308, [], false, false, fun _ => [(MI.RPLY_STAT.EPOCHS, .ro), (MI.RPLY_STAT.REISSUED, .ro), (MI.RPLY_STAT.LATE, .ro), (MI.RPLY_STAT.SCALE_SKIP, .ro), (MI.RPLY_STAT.TPL_MISSING, .ro), (MI.RPLY_STAT.CHAIN_BROKEN, .ro), (MI.RPLY_STAT.EPOCH_PARTIAL, .ro), (MI.RPLY_STAT.SCHED_TIMEOUT, .ro), (MI.RPLY_STAT.TRIAL_EXHAUSTED, .ro), (MI.RPLY_STAT.TRIES_DEFERRED, .ro), (MI.RPLY_STAT.IN_TRIAL, .ro)]⟩,
   /- MI.RPLY_LATE -/ ⟨0x9310, [], false, true, fun _ => []⟩,
   /- MI.LOG_BASE -/ ⟨0x9400, [], false, false, fun _ => [(MI.LOG_BASE.BASE, .rw), (MI.LOG_BASE.SIZE_LOG2, .rw), (MI.LOG_BASE.EN, .rw)]⟩,
   /- MI.LOG_IDX -/ ⟨0x9408, [], false, false, fun _ => [(MI.LOG_IDX.PROD, .ro), (MI.LOG_IDX.CONS, .rw)]⟩,
   /- MI.LOG_STAT -/ ⟨0x9410, [], false, false, fun _ => [(MI.LOG_STAT.LOST, .ro), (MI.LOG_STAT.LOST_SEEN, .w1c)]⟩,
   /- MI.SNAP_CMD -/ ⟨0xA000, [], false, false, fun _ => [(MI.SNAP_CMD.GO, .w1p), (MI.SNAP_CMD.AT_EN, .rw)]⟩,
   /- MI.SNAP_AT -/ ⟨0xA008, [], false, false, fun _ => [(MI.SNAP_AT.TIME, .rw)]⟩
  ]

def rows0Part8 : List RegRow :=
  [
   /- MI.SNAP_STAT -/ ⟨0xA010, [], false, false, fun _ => [(MI.SNAP_STAT.SNAP_SEQ, .ro), (MI.SNAP_STAT.BUSY, .ro), (MI.SNAP_STAT.DONE, .w1c), (MI.SNAP_STAT.MISSED, .w1c), (MI.SNAP_STAT.MISSED_MASK, .ro)]⟩,
   /- MI.SNAP_TIME -/ ⟨0xA018, [], false, false, fun _ => [(MI.SNAP_TIME.TIME, .ro)]⟩
  ]

def rows0 : List RegRow := rows0Part0 ++ rows0Part1 ++ rows0Part2 ++ rows0Part3 ++ rows0Part4 ++ rows0Part5 ++ rows0Part6 ++ rows0Part7 ++ rows0Part8

def rows1Part0 : List RegRow :=
  [
   /- AO.KEYHASH -/ ⟨0x100, [⟨2, 0x20, 0⟩, ⟨4, 0x8, 0⟩], true, false, fun ix => [(AO.KEYHASH.HASH (ix.getD 0 0) (ix.getD 1 0), .ro)]⟩,
   /- AO.FUSE_STAT -/ ⟨0x140, [], true, false, fun _ => [(AO.FUSE_STAT.KEY1_PARTIAL, .ro), (AO.FUSE_STAT.KEY0_PARTIAL, .ro), (AO.FUSE_STAT.FIELD_SEAL, .ro), (AO.FUSE_STAT.KEY1_REVOKED, .ro), (AO.FUSE_STAT.KEY0_REVOKED, .ro), (AO.FUSE_STAT.KEY1_PROG, .ro), (AO.FUSE_STAT.KEY0_PROG, .ro)]⟩,
   /- AO.ROLLBACK_CNT -/ ⟨0x148, [], true, false, fun _ => [(AO.ROLLBACK_CNT.COUNT, .ro)]⟩,
   /- AO.FUSE_DATA -/ ⟨0x160, [⟨4, 0x8, 0⟩], false, false, fun ix => [(AO.FUSE_DATA.DATA (ix.getD 0 0), .rw)]⟩,
   /- AO.FUSE_PROG -/ ⟨0x180, [], false, false, fun _ => [(AO.FUSE_PROG.FAIL, .w1c), (AO.FUSE_PROG.BUSY, .ro), (AO.FUSE_PROG.GO, .w1p), (AO.FUSE_PROG.SLOT, .rw), (AO.FUSE_PROG.OP, .rw)]⟩,
   /- AO.RST_CAUSE -/ ⟨0x20, [], true, false, fun _ => [(AO.RST_CAUSE.RST_CNT, .ro), (AO.RST_CAUSE.SEEN, .w1c), (AO.RST_CAUSE.LAST, .ro)]⟩,
   /- AO.SIDEBAND -/ ⟨0x200, [], false, false, fun _ => [(AO.SIDEBAND.DEB_MS, .rw), (AO.SIDEBAND.FA_RELEASE, .w1c), (AO.SIDEBAND.FA_ASSERT, .w1c), (AO.SIDEBAND.SB, .ro), (AO.SIDEBAND.FA, .ro), (AO.SIDEBAND.FA_PIN, .ro)]⟩,
   /- AO.TAG_STAT -/ ⟨0x400, [], false, false, fun _ => [(AO.TAG_STAT.FIELD_COMMITS, .ro), (AO.TAG_STAT.WIRED_REFUSED, .ro), (AO.TAG_STAT.LAST_ERR, .ro), (AO.TAG_STAT.CNT_OVF, .w1c), (AO.TAG_STAT.WIRED_DONE, .w1c), (AO.TAG_STAT.FIELD_COMMIT, .w1c), (AO.TAG_STAT.FIELD_CHG, .w1c), (AO.TAG_STAT.BUSY, .ro), (AO.TAG_STAT.OWNED_FLAG, .ro), (AO.TAG_STAT.SESSION, .ro), (AO.TAG_STAT.FIELD, .ro)]⟩,
   /- AO.TAG_OWN -/ ⟨0x408, [], false, false, fun _ => [(AO.TAG_OWN.FIELD, .ro), (AO.TAG_OWN.WIRED, .ro)]⟩,
   /- AO.TAG_PEND -/ ⟨0x410, [], false, false, fun _ => [(AO.TAG_PEND.PEND, .w1c)]⟩,
   /- AO.TAG_CMD -/ ⟨0x418, [], false, false, fun _ => [(AO.TAG_CMD.PAGE, .rw), (AO.TAG_CMD.OP, .rw), (AO.TAG_CMD.GO, .w1p), (AO.TAG_CMD.TOKEN, .rw)]⟩,
   /- AO.TAG_BLANK -/ ⟨0x420, [], false, false, fun _ => [(AO.TAG_BLANK.BLANK, .ro)]⟩
  ]

def rows1Part1 : List RegRow :=
  [
   /- AO.TAG_UID -/ ⟨0x428, [], false, false, fun _ => [(AO.TAG_UID.UID, .ro)]⟩,
   /- AO.TAG_BUF -/ ⟨0x440, [⟨32, 0x8, 0⟩], false, false, fun ix => [(AO.TAG_BUF.DATA (ix.getD 0 0), .rw)]⟩,
   /- AO.TAG_TOKEN -/ ⟨0x540, [⟨12, 0x8, 0⟩], false, false, fun ix => [(AO.TAG_TOKEN.DATA (ix.getD 0 0), .rw)]⟩,
   /- AO.ROLLBACK_ADV -/ ⟨0x190, [], false, false, fun _ => [(AO.ROLLBACK_ADV.VALUE, .rw)]⟩,
   /- AO.ROLLBACK_CTL -/ ⟨0x198, [], false, false, fun _ => [(AO.ROLLBACK_CTL.GO, .w1p), (AO.ROLLBACK_CTL.BUSY, .ro), (AO.ROLLBACK_CTL.FAIL, .w1c), (AO.ROLLBACK_CTL.ADV_LEFT, .ro)]⟩,
   /- AO.SEAL_CMD -/ ⟨0x1A0, [], false, false, fun _ => [(AO.SEAL_CMD.GO, .w1p), (AO.SEAL_CMD.KEY, .wo), (AO.SEAL_CMD.BUSY, .ro), (AO.SEAL_CMD.FAIL, .w1c), (AO.SEAL_CMD.FAIL_AT, .ro)]⟩,
   /- AO.PIN_STAT -/ ⟨0x30, [], false, false, fun _ => [(AO.PIN_STAT.FIELD_PRESENT, .ro), (AO.PIN_STAT.VDD_CORE_OK, .ro), (AO.PIN_STAT.TEST_MODE, .ro), (AO.PIN_STAT.HOLD_W, .ro), (AO.PIN_STAT.HOLD_E, .ro), (AO.PIN_STAT.PF, .ro), (AO.PIN_STAT.POWER_FAIL_N, .ro), (AO.PIN_STAT.RESET_N, .ro)]⟩
  ]

def rows1 : List RegRow := rows1Part0 ++ rows1Part1

def rowsPIPart0 : List RegRow :=
  [
   /- PI.PORT_CTL -/ ⟨0x1000, [⟨16, 0x8, 0⟩], false, false, fun ix => [(PI.PORT_CTL.LINK_FLUSH (ix.getD 0 0) (ix.getD 1 0), .rw), (PI.PORT_CTL.PAUSE_HONOUR (ix.getD 0 0) (ix.getD 1 0), .rw), (PI.PORT_CTL.EN (ix.getD 0 0) (ix.getD 1 0), .rw)]⟩,
   /- PI.PORT_STAT -/ ⟨0x1080, [⟨16, 0x8, 0⟩], false, false, fun ix => [(PI.PORT_STAT.LINK_DOWN_CNT (ix.getD 0 0) (ix.getD 1 0), .ro), (PI.PORT_STAT.HELD (ix.getD 0 0) (ix.getD 1 0), .ro), (PI.PORT_STAT.HDX_REFUSED (ix.getD 0 0) (ix.getD 1 0), .w1c), (PI.PORT_STAT.LINK_CHG (ix.getD 0 0) (ix.getD 1 0), .w1c), (PI.PORT_STAT.DONE (ix.getD 0 0) (ix.getD 1 0), .ro), (PI.PORT_STAT.SPEED (ix.getD 0 0) (ix.getD 1 0), .ro), (PI.PORT_STAT.LINK (ix.getD 0 0) (ix.getD 1 0), .ro)]⟩,
   /- PI.PORT_CNT -/ ⟨0x2000, [⟨16, 0x80, 0⟩, ⟨16, 0x8, 0⟩], false, false, fun ix => [(PI.PORT_CNT.COUNT (ix.getD 0 0) (ix.getD 1 0) (ix.getD 2 0), .ro)]⟩,
   /- PI.PORT_CNT_OVF -/ ⟨0x2800, [⟨16, 0x8, 0⟩], false, false, fun ix => [(PI.PORT_CNT_OVF.OVF (ix.getD 0 0) (ix.getD 1 0), .w1c)]⟩
  ]

def rowsPI : List RegRow := rowsPIPart0

def rows4Part0 : List RegRow :=
  [
   /- UI.PORT_CTL -/ ⟨0x1000, [⟨3, 0x8, 0⟩], false, false, fun ix => [(UI.PORT_CTL.LINK_FLUSH (ix.getD 0 0), .rw), (UI.PORT_CTL.PAUSE_HONOUR (ix.getD 0 0), .rw), (UI.PORT_CTL.EN (ix.getD 0 0), .rw)]⟩,
   /- UI.PORT_STAT -/ ⟨0x1080, [⟨3, 0x8, 0⟩], false, false, fun ix => [(UI.PORT_STAT.LINK_DOWN_CNT (ix.getD 0 0), .ro), (UI.PORT_STAT.HELD (ix.getD 0 0), .ro), (UI.PORT_STAT.LINK_CHG (ix.getD 0 0), .w1c), (UI.PORT_STAT.DONE (ix.getD 0 0), .ro), (UI.PORT_STAT.FAULT (ix.getD 0 0), .ro), (UI.PORT_STAT.SPEED (ix.getD 0 0), .ro), (UI.PORT_STAT.LINK (ix.getD 0 0), .ro)]⟩,
   /- UI.PORT_CNT -/ ⟨0x2000, [⟨3, 0x80, 0⟩, ⟨16, 0x8, 0⟩], false, false, fun ix => [(UI.PORT_CNT.COUNT (ix.getD 0 0) (ix.getD 1 0), .ro)]⟩,
   /- UI.PORT_CNT_OVF -/ ⟨0x2800, [⟨3, 0x8, 0⟩], false, false, fun ix => [(UI.PORT_CNT_OVF.OVF (ix.getD 0 0), .w1c)]⟩,
   /- UI.SFP_IO -/ ⟨0x1100, [⟨2, 0x8, 0⟩], false, false, fun ix => [(UI.SFP_IO.TX_DISABLE (ix.getD 0 0), .rw), (UI.SFP_IO.MOD_ABS (ix.getD 0 0), .ro), (UI.SFP_IO.RX_LOS (ix.getD 0 0), .ro), (UI.SFP_IO.TX_FAULT (ix.getD 0 0), .ro)]⟩
  ]

def rows4 : List RegRow := rows4Part0

def rows8Part0 : List RegRow :=
  [
   /- BI.PWR_CFG -/ ⟨0xF000, [], false, false, fun _ => [(BI.PWR_CFG.STEP, .rw), (BI.PWR_CFG.HORIZON, .rw), (BI.PWR_CFG.EN, .rw)]⟩,
   /- BI.PWR_DOM -/ ⟨0xF008, [⟨8, 0x8, 0⟩], false, false, fun ix => [(BI.PWR_DOM.SUM_ALLOC (ix.getD 0 0), .ro), (BI.PWR_DOM.RISE_MAX (ix.getD 0 0), .rw), (BI.PWR_DOM.BUDGET (ix.getD 0 0), .rw)]⟩,
   /- BI.PWR_STAT -/ ⟨0xF050, [], false, false, fun _ => [(BI.PWR_STAT.DEFERRED, .ro), (BI.PWR_STAT.OVER_RISE, .ro), (BI.PWR_STAT.CNT_OVF, .w1c), (BI.PWR_STAT.OVER_RISE_SEEN, .w1c), (BI.PWR_STAT.ALLOC_REFUSED, .w1c)]⟩,
   /- BI.PWR_PORT -/ ⟨0xF100, [⟨96, 0x8, 0⟩], false, false, fun ix => [(BI.PWR_PORT.DOMAIN (ix.getD 0 0), .ro), (BI.PWR_PORT.L_CUR (ix.getD 0 0), .ro), (BI.PWR_PORT.P_FULL (ix.getD 0 0), .rw), (BI.PWR_PORT.ALLOC (ix.getD 0 0), .rw)]⟩,
   /- BI.BUF_STAT -/ ⟨0x0, [], false, false, fun _ => [(BI.BUF_STAT.STAGE_USED, .ro), (BI.BUF_STAT.RESERVE_USED, .ro), (BI.BUF_STAT.FREE_SHARED, .ro)]⟩,
   /- BI.BUF_CFG -/ ⟨0x8, [], false, false, fun _ => [(BI.BUF_CFG.STAGE_MAX, .ro), (BI.BUF_CFG.SHARED_TOTAL, .ro)]⟩,
   /- BI.ADM_CNT -/ ⟨0x10, [⟨4, 0x8, 0⟩], false, false, fun ix => [(BI.ADM_CNT.OVF (ix.getD 0 0), .w1c), (BI.ADM_CNT.COUNT (ix.getD 0 0), .ro)]⟩,
   /- BI.ADM_EVT -/ ⟨0x30, [], false, false, fun _ => [(BI.ADM_EVT.SPILL_ECC_SEEN, .w1c), (BI.ADM_EVT.STAGE_FULL, .w1c), (BI.ADM_EVT.DROP_SEEN, .w1c)]⟩,
   /- BI.Q_CFG -/ ⟨0x10000, [⟨816, 0x8, 0⟩], false, false, fun ix => [(BI.Q_CFG.MIN_CELLS (ix.getD 0 0), .ro), (BI.Q_CFG.RED (ix.getD 0 0), .rw), (BI.Q_CFG.YEL (ix.getD 0 0), .rw), (BI.Q_CFG.ALPHA (ix.getD 0 0), .rw)]⟩,
   /- BI.Q_OCC -/ ⟨0x12000, [⟨816, 0x8, 0⟩], false, false, fun ix => [(BI.Q_OCC.FRAMES (ix.getD 0 0), .ro), (BI.Q_OCC.CELLS (ix.getD 0 0), .ro)]⟩,
   /- BI.SPILL_CTL -/ ⟨0x14000, [⟨24, 0x8, 0⟩], false, false, fun ix => [(BI.SPILL_CTL.OFF (ix.getD 0 0), .rw), (BI.SPILL_CTL.ON (ix.getD 0 0), .rw), (BI.SPILL_CTL.EN (ix.getD 0 0), .rw)]⟩,
   /- BI.SPILL_STAT -/ ⟨0x14100, [⟨24, 0x8, 0⟩], false, false, fun ix => [(BI.SPILL_STAT.RB (ix.getD 0 0), .ro), (BI.SPILL_STAT.DRAM_CELLS (ix.getD 0 0), .ro), (BI.SPILL_STAT.HELD_TAIL (ix.getD 0 0), .ro), (BI.SPILL_STAT.ACTIVE (ix.getD 0 0), .ro), (BI.SPILL_STAT.DONE (ix.getD 0 0), .ro)]⟩
  ]

def rows8Part1 : List RegRow :=
  [
   /- BI.CAR_PORT -/ ⟨0x20000, [⟨102, 0x8, 0⟩], false, false, fun ix => [(BI.CAR_PORT.C7_DEFER (ix.getD 0 0), .ro), (BI.CAR_PORT.C7_DEFER_OVF (ix.getD 0 0), .w1c), (BI.CAR_PORT.WIN_OPEN (ix.getD 0 0), .ro), (BI.CAR_PORT.GUARD_NS (ix.getD 0 0), .ro), (BI.CAR_PORT.OVERHEAD (ix.getD 0 0), .rw)]⟩,
   /- BI.DWRR_Q -/ ⟨0x21000, [⟨816, 0x8, 0⟩], false, false, fun ix => [(BI.DWRR_Q.DEFICIT (ix.getD 0 0), .ro), (BI.DWRR_Q.QUANTUM (ix.getD 0 0), .rw)]⟩,
   /- BI.SHP_CTL -/ ⟨0x30000, [⟨918, 0x8, 0⟩], false, false, fun ix => [(BI.SHP_CTL.EN (ix.getD 0 0), .rw)]⟩,
   /- BI.SHP_STAT -/ ⟨0x32000, [⟨918, 0x8, 0⟩], false, false, fun ix => [(BI.SHP_STAT.LEVEL (ix.getD 0 0), .ro), (BI.SHP_STAT.SAT_E (ix.getD 0 0), .w1c), (BI.SHP_STAT.SAT_C (ix.getD 0 0), .w1c), (BI.SHP_STAT.DONE (ix.getD 0 0), .ro)]⟩,
   /- BI.SHP_LVL -/ ⟨0x34000, [⟨918, 0x8, 0⟩], false, false, fun ix => [(BI.SHP_LVL.EB (ix.getD 0 0), .ro), (BI.SHP_LVL.CB (ix.getD 0 0), .ro)]⟩,
   /- BI.SHP_CIR -/ ⟨0x36000, [⟨918, 0x8, 0⟩], false, false, fun ix => [(BI.SHP_CIR.FORGIVE (ix.getD 0 0), .w1p), (BI.SHP_CIR.RATE (ix.getD 0 0), .rw)]⟩,
   /- BI.SHP_EIR -/ ⟨0x3A000, [⟨918, 0x8, 0⟩], false, false, fun ix => [(BI.SHP_EIR.FORGIVE (ix.getD 0 0), .w1p), (BI.SHP_EIR.RATE (ix.getD 0 0), .rw)]⟩,
   /- BI.SHP_CBS -/ ⟨0x38000, [⟨918, 0x8, 0⟩], false, false, fun ix => [(BI.SHP_CBS.BURST (ix.getD 0 0), .rw)]⟩,
   /- BI.SHP_EBS -/ ⟨0x3C000, [⟨918, 0x8, 0⟩], false, false, fun ix => [(BI.SHP_EBS.BURST (ix.getD 0 0), .rw)]⟩,
   /- BI.MIR_CFG -/ ⟨0x40000, [⟨16, 0x8, 0⟩], false, false, fun ix => [(BI.MIR_CFG.N (ix.getD 0 0), .rw), (BI.MIR_CFG.MODE (ix.getD 0 0), .rw), (BI.MIR_CFG.DEST (ix.getD 0 0), .rw), (BI.MIR_CFG.CLASS (ix.getD 0 0), .rw), (BI.MIR_CFG.TRUNC (ix.getD 0 0), .rw), (BI.MIR_CFG.EN (ix.getD 0 0), .rw)]⟩,
   /- BI.SMP_CFG -/ ⟨0x40100, [⟨101, 0x8, 0⟩], false, false, fun ix => [(BI.SMP_CFG.N (ix.getD 0 0), .rw), (BI.SMP_CFG.MODE (ix.getD 0 0), .rw), (BI.SMP_CFG.EN (ix.getD 0 0), .rw)]⟩,
   /- BI.MIR_SEED -/ ⟨0x40080, [⟨16, 0x8, 0⟩], false, false, fun ix => [(BI.MIR_SEED.SEED (ix.getD 0 0), .rw)]⟩
  ]

def rows8Part2 : List RegRow :=
  [
   /- BI.SMP_SEED -/ ⟨0x40500, [⟨101, 0x8, 0⟩], false, false, fun ix => [(BI.SMP_SEED.SEED (ix.getD 0 0), .rw)]⟩,
   /- BI.SS_QMAP -/ ⟨0x50000, [⟨2, 0x8, 0⟩], false, false, fun ix => [(BI.SS_QMAP.QUEUES (ix.getD 0 0), .rw)]⟩,
   /- BI.SS_RING_CFG -/ ⟨0x50100, [⟨10, 0x20, 0⟩], false, false, fun ix => [(BI.SS_RING_CFG.TARGET (ix.getD 0 0), .rw), (BI.SS_RING_CFG.EN (ix.getD 0 0), .rw), (BI.SS_RING_CFG.SLOT_LOG2 (ix.getD 0 0), .rw), (BI.SS_RING_CFG.SIZE_LOG2 (ix.getD 0 0), .rw)]⟩,
   /- BI.SS_RING_BASE -/ ⟨0x50108, [⟨10, 0x20, 0⟩], false, false, fun ix => [(BI.SS_RING_BASE.BASE (ix.getD 0 0), .rw)]⟩,
   /- BI.SS_RING_PROD -/ ⟨0x50110, [⟨10, 0x20, 0⟩], true, false, fun ix => [(BI.SS_RING_PROD.INDEX (ix.getD 0 0), .rw)]⟩,
   /- BI.SS_RING_CONS -/ ⟨0x50118, [⟨10, 0x20, 0⟩], true, false, fun ix => [(BI.SS_RING_CONS.INDEX (ix.getD 0 0), .rw)]⟩,
   /- BI.SS_RING_STAT -/ ⟨0x50300, [⟨10, 0x8, 0⟩], false, false, fun ix => [(BI.SS_RING_STAT.DISCARD (ix.getD 0 0), .ro), (BI.SS_RING_STAT.BAD_DESC (ix.getD 0 0), .ro), (BI.SS_RING_STAT.CNT_OVF (ix.getD 0 0), .w1c), (BI.SS_RING_STAT.BAD_DESC_SEEN (ix.getD 0 0), .w1c), (BI.SS_RING_STAT.DISCARD_SEEN (ix.getD 0 0), .w1c)]⟩,
   /- BI.SCH_LOCAL -/ ⟨0x60000, [], false, false, fun _ => [(BI.SCH_LOCAL.RUNNING, .ro), (BI.SCH_LOCAL.MODE, .rw)]⟩,
   /- BI.QSTAT -/ ⟨0x80000, [⟨816, 0x40, 0⟩, ⟨8, 0x8, 0⟩], false, false, fun ix => [(BI.QSTAT.COUNT (ix.getD 0 0) (ix.getD 1 0), .ro)]⟩,
   /- BI.QSTAT_OVF -/ ⟨0x8D000, [⟨816, 0x8, 0⟩], false, false, fun ix => [(BI.QSTAT_OVF.OVF (ix.getD 0 0), .w1c)]⟩,
   /- BI.PSTAT -/ ⟨0x90000, [⟨102, 0x40, 0⟩, ⟨8, 0x8, 0⟩], false, false, fun ix => [(BI.PSTAT.COUNT (ix.getD 0 0) (ix.getD 1 0), .ro)]⟩,
   /- BI.PSTAT_OVF -/ ⟨0x92000, [⟨102, 0x8, 0⟩], false, false, fun ix => [(BI.PSTAT_OVF.OVF (ix.getD 0 0), .w1c)]⟩
  ]

def rows8 : List RegRow := rows8Part0 ++ rows8Part1 ++ rows8Part2

def rowsPPart0 : List RegRow :=
  [
   /- P.PARSE_FRAG_MODE -/ ⟨0x200, [], true, false, fun ix => [(P.PARSE_FRAG_MODE.SLOW (ix.getD 0 0), .rw)]⟩,
   /- P.PARSE_STAT -/ ⟨0x208, [], true, false, fun ix => [(P.PARSE_STAT.DEPTH_OVF (ix.getD 0 0), .w1c), (P.PARSE_STAT.DEPTH (ix.getD 0 0), .ro), (P.PARSE_STAT.SHORT_OVF (ix.getD 0 0), .w1c), (P.PARSE_STAT.SHORT (ix.getD 0 0), .ro), (P.PARSE_STAT.BAD_FRAG (ix.getD 0 0), .w1c)]⟩,
   /- P.JUG_CTL -/ ⟨0x400, [⟨16, 0x8, 0⟩], false, false, fun ix => [(P.JUG_CTL.EN (ix.getD 0 0) (ix.getD 1 0), .rw)]⟩,
   /- P.JUG_STAT -/ ⟨0x480, [⟨16, 0x8, 0⟩], true, false, fun ix => [(P.JUG_STAT.GATEWAY (ix.getD 0 0) (ix.getD 1 0), .ro), (P.JUG_STAT.DONE (ix.getD 0 0) (ix.getD 1 0), .ro), (P.JUG_STAT.BUSY (ix.getD 0 0) (ix.getD 1 0), .ro)]⟩,
   /- P.JUG_RATE -/ ⟨0x500, [], true, false, fun ix => [(P.JUG_RATE.PKTS (ix.getD 0 0), .ro), (P.JUG_RATE.AVG_X16 (ix.getD 0 0), .ro)]⟩,
   /- P.JUG_BUDGET_CNT -/ ⟨0x508, [], true, false, fun ix => [(P.JUG_BUDGET_CNT.OVF (ix.getD 0 0), .w1c), (P.JUG_BUDGET_CNT.COUNT (ix.getD 0 0), .ro)]⟩,
   /- P.JUG_FAULT_CNT -/ ⟨0x510, [], true, false, fun ix => [(P.JUG_FAULT_CNT.OVF (ix.getD 0 0), .w1c), (P.JUG_FAULT_CNT.COUNT (ix.getD 0 0), .ro)]⟩,
   /- P.JUG_FAULT_LOST -/ ⟨0x518, [], true, false, fun ix => [(P.JUG_FAULT_LOST.OVF (ix.getD 0 0), .w1c), (P.JUG_FAULT_LOST.COUNT (ix.getD 0 0), .ro)]⟩,
   /- P.JUG_LOST_CNT -/ ⟨0x520, [], true, false, fun ix => [(P.JUG_LOST_CNT.OVF (ix.getD 0 0), .w1c), (P.JUG_LOST_CNT.COUNT (ix.getD 0 0), .ro)]⟩,
   /- P.JUG_CNT_STAT -/ ⟨0x528, [], true, false, fun ix => [(P.JUG_CNT_STAT.EN_REFUSED (ix.getD 0 0), .w1c)]⟩,
   /- P.JUG_FAULT -/ ⟨0x540, [], true, true, fun _ => []⟩,
   /- P.CS_ADDR -/ ⟨0x600, [], true, false, fun ix => [(P.CS_ADDR.BANK (ix.getD 0 0), .rw), (P.CS_ADDR.ADDR (ix.getD 0 0), .rw)]⟩
  ]

def rowsPPart1 : List RegRow :=
  [
   /- P.CS_DATA -/ ⟨0x608, [⟨2, 0x8, 0⟩], true, false, fun ix => [(P.CS_DATA.DATA (ix.getD 0 0) (ix.getD 1 0), .rw)]⟩,
   /- P.CS_CMD -/ ⟨0x618, [], true, false, fun ix => [(P.CS_CMD.READ (ix.getD 0 0), .w1p), (P.CS_CMD.WRITE (ix.getD 0 0), .w1p)]⟩,
   /- P.CS_STAT -/ ⟨0x620, [], true, false, fun ix => [(P.CS_STAT.REFUSED (ix.getD 0 0), .ro), (P.CS_STAT.ECC_CORR (ix.getD 0 0), .ro), (P.CS_STAT.ERROR (ix.getD 0 0), .ro), (P.CS_STAT.CSW_ERROR (ix.getD 0 0), .ro), (P.CS_STAT.CNT_OVF (ix.getD 0 0), .w1c), (P.CS_STAT.ECC_UNCORR (ix.getD 0 0), .w1c), (P.CS_STAT.DONE (ix.getD 0 0), .w1c)]⟩,
   /- P.TS_CFG -/ ⟨0x680, [], false, false, fun ix => [(P.TS_CFG.RES_EN (ix.getD 0 0), .rw), (P.TS_CFG.SHED_WAIT (ix.getD 0 0), .rw)]⟩,
   /- P.TS_STAT -/ ⟨0x688, [], false, false, fun ix => [(P.TS_STAT.OLDEST_NS (ix.getD 0 0), .ro), (P.TS_STAT.SHED_SEEN (ix.getD 0 0), .w1c), (P.TS_STAT.SHEDDING (ix.getD 0 0), .ro)]⟩,
   /- P.TS_DROP -/ ⟨0x690, [⟨6, 0x8, 0⟩], false, false, fun ix => [(P.TS_DROP.OVF (ix.getD 0 0) (ix.getD 1 0), .w1c), (P.TS_DROP.COUNT (ix.getD 0 0) (ix.getD 1 0), .ro)]⟩,
   /- P.PS_CFG -/ ⟨0x700, [], false, false, fun ix => [(P.PS_CFG.N (ix.getD 0 0), .rw), (P.PS_CFG.MODE (ix.getD 0 0), .rw), (P.PS_CFG.STOP (ix.getD 0 0), .rw), (P.PS_CFG.JMASK (ix.getD 0 0), .rw), (P.PS_CFG.EPOCH_EN (ix.getD 0 0), .rw), (P.PS_CFG.EPOCH (ix.getD 0 0), .rw), (P.PS_CFG.FREEZE (ix.getD 0 0), .rw), (P.PS_CFG.EN (ix.getD 0 0), .rw)]⟩,
   /- P.PS_SEED -/ ⟨0x708, [], false, false, fun ix => [(P.PS_SEED.SEED (ix.getD 0 0), .rw)]⟩,
   /- P.PS_STAT -/ ⟨0x710, [], false, false, fun ix => [(P.PS_STAT.WR_IDX (ix.getD 0 0), .ro), (P.PS_STAT.DROPPED (ix.getD 0 0), .ro), (P.PS_STAT.FULL (ix.getD 0 0), .ro), (P.PS_STAT.FULL_SEEN (ix.getD 0 0), .w1c), (P.PS_STAT.OVF (ix.getD 0 0), .w1c), (P.PS_STAT.DRAM_DROP (ix.getD 0 0), .ro)]⟩,
   /- P.PS_DRAM -/ ⟨0x718, [], false, false, fun ix => [(P.PS_DRAM.BASE (ix.getD 0 0), .rw), (P.PS_DRAM.SIZE_LOG2 (ix.getD 0 0), .rw), (P.PS_DRAM.EN (ix.getD 0 0), .rw)]⟩,
   /- P.PS_BUF -/ ⟨0x4000, [⟨1024, 0x10, 0⟩, ⟨2, 0x8, 0⟩], false, false, fun ix => [(P.PS_BUF.DATA (ix.getD 0 0) (ix.getD 1 0) (ix.getD 2 0), .ro)]⟩
  ]

def rowsP : List RegRow := rowsPPart0 ++ rowsPPart1

def rows7Part0 : List RegRow :=
  [
   /- SI.FRAG_CFG -/ ⟨0x300, [], false, false, fun _ => [(SI.FRAG_CFG.FLUSH_ON_COMMIT, .rw), (SI.FRAG_CFG.EN, .rw), (SI.FRAG_CFG.AGE_MS, .rw)]⟩,
   /- SI.FRAG_STAT -/ ⟨0x308, [], false, false, fun _ => [(SI.FRAG_STAT.TABLE_FULL, .ro), (SI.FRAG_STAT.EXPIRED, .ro), (SI.FRAG_STAT.NO_FIRST, .ro), (SI.FRAG_STAT.CNT_OVF, .w1c), (SI.FRAG_STAT.OCCUPANCY, .ro)]⟩,
   /- SI.SLICE_CFG -/ ⟨0x0, [⟨8, 0x8, 0⟩], false, false, fun ix => [(SI.SLICE_CFG.DEPTH (ix.getD 0 0), .ro), (SI.SLICE_CFG.RANGE_HI (ix.getD 0 0), .ro), (SI.SLICE_CFG.RANGE_LO (ix.getD 0 0), .ro), (SI.SLICE_CFG.LOST (ix.getD 0 0), .ro), (SI.SLICE_CFG.MODE (ix.getD 0 0), .ro), (SI.SLICE_CFG.TYPE (ix.getD 0 0), .ro), (SI.SLICE_CFG.WIDTH (ix.getD 0 0), .ro)]⟩,
   /- SI.CAS_CFG -/ ⟨0x40, [], false, false, fun _ => [(SI.CAS_CFG.COUNT, .ro), (SI.CAS_CFG.POSITION, .ro)]⟩,
   /- SI.CAS_STAT -/ ⟨0x48, [], false, false, fun _ => [(SI.CAS_STAT.DOWN_CNT, .ro), (SI.CAS_STAT.SEEN_LAST, .ro), (SI.CAS_STAT.STATE_CHG, .w1c), (SI.CAS_STAT.STATE, .ro)]⟩,
   /- SI.CAS_CNT -/ ⟨0x50, [], false, false, fun _ => [(SI.CAS_CNT.INCOMPLETE, .ro), (SI.CAS_CNT.CRC_ERR, .ro), (SI.CAS_CNT.LATE, .ro), (SI.CAS_CNT.OVF, .w1c)]⟩,
   /- SI.CAS_CMD -/ ⟨0x58, [], false, false, fun _ => [(SI.CAS_CMD.RETRAIN, .w1p)]⟩,
   /- SI.HASH_CFG -/ ⟨0x100, [], false, false, fun _ => [(SI.HASH_CFG.AGE_S, .rw), (SI.HASH_CFG.OVF_EN, .ro), (SI.HASH_CFG.LEARN_EN, .rw)]⟩,
   /- SI.HASH_STAT -/ ⟨0x108, [], false, false, fun _ => [(SI.HASH_STAT.LEARN_FULL, .ro), (SI.HASH_STAT.MOVES, .ro), (SI.HASH_STAT.AGED, .ro), (SI.HASH_STAT.OVF, .w1c)]⟩,
   /- SI.HASH_OCC -/ ⟨0x110, [], false, false, fun _ => [(SI.HASH_OCC.FLOW_OVF_USED, .ro), (SI.HASH_OCC.BR_OVF_USED, .ro), (SI.HASH_OCC.FLOW_USED, .ro), (SI.HASH_OCC.BR_USED, .ro)]⟩,
   /- SI.TBL_REJECT -/ ⟨0x118, [], false, false, fun _ => [(SI.TBL_REJECT.REASON, .ro), (SI.TBL_REJECT.TABLE, .ro), (SI.TBL_REJECT.INDEX, .ro)]⟩,
   /- SI.PROBE_KEY -/ ⟨0x400, [⟨2, 0x80, 0⟩, ⟨5, 0x8, 0⟩], true, false, fun ix => [(SI.PROBE_KEY.KEY (ix.getD 0 0) (ix.getD 1 0), .rw)]⟩
  ]

def rows7Part1 : List RegRow :=
  [
   /- SI.PROBE_CMD -/ ⟨0x428, [⟨2, 0x80, 0⟩], true, false, fun ix => [(SI.PROBE_CMD.SEQ (ix.getD 0 0), .rw), (SI.PROBE_CMD.GO (ix.getD 0 0), .w1p), (SI.PROBE_CMD.BANK (ix.getD 0 0), .rw), (SI.PROBE_CMD.TABLE (ix.getD 0 0), .rw)]⟩,
   /- SI.PROBE_RES0 -/ ⟨0x430, [⟨2, 0x80, 0⟩], false, false, fun ix => [(SI.PROBE_RES0.VALID (ix.getD 0 0), .ro), (SI.PROBE_RES0.SEQ (ix.getD 0 0), .ro), (SI.PROBE_RES0.STATUS (ix.getD 0 0), .ro), (SI.PROBE_RES0.LOC (ix.getD 0 0), .ro), (SI.PROBE_RES0.INDEX (ix.getD 0 0), .ro)]⟩,
   /- SI.PROBE_RES1 -/ ⟨0x438, [⟨2, 0x80, 0⟩], false, false, fun ix => [(SI.PROBE_RES1.ACTION (ix.getD 0 0), .ro)]⟩
  ]

def rows7 : List RegRow := rows7Part0 ++ rows7Part1

def rows9Part0 : List RegRow :=
  [
   /- DI.CFG -/ ⟨0x0, [], false, false, fun _ => [(DI.CFG.CAPACITY, .ro), (DI.CFG.SPEED, .ro), (DI.CFG.DENSITY, .ro), (DI.CFG.WIDTH, .ro), (DI.CFG.RANKS_M1, .ro)]⟩,
   /- DI.CTL -/ ⟨0x8, [], false, false, fun _ => [(DI.CTL.TRAIN_MODE, .rw), (DI.CTL.INIT, .w1p), (DI.CTL.REF_2X, .rw), (DI.CTL.PERIODIC_EN, .rw), (DI.CTL.PERIOD_MS, .rw)]⟩,
   /- DI.REQ_CFG -/ ⟨0x100, [⟨6, 0x8, 0⟩], false, false, fun ix => [(DI.REQ_CFG.HINT (ix.getD 0 0), .rw)]⟩,
   /- DI.MRS -/ ⟨0x200, [], false, false, fun _ => [(DI.MRS.VALUE, .rw), (DI.MRS.MR, .rw), (DI.MRS.RANK, .rw), (DI.MRS.GO, .w1p), (DI.MRS.DONE, .w1c)]⟩,
   /- DI.TRN_CFG -/ ⟨0x300, [], false, false, fun _ => [(DI.TRN_CFG.OP, .rw), (DI.TRN_CFG.PATTERN, .rw), (DI.TRN_CFG.RANK, .rw), (DI.TRN_CFG.BURST, .rw), (DI.TRN_CFG.LEN, .rw), (DI.TRN_CFG.GO, .w1p)]⟩,
   /- DI.TRN_USER -/ ⟨0x308, [⟨8, 0x8, 0⟩], false, false, fun ix => [(DI.TRN_USER.DATA (ix.getD 0 0), .rw)]⟩,
   /- DI.TRN_STAT -/ ⟨0x348, [], false, false, fun _ => [(DI.TRN_STAT.BUSY, .ro), (DI.TRN_STAT.DONE, .w1c), (DI.TRN_STAT.INIT_DONE, .ro), (DI.TRN_STAT.MODE_REFUSED, .w1c), (DI.TRN_STAT.WL_SEEN, .ro), (DI.TRN_STAT.SR_RETAINED, .ro), (DI.TRN_STAT.TOTAL, .ro)]⟩,
   /- DI.TRN_ERR -/ ⟨0x380, [⟨10, 0x8, 0⟩], false, false, fun ix => [(DI.TRN_ERR.E0 (ix.getD 0 0), .ro), (DI.TRN_ERR.OVF0 (ix.getD 0 0), .w1c), (DI.TRN_ERR.E1 (ix.getD 0 0), .ro), (DI.TRN_ERR.OVF1 (ix.getD 0 0), .w1c), (DI.TRN_ERR.E2 (ix.getD 0 0), .ro), (DI.TRN_ERR.OVF2 (ix.getD 0 0), .w1c), (DI.TRN_ERR.E3 (ix.getD 0 0), .ro), (DI.TRN_ERR.OVF3 (ix.getD 0 0), .w1c)]⟩,
   /- DI.DQ_DLY -/ ⟨0x400, [⟨40, 0x8, 0⟩], false, false, fun ix => [(DI.DQ_DLY.RD (ix.getD 0 0), .rw), (DI.DQ_DLY.WR (ix.getD 0 0), .rw)]⟩,
   /- DI.DQS_DLY -/ ⟨0x540, [⟨5, 0x8, 0⟩], false, false, fun ix => [(DI.DQS_DLY.WR (ix.getD 0 0), .rw), (DI.DQS_DLY.GATE (ix.getD 0 0), .rw), (DI.DQS_DLY.VREF (ix.getD 0 0), .rw)]⟩,
   /- DI.CA_DLY -/ ⟨0x580, [⟨32, 0x8, 0⟩], false, false, fun ix => [(DI.CA_DLY.DLY (ix.getD 0 0), .rw)]⟩,
   /- DI.RTR_STAT -/ ⟨0x680, [], false, false, fun _ => [(DI.RTR_STAT.SLICES, .ro), (DI.RTR_STAT.LAST_NS, .ro), (DI.RTR_STAT.DRIFT_FAIL, .w1c)]⟩
  ]

def rows9Part1 : List RegRow :=
  [
   /- DI.ECC_STAT -/ ⟨0x800, [], false, false, fun _ => [(DI.ECC_STAT.CORR_SEEN, .w1c), (DI.ECC_STAT.UNCORR_SEEN, .w1c), (DI.ECC_STAT.LOG_LOST, .ro), (DI.ECC_STAT.UNCORR, .ro), (DI.ECC_STAT.UNCORR_OVF, .w1c), (DI.ECC_STAT.CORR, .ro), (DI.ECC_STAT.CORR_OVF, .w1c)]⟩,
   /- DI.ECC_LOG -/ ⟨0x808, [], false, true, fun _ => []⟩,
   /- DI.ECC_INJ -/ ⟨0x810, [], false, false, fun _ => [(DI.ECC_INJ.FLIP, .rw), (DI.ECC_INJ.ARM, .rw)]⟩,
   /- DI.RH_CFG -/ ⟨0x900, [], false, false, fun _ => [(DI.RH_CFG.THRESHOLD, .rw), (DI.RH_CFG.ACT_RATE, .rw)]⟩,
   /- DI.RH_STAT -/ ⟨0x908, [], false, false, fun _ => [(DI.RH_STAT.THROTTLED, .ro), (DI.RH_STAT.UNTHROTTLED, .w1c), (DI.RH_STAT.LAST_BANK, .ro), (DI.RH_STAT.LAST_RANK, .ro), (DI.RH_STAT.LAST_GROUP, .ro), (DI.RH_STAT.LAST_REQ, .ro), (DI.RH_STAT.EVENTS, .ro), (DI.RH_STAT.EVENTS_OVF, .w1c)]⟩
  ]

def rows9 : List RegRow := rows9Part0 ++ rows9Part1

def rows2Part0 : List RegRow :=
  [
   /- TI.CFG -/ ⟨0x0, [], false, false, fun _ => [(TI.CFG.FSTEP_PPB, .rw), (TI.CFG.STEP_US, .rw), (TI.CFG.WTR_S, .rw), (TI.CFG.NONREVERT, .rw), (TI.CFG.FORCE_EN, .rw), (TI.CFG.FORCE_REF, .rw), (TI.CFG.SLEW_PPM, .rw)]⟩,
   /- TI.QUAL_CFG -/ ⟨0x8, [], false, false, fun _ => [(TI.QUAL_CFG.SOFT_PPB, .rw), (TI.QUAL_CFG.HARD_PPB, .rw), (TI.QUAL_CFG.JUMP_PPB, .rw)]⟩,
   /- TI.HOLD_CFG -/ ⟨0x10, [], false, false, fun _ => [(TI.HOLD_CFG.RATE_PS, .rw), (TI.HOLD_CFG.SCHED_SPEC_NS, .rw), (TI.HOLD_CFG.WALL_SPEC_NS, .rw), (TI.HOLD_CFG.FREERUN_H, .rw), (TI.HOLD_CFG.LOCK_NS, .rw)]⟩,
   /- TI.REF_CFG -/ ⟨0x20, [⟨4, 0x8, 0⟩], false, false, fun ix => [(TI.REF_CFG.PRIORITY (ix.getD 0 0), .rw), (TI.REF_CFG.EN (ix.getD 0 0), .rw)]⟩,
   /- TI.REF_STAT -/ ⟨0x40, [⟨4, 0x8, 0⟩], false, false, fun ix => [(TI.REF_STAT.F64_PPB (ix.getD 0 0), .ro), (TI.REF_STAT.D_PPB (ix.getD 0 0), .ro), (TI.REF_STAT.WTR_LEFT (ix.getD 0 0), .ro), (TI.REF_STAT.D_DEF (ix.getD 0 0), .ro), (TI.REF_STAT.CAUSE (ix.getD 0 0), .ro), (TI.REF_STAT.STATE (ix.getD 0 0), .ro)]⟩,
   /- TI.SEL_STAT -/ ⟨0x60, [], false, false, fun _ => [(TI.SEL_STAT.OUT_PPB, .ro), (TI.SEL_STAT.RETARGET_CNT, .ro), (TI.SEL_STAT.TRAINED, .ro), (TI.SEL_STAT.SCHED_VALID, .ro), (TI.SEL_STAT.WALL_Q, .ro), (TI.SEL_STAT.SCHED_Q, .ro), (TI.SEL_STAT.ROLE, .ro), (TI.SEL_STAT.INTEG_FROZEN, .ro), (TI.SEL_STAT.SWITCHING, .ro), (TI.SEL_STAT.TARGET, .ro), (TI.SEL_STAT.SELECTED, .ro)]⟩,
   /- TI.EST -/ ⟨0x68, [], false, false, fun _ => [(TI.EST.SCHED_NS, .ro), (TI.EST.WALL_NS, .ro)]⟩,
   /- TI.EVT -/ ⟨0x70, [], false, false, fun _ => [(TI.EVT.Q_CHG, .w1c), (TI.EVT.REF_CHG, .w1c), (TI.EVT.SW_DONE, .w1c), (TI.EVT.STEP_APPLIED, .w1c), (TI.EVT.STEP_REFUSED, .w1c), (TI.EVT.IRREGULAR, .w1c), (TI.EVT.STEP_PENDING, .ro)]⟩,
   /- TI.MEAS_STAT -/ ⟨0x78, [], false, false, fun _ => [(TI.MEAS_STAT.STALE, .ro), (TI.MEAS_STAT.TXTS_LOST, .ro), (TI.MEAS_STAT.OVF, .w1c)]⟩,
   /- TI.SCHED -/ ⟨0x80, [], false, false, fun _ => [(TI.SCHED.TIME, .ro)]⟩,
   /- TI.WALL_OFS -/ ⟨0x90, [], false, false, fun _ => [(TI.WALL_OFS.OFS, .ro)]⟩,
   /- TI.WALL_OFS_AT -/ ⟨0x98, [], false, false, fun _ => [(TI.WALL_OFS_AT.TIME, .ro)]⟩
  ]

def rows2Part1 : List RegRow :=
  [
   /- TI.WALL_OFS_PREV -/ ⟨0xA0, [], false, false, fun _ => [(TI.WALL_OFS_PREV.OFS, .ro)]⟩,
   /- TI.STEP -/ ⟨0xA8, [], false, false, fun _ => [(TI.STEP.AMOUNT, .rw)]⟩,
   /- TI.CMD -/ ⟨0xB0, [], false, false, fun _ => [(TI.CMD.STEP_GO, .w1p), (TI.CMD.STEP_CANCEL, .w1p)]⟩,
   /- TI.PTP_MEAS -/ ⟨0xC0, [⟨2, 0x8, 0⟩], false, false, fun ix => [(TI.PTP_MEAS.OFFSET (ix.getD 0 0), .rw), (TI.PTP_MEAS.T2_LO (ix.getD 0 0), .rw)]⟩,
   /- TI.PPS_CFG -/ ⟨0x100, [], false, false, fun _ => [(TI.PPS_CFG.OUT_EN, .rw), (TI.PPS_CFG.OUT_POL, .rw), (TI.PPS_CFG.IN_POL, .rw), (TI.PPS_CFG.WIDTH_MS, .rw)]⟩,
   /- TI.PPS_LAST -/ ⟨0x108, [], false, false, fun _ => [(TI.PPS_LAST.TIME, .ro)]⟩,
   /- TI.PPS_INTV -/ ⟨0x110, [], false, false, fun _ => [(TI.PPS_INTV.INTV, .ro), (TI.PPS_INTV.IRREG, .ro)]⟩,
   /- TI.PPS_OFS -/ ⟨0x118, [], false, false, fun _ => [(TI.PPS_OFS.OFS, .ro)]⟩,
   /- TI.PPS_IN_TS -/ ⟨0x120, [], false, false, fun _ => [(TI.PPS_IN_TS.TIME, .ro)]⟩,
   /- TI.TS_CFG -/ ⟨0x400, [⟨101, 0x8, 0⟩], false, false, fun ix => [(TI.TS_CFG.PTP_EN (ix.getD 0 0), .rw), (TI.TS_CFG.ONE_STEP (ix.getD 0 0), .rw), (TI.TS_CFG.RX_ADJ (ix.getD 0 0), .rw), (TI.TS_CFG.TX_ADJ (ix.getD 0 0), .rw)]⟩,
   /- TI.TXTS -/ ⟨0x800, [], false, true, fun _ => []⟩
  ]

def rows2 : List RegRow := rows2Part0 ++ rows2Part1

def rows3Part0 : List RegRow :=
  [
   /- RI.NODE_CFG -/ ⟨0x0, [], false, false, fun _ => [(RI.NODE_CFG.NODE, .rw)]⟩,
   /- RI.TIME_SRC -/ ⟨0x8, [], false, false, fun _ => [(RI.TIME_SRC.USED, .ro), (RI.TIME_SRC.PREF, .rw)]⟩,
   /- RI.RING_CTL -/ ⟨0x10, [⟨2, 0x8, 0⟩], false, false, fun ix => [(RI.RING_CTL.ASYM_NS (ix.getD 0 0), .rw), (RI.RING_CTL.FORCE_BYP (ix.getD 0 0), .rw), (RI.RING_CTL.EN (ix.getD 0 0), .rw)]⟩,
   /- RI.RING_STAT -/ ⟨0x20, [⟨2, 0x8, 0⟩], false, false, fun ix => [(RI.RING_STAT.LOCK_LOSS_CNT (ix.getD 0 0), .ro), (RI.RING_STAT.NB_VALID (ix.getD 0 0), .ro), (RI.RING_STAT.NEIGHBOUR (ix.getD 0 0), .ro), (RI.RING_STAT.TRAINS (ix.getD 0 0), .ro), (RI.RING_STAT.LS_STALE (ix.getD 0 0), .ro), (RI.RING_STAT.INCONSIST (ix.getD 0 0), .w1c), (RI.RING_STAT.LOCK_CHG (ix.getD 0 0), .w1c), (RI.RING_STAT.DONE (ix.getD 0 0), .ro), (RI.RING_STAT.LOOP_TIMED (ix.getD 0 0), .ro), (RI.RING_STAT.MARKER_LOCK (ix.getD 0 0), .ro), (RI.RING_STAT.BLOCK_LOCK (ix.getD 0 0), .ro)]⟩,
   /- RI.RING_DLY -/ ⟨0x30, [⟨2, 0x8, 0⟩], false, false, fun ix => [(RI.RING_DLY.RES_NS (ix.getD 0 0), .ro), (RI.RING_DLY.HOP_NS (ix.getD 0 0), .ro)]⟩,
   /- RI.MARKER -/ ⟨0x40, [⟨2, 0x20, 0⟩, ⟨4, 0x8, 0⟩], false, false, fun ix => [(RI.MARKER.BYTES (ix.getD 0 0) (ix.getD 1 0), .ro)]⟩,
   /- RI.SFP_IO -/ ⟨0x80, [⟨2, 0x8, 0⟩], false, false, fun ix => [(RI.SFP_IO.TX_DISABLE (ix.getD 0 0), .rw), (RI.SFP_IO.MOD_ABS (ix.getD 0 0), .ro), (RI.SFP_IO.RX_LOS (ix.getD 0 0), .ro), (RI.SFP_IO.TX_FAULT (ix.getD 0 0), .ro)]⟩,
   /- RI.BYP_STAT -/ ⟨0x90, [], false, false, fun _ => [(RI.BYP_STAT.CHG_CNT, .ro), (RI.BYP_STAT.CHG, .w1c), (RI.BYP_STAT.FORCE_REFUSED, .w1c), (RI.BYP_STAT.HIT_W, .ro), (RI.BYP_STAT.HIT_E, .ro), (RI.BYP_STAT.DRIVE_W, .ro), (RI.BYP_STAT.DRIVE_E, .ro)]⟩,
   /- RI.RING_CNT -/ ⟨0x100, [⟨2, 0x80, 0⟩, ⟨16, 0x8, 0⟩], false, false, fun ix => [(RI.RING_CNT.COUNT (ix.getD 0 0) (ix.getD 1 0), .ro)]⟩,
   /- RI.RING_CNT_OVF -/ ⟨0x200, [⟨2, 0x8, 0⟩], false, false, fun ix => [(RI.RING_CNT_OVF.OVF (ix.getD 0 0), .w1c)]⟩,
   /- RI.SCHED_CFG -/ ⟨0x400, [], false, false, fun _ => [(RI.SCHED_CFG.COLD_MS, .rw), (RI.SCHED_CFG.CS_MODE, .rw), (RI.SCHED_CFG.CS_EN, .rw), (RI.SCHED_CFG.VETO, .rw), (RI.SCHED_CFG.REQ_EN, .rw)]⟩,
   /- RI.SCHED_STAT -/ ⟨0x408, [], false, false, fun _ => [(RI.SCHED_STAT.MATRIX_ID, .ro), (RI.SCHED_STAT.MEMBERS, .ro), (RI.SCHED_STAT.RM_NODE, .ro), (RI.SCHED_STAT.CYCLE, .ro), (RI.SCHED_STAT.MODE, .ro), (RI.SCHED_STAT.CS_STATE, .ro), (RI.SCHED_STAT.SCALE_CONFLICT, .ro), (RI.SCHED_STAT.MISMATCH, .ro), (RI.SCHED_STAT.JOINED, .ro), (RI.SCHED_STAT.AGREED_PENDING, .ro), (RI.SCHED_STAT.JOIN_CHG, .w1c), (RI.SCHED_STAT.ROLE_CHG, .w1c), (RI.SCHED_STAT.CONFLICT_SEEN, .w1c), (RI.SCHED_STAT.MODE_CHG, .w1c)]⟩
  ]

def rows3Part1 : List RegRow :=
  [
   /- RI.MCHG_REQ -/ ⟨0x410, [], false, false, fun _ => [(RI.MCHG_REQ.CANCEL, .w1p), (RI.MCHG_REQ.GO, .w1p), (RI.MCHG_REQ.MODE, .rw)]⟩,
   /- RI.MCHG_STAT -/ ⟨0x418, [], false, false, fun _ => [(RI.MCHG_STAT.TALLY, .ro), (RI.MCHG_STAT.OUTCOME, .w1c), (RI.MCHG_STAT.REQ_AGE, .ro), (RI.MCHG_STAT.LAST_MODE, .ro), (RI.MCHG_STAT.STATUS, .ro)]⟩,
   /- RI.SIG_PUB -/ ⟨0x420, [], false, false, fun _ => [(RI.SIG_PUB.PUB, .w1p)]⟩,
   /- RI.CS_PRIO -/ ⟨0x500, [⟨32, 0x8, 0⟩], false, false, fun ix => [(RI.CS_PRIO.ELIGIBLE (ix.getD 0 0), .rw), (RI.CS_PRIO.PRIO (ix.getD 0 0), .rw)]⟩,
   /- RI.SIG_STAT -/ ⟨0x600, [⟨32, 0x8, 0⟩], false, false, fun ix => [(RI.SIG_STAT.PUB_SEQ (ix.getD 0 0), .ro), (RI.SIG_STAT.RX_SEQ (ix.getD 0 0), .ro), (RI.SIG_STAT.SNAP_SEQ (ix.getD 0 0), .ro), (RI.SIG_STAT.MISSED (ix.getD 0 0), .w1c)]⟩,
   /- RI.SIG_TX -/ ⟨0x10000, [⟨32, 0x100, 0⟩, ⟨32, 0x8, 0⟩], false, false, fun ix => [(RI.SIG_TX.DATA (ix.getD 0 0) (ix.getD 1 0), .rw)]⟩,
   /- RI.SIG_RX -/ ⟨0x20000, [⟨32, 0x100, 0⟩, ⟨32, 0x8, 0⟩], false, false, fun ix => [(RI.SIG_RX.DATA (ix.getD 0 0) (ix.getD 1 0), .ro)]⟩,
   /- RI.GW_CFG -/ ⟨0x700, [], false, false, fun _ => [(RI.GW_CFG.SRC_MAC, .rw), (RI.GW_CFG.ETYPE, .rw)]⟩,
   /- RI.GW_EMERG -/ ⟨0x708, [], false, false, fun _ => [(RI.GW_EMERG.EN, .rw), (RI.GW_EMERG.REPEAT_S, .rw), (RI.GW_EMERG.CCT, .rw), (RI.GW_EMERG.LEVEL, .rw)]⟩,
   /- RI.GW_STAT -/ ⟨0x710, [], false, false, fun _ => [(RI.GW_STAT.EMERG_SENT, .ro), (RI.GW_STAT.TPL_ERR, .ro), (RI.GW_STAT.TRIG_LOST, .ro), (RI.GW_STAT.COALESCED, .ro), (RI.GW_STAT.CNT_OVF, .w1c), (RI.GW_STAT.TPL_ERR_SEEN, .w1c), (RI.GW_STAT.TRIG_LOST_SEEN, .w1c), (RI.GW_STAT.EMITTING, .ro)]⟩,
   /- RI.GW_EVT -/ ⟨0x718, [], false, false, fun _ => [(RI.GW_EVT.FA_ASSERT, .w1c), (RI.GW_EVT.FA_RELEASE, .w1c)]⟩,
   /- RI.GW_MAP_CTL -/ ⟨0x30000, [⟨4096, 0x8, 0⟩], false, false, fun ix => [(RI.GW_MAP_CTL.EN (ix.getD 0 0), .rw)]⟩
  ]

def rows3Part2 : List RegRow :=
  [
   /- RI.GW_MAP_STAT -/ ⟨0x38000, [⟨4096, 0x8, 0⟩], false, false, fun ix => [(RI.GW_MAP_STAT.HELD (ix.getD 0 0), .ro), (RI.GW_MAP_STAT.SAT_SEEN (ix.getD 0 0), .w1c), (RI.GW_MAP_STAT.DONE (ix.getD 0 0), .ro)]⟩,
   /- RI.GW_SEQ -/ ⟨0x40000, [⟨256, 0x8, 0⟩], false, false, fun ix => [(RI.GW_SEQ.NEXT (ix.getD 0 0), .rw), (RI.GW_SEQ.VALID (ix.getD 0 0), .rw), (RI.GW_SEQ.GROUP (ix.getD 0 0), .rw)]⟩,
   /- RI.GW_SEQ_ANY -/ ⟨0x40800, [], false, false, fun _ => [(RI.GW_SEQ_ANY.NEXT, .rw)]⟩
  ]

def rows3 : List RegRow := rows3Part0 ++ rows3Part1 ++ rows3Part2

def rowsAllPart0 : List RegRow :=
  [
   /- C.CNT_SEL -/ ⟨0xF0000, [⟨32, 0x8, 0⟩], false, false, fun ix => [(C.CNT_SEL.THRESH (ix.getD 0 0) (ix.getD 1 0), .rw), (C.CNT_SEL.EN (ix.getD 0 0) (ix.getD 1 0), .rw), (C.CNT_SEL.CMP (ix.getD 0 0) (ix.getD 1 0), .rw), (C.CNT_SEL.EDGE (ix.getD 0 0) (ix.getD 1 0), .rw), (C.CNT_SEL.MODE (ix.getD 0 0) (ix.getD 1 0), .rw), (C.CNT_SEL.ARG (ix.getD 0 0) (ix.getD 1 0), .rw), (C.CNT_SEL.EVENT (ix.getD 0 0) (ix.getD 1 0), .rw)]⟩,
   /- C.CNT -/ ⟨0xF0100, [⟨32, 0x8, 0⟩], false, false, fun ix => [(C.CNT.COUNT (ix.getD 0 0) (ix.getD 1 0), .rw)]⟩,
   /- C.CNT_OVF -/ ⟨0xF0200, [], false, false, fun ix => [(C.CNT_OVF.OVF (ix.getD 0 0), .w1c)]⟩,
   /- C.CNT_CTL -/ ⟨0xF0208, [], true, false, fun ix => [(C.CNT_CTL.FREEZE (ix.getD 0 0), .rw), (C.CNT_CTL.CLEAR_ALL (ix.getD 0 0), .w1p), (C.CNT_CTL.VIEW_CORE (ix.getD 0 0), .rw), (C.CNT_CTL.VIEW_HOST (ix.getD 0 0), .rw)]⟩,
   /- C.CNT_SNAP_STAT -/ ⟨0xF0210, [], false, false, fun ix => [(C.CNT_SNAP_STAT.SEQ (ix.getD 0 0), .ro), (C.CNT_SNAP_STAT.HELD (ix.getD 0 0), .ro), (C.CNT_SNAP_STAT.T_LO (ix.getD 0 0), .ro)]⟩
  ]

def rowsAll : List RegRow := rowsAllPart0

/-- The rows of an island's window: the island's own, and the counter registers every island has (19_counters.md). -/
def rowsOf (isl : Nat) : List RegRow :=
  match isl with
  | 0 => rows0 ++ rowsAll
  | 1 => rows1 ++ rowsAll
  | 2 => rows2 ++ rowsAll
  | 3 => rows3 ++ rowsAll
  | 4 => rows4 ++ rowsAll
  | 5 | 6 => rowsP ++ rowsAll
  | 7 => rows7 ++ rowsAll
  | 8 => rows8 ++ rowsAll
  | 9 => rows9 ++ rowsAll
  | 10 | 11 | 12 | 13 | 14 | 15 => rowsPI ++ rowsAll
  | _ => []

/-- Match an offset against the dimensions of a row: the indices, or nothing. -/
def matchDims : List Dim → Nat → Option (List Nat)
  | [], d => if d = 0 then some [] else none
  | [d1], d => if d % d1.stride = 0 ∧ d / d1.stride < d1.count then some [d / d1.stride + d1.first] else none
  | d1 :: ds, d =>
    if d / d1.stride < d1.count then
      (matchDims ds (d % d1.stride)).map fun l => (d / d1.stride + d1.first) :: l
    else none

/-- The index an island has among the islands that share its rows: the port island, the pipeline, or the island itself. -/
def islandArg (isl : Nat) (shared : Bool) : List Nat :=
  if shared then [isl]
  else if isl = 5 ∨ isl = 6 then [isl - 5]
  else if 10 ≤ isl ∧ isl ≤ 15 then [isl - 10]
  else []

/-- The register at an offset: whether the host may write it, whether it is a pop window, its fields. -/
structure RegAt where
  off : Nat
  ix : List Nat
  hostWrites : Bool
  pop : Bool
  fields : List (Field × Acc)
deriving DecidableEq, Repr

/-- Look one row up. -/
def RegRow.at? (r : RegRow) (isl : Nat) (shared : Bool) (off : Nat) : Option RegAt :=
  if off < r.off then none
  else (matchDims r.dims (off - r.off)).map fun ix =>
    ⟨r.off, ix, r.hostWrites, r.pop, r.fields (islandArg isl shared ++ ix)⟩

/-- The register that occupies an offset (a multiple of 8) of an island's window, if one does (R6, R10). -/
def regAt (isl off : Nat) : Option RegAt :=
  match (rowsOf isl).findSome? (fun r => if r.off < 0xF0000 then r.at? isl false off else none) with
  | some r => some r
  | none => rowsAll.findSome? (fun r => r.at? isl true off)

end Sys2Proof.Machine
end

