-- ==== Sys2Proof/Machine/Maps.lean ====
section
/-!
DEFINITION. Finite maps and memories as plain lists in one canonical form: keys strictly rising, and, for a map with a
value that unlisted keys read as, no entry that holds that value.
-/
namespace Sys2Proof.Machine

/-- The entry at a key, if listed. -/
def nget {α : Type} (m : List (Nat × α)) (k : Nat) : Option α :=
  match m with
  | [] => none
  | (k', v) :: r => if k = k' then some v else nget r k

/-- The entry at a key, or the value an unlisted key reads as. -/
def ngetD {α : Type} (m : List (Nat × α)) (k : Nat) (d : α) : α := (nget m k).getD d

/-- List a value at a key, replacing what stood there. -/
def nset {α : Type} (m : List (Nat × α)) (k : Nat) (v : α) : List (Nat × α) :=
  match m with
  | [] => [(k, v)]
  | (k', v') :: r =>
    if k < k' then (k, v) :: (k', v') :: r
    else if k = k' then (k, v) :: r
    else (k', v') :: nset r k v

/-- Unlist a key. -/
def nerase {α : Type} (m : List (Nat × α)) (k : Nat) : List (Nat × α) :=
  match m with
  | [] => []
  | (k', v') :: r => if k = k' then nerase r k else (k', v') :: nerase r k

/-- Write a value at a key of a map whose unlisted keys read as `d`: the entry goes when the value is `d`. -/
def nput {α : Type} [DecidableEq α] (d : α) (m : List (Nat × α)) (k : Nat) (v : α) : List (Nat × α) :=
  if v = d then nerase m k else nset m k v

/-- Change the entry at a key, if listed. -/
def nmodify {α : Type} (m : List (Nat × α)) (k : Nat) (f : α → α) : List (Nat × α) :=
  match nget m k with
  | some v => nset m k (f v)
  | none => m

/-- The canonical form of a map: its keys strictly rise. -/
def nsorted {α : Type} (m : List (Nat × α)) : Bool :=
  match m with
  | [] => true
  | [_] => true
  | (k, _) :: (k', v') :: r => decide (k < k') && nsorted ((k', v') :: r)

/-- The canonical form of a memory whose unlisted bytes read as `d`. -/
def Memory.wf (d : Byte) (m : List (Nat × Byte)) : Bool :=
  nsorted m && m.all (fun c => decide (c.2 ≠ d))

/-- Read `n` bytes of a memory from an address. -/
def readBytes (d : Byte) (m : List (Nat × Byte)) (a : Nat) : Nat → List Byte
  | 0 => []
  | n + 1 => ngetD m a d :: readBytes d m (a + 1) n

/-- Write bytes to a memory from an address on. -/
def writeBytes (d : Byte) (m : List (Nat × Byte)) (a : Nat) : List Byte → List (Nat × Byte)
  | [] => m
  | b :: bs => writeBytes d (nput d m a b) (a + 1) bs

/-- The little-endian number of a list of bytes. -/
def leNat : List Byte → Nat
  | [] => 0
  | b :: bs => b.toNat + 256 * leNat bs

/-- The big-endian number of a list of bytes. -/
def beNat (l : List Byte) : Nat := l.foldl (fun a b => a * 256 + b.toNat) 0

/-- The `n` little-endian bytes of a number. -/
def leBytes : Nat → Nat → List Byte
  | 0, _ => []
  | n + 1, v => BitVec.ofNat 8 v :: leBytes n (v / 256)

/-- The `n` big-endian bytes of a number. -/
def beBytes (n v : Nat) : List Byte := (leBytes n v).reverse

/-- Replace the bytes of a list from a position on; the list keeps its length. -/
def patchAt (l : List Byte) (i : Nat) (bs : List Byte) : List Byte :=
  (l.take i ++ bs ++ l.drop (i + bs.length)).take l.length

/-- The slice `[i, i + n)` of a list. -/
def sliceAt {α : Type} (l : List α) (i n : Nat) : List α := (l.drop i).take n

/-- Replace the element at a position. -/
def setAt {α : Type} (l : List α) (i : Nat) (v : α) : List α := l.set i v

/-- The numbers below `n` for which a test holds, rising. -/
def indicesOf (n : Nat) (p : Nat → Bool) : List Nat := (List.range n).filter p

/-- The bit mask of a list of bit numbers. -/
def maskOf (l : List Nat) : Nat := l.foldl (fun a i => a ||| 2 ^ i) 0

/-- The next item of a cyclic order of `n` places after `i` for which a test holds: the round-robin choice. -/
def roundRobin (n i : Nat) (p : Nat → Bool) : Option Nat :=
  ((List.range n).map fun k => (i + 1 + k) % n).find? p

end Sys2Proof.Machine
end

