-- ==== Sys2Proof/Machine/Crypto.lean ====
section
/-!
DEFINITION. Check codes: CRC-32C (R87), and the CRC-32 of the IEEE 802.3 frame check sequence.
-/
namespace Sys2Proof.Machine

/-- One bit of a reflected CRC: shift, and fold the polynomial in when the bit shifted out is 1. -/
def crcBit (poly c : Nat) : Nat := if c % 2 = 1 then (c / 2) ^^^ poly else c / 2

/-- One byte of a reflected CRC. -/
def crcByte (poly c : Nat) (b : Byte) : Nat :=
  let c0 := c ^^^ b.toNat
  let c1 := crcBit poly (crcBit poly (crcBit poly (crcBit poly c0)))
  crcBit poly (crcBit poly (crcBit poly (crcBit poly c1)))

/-- A reflected CRC over bytes, with initial value and final XOR all ones. -/
def crcReflected (poly : Nat) (l : List Byte) : Nat :=
  (l.foldl (crcByte poly) 0xFFFFFFFF) ^^^ 0xFFFFFFFF

/-- CRC-32C (R87). -/
def crc32c (l : List Byte) : Nat := crcReflected 0x82F63B78 l

/-- The CRC-32 of IEEE 802.3. -/
def crc32 (l : List Byte) : Nat := crcReflected 0xEDB88320 l

/-- The frame check sequence of a frame without one, as its four bytes on the wire. -/
def fcsOf (l : List Byte) : List Byte := leBytes 4 (crc32 l)

/-- A frame with its frame check sequence appended. -/
def withFcs (l : List Byte) : List Byte := l ++ fcsOf l

/-- Whether a frame's last four bytes are its frame check sequence. -/
def fcsGood (l : List Byte) : Bool := fcsOf (l.take (l.length - 4)) == l.drop (l.length - 4)

end Sys2Proof.Machine
end

