-- ==== Sys2Proof/Machine/CasWire.lean ====
section
/-!
DEFINITION. The cascade's wire format (R268, R269): a message as cascade blocks of the CX stream, and back.
-/
namespace Sys2Proof.Machine

/-- Whether a block of the stream is a cascade block (R268). -/
def isCasBlock (b : CodeBlock) : Bool := b.1 == 2 && b.2.length == 8 && (b.2.getD 0 0).toNat == 0xD2

/-- The lane a message travels on (R268): RESULT and MISS on lane 1, the others on lane 0. -/
def casLane (kind : Nat) : Nat := if kind = 2 ∨ kind = 3 then 1 else 0

/-- The payloads of a message's data blocks (R269): the key of a REQ, left-aligned with zero fill; ACTION, INDEX and zeros
of a RESULT. -/
def casData (m : CasMsg) : Frame :=
  match m.kind with
  | 1 => let n := (m.key.length + 6) / 7
         (m.key ++ List.replicate (7 * n) 0).take (7 * n)
  | 2 => beBytes 8 m.action ++ beBytes 2 m.index ++ beBytes 4 0
  | _ => []

/-- The head block's payload (table "Cascade head block payload"). -/
def casHead (m : CasMsg) : Frame :=
  beBytes 7 (m.kind % 16 * 2 ^ 52 + m.origin % 4 * 2 ^ 50 + m.sender % 4 * 2 ^ 48 + m.seen % 16 * 2 ^ 44
    + m.tag % 4096 * 2 ^ 32 + m.table % 256 * 2 ^ 24 + m.execSlot % 65536 * 2 ^ 8 + (casData m).length / 7 % 256)

/-- The cascade blocks of `n` payloads of 7 bytes. -/
def casCut : Nat → Frame → List CodeBlock
  | 0, _ => []
  | n + 1, l => (2, 0xD2 :: l.take 7) :: casCut n (l.drop 7)

/-- A message as it leaves on CX: head, data, and a trailer with the CRC-32C of their payloads (R269). -/
def casBlocks (m : CasMsg) : List CodeBlock :=
  let l := casHead m ++ casData m
  casCut (l.length / 7 + 1) (l ++ beBytes 3 0 ++ beBytes 4 (crc32c l))

/-- The payloads of the cascade blocks of a run of the stream: the receiving PCS takes them out (R268). -/
def casPayload (w : List CodeBlock) : Frame := (w.filter isCasBlock).flatMap fun b => b.2.drop 1

/-- The message that a run of the CX stream carries; none where its length or its CRC is bad, or its TYPE unknown
(R269). -/
def casMessage (w : List CodeBlock) : Option CasMsg :=
  let l := casPayload w
  let h := beNat (l.take 7)
  let n := h % 256
  let body := l.take (7 * (n + 1))
  let kind := bitsOf h 52 4
  let data := body.drop 7
  if l.length = 7 * (n + 2) ∧ beNat (sliceAt l (7 * (n + 1) + 3) 4) = crc32c body ∧ 1 ≤ kind ∧ kind ≤ 7 then
    some { kind, origin := bitsOf h 50 2, sender := bitsOf h 48 2, seen := bitsOf h 44 4, tag := bitsOf h 32 12,
           table := bitsOf h 24 8, execSlot := bitsOf h 8 16, key := if kind = 1 then data else [],
           action := if kind = 2 then beNat (data.take 8) else 0, index := if kind = 2 then beNat (sliceAt data 8 2) else 0 }
  else none

end Sys2Proof.Machine
end

