-- ==== Sys2Proof/Machine/State.lean ====
section
/-!
DEFINITION. The state of the block as plain data. Every register field of the register tables (RegMap.lean) lives in
`State.regs`; the other fields hold what the spec gives the device beside its registers: channels, frames in flight,
tables, queues, pins, memories, and the queue of commands that wait.
-/
namespace Sys2Proof.Machine

/-- No command of this block stops with a fault: the spec gives every access and every event an effect. -/
inductive Fault
deriving DecidableEq, Repr

/-- Why a command has no meaning. -/
inductive Refusal where
  /-- Raised by an arm of `exec` whose command has no meaning yet; safe: the machine stops where the device goes on. -/
  | notModelled (mnemonic : String)
deriving DecidableEq, Repr

/-- What the device puts out during one command: on a port, a ring, the cascade, a pin, the tag antenna, the host link. -/
inductive Output where
  | frame (port lane : Nat) (bytes : Frame)
  | frameAborted (port : Nat)
  | cascade (lane : Nat) (blocks : List CodeBlock)
  | matchOut (slot : Nat)
  | msix (vec addr data : Nat)
  | ringBlocks (dir : Nat) (bytes : Frame)
  | tag (slot : Nat) (bytes : Frame)
  | pin (name : String) (level : Nat)
  | i2c (bus addr : Nat) (bytes : Frame)
  | completion (status : Nat) (bytes : Frame)
  | poisoned (bytes : Frame)
  /-- The core takes an exception of a cause (RISC-V mcause) at an address. -/
  | coreFault (cause addr : Nat)
  | tdo (value : Nat)
  | dmaRead (ch addr len : Nat)
  | hostWrite (addr len : Nat)
  | config (vendor device revision classCode subVendor subId : Nat)
  | dram (name : String) (rank row : Nat)
deriving DecidableEq, Repr

/- ## Channels and islands (02_islands_and_handshakes.md) -/

/-- A received frame's copy in its ingress FIFO (R28, R69): held until the buffer island commits it. -/
structure Copy where
  seq : Nat
  bytes : Frame
  /-- INGRESS as the routine sees it (R151); the receiving port, or what an injection names. -/
  ingress : Nat
  rx : Nat
  handle : Nat
  /-- The epoch recorded at the first parse (R83). -/
  epoch : Option Nat
  trial : Bool
  /-- 0 in the FIFO, 1 header sent, 2 header arrived, 3 parsed, 4 dispatched, 5 ended. -/
  stage : Nat
  /-- The packet's frames have been given to BI (R219). -/
  passed : Bool
deriving DecidableEq, Repr

/-- What a Sideshow entry carries beside its frame (R328). -/
structure SideMeta where
  kind : Nat
  reason : Nat
  egress : Nat
  origLen : Nat
  ruleIndex : Nat
  truncated : Bool
deriving DecidableEq, Repr

/-- A frame on its way to, or in, the shared buffer (R278): a forwarded frame, a copy, or a Sideshow entry. -/
structure Desc where
  port : Nat
  queue : Nat
  cls : Nat
  colour : Nat
  ingress : Nat
  bytes : Frame
  epoch : Nat
  handle : Nat
  stamp : Nat
  side : Option SideMeta
  /-- A copy of R322 or R192, which steps no sampler. -/
  copy : Bool
  /-- Charged to the return reserve rather than to the queue (R291). -/
  reserve : Bool
  /-- The copy of the packet this frame belongs to; the copies of R325 are not ordered with the frames they copy and
  commit nothing. -/
  commits : Option (Nat × Nat)
  /-- Its cells are charged in BI: not those of a frame that outlived a reset of BI (R66). -/
  charged : Bool := true
  /-- The entry to Safety Net whose safe scene it is, counted from 1 (R138); 0 for every other frame. -/
  scene : Nat := 0
deriving DecidableEq, Repr

/-- What crosses a handshake channel. -/
inductive Item where
  | header (source seq : Nat)
  | search (id : Nat)
  | admission (d : Desc)
  | cells (d : Desc)
  | spill (i : Nat) (d : Desc)
deriving DecidableEq, Repr

/-- One handshake channel (R55): credits the sender holds, items under way, items arrived, credits on their way back. -/
structure Channel where
  credits : Nat
  inFlight : List Item
  arrived : List Item
  returning : Nat
deriving DecidableEq, Repr

/-- The progress monitors and island resets. -/
structure Islands where
  /-- The time of the last trip or forced reset of each island still on its way back to running (R62). -/
  tripAt : List (Nat × Nat)
  /-- Islands whose step 3 of R62 is complete and that wait for the others of R79. -/
  holdDone : List Nat
  /-- Islands whose PLL is enabled and not locked (R53, R54). -/
  relock : List Nat
  /-- The times of each island's trips, youngest first (R136, R143). -/
  tripTimes : List (Nat × List Nat)
  /-- Functions whose EN = 1 is held until DONE (R77). -/
  heldEnable : List Func
  /-- Functions that are being disabled and whose DONE has not set (R76). -/
  draining : List Func
  /-- Disables written while the island was held in reset: they take effect when replay begins (R82). -/
  deferred : List Func
  /-- Islands that power down once their functions are DONE (R75). -/
  wantOff : List Nat
  /-- Per island that holds an item: how long its progress token has not advanced, ns (R60). -/
  stall : List (Nat × Nat)
deriving DecidableEq, Repr

/- ## Ports (05_ports.md) -/

/-- A PAUSE hold (R158, R159). -/
structure Hold where
  startAt : Nat
  endAt : Nat
deriving DecidableEq, Repr

/-- The frame a MAC is sending. -/
structure OnWire where
  desc : Desc
  startAt : Nat
  endAt : Nat
deriving DecidableEq, Repr

/-- One port's MAC: its ingress copies and its egress FIFO. -/
structure PortMac where
  copies : List Copy
  nextSeq : Nat
  /-- Receive sequence number of the last committed frame plus one (what BI keeps, R69). -/
  committed : Nat
  hold : Option Hold
  /-- After R159 a frame goes before the next PAUSE is honoured. -/
  owesFrame : Bool
  /-- The scheduled lane and the ordinary lane of the egress FIFO (R311), oldest first; with the frame on the wire
  these are the port's unconfirmed descriptors (R28). -/
  sched : List Desc
  ordin : List Desc
  wire : Option OnWire
  /-- Dispatch of this source is held by a pause-mode update (R209). -/
  paused : Bool
  /-- One more than the time at which EN was last cleared, 0 if it was not: a frame on the wire by then is still received
  (R76). -/
  offAt : Nat
deriving DecidableEq, Repr

/-- An I²C transfer or bus clear in progress. -/
structure I2cOp where
  busClear : Bool
  since : Nat
  addr : Nat
  rdLen : Nat
  wrLen : Nat
deriving DecidableEq, Repr

/-- The power coordinator's memory (R168): per domain the rise assigned to each slot, per port the last slot. -/
structure PowerCoord where
  slots : List (Nat × List (Nat × Nat))
  lastSlot : List (Nat × Nat)
deriving DecidableEq, Repr

/- ## Parse graph, routines, tables: one bank of the epochal structures (06, 07, 08, 14, 15) -/

/-- A node of the parse graph (R179). -/
structure GraphNode where
  fieldOffset : Nat
  fieldWidth : Nat
  fieldShift : Nat
  markLayer : Option Nat
  tagKind : Nat
  fragKind : Nat
  advMode : Nat
  advScale : Nat
  advConst : Nat
  dflt : Nat
  /-- Transitions in order: value, mask, next. -/
  trans : List (Nat × Nat × Nat)
deriving DecidableEq, Repr

/-- A parse graph (R179). -/
structure Graph where
  start : Nat
  nodes : List GraphNode
deriving DecidableEq, Repr

/-- An entry of the routine table (R241). -/
structure Routine where
  entry : Nat
  budget : Nat
  gateway : Bool
  defaultAction : Nat
deriving DecidableEq, Repr

/-- The routine table of a pipeline (R241): its valid entries. -/
structure RoutineTable where
  gwEn : Bool
  entries : List (Nat × Routine)
deriving DecidableEq, Repr

/-- An entry of a hash table (R255 to R261). -/
structure HashEntry where
  key : Frame
  action : Nat
  learned : Bool
  overflow : Bool
  index : Nat
  hitAt : Nat
deriving DecidableEq, Repr

/-- A hash table: its entries and the buckets whose OVF flag is set (R257). -/
structure HashTable where
  entries : List HashEntry
  ovf : List Nat
deriving DecidableEq, Repr

/-- One bank of what a pipeline island runs: its parse graph, control store and routine table. The control store lists
its non-zero words; a word is a 128-bit number. `words` is the word count of its CONTROL_STORE body (R242, R243). -/
structure PipeBank where
  graph : Graph
  store : List (Nat × Nat)
  words : Nat
  routines : RoutineTable
deriving DecidableEq, Repr

/-- One bank of every epochal structure. -/
structure Bank where
  pa : PipeBank
  pb : PipeBank
  /-- The TCAM slices: table-update row number to record, zero records unlisted (R253). -/
  tcam : List (List (Nat × Nat))
  bridge : HashTable
  flow : HashTable
  /-- Gateway template and map bodies by section kind and section index (15_gateway.md). -/
  templates : List (Nat × Frame)
  maps : List (Nat × Frame)
  /-- Schedule-mode bodies (14_gwevik_schedule.md). -/
  modes : List (Nat × Frame)
deriving DecidableEq, Repr

/-- One operation of the pause-mode batch (R209). -/
structure BatchOp where
  invalidate : Bool
  table : Nat
  index : Nat
  record : Nat
deriving DecidableEq, Repr

/-- The epoch logic beside its registers (R196 to R212). -/
structure EpochCtl where
  /-- ALIGN and EPOCH_AT sampled by the accepted commit (R203). -/
  align : Nat
  atTime : Nat
  fromImage : Bool
  /-- The switch point of the pending commit has been reached (R204). -/
  reached : Bool
  retireSince : Nat
  /-- Tables with staged changes, and whether the control stores have any. -/
  stagedTables : List Nat
  /-- Tables and structures a staged partial image replaces: table numbers, for R212. -/
  imageTables : List Nat
  /-- The staged epoch's bridge table came from a HASH_CONTENT section (R260). -/
  bridgeReplaced : Bool
  aborting : Bool
  /-- Source and receive number of the trial frames that the abort discards (R207). -/
  aborted : List (Nat × Nat)
  batch : List BatchOp
  pauseAt : Nat
  pausePorts : List Nat
deriving DecidableEq, Repr

/- ## Pipelines (06, 07, 09) -/

/-- The parse result of a packet (R183) with the packet. -/
structure Parsed where
  source : Nat
  seq : Nat
  ingress : Nat
  bytes : Frame
  rx : Nat
  handle : Nat
  epoch : Nat
  trial : Bool
  result : Nat
  layers : List Nat
  tagOuter : Option Frame
  tagInner : Option Frame
  tagOvf : Bool
  /-- 0 no fragment, 1 first, 2 non-first (R184). -/
  frag : Nat
  fragKey : Option FragKey
  visits : Nat
  since : Nat
deriving DecidableEq, Repr

/-- A gateway context's output buffer and trigger (15_gateway.md). -/
structure GwCtx where
  /-- The trigger record the context was dispatched with. -/
  trigger : Frame
  /-- The template GOUT selected and the output buffer it loaded. -/
  template : Option Nat
  buffer : Frame
  /-- Maps the context holds. -/
  held : List Nat
  /-- Copies the last GEMIT passed, for each of which the context waits a cycle (R456). -/
  copying : Nat
deriving DecidableEq, Repr

/-- A Juggler context that holds a packet (R217, R221). The accumulator, EMIT and the search slots stand in the PHV. -/
structure Ctx where
  packet : Option Parsed
  phv : Frame
  g : List (BitVec 32)
  z : Bool
  c : Bool
  hit : Bool
  csr : Bool
  stack : List Nat
  pc : Nat
  issued : Nat
  routine : Nat
  budget : Nat
  epoch : Nat
  trial : Bool
  /-- Search slots issued since dispatch, and the outstanding ones with their search numbers. -/
  issuedSlots : List Nat
  outstanding : List (Nat × Nat)
  /-- The slot an SWAIT waits for. -/
  swait : Option Nat
  /-- The fragment entry the context waits on (R189). -/
  waitFrag : Option FragKey
  /-- The routine has ended; the context is held for outstanding searches (R236). -/
  done : Bool
  /-- INDEX of the search result whose action set COPY, MIRROR, and of the last hit (R329). -/
  copyIndex : Nat
  mirrorIndex : Nat
  lastHit : Nat
  /-- The cycle in which the next instruction became the next one (R556), and the cycles it has not issued by cause. -/
  readyAt : Nat
  stall : List (Nat × Nat)
  /-- When the next SRCH first found no response credit. -/
  creditSince : Option Nat
  /-- The SWAIT that waits was chosen for a precise sample. -/
  sampled : Bool
  gw : Option GwCtx
deriving DecidableEq, Repr

/-- A packet that has ended and waits for the earlier packets of its source (R219). -/
structure Ended where
  source : Nat
  seq : Nat
  outs : List Desc
deriving DecidableEq, Repr

/-- A selector (R324): LFSR and gap count. -/
structure Selector where
  lfsr : Nat
  gap : Nat
deriving DecidableEq, Repr

/-- A pipeline island's work. -/
structure Pipe where
  heads : List Parsed
  /-- Contexts by 4 × Juggler + context. -/
  ctxs : List (Nat × Ctx)
  grants : Nat
  rrAny : Nat
  rrRes : Nat
  rrShed : Nat
  gwGrants : Nat
  gwRrAny : Nat
  gwRrRes : Nat
  ended : List Ended
  /-- Passed to BI in order, waiting for admission credit. -/
  toBi : List Desc
  /-- Entries of the JUG_FAULT window, oldest first (R238). -/
  faults : List Nat
  sampler : Selector
  sampledSinceEn : Nat
  /-- When a hold of dispatch began, if one is in force (R288). -/
  heldSince : Option Nat
  /-- Packets ended and instructions issued in the running 1 ms (JUG_RATE). -/
  ratePkts : Nat
  rateInstrs : Nat
  /-- Per Juggler: the island cycle of its last issue plus one, and the context it issued from (R217). -/
  issuedAt : List (Nat × Nat)
  lastCtx : List (Nat × Nat)
deriving DecidableEq, Repr

/-- A fragment-table entry (R186, R189). -/
structure FragEntry where
  key : FragKey
  /-- The first fragment's source and sequence number while the entry is pending. -/
  owner : Option (Nat × Nat)
  decision : Nat
  hitAt : Nat
deriving DecidableEq, Repr

/- ## Search (08_search.md) -/

/-- A search a Juggler has issued and whose response has not reached its slot. -/
structure SearchReq where
  id : Nat
  ctx : CtxId
  slot : Nat
  table : Nat
  key : Frame
  epoch : Nat
  trial : Bool
  ingress : Nat
  issuedAt : Nat
  arrived : Bool
  /-- STATUS, ACTION, INDEX, LOC once the lookup is done. -/
  result : Option (Nat × Nat × Nat × Nat)
deriving DecidableEq, Repr

/-- A probe in progress (R273). -/
structure Probe where
  seq : Nat
  bank : Nat
  table : Nat
  key : Frame
  /-- The cascade search's result, on a cascade slice (R274). -/
  result : Option (Nat × Nat × Nat × Nat)
  /-- The number of its read of the overflow set at DI, while that runs (R258). -/
  asked : Option Nat
deriving DecidableEq, Repr

/-- Whose cascade search it is: a Juggler's, a probe's, or another member's. -/
inductive CasOwner where
  | search (id : Nat)
  | probe (p : Nat)
  | member
deriving DecidableEq, Repr

/-- A cascade search this member takes part in (R264, R265). -/
structure CasSearch where
  owner : CasOwner
  origin : Nat
  tag : Nat
  table : Nat
  key : Frame
  issueSlot : Nat
  execSlot : Nat
  /-- SEEN of the returned REQ, for the member's own searches. -/
  seen : Nat
  /-- This member's own lookup: ACTION and INDEX of its winning entry. -/
  own : Option (Nat × Nat)
  executed : Bool
  /-- The outcome known so far: a RESULT (or the own win), or a MISS. -/
  outcome : Option (Option (Nat × Nat))
deriving DecidableEq, Repr

/-- The search island beside its registers and the banked tables. -/
structure Search where
  reqs : List SearchReq
  nextId : Nat
  frags : List FragEntry
  casc : List CasSearch
  nextTag : Nat
  incompleteRun : Nat
  /-- The slot counter: its value at a schedule-independent time (ns since power-up). -/
  slotBase : Nat
  slotAt : Nat
  ready : Nat
  /-- When the last HELLO was sent plus one, 0 after a DOWN (R270). -/
  helloAt : Nat
  /-- The latest execute slot given to a search of this member's own, plus one (R267). -/
  lastExec : Nat
  probe0 : Option Probe
  probe1 : Option Probe
deriving DecidableEq, Repr

/- ## Buffer, Carousel, Sideshow (09, 10) -/

/-- A frame of a spill queue's DRAM segment (R290): given to the spill-write channel, acknowledged once DI has written it,
being read back. -/
structure Spilled where
  desc : Desc
  asked : Bool
  acked : Bool
  reading : Bool
deriving DecidableEq, Repr

/-- A buffer queue: head segment, DRAM segment, held tail (R289). -/
structure BufQueue where
  head : List Desc
  dram : List Spilled
  tail : List Desc
deriving DecidableEq, Repr

/-- A port's place in the Carousel (R309): the two round-robin pointers and the queue whose visit goes on. -/
structure CarPort where
  ptrC : Nat
  ptrE : Nat
  visitC : Option Nat
  visitE : Option Nat
  /-- Queue 7 is served (from 2 µs before the window opens until it closes, R312). -/
  service7 : Bool
  /-- GUARD has begun (R314). -/
  guard : Bool
  /-- When the open or coming window opens and closes. -/
  openAt : Nat
  closeAt : Nat
  /-- The head of the scheduled lane has been carried past this window (R313). -/
  deferred : Bool
deriving DecidableEq, Repr

/-- What a shaper keeps beside its registers: the accumulators of R316 and the writes that wait for a tick. -/
structure Shaper where
  accC : Nat
  accE : Nat
  forgiveC : Bool
  forgiveE : Bool
  clampC : Bool
  clampE : Bool
  /-- The gate of a disabled shaper is removed at the next tick (R76). -/
  active : Bool
deriving DecidableEq, Repr

/-- The buffer island beside its registers. -/
structure Buffer where
  queues : List (Nat × BufQueue)
  car : List (Nat × CarPort)
  shapers : List (Nat × Shaper)
  mirrors : List (Nat × Selector)
  samplers : List (Nat × Selector)
  /-- The ring writer of port 101 (R310), and RING_SEQ per ring (R328). -/
  ringWriter : List Desc
  ringSeq : List (Nat × Nat)
  power : PowerCoord
  /-- SPILL_BASE and the spill regions in MiB (R289, R297). -/
  spillBase : Nat
  spillMib : List (Nat × Nat)
  /-- The spill queue that last took the return reserve (R291). -/
  spillRr : Nat
  /-- The BI cycle of the last releases, and what each queue freed in it; and per pipeline one more than the BI cycle of its
  last decision (R283). -/
  freedAt : Nat
  freed : List (Nat × Nat)
  admAt : List (Nat × Nat)
  /-- The entry whose bytes are on their way to a receive ring in DRAM, with its ring; the injection rings whose slot is on
  its way from DRAM (R330, R339). -/
  ringPut : Option (Nat × Desc)
  injWait : List Nat
deriving DecidableEq, Repr

/- ## DRAM (11_dram.md) -/

/-- Who asked for a DRAM transfer: the requester of R339, with what the answer is for where that matters. -/
inductive DramWho where
  | ovf (id : Nat)
  | spillRd (i : Nat)
  | spillWr (i : Nat)
  | core (kind : AccKind) (addr : Nat)
  | host
  /-- A DMA channel's local side, the entries of a receive ring, and the slots of an injection ring (R482, R330). -/
  | dma (c : Nat)
  | entry (r : Nat)
  | inject (r : Nat)
  | log
  | sample
deriving DecidableEq, Repr

/-- A DRAM request (R340): at most 128 bytes within one row. -/
structure DramReq where
  who : DramWho
  addr : Nat
  len : Nat
  wr : Bool
  data : Frame
  at_ : Nat
deriving DecidableEq, Repr

/-- Bytes read for MI's own use (DMA, injection rings), until the transfer is complete. -/
structure DramGot where
  who : DramWho
  addr : Nat
  bytes : Frame
  bad : Bool
deriving DecidableEq, Repr

/-- The DRAM island beside its registers. -/
structure Dram where
  queue : List DramReq
  /-- The open row of 16 × rank + bank. -/
  rows : List (Nat × Nat)
  /-- Activations in the refresh window: by 2048 × (16 × rank + bank) + group, and by 8 × (16 × rank + bank) + requester. -/
  groupActs : List (Nat × Nat)
  reqActs : List (Nat × Nat)
  /-- Groups that have crossed in the window. -/
  crossed : List Nat
  /-- Requester and time of the activations of the last µs (R358). -/
  recent : List (Nat × Nat)
  /-- Refreshes of rank 0 in the window. -/
  refreshes : Nat
  /-- Lanes stored inverted, by beat: data 0 to 31, check 32 to 39 (R343, DI.ECC_INJ). -/
  flips : List (Nat × Nat)
  /-- DI.ECC_LOG, oldest first. -/
  eccLog : List Nat
  /-- Mode registers by 8 × rank + number (R351), and their initial values from DRAM_CFG. -/
  mr : List (Nat × Nat)
  mrInit : List Nat
  /-- INIT runs (R352). -/
  initRun : Bool
  /-- DRAM is in self-refresh (R126, R352). -/
  selfRefresh : Bool
  /-- Start of the last retraining slice, and the number of the next (R354). -/
  sliceAt : Nat
  sliceNo : Nat
  /-- Per spill index, cells written to and read from its region (R290, R291). -/
  spillPut : List (Nat × Nat)
  spillGot : List (Nat × Nat)
  /-- Spill queues whose running read-back met an uncorrectable error (R293). -/
  spillBad : List Nat
  /-- OVF_BASE of TCAM_GEOM. -/
  ovfBase : Nat
  got : List DramGot
  /-- When each rank was last refreshed (R342). -/
  refreshAt : List (Nat × Nat)
  /-- When the latest retraining slice ends (R355). -/
  sliceEnd : Nat
  /-- The levels of DDR_RESET_N and of CKE0 and CKE1 (R352). -/
  resetN : Bool
  cke : Bool
  /-- Full INITs: each leaves the content undefined (R352). -/
  inits : Nat
deriving DecidableEq, Repr

/- ## The management island (16_management_core.md) -/

/-- A DMA descriptor in progress (R482). -/
structure DmaOp where
  hostAddr : Nat
  localAddr : Nat
  len : Nat
  toHost : Bool
  irq : Bool
  since : Nat
deriving DecidableEq, Repr

/-- The management island beside its registers. -/
structure Mgmt where
  /-- Up to when MI.WDT_STAT.REMAIN has been counted, and MI.MTIME (R467, R486). -/
  wdtAt : Nat
  mtimeAt : Nat
  /-- The two latest samples of sensor channel 11, youngest first (R514). -/
  sense : List Nat
  /-- The SECURITY body in force (R474), and the PMP registers loaded from it (R473). -/
  security : Frame
  pmpCfg : List Nat
  pmpAddr : List Nat
  /-- The debug module has the core halted. -/
  halted : Bool
  /-- The machine timer interrupt is pending (R467). -/
  mtip : Bool
  /-- The instruction cache holds lines (R468). -/
  icache : Bool
  /-- Max_Payload_Size and Max_Read_Request_Size of Device Control (R481). -/
  mps : Nat
  mrrs : Nat
  dma : List (Nat × DmaOp)
  /-- Sensor channels whose next conversion restarts MIN and MAX (R485). -/
  restart : List Nat
  /-- REMAIN has reached WARN_MS since it was last loaded (R490). -/
  warned : Bool
  /-- The instruction in the test access port (R574). -/
  tap : TapInstr
  /-- The word LR.W has reserved (R466). -/
  reservation : Option Nat
  /-- When mcycle and minstret were 0: the latest device reset. -/
  cycleAt : Nat
  /-- Device resets so far: each leaves the content of SRAM undefined (R471). -/
  resets : Nat
deriving DecidableEq, Repr

/- ## Persistence (18_persistence.md) -/

/-- What the flash controller does: firmware's or the boot ROM's programs and erases, and the journal's (R512, R520). -/
inductive FlashOp where
  | program (fw : Bool) (addr : Nat) (data : Frame)
  | erase (fw : Bool) (addr size : Nat)
  | journal (slot : Nat) (recs : List Frame)
deriving DecidableEq, Repr

/-- A queued journal record (R520). -/
structure JnlEntry where
  seq : Nat
  raw : Frame
  copy : Bool
deriving DecidableEq, Repr

/-- A fuse operation in progress (R115, R537, R538). -/
inductive FuseOp where
  | keyHash (slot : Nat) (hash : List Nat)
  | revoke (slot : Nat)
  | advance (value : Nat)
  | seal
deriving DecidableEq, Repr

/-- The flash controller, the journal and the fuse block beside their registers. -/
structure Persist where
  /-- Density of the fitted flash in MiB (R510). -/
  density : Nat
  op : Option FlashOp
  opSince : Nat
  /-- Operations accepted and not started: firmware's, ERASE_OLDEST, and the boot ROM's trial mark (R534). -/
  want : Option FlashOp
  wantOldest : Bool
  wantTries : Option Nat
  queue : List JnlEntry
  /-- The slot of the journal head (R519), once located. -/
  head : Option Nat
  /-- The oldest block in use and how many are in use. -/
  oldest : Nat
  inUse : Nat
  nextSeq : Nat
  /-- A deferred journal program waits for the next 1 ms step (R515). -/
  jWait : Bool
  /-- The erased space is below LOW_KIB (R523). -/
  low : Bool
  /-- Stores stay refused after PF has fallen until the next 1 ms step. -/
  pfHold : Bool
  /-- The SEAL record whose durability SEAL_CMD waits for, and since when (R538). -/
  sealWait : Option (Nat × Nat)
  fuses : List FuseOp
  /-- Tag pages imported whose record is not yet durable: page, SEQ and generation (R507). -/
  imports : List (Nat × Nat × Nat)
  /-- The entries of MI.RPLY_LATE, oldest first (R529). -/
  late : List Nat
deriving DecidableEq, Repr

/- ## The commissioning tag (17_commissioning_tag.md) -/

/-- ISO/IEC 15693 tag states. -/
inductive TagMode where
  | ready | quiet | selected
deriving DecidableEq, Repr

/-- An EEPROM operation (R496, R497, R506): a page's commit with the shadow it programs, the answer to RELEASE after the
last commit, or a program of the pending mask. -/
inductive TagOp where
  | wired (page : Nat) (data : Frame)
  | field (page : Nat) (data : Frame)
  | fieldEnd
  | pendWrite
deriving DecidableEq, Repr

/-- The tag beside its registers. -/
structure Tag where
  /-- Committed copies and generation bytes by page (R496). -/
  pages : List (Nat × Frame)
  gens : List (Nat × Nat)
  /-- Field shadows of the pages the field session holds (R498). -/
  shadows : List (Nat × Frame)
  mode : TagMode
  /-- The last valid command addressed to the tag. -/
  heardAt : Nat
  /-- EEPROM operations, the running one first; and the wired READs under way, oldest first. -/
  ops : List TagOp
  reads : List Nat
  /-- COMMITTED and ERR of the RELEASE that runs (R497). -/
  committed : Nat
  err : Nat
  /-- The AO clock cycle in which each wired claim was made (R502). -/
  claimedAt : List (Nat × Nat)
  /-- The pending mask as EEPROM holds it. -/
  pendRom : Nat
deriving DecidableEq, Repr

/- ## Counters (19_counters.md) -/

/-- Snapshot copies by island (R547), islands still to capture, and level tests that held in the cycle before (R543). -/
structure Counters where
  copies : List (Nat × List (Nat × Nat))
  waiting : List Nat
  held : List Nat
deriving DecidableEq, Repr

/- ## Time (12_time.md) -/

/-- Sums for a least-squares slope (R370): number of samples, and sums of x, y, x², xy; x in ns, y in ps. -/
structure Sums where
  n : Int
  sx : Int
  sy : Int
  sxx : Int
  sxy : Int
deriving DecidableEq, Repr

/-- What TI keeps of a reference beside its registers. -/
structure RefHist where
  /-- The running second's sums, and those of the last 64 seconds, youngest first. -/
  cur : Sums
  past : List Sums
  /-- Time and phase of the last sample. -/
  last : Option (Nat × Int)
  /-- The last sample of the seconds before the running one. -/
  anchor : Option (Nat × Int)
  /-- When the reference last showed signal: an accepted measurement, an edge, a marker. -/
  seenAt : Option Nat
  /-- Since when samples have come without a gap. -/
  since : Option Nat
  f1 : Option Int
  f64 : Option Int
  /-- The wall phase error last measured, less what WALL_OFS has moved since: reference minus wall time, ns. -/
  err : Int
  /-- Qualified before, since device reset, TI reset or EN set (R371). -/
  before : Bool
  /-- Consecutive compliant updates while SUSPECT or in wait-to-restore. -/
  good : Nat
  /-- When STATE last changed, and its value before: a change is acted on at the next 1 ms step (R372). -/
  changedAt : Nat
  stateBefore : Nat
deriving DecidableEq, Repr

/-- A timescale in holdover (R375): since when, and E0 in ns. -/
structure Holdover where
  since : Nat
  e0 : Nat
deriving DecidableEq, Repr

/-- The time island beside its registers. -/
structure TimeIsland where
  refs : List RefHist
  /-- Schedule time minus the local oscillator's count, ps: what OUT_PPB and slews have added. -/
  leadPs : Int
  /-- F64 of the selected reference at the last updates of one selection, youngest first, and H (R370). -/
  hist : List (Option Int)
  anchorH : Option Int
  followed : Nat
  /-- Consecutive updates of R374's TRAINED. -/
  trainRun : Nat
  /-- The build-out B of R373. -/
  build : Int
  /-- The pending wall-time step (R379). -/
  pending : Option Int
  /-- RING's phase errors at the last 16 markers, youngest first, and what of the last one is not yet slewed away. -/
  errs : List Int
  schedErr : Int
  schedHold : Option Holdover
  wallHold : Option Holdover
  /-- An edge of PPS_OUT has been emitted; the interval after it falls under R378. -/
  ppsAny : Bool
  ppsIrregular : Bool
  /-- The TXTS window (R382), oldest first. -/
  txts : List Nat
  /-- The magnitude of the wall phase error last measured while a reference was selected. -/
  lastWall : Nat
  /-- When schedule time became valid (R363). -/
  validAt : Nat
deriving DecidableEq, Repr

/- ## The Gwevik ring (13, 14) -/

/-- The fields of a cycle marker (R393). -/
structure Marker where
  mode : Nat
  cycle : Nat
  matrixId : Nat
  dir : Nat
  rmNode : Nat
  members : Nat
  vote : Nat
  schedTime : Nat
  correction : Nat
  hops : Nat
  reqValid : Bool
  reqMode : Nat
  reqNode : Nat
  reqAge : Nat
deriving DecidableEq, Repr

/-- A train (R397): the block at which its last marker began, its markers, and the last one. -/
structure Train where
  block : Nat
  count : Nat
  last : Marker
deriving DecidableEq, Repr

/-- The fields of a container head (R401). -/
structure ConHead where
  scheduled : Bool
  cls : Nat
  src : Nat
  dst : Nat
  cycle : Nat
  index : Nat
  window : Nat
  hops : Nat
  length : Nat
deriving DecidableEq, Repr

/-- A ring port beside its registers. -/
structure RingPort where
  trains : List Train
  /-- The last present marker, its arrival, and the positions missed since (R399). -/
  last : Option Marker
  lastAt : Nat
  missed : Nat
  /-- The first RING phase sample after lock has not been seen (R428). -/
  fresh : Bool
  /-- CYCLE and T3 of markers sent, youngest first (R409). -/
  sent : List (Nat × Nat)
  /-- The last 16 link-delay samples doubled, youngest first, and when the last was taken (R409). -/
  samples : List Int
  sampleAt : Nat
  /-- The transit buffer (R405): containers and when each has left. -/
  transit : List (Nat × Frame)
  /-- When the local container being sent ends. -/
  busyUntil : Nat
  /-- Scheduled containers of the other port's window occurrence still to be sent here (R406). -/
  copies : List (ConHead × Frame)
  /-- The larger HOPS of own markers returned on the port in the running basic cycle (R429). -/
  hopsBack : Option Nat
deriving DecidableEq, Repr

/-- The ring schedule beside its registers. -/
structure RingSched where
  /-- The mode whose port windows apply (R436). -/
  portMode : Nat
  /-- The announced target of AGREED_PENDING. -/
  agreed : Option Nat
  /-- At the Ringmaster: the request carried (mode, node, age), whether it was originated, and whether it is agreed. -/
  request : Option (Nat × Nat × Nat)
  announced : Bool
  membersMax : Nat
  /-- The own request's matrix boundaries since GO (R432). -/
  waited : Nat
  /-- Yield at the next start of a basic cycle (R427). -/
  yield : Bool
  /-- The matrix cycle under observation (R430): cycles seen, what its markers agree on, and no break so far. -/
  runSeen : Nat
  runSig : Option (Nat × Nat × Nat)
  runOk : Bool
  /-- Since when neither port has lock or a train (R426); since when JOIN_OK has been 0 after falling (R136). -/
  quietSince : Option Nat
  graceSince : Option Nat
  /-- Frames of the scheduled insertion queue (R420). -/
  queue : List Desc
  /-- The window occurrence frames are being inserted in: cycle start at this port's stream, window, next INDEX, and
  whether the head has been counted as deferred in it. -/
  occ : Option (Nat × Nat)
  occIndex : Nat
  occDeferred : Bool
  /-- Deduplication entries: key and expiry (R407). -/
  dedup : List (Nat × Nat)
  /-- Published transmit banks and receive back banks by window, 256 bytes each. -/
  sigPub : List (Nat × Frame)
  sigBack : List (Nat × Frame)
  /-- When a window's container was last delivered, or failed. -/
  sigSeen : List (Nat × Nat)
  /-- When the coils last changed, the optics came on, and coil E was energised, while those timers run (R139, R413). -/
  hitE : Nat
  hitW : Nat
  opticsAt : Option Nat
  heldEAt : Option Nat
  releasedWAt : Option Nat
deriving DecidableEq, Repr

/-- The signal gateway beside its registers and the banked bodies (15_gateway.md). -/
structure Gateway where
  /-- Triggers waiting per pipeline: trigger number and record, oldest first (R451). -/
  queueA : List (Nat × Frame)
  queueB : List (Nat × Frame)
  /-- When the debounced FA state last changed (R458). -/
  faSince : Nat
  /-- When the last emergency burst was sent. -/
  burstAt : Nat
  /-- Entries to Safety Net so far, and the safe scene that waits for BI: its ports and its frame (R138). -/
  entries : Nat
  scene : Option (List Nat × Frame)
  /-- Per window, the RI cycle of the last publication plus one (R463). -/
  pubAt : List (Nat × Nat)
deriving DecidableEq, Repr

/-- The loader's running command (R109, R110): its outcome so far, where it reads, and the bytes of the first pass; and
the structural bodies of the full image in force, by section type (R100). `stagedModes` holds directory index and schedule
mode of the SCHED_MODE sections of the staged image (R104, R120). -/
structure Loader where
  error : Nat
  detail : Nat
  addr : Nat
  source : Frame
  bodies : List (Nat × Frame)
  stagedModes : List (Nat × Nat)
  /-- KEY_USED of the image, as the command's checks found it (R97). -/
  keyUsed : Nat
deriving DecidableEq, Repr

/-- The boot ROM, its replay engine, and what a mode request keeps beside the registers. -/
structure Boot where
  /-- The device is held in reset until RESET_N, VDD_CORE and the always-on island let it go (R123, R571). -/
  held : Bool
  /-- The always-on island is in its own reset (R564). -/
  aoPor : Bool
  /-- The boot ROM's LOAD runs; and it is the LOAD of the fallback slot (R128). -/
  loading : Bool
  fallback : Bool
  /-- The TRIES byte to program when the trial LOAD passes (R534). -/
  tries : Option Nat
  /-- Both slots have failed and no LOAD has passed since (R130). -/
  recovery : Bool
  /-- Islands are on their way up, and the jump of step 6 follows (R128). -/
  jump : Bool
  /-- The replay engine has been called; records still to apply; since when it waits for schedule time (R527, R529). -/
  called : Bool
  chain : List Frame
  /-- The loader command that runs is the replay engine's (R527). -/
  staging : Bool
  waitAt : Option Nat
  /-- Target and schedule time of the accepted mode request, and the matrix boundaries since (R132, R134). -/
  goal : Nat
  reqAt : Nat
  bounds : Nat
  /-- One more than the schedule time of the last entry to Safety Net, 0 before the first (R148). -/
  netAt : Nat
  /-- The schedule time at which the latest device reset began, and the model's clock then: until that clock moves, a
  command of that schedule time is of the same instant (R145). -/
  resetAt : Option (Nat × Nat)
  /-- The sources whose own condition held just before the latest device reset (R145). -/
  sources : List Nat
deriving DecidableEq, Repr

/-- The whole block. -/
structure State where
  /-- Every register field that differs from its reset value, by `Field.key`. -/
  regs : List (Nat × Nat)
  /-- Elapsed time, ns since power-up; the model's own clock (timers, slot counter). -/
  now : Nat
  /-- The answer to the last read access. -/
  resp : Nat
  /-- What the last command put out. -/
  out : List Output
  /-- The model's own count of free values taken (`Config.freeValue`). -/
  free : Nat
  /-- Per 16 × cause + island of the event log (R536): when its last entry was written, and the events since. -/
  log : List (Nat × Option Nat × Nat)
  chans : List (Nat × Channel)
  isl : Islands
  ports : List (Nat × PortMac)
  i2c : List (Nat × I2cOp)
  bank0 : Bank
  bank1 : Bank
  /-- Which bank the current epoch uses. -/
  curBank : Bool
  epoch : EpochCtl
  pa : Pipe
  pb : Pipe
  si : Search
  bi : Buffer
  ti : TimeIsland
  ringE : RingPort
  ringW : RingPort
  rsch : RingSched
  gw : Gateway
  img : Loader
  boot : Boot
  di : Dram
  mg : Mgmt
  fl : Persist
  tag : Tag
  cnt : Counters
  sram : List (Nat × Byte)
  dram : List (Nat × Byte)
  flash : List (Nat × Byte)
  host : List (Nat × Byte)
  /-- The commands that wait, first in, first out. -/
  pending : List Instr
deriving DecidableEq, Repr

/- ## After reset -/

/-- One bank with nothing in it. -/
def Bank.empty : Bank :=
  let p : PipeBank := ⟨⟨0, []⟩, [], 0, ⟨false, []⟩⟩
  ⟨p, p, List.replicate 8 [], ⟨[], []⟩, ⟨[], []⟩, [], [], []⟩

/-- No commit, no batch. -/
def EpochCtl.fresh : EpochCtl := ⟨0, 0, false, false, 0, [], [], false, false, [], [], 0, []⟩

/-- A pipeline island that holds nothing. -/
def Pipe.fresh : Pipe := ⟨[], [], 0, 0, 0, 0, 0, 0, 0, [], [], [], ⟨1, 1⟩, 0, none, 0, 0, [], []⟩

/-- A search island that holds nothing. -/
def Search.fresh : Search := ⟨[], 0, [], [], 0, 0, 0, 0, 0, 0, 0, none, none⟩

/-- An empty buffer; no spill region. -/
def Buffer.fresh : Buffer := ⟨[], [], [], [], [], [], [], ⟨[], []⟩, 0, [], 23, 0, [], [], none, []⟩

/-- A DRAM island that holds nothing. -/
def Dram.fresh : Dram := ⟨[], [], [], [], [], [], 0, [], [], [], [], false, false, 0, 0, [], [], [], 0, [], [], 0, false, false, 0⟩

/-- A management island whose watchdog starts now (R486), without a SECURITY body. -/
def Mgmt.fresh (now resets : Nat) : Mgmt :=
  ⟨now, now, [], [], [], [], false, false, false, 128, 512, [], [], false, .idcode, none, now, resets⟩

/-- Nothing started, nothing queued. -/
def Persist.fresh (density : Nat) : Persist :=
  ⟨density, none, 0, none, false, none, [], none, 0, 0, 1, false, false, false, none, [], [], []⟩

/-- A tag that nothing has written (notes/assumptions/2.md). -/
def Tag.fresh : Tag := ⟨[], [], [], .ready, 0, [], [], 0, 0, [], 0⟩

/-- A reference that has shown nothing. -/
def RefHist.fresh : RefHist :=
  ⟨⟨0, 0, 0, 0, 0⟩, [], none, none, none, none, none, none, 0, false, 0, 0, 0⟩

/-- A time island with four references that have shown nothing. -/
def TimeIsland.fresh : TimeIsland :=
  ⟨List.replicate 4 RefHist.fresh, 0, [], none, 0, 0, 0, none, [], 0, none, none, false, false, [], 0, 0⟩

/-- A ring port that tracks nothing. -/
def RingPort.empty : RingPort := ⟨[], none, 0, 0, false, [], [], 0, [], 0, [], none⟩

/-- A ring schedule in which nothing runs. -/
def RingSched.fresh : RingSched :=
  ⟨0, none, none, false, 0, 0, false, 0, none, false, none, none, [], none, 0, false, [], [], [], [], 0, 0, none, none, none⟩

/-- No loader command, no image. -/
def Loader.fresh : Loader := ⟨0, 0xFF, 0, [], [], [], 0⟩

/-- The boot ROM has not started. -/
def Boot.fresh (held aoPor : Bool) : Boot := ⟨held, aoPor, false, false, none, false, false, false, [], false, none, 0, 0, 0, 0, none, []⟩

/-- Right after the always-on island's power-on reset is raised (AO_POR, R564): every register at its reset value, every
memory blank, nothing under way, and the device held in reset until the board lets RESET_N rise (R122). -/
def State.reset : State :=
  { regs := [], now := 0, resp := 0, out := [], free := 0, log := [], chans := [],
    isl := ⟨[], [], [], [], [], [], [], [], []⟩, ports := [], i2c := [], bank0 := Bank.empty, bank1 := Bank.empty,
    curBank := false, epoch := EpochCtl.fresh, pa := Pipe.fresh, pb := Pipe.fresh, si := Search.fresh,
    bi := Buffer.fresh, ti := TimeIsland.fresh, ringE := RingPort.empty, ringW := RingPort.empty,
    rsch := RingSched.fresh, gw := ⟨[], [], 0, 0, 0, none, []⟩, img := Loader.fresh, boot := Boot.fresh true true,
    di := Dram.fresh, mg := Mgmt.fresh 0 0, fl := Persist.fresh 64, tag := Tag.fresh, cnt := ⟨[], [], []⟩, sram := [],
    dram := [], flash := [], host := [], pending := [] }

end Sys2Proof.Machine
end

