-- ==== Sys2Proof/Machine/Operands.lean ====
section
/-!
DEFINITION. The operands of a Juggler micro-instruction: its fields (R222), the packet header vector (R221, R224), the
general registers, and the second operand of ALU and CMP.
-/
namespace Sys2Proof.Machine

/-- The fields of a micro-instruction word (R222). -/
structure Micro where
  op : Nat
  cond : Nat
  rd : Nat
  ra : Nat
  rb : Nat
  off : Nat
  wm1 : Nat
  boff : Nat
  sub : Nat
  target : Nat
  imm : Nat
deriving DecidableEq, Repr

/-- Take a 128-bit word apart. -/
def microOf (w : Nat) : Micro :=
  ⟨bitsOf w 122 6, bitsOf w 118 4, bitsOf w 114 4, bitsOf w 110 4, bitsOf w 106 4, bitsOf w 96 10, bitsOf w 91 5,
    bitsOf w 88 3, bitsOf w 80 8, bitsOf w 64 13, bitsOf w 0 64⟩

/-- The search slot an instruction names: RD[1:0]. -/
def Micro.slot (m : Micro) : Nat := m.rd % 4

/-- Whether an instruction's condition code is a listed one. -/
def Micro.condListed (m : Micro) : Bool := m.cond ≤ 0xA

/- ## The packet header vector -/

/-- The size of the PHV that instructions address (R224). -/
def phvSize : Nat := 0x180

def phvResult : Nat := 0x0A0
def phvEgress : Nat := 0x0D0
def phvCut : Nat := 0x0D1
def phvEmit : Nat := 0x0D2
def phvAcc : Nat := 0x0E0
def phvScratch : Nat := 0x100
def phvSlot (s : Nat) : Nat := 0x140 + 16 * s

/-- The bytes a routine may write: the header window, EGRESS and the scratch area. -/
def phvWritable (i : Nat) : Bool := i < 0xA0 || i == phvEgress || (phvScratch ≤ i && i < 0x140)

/-- A block of `n` bytes at `off` lies within the PHV. -/
def phvInRange (off n : Nat) : Bool := off + n ≤ phvSize

/-- A block a routine may write. -/
def phvMayWrite (off n : Nat) : Bool := phvInRange off n && (List.range n).all fun k => phvWritable (off + k)

/-- A byte of the PHV as a number. -/
def Ctx.byte (c : Ctx) (i : Nat) : Nat := (c.phv.getD i 0).toNat

/-- Replace bytes of the PHV. -/
def Ctx.patch (c : Ctx) (i : Nat) (l : Frame) : Ctx := { c with phv := patchAt c.phv i l }

/-- Replace one byte of the PHV. -/
def Ctx.setByte (c : Ctx) (i v : Nat) : Ctx := c.patch i [BitVec.ofNat 8 v]

/-- The accumulator (R194). -/
def Ctx.acc (c : Ctx) : Nat := beNat (sliceAt c.phv phvAcc 8)
def Ctx.setAcc (c : Ctx) (a : Nat) : Ctx := c.patch phvAcc (beBytes 8 a)

def Ctx.emit (c : Ctx) : Nat := c.byte phvEmit
def Ctx.cut (c : Ctx) : Nat := c.byte phvCut

/-- STATUS, ACTION and INDEX of a search slot. -/
def Ctx.slotStatus (c : Ctx) (s : Nat) : Nat := c.byte (phvSlot s + 0xA)
def Ctx.slotAction (c : Ctx) (s : Nat) : Nat := beNat (sliceAt c.phv (phvSlot s) 8)
def Ctx.slotIndex (c : Ctx) (s : Nat) : Nat := beNat (sliceAt c.phv (phvSlot s + 8) 2)

/-- Write a search result into a slot (table "Search result slot"). -/
def Ctx.setSlot (c : Ctx) (s status action index loc : Nat) : Ctx :=
  c.patch (phvSlot s) (beBytes 8 action ++ beBytes 2 index ++ beBytes 1 status ++ beBytes 1 loc ++ beBytes 4 0)

/- ## Fields of 1 to 32 bits -/

/-- The bytes that a field of `w` bits at bit `boff` of its first byte touches. -/
def fieldBytes (boff w : Nat) : Nat := (boff + w + 7) / 8

/-- Read a field: bit `boff` counts from the first byte's most significant bit. -/
def getField (l : Frame) (off boff w : Nat) : Nat :=
  let n := fieldBytes boff w
  bitsOf (beNat (sliceAt l off n)) (8 * n - boff - w) w

/-- Write a field; the other bits of its bytes stay. -/
def putField (l : Frame) (off boff w v : Nat) : Frame :=
  let n := fieldBytes boff w
  let old := beNat (sliceAt l off n)
  let sh := 8 * n - boff - w
  patchAt l off (beBytes n (old - bitsOf old sh w * 2 ^ sh + v % 2 ^ w * 2 ^ sh))

/- ## General registers -/

/-- A general register. -/
def Ctx.reg (c : Ctx) (i : Nat) : BitVec 32 := c.g.getD i 0

/-- Write a general register. -/
def Ctx.setReg (c : Ctx) (i : Nat) (v : BitVec 32) : Ctx := { c with g := setAt c.g i v }

/-- The operand of ALU and CMP: SUB[7] selects IMM[31:0] in place of RB (R222). -/
def Ctx.operand (c : Ctx) (m : Micro) : BitVec 32 := if bitOf m.sub 7 then BitVec.ofNat 32 m.imm else c.reg m.rb

/-- Advance to the following word. -/
def Ctx.stepPc (c : Ctx) : Ctx := { c with pc := (c.pc + 1) % 8192 }

end Sys2Proof.Machine
end

