-- ==== Sys2Proof/Machine/Flags.lean ====
section
/-!
DEFINITION. The flags of a Juggler context: what the ALU functions and CMP compute (R222), and the conditions.
-/
namespace Sys2Proof.Machine

/-- A result with its flags. -/
structure AluResult where
  value : BitVec 32
  z : Bool
  c : Bool
deriving DecidableEq, Repr

/-- A result whose Z says that it is zero. -/
def AluResult.of (v : BitVec 32) (c : Bool) : AluResult := ⟨v, v == 0, c⟩

/-- Add: C is the carry. -/
def aluAdd (a b : BitVec 32) : AluResult := .of (a + b) (2 ^ 32 ≤ a.toNat + b.toNat)

/-- Subtract: C is the borrow. -/
def aluSub (a b : BitVec 32) : AluResult := .of (a - b) (a.toNat < b.toNat)

/-- The other functions carry and borrow nothing (notes/assumptions/31.md). -/
def aluAnd (a b : BitVec 32) : AluResult := .of (a &&& b) false
def aluOr (a b : BitVec 32) : AluResult := .of (a ||| b) false
def aluXor (a b : BitVec 32) : AluResult := .of (a ^^^ b) false

/-- Shifts by the whole unsigned operand; 32 and more shift every bit out (notes/assumptions/31.md). -/
def aluShl (a b : BitVec 32) : AluResult := .of (if b.toNat < 32 then a <<< b.toNat else 0) false
def aluShr (a b : BitVec 32) : AluResult := .of (if b.toNat < 32 then a >>> b.toNat else 0) false

/-- Unsigned minimum and maximum. -/
def aluMin (a b : BitVec 32) : AluResult := .of (if a.toNat ≤ b.toNat then a else b) false
def aluMax (a b : BitVec 32) : AluResult := .of (if a.toNat ≤ b.toNat then b else a) false

/-- Set Z and C from a result. -/
def Ctx.setZC (c : Ctx) (r : AluResult) : Ctx := { c with z := r.z, c := r.c }

/-- FRAG of the packet a context holds. -/
def Ctx.frag (c : Ctx) : Nat := bitsOf (c.byte 0xA2) 3 2

/-- Whether a listed condition holds (R222). -/
def Ctx.holds (c : Ctx) (cond : Nat) : Bool :=
  match cond with
  | 0 => true
  | 1 => c.z
  | 2 => !c.z
  | 3 => c.c
  | 4 => !c.c
  | 5 => c.hit
  | 6 => !c.hit
  | 7 => c.csr
  | 8 => !c.csr
  | 9 => c.frag == 1
  | 0xA => c.frag == 2
  | _ => false

/-- The flags as a precise-sample entry shows them: Z, C, HIT, CSR from bit 0 (R555). -/
def Ctx.flagBits (c : Ctx) : Nat :=
  c.z.toNat + 2 * c.c.toNat + 4 * c.hit.toNat + 8 * c.csr.toNat

end Sys2Proof.Machine
end

