-- ==== Sys2Proof/Machine/Ops.lean ====
section
/-!
DEFINITION. The operations every family shares: reading and writing a register field, counting with a sticky
overflow, the flow of time, refusing an access, island states, raising an interrupt (R476), MSI-X (R478), event
counters (R541), the event log (R536), free values, and the memories.
-/
namespace Sys2Proof.Machine

/- ## Register fields -/

/-- The value of a register field: what was last written, else its reset value. -/
def State.rd (s : State) (f : Field) : Nat := ngetD s.regs f.key f.reset

/-- Write a register field; the value is cut to the field's width. -/
def State.wr (s : State) (f : Field) (v : Nat) : State :=
  { s with regs := nput f.reset s.regs f.key (v % 2 ^ f.width) }

/-- Whether a one-bit field, or any field, is non-zero. -/
def State.isSet (s : State) (f : Field) : Bool := s.rd f != 0

/-- Write a flag. -/
def State.flag (s : State) (f : Field) (b : Bool) : State := s.wr f (if b then 1 else 0)

/-- Write several fields, in order. -/
def State.wrs (s : State) (l : List (Field × Nat)) : State := l.foldl (fun s p => s.wr p.1 p.2) s

/-- OR bits into a field. -/
def State.orF (s : State) (f : Field) (m : Nat) : State := s.wr f (s.rd f ||| m)

/-- Clear bits of a field. -/
def State.andNotF (s : State) (f : Field) (m : Nat) : State := s.wr f (s.rd f &&& (2 ^ f.width - 1 - m % 2 ^ f.width))

/-- Add to a counter that wraps. -/
def State.addF (s : State) (f : Field) (n : Nat) : State := s.wr f (s.rd f + n)

/-- Add to a counter that wraps, setting bits of an overflow field when it does (R546). -/
def State.addOvf (s : State) (f o : Field) (bits n : Nat) : State :=
  let s1 := s.addF f n
  if 2 ^ f.width ≤ s.rd f + n then s1.orF o bits else s1

/-- Put a field back to its reset value. -/
def State.rst (s : State) (f : Field) : State := s.wr f f.reset

/-- A field read as a two's-complement number. -/
def State.rdS (s : State) (f : Field) : Int := signedOf f.width (s.rd f)

/-- Write a two's-complement number. -/
def State.wrS (s : State) (f : Field) (x : Int) : State := s.wr f (unsignedOf f.width x)

/- ## Time and outputs -/

/-- Schedule time, ns. -/
def State.time (s : State) : Nat := s.rd TI.SCHED.TIME

/-- Let schedule time, and the model's own clock with it, run to `t`; they never run back. -/
def State.advance (s : State) (t : Nat) : State :=
  if s.time < t then { s.wr TI.SCHED.TIME t with now := s.now + (t - s.time) } else s

/-- Begin a command: nothing has been put out yet. -/
def State.quiet (s : State) : State := { s with out := [] }

/-- Put something out. -/
def State.emit (s : State) (o : Output) : State := { s with out := s.out ++ [o] }

/-- Answer a read. -/
def State.answer (s : State) (v : Nat) : State := { s with resp := v }

/-- Take a free value (`Config.freeValue`). -/
def State.freeVal (s : State) : Nat := Config.freeValue s.free

/-- The state after a free value has been taken. -/
def State.tookFree (s : State) : State := { s with free := s.free + 1 }

/- ## Modes and islands -/

/-- The operating mode (R40): 0 Rigging, 1 Rehearsal, 2 Performance, 3 Safety Net. -/
def State.mode (s : State) : Nat := s.rd MI.MODE_STAT.MODE

/-- STATE of an island (MI.ISL_STAT): 0 powered down, 1 running, 2 held in reset, 3 replaying. -/
def State.isl? (s : State) (i : Nat) : Nat := bitsOf (s.rd MI.ISL_STAT.STATE) (2 * i) 2

/-- Every powered island runs (MI.MODE_COND.ISLANDS_OK). -/
def State.islandsOk (s : State) : Bool := (List.range 16).all fun i => s.isl? i < 2

/-- Set STATE of an island; ISLANDS_OK follows. -/
def State.setIsl (s : State) (i v : Nat) : State :=
  let w := s.rd MI.ISL_STAT.STATE
  let s1 := s.wr MI.ISL_STAT.STATE (w - s.isl? i * 4 ^ i + v % 4 * 4 ^ i)
  s1.flag MI.MODE_COND.ISLANDS_OK s1.islandsOk

/-- An island whose window answers accesses (R47, R48). -/
def State.islUp (s : State) (i : Nat) : Bool := s.isl? i == 1 || s.isl? i == 3

/-- An island that runs. -/
def State.islRuns (s : State) (i : Nat) : Bool := s.isl? i == 1

/- ## Interrupts (R476 to R478) -/

/-- PEND of a source. -/
def State.pend (s : State) (n : Nat) : Bool := bitOf (s.rd (MI.IC_PEND.PEND (n / 64))) (n % 64)

/-- Write PEND of a source. -/
def State.setPend (s : State) (n : Nat) (b : Bool) : State :=
  if b then s.orF (MI.IC_PEND.PEND (n / 64)) (2 ^ (n % 64))
  else s.andNotF (MI.IC_PEND.PEND (n / 64)) (2 ^ (n % 64))

/-- Whether a vector's message may leave (R478): MSI-X and bus mastering enabled, function and vector unmasked. -/
def State.msixOpen (s : State) (v : Nat) : Bool :=
  s.isSet MI.PCIE_STAT.MSIX_EN && s.isSet MI.PCIE_STAT.BME && !s.isSet MI.PCIE_STAT.FUNC_MASK
    && !bitOf (s.rd (MI.MSIX_TABLE.DATA v 1)) 32

/-- Send the message of a vector, or hold it in the PBA (R478). -/
def State.msix (s : State) (v : Nat) : State :=
  if s.msixOpen v then
    s.emit (.msix v (s.rd (MI.MSIX_TABLE.DATA v 0)) (s.rd (MI.MSIX_TABLE.DATA v 1) % 2 ^ 32))
  else s.orF MI.MSIX_PBA.PBA (2 ^ v)

/-- A pending source with TARGET = 1 that is not in service sends its message and enters service (R478); a PRIO of 0
never delivers (R476). -/
def State.deliver (s : State) (n : Nat) : State :=
  if s.pend n && s.isSet (MI.IC_CFG.TARGET n) && s.isSet (MI.IC_CFG.PRIO n) && !s.isSet (MI.IC_CFG.INSVC n) then
    ((s.setPend n false).wr (MI.IC_CFG.INSVC n) 1).msix (s.rd (MI.IC_CFG.VEC n))
  else s

/-- A source line rises (R476). Local sources 1 to 7 of an island that is down are held inactive (R39). -/
def State.raise (s : State) (n : Nat) : State :=
  if n % 8 ≠ 0 ∧ ¬ s.islUp (n / 8) then s else (s.setPend n true).deliver n

/-- Raise a source when a condition holds. -/
def State.raiseIf (s : State) (b : Bool) (n : Nat) : State := if b then s.raise n else s

/- ## Accesses -/

/-- Record an access to an unoccupied offset, or one that is refused like it (R10, R17). -/
def State.unmapped (s : State) (src : Src) (isl off : Nat) : State :=
  s.wrs [(MI.ACC_STAT.UNMAPPED, 1), (MI.ACC_STAT.LAST_ADDR, off), (MI.ACC_STAT.LAST_ISLAND, isl),
    (MI.ACC_STAT.LAST_SRC, if src = .host then 1 else 0)]

/-- Record a narrow read of a pop window (R15, R17). -/
def State.narrowPop (s : State) (src : Src) (isl off : Nat) : State :=
  s.wrs [(MI.ACC_STAT.NARROW_POP, 1), (MI.ACC_STAT.LAST_ADDR, off), (MI.ACC_STAT.LAST_ISLAND, isl),
    (MI.ACC_STAT.LAST_SRC, if src = .host then 1 else 0)]

/- ## Event counters (R541, R542, R546) -/

/-- The interrupt of an island's counter overflows, where it has one. -/
def cntIrq (isl : Nat) : Option Nat := if isl = 0 ∨ isl = 1 ∨ isl = 3 then none else some (8 * isl + 6)

/-- Add to one event counter, with its overflow bit and interrupt (R546). -/
def State.bump (s : State) (isl k n : Nat) : State :=
  let s1 := s.addOvf (C.CNT.COUNT isl k) (C.CNT_OVF.OVF isl) (2 ^ k) n
  if 2 ^ 48 ≤ s.rd (C.CNT.COUNT isl k) + n then
    match cntIrq isl with
    | some q => s1.raise q
    | none => s1
  else s1

/-- Count `n` occurrences of an event in one counter of an island. -/
def State.count1 (s : State) (isl ev n k : Nat) : State :=
  if s.isSet (C.CNT_SEL.EN isl k) && s.rd (C.CNT_SEL.EVENT isl k) == ev && s.rd (C.CNT_SEL.MODE isl k) != 1 then
    s.bump isl k n
  else s

/-- Count `n` occurrences of an event in every counter of an island that selects it. -/
def State.count (s : State) (isl ev n : Nat) : State :=
  if s.isSet (C.CNT_CTL.FREEZE isl) || !s.islUp isl then s
  else (List.range 32).foldl (fun s k => s.count1 isl ev n k) s

/- ## The core's accesses: PMP and exceptions (R466, R473) -/

/-- The cause of the access-fault exception of an access, and of its address-misaligned exception. -/
def faultCauseOf : AccKind → Nat
  | .fetch => 1
  | .load => 5
  | .lr => 5
  | .store => 7
  | .sc => 7
  | .amo _ => 7
def misCauseOf : AccKind → Nat
  | .fetch => 0
  | .load => 4
  | .lr => 4
  | .store => 6
  | .sc => 6
  | .amo _ => 6

/-- LR, SC and the AMOs. -/
def isAtomic : AccKind → Bool
  | .lr => true
  | .sc => true
  | .amo _ => true
  | _ => false

/-- Whether an access is misaligned: a fetch to an odd address, or data to an address that is no multiple of its size. -/
def accMisaligned (k : AccKind) (a n : Nat) : Bool := if k = .fetch then a % 2 != 0 else a % max 1 n != 0

/-- The bits of a pmpcfg byte an access needs: R, W, X. -/
def accNeeds : AccKind → Nat
  | .load => 1
  | .lr => 1
  | .store => 2
  | .sc => 2
  | .amo _ => 3
  | .fetch => 4

/-- The range of PMP entry `i`: its first byte, and the byte behind its last. The granularity is 8 bytes, so NA4 covers
eight, and the bounds of TOR are multiples of 8. -/
def State.pmpRange (s : State) (i : Nat) : Nat × Nat :=
  let ad := s.mg.pmpAddr.getD i 0
  match s.mg.pmpCfg.getD i 0 / 8 % 4 with
  | 0 => (0, 0)
  | 1 => ((if i = 0 then 0 else s.mg.pmpAddr.getD (i - 1) 0) / 2 * 8, ad / 2 * 8)
  | 2 => (ad / 2 * 8, ad / 2 * 8 + 8)
  | _ =>
    let k := ((List.range 32).find? fun j => !bitOf ad j).getD 32
    (ad / 2 ^ k * 2 ^ k * 4 / 2 ^ (k + 3) * 2 ^ (k + 3), ad / 2 ^ k * 2 ^ k * 4 / 2 ^ (k + 3) * 2 ^ (k + 3) + 2 ^ (k + 3))

/-- Whether PMP lets an access of the core through: the lowest entry that holds a byte of it decides, and must hold all of
them; machine mode is bound by locked entries only, and a user access that no entry holds fails. -/
def State.pmpAllows (s : State) (src : Src) (k : AccKind) (a n : Nat) : Bool :=
  match (List.range 8).find? fun i => a < (s.pmpRange i).2 && (s.pmpRange i).1 < a + n with
  | some i =>
    let c := s.mg.pmpCfg.getD i 0
    (s.pmpRange i).1 ≤ a && a + n ≤ (s.pmpRange i).2 && ((src == .coreM && !bitOf c 7) || c &&& accNeeds k == accNeeds k)
  | none => src == .coreM

/-- The core address of a register (R33). -/
def regAddr (isl off : Nat) : Nat := 0x40000000 + isl * 0x100000 + off

/-- Whether an access reaches the registers: PMP checks the core's accesses only (R473). -/
def State.reaches (s : State) (src : Src) (k : AccKind) (isl off : Nat) : Bool :=
  src == .host || s.pmpAllows src k (regAddr isl (off / 8 * 8)) 8

/-- Do what an access to a register does, or take the access-fault exception of one that PMP refuses. -/
def State.guarded (s : State) (src : Src) (k : AccKind) (isl off : Nat) (f : State → State) : State :=
  if s.reaches src k isl off then f s else s.emit (.coreFault (faultCauseOf k) (regAddr isl off))

/-- An access that reaches a register of an island is counted (R541). -/
def State.counted (s : State) (isl : Nat) : State := s.count isl 0x005 1

/-- A write that reaches a register through its own command: an exception where PMP refuses it (R473), ignored while the
island is down (R47), refused to the host where the chapter reserves the register for the core, else counted as a register
access and done. -/
def State.regCmd (s : State) (src : Src) (isl off : Nat) (hostMay : Bool) (k : State → State) : State :=
  if !s.reaches src .store isl off then s.emit (.coreFault 7 (regAddr isl off))
  else if !s.islUp isl then s
  else if src = .host ∧ hostMay = false then s.unmapped src isl off
  else k (s.counted isl)

def State.islSet (s : State) (f : Islands → Islands) : State := { s with isl := f s.isl }

/-- An island's progress token advances (R60, R541). -/
def State.progress (s : State) (isl : Nat) : State :=
  (s.islSet fun i => { i with stall := nerase i.stall isl }).count isl 0x001 1

/- ## DRAM geometry (R337) -/

/-- Bank bits: four for x8 devices, three for x16. -/
def State.dramNb (s : State) : Nat := if s.isSet DI.CFG.WIDTH then 3 else 4

/-- Row bits of the density. -/
def State.dramNr (s : State) : Nat := 15 + s.rd DI.CFG.DENSITY

/-- Rank and bank of an offset, as 16 × rank + bank. -/
def State.dramBank (s : State) (a : Nat) : Nat :=
  16 * (a / 2 ^ (12 + s.dramNb + s.dramNr) % 2) + bitsOf a 12 s.dramNb

/-- The row of an offset. -/
def State.dramRow (s : State) (a : Nat) : Nat := bitsOf a (12 + s.dramNb) s.dramNr

/-- The requester number of R339. -/
def DramWho.num : DramWho → Nat
  | .ovf _ => 0
  | .spillRd _ => 1
  | .spillWr _ => 2
  | .core _ _ => 3
  | .host => 3
  | .dma _ => 3
  | .entry _ => 3
  | .inject _ => 3
  | .log => 4
  | .sample => 5

/-- Whether a request of MI waits at MI for DI to come back, and is not lost with it: those of DMA and of rings. -/
def DramWho.waits : DramWho → Bool
  | .dma _ => true
  | .entry _ => true
  | .inject _ => true
  | _ => false

/-- Queue a transfer at DI in pieces of at most 128 bytes that do not cross a 128-byte boundary (R340). -/
def dramPieces (who : DramWho) (wr : Bool) (now : Nat) : Nat → Nat → Nat → Frame → List DramReq
  | 0, _, _, _ => []
  | fuel + 1, a, n, data =>
    if n = 0 then []
    else
      let k := min n (128 - a % 128)
      ⟨who, a, k, wr, data.take k, now⟩ :: dramPieces who wr now fuel (a + k) (n - k) (data.drop k)

def State.dramAsk (s : State) (who : DramWho) (wr : Bool) (a n : Nat) (data : Frame) : State :=
  { s with di := { s.di with queue := s.di.queue ++ dramPieces who wr s.now (n / 128 + 2) a n data } }

/-- Whether R358 holds a request: its requester is throttled, its row is not open, and the µs has had its activations. -/
def State.dramHeld (s : State) (r : DramReq) : Bool :=
  bitOf (s.rd DI.RH_STAT.THROTTLED) r.who.num && nget s.di.rows (s.dramBank r.addr) != some (s.dramRow r.addr)
    && max 1 (s.rd DI.RH_CFG.ACT_RATE) ≤
      (s.di.recent.filter fun e => e.1 == r.who.num && decide (s.now < e.2 + 1000)).length

/- ## Ports by global number, and channels (R26, R55, R151) -/

/-- The MAC island of a port (R26, R151). -/
def portIsl (p : Nat) : Nat := if p < 96 then 10 + p / 16 else if p < 98 then 3 else if p < 101 then 4 else 8

/-- The pipeline of an ingress source (R27): 0 PA, 1 PB; sources 110 and 111 are their re-injection sources (R334). -/
def pipeOf (p : Nat) : Nat :=
  if p < 48 ∨ p = 96 ∨ p = 98 ∨ p = 110 then 0 else 1

/-- The key of a channel. -/
def chanKey (c : Chan) : Nat := c.rank * 256 + c.src * 16 + c.dst

/-- A channel with every credit at its sender and nothing under way. -/
def Channel.fresh (c : Chan) : Channel := ⟨Config.channelDepth (chanKey c), [], [], 0⟩

def State.chan (s : State) (c : Chan) : Channel := ngetD s.chans (chanKey c) (Channel.fresh c)
def State.setChan (s : State) (c : Chan) (v : Channel) : State := { s with chans := nset s.chans (chanKey c) v }

/-- Whether the sender may write an item: it holds a credit, and the receiver is not held in reset, so that the channel
is not being flushed (R55, R62 step 2). -/
def State.canSend (s : State) (c : Chan) : Bool := s.isl? c.dst != 2 && 0 < (s.chan c).credits

/-- The ingress-header channel of a source. Re-injected frames come from the buffer island. -/
def ingressChan (src : Nat) : Chan := ⟨1, portIsl src, 5 + pipeOf src⟩
def searchChan (pipe : Nat) : Chan := ⟨2, 5 + pipe, 7⟩
def admitChan (pipe : Nat) : Chan := ⟨4, 5 + pipe, 8⟩
def spillChan : Chan := ⟨5, 8, 9⟩
def egressChan (p : Nat) : Chan := ⟨7, 8, portIsl p⟩

/- ## Items held without progress (R60) -/

/-- The headers a port has still to send. -/
def PortMac.unsent (m : PortMac) : List Copy := m.copies.filter fun c => c.stage == 0

/-- Copies of a source that are in the pipeline but not dispatched: at most eight (09_buffer_and_admission.md). -/
def PortMac.waiting (m : PortMac) : Nat := (m.copies.filter fun c => 1 ≤ c.stage ∧ c.stage ≤ 3).length

/-- Frames of a port's egress side. -/
def PortMac.sending (m : PortMac) : Bool := m.wire.isSome || !m.sched.isEmpty || !m.ordin.isEmpty

/-- Whether an island holds an item it is to retire, and whether every item it holds waits only for credit on an outgoing
channel (R60). A copy whose header has been sent waits for others, and is no item of its port island. -/
def State.portItems (s : State) (i : Nat) : Bool × Bool :=
  let ps := s.ports.filter fun e => portIsl e.1 == i
  let out := ps.any fun e => e.2.sending
  let un := ps.filter fun e => !e.2.unsent.isEmpty
  let ring := i == 3 && (!s.rsch.queue.isEmpty || !s.ringE.transit.isEmpty || !s.ringW.transit.isEmpty)
  let stuck := un.all fun e => 8 ≤ e.2.waiting || !s.canSend (ingressChan e.1)
  (out || ring || !un.isEmpty, !out && !ring && stuck)

def State.pipeItems (s : State) (k : Nat) : Bool × Bool :=
  let p := if k = 0 then s.pa else s.pb
  let full := 56 ≤ p.ctxs.length
  (!p.heads.isEmpty || !p.ctxs.isEmpty || !p.ended.isEmpty || !p.toBi.isEmpty,
    (p.heads.isEmpty || full) && (p.ctxs.all fun e => e.2.creditSince.isSome) && (p.toBi.isEmpty || !s.canSend (admitChan k)))

/-- The items of BI: frames queued for a port wait for its egress credit, frames being spilled for DI's. -/
def State.bufferItems (s : State) : Bool × Bool :=
  (!s.bi.queues.isEmpty || !s.bi.ringWriter.isEmpty,
    s.bi.ringWriter.isEmpty && s.bi.queues.all fun e =>
      e.1 / 8 != 101 && (e.2.head.isEmpty || !s.canSend (egressChan (e.1 / 8)))
        && (e.2.dram.all fun x => !x.asked && !s.canSend spillChan))

/-- The items of an island. -/
def State.items (s : State) (i : Nat) : Bool × Bool :=
  if i = 5 ∨ i = 6 then s.pipeItems (i - 5)
  else if i = 7 then (!s.si.reqs.isEmpty || s.si.probe0.isSome || s.si.probe1.isSome, false)
  else if i = 8 then s.bufferItems
  else if i = 9 then (!s.di.queue.isEmpty, false)
  else if i = 3 ∨ i = 4 ∨ 10 ≤ i then s.portItems i
  else (false, false)

/-- Let `dt` ns pass for the progress monitors: the time an island that runs or replays holds an item without its token
advancing, but for time in which every item waits only for outgoing credit (R60, notes/assumptions/22.md). -/
def State.stallTime (s : State) (dt : Nat) : State :=
  if dt = 0 then s
  else
    let l := (indicesOf 16 fun i => 2 ≤ i && s.islUp i && (s.items i).1).map fun i =>
      (i, ngetD s.isl.stall i 0 + if (s.items i).2 then 0 else dt)
    { s with isl := { s.isl with stall := l } }

/- ## Counting over time (R541, R543) -/

/-- An island's clock in Hz (01_architecture.md). -/
def islandHz (i : Nat) : Nat :=
  [250000000, 32768, 250000000, 322265625, 390625000, 500000000, 500000000, 500000000, 450000000, 400000000].getD i 312500000

/-- Clock cycles of an island up to a time in ns. -/
def cyclesTo (i t : Nat) : Nat := t * islandHz i / 1000000000

/-- The global number of an island's local port. -/
def portOfIsland (i n : Nat) : Nat := if i = 4 then 98 + n else 16 * (i - 10) + n

/-- A pipeline island by its index. -/
def State.pipeOfIsland (s : State) (i : Nat) : Pipe := if i = 6 then s.pb else s.pa

/-- The bytes in a port's ingress FIFO and egress FIFO. -/
def State.fifoBytes (s : State) (p : Nat) (egress : Bool) : Nat :=
  match nget s.ports p with
  | some m =>
    if egress then ((m.sched ++ m.ordin).map fun d => d.bytes.length).sum
      + (match m.wire with | some w => w.desc.bytes.length | none => 0)
    else (m.copies.map fun c => c.bytes.length).sum
  | none => 0

/-- The levels of R543. -/
def State.level (s : State) (i code arg : Nat) : Option Nat :=
  if i = 5 ∨ i = 6 then
    if code = 0x200 then some (s.pipeOfIsland i).ctxs.length
    else if code = 0x201 then some (s.pipeOfIsland i).heads.length
    else if code = 0x202 then some (s.si.reqs.filter fun r => r.ctx.pipe + 5 == i).length
    else none
  else if i = 8 then
    if code = 0x200 then some (s.rd BI.BUF_STAT.FREE_SHARED)
    else if code = 0x201 then some (s.rd BI.BUF_STAT.STAGE_USED)
    else if code = 0x202 then some (s.rd BI.BUF_STAT.RESERVE_USED)
    else if code = 0x203 then some (s.rd (BI.Q_OCC.CELLS arg))
    else none
  else if i = 9 then if code = 0x200 then some (s.di.queue.filter fun r => r.who.num == arg).length else none
  else if i = 3 then
    if code = 0x200 then some (((if arg = 0 then s.ringE else s.ringW).transit.map fun e => e.2.length).sum) else none
  else if i = 4 ∨ 10 ≤ i then
    if code = 0x200 ∨ code = 0x201 then some (s.fifoBytes (portOfIsland i arg) (code == 0x201)) else none
  else none

/-- Occurrences in one cycle, while the state stays as it is, of the events that count cycles. -/
def State.perCycle (s : State) (i ev : Nat) : Nat :=
  if ev = 0 then 1
  else if ev = 2 then
    if (i = 5 ∨ i = 6) ∧ (!(s.pipeOfIsland i).toBi.isEmpty || (s.pipeOfIsland i).ctxs.any fun e => e.2.creditSince.isSome) then 1
    else 0
  else if i = 5 ∨ i = 6 then
    if ev = 0x103 then ((s.pipeOfIsland i).ctxs.filter fun e => e.2.swait.isSome).length
    else if ev = 0x108 then
      if !(s.pipeOfIsland i).heads.isEmpty && ((s.pipeOfIsland i).ctxs.filter fun e => e.1 < 56).length == 56 then 1 else 0
    else 0
  else if i = 9 then if ev = 0x104 ∧ s.di.queue.any (fun r => s.dramHeld r) = true then 1 else 0
  else if i = 1 then if ev = 0x101 ∧ s.rd AO.SIDEBAND.FA_PIN = 0 then 1 else 0
  else if (i = 4 ∨ 10 ≤ i) ∧ ev = 0x103 then
    ((List.range 16).filter fun n => match nget s.ports (portOfIsland i n) with
      | some m => (match m.hold with | some h => decide (s.now < h.endAt) | none => false)
      | none => false).length
  else 0

/-- Whether the test of a level counter holds (R543). -/
def State.levelTest (s : State) (i k : Nat) : Bool :=
  match s.level i (s.rd (C.CNT_SEL.EVENT i k)) (s.rd (C.CNT_SEL.ARG i k)) with
  | some v => if s.isSet (C.CNT_SEL.CMP i k) then v < s.rd (C.CNT_SEL.THRESH i k) else s.rd (C.CNT_SEL.THRESH i k) < v
  | none => false

/-- The enabled event counters, as 32 × island + counter. -/
def State.enabledCounters (s : State) : List Nat :=
  s.regs.filterMap fun e =>
    let a := e.1 / 64
    if e.1 % 64 = 31 ∧ 0xF0000 ≤ a % 0x100000 ∧ a % 0x100000 < 0xF0100 then some (a / 0x100000 * 32 + (a % 0x100000 - 0xF0000) / 8)
    else none

/-- Count the cycles in which the state has stood as it is, up to a clock reading `t1`. -/
def State.countCycles (s : State) (t1 : Nat) : State :=
  let l := s.enabledCounters
  let s1 := l.foldl (fun s' c =>
    let i := c / 32
    let k := c % 32
    let n := cyclesTo i t1 - cyclesTo i s.now
    if n = 0 ∨ s.isSet (C.CNT_CTL.FREEZE i) = true ∨ s.islUp i = false then s'
    else if s.rd (C.CNT_SEL.MODE i k) = 1 then
      if !s.levelTest i k then s'
      else if s.isSet (C.CNT_SEL.EDGE i k) then (if s.cnt.held.contains c then s' else s'.bump i k 1)
      else s'.bump i k n
    else
      let m := s.perCycle i (s.rd (C.CNT_SEL.EVENT i k))
      if m = 0 then s' else s'.bump i k (n * m)) s
  let held := l.filter fun c => s.rd (C.CNT_SEL.MODE (c / 32) (c % 32)) == 1 && s.levelTest (c / 32) (c % 32)
  if l.isEmpty then s1 else { s1 with cnt := { s1.cnt with held := held } }

/-- Whether schedule time `t` is the instant of the latest device reset still, which took schedule time back to 0 (R145). -/
def State.atReset (s : State) (t : Nat) : Bool := s.boot.resetAt == some (t, s.now)

/-- Begin a command that comes at schedule time `t`. -/
def State.begin (s : State) (t : Nat) : State :=
  if s.atReset t then s.quiet
  else ((s.quiet.countCycles (s.now + (t - s.time))).stallTime (t - s.time)).advance t

/- ## Memories -/

/-- What a byte of SRAM or DRAM that nothing has written reads as (notes/assumptions/4.md). -/
def ramBlank : Byte := 0

/-- What an erased byte of flash reads as. -/
def flashBlank : Byte := 0xFF

/-- The installed DRAM capacity in bytes (DI.CFG holds it in KiB). -/
def State.dramSize (s : State) : Nat := s.rd DI.CFG.CAPACITY * 1024

/-- Whether an offset is installed and outside the training areas, the last 64 KiB of each rank (R36, R338). -/
def State.dramHas (s : State) (off : Nat) : Bool :=
  let rank := s.dramSize / (s.rd DI.CFG.RANKS_M1 + 1)
  off < s.dramSize && off % rank + 65536 < rank

/-- Bytes of a memory whose content has been lost `k` times: what it holds then is told from what is stored by a free
byte per loss and address, so that a byte written reads as written and any other as that free byte. -/
def veil (free : Nat → Nat → Nat) (k a : Nat) (l : Frame) : Frame :=
  if k = 0 then l else l.zipIdx.map fun e => e.1 ^^^ BitVec.ofNat 8 (free k (a + e.2))

def State.dramRead (s : State) (a n : Nat) : Frame := veil Config.dramByte s.di.inits a (readBytes ramBlank s.dram a n)
def State.dramWrite (s : State) (a : Nat) (l : Frame) : State :=
  { s with dram := writeBytes ramBlank s.dram a (veil Config.dramByte s.di.inits a l) }
def State.sramRead (s : State) (a n : Nat) : Frame := veil Config.sramByte s.mg.resets a (readBytes ramBlank s.sram a n)
def State.sramWrite (s : State) (a : Nat) (l : Frame) : State :=
  { s with sram := writeBytes ramBlank s.sram a (veil Config.sramByte s.mg.resets a l) }
def State.flashRead (s : State) (a n : Nat) : Frame := readBytes flashBlank s.flash a n
def State.flashWrite (s : State) (a : Nat) (l : Frame) : State := { s with flash := writeBytes flashBlank s.flash a l }
def State.hostRead (s : State) (a n : Nat) : Frame := readBytes ramBlank s.host a n
def State.hostWrite (s : State) (a : Nat) (l : Frame) : State := { s with host := writeBytes ramBlank s.host a l }

/-- Cut a host transfer at 4 KiB boundaries and at the largest request (R481). -/
def hostPieces (most : Nat) : Nat → Nat → Nat → List (Nat × Nat)
  | 0, _, _ => []
  | f + 1, a, n => if n = 0 then [] else let k := min n (min most (4096 - a % 4096)); (a, k) :: hostPieces most f (a + k) (n - k)

/-- Outbound memory writes (R332, R481): of at most Max_Payload_Size, none across a 4 KiB boundary, in order. -/
def State.hostPost (s : State) (a : Nat) (l : Frame) : State :=
  let ps := hostPieces s.mg.mps (l.length + 1) a l.length
  (ps.foldl (fun s p => (s.hostWrite p.1 (sliceAt l (p.1 - a) p.2)).emit (.hostWrite p.1 p.2)) s).count 0 0x103 ps.length

/-- Whether bytes lie in SRAM, and in the fixed DRAM range (01_architecture.md, table "Core address map"). -/
def inSram (a n : Nat) : Bool := 0x10000000 ≤ a && a + n ≤ 0x10040000
def inFixedDram (a n : Nat) : Bool := 0x80000000 ≤ a && a + n ≤ 0xC0000000

/-- Read bytes at a core address in SRAM or the fixed DRAM range; elsewhere they read 0. -/
def State.coreRead (s : State) (a n : Nat) : Frame :=
  if inSram a n then s.sramRead (a - 0x10000000) n
  else if inFixedDram a n && s.dramHas (a - 0x80000000) then s.dramRead (a - 0x80000000) n
  else List.replicate n 0

/-- Whether bytes lie in the fixed DRAM range, and are installed. -/
def State.inFixed (s : State) (a n : Nat) : Bool := inFixedDram a n && s.dramHas (a + n - 1 - 0x80000000)

/-- Break the core's reservation of a word that another writer writes (R466). -/
def State.breaks (s : State) (a n : Nat) : State :=
  match s.mg.reservation with
  | some w => if a < w + 4 ∧ w < a + n then { s with mg := { s.mg with reservation := none } } else s
  | none => s

/-- Bytes that the device writes at a core address: SRAM at once, the fixed DRAM range by a request of MI (R339); elsewhere
nothing is written. -/
def State.busWrite (s : State) (who : DramWho) (a : Nat) (l : Frame) : State :=
  if inSram a l.length then (s.sramWrite (a - 0x10000000) l).breaks a l.length
  else if s.inFixed a l.length then s.dramAsk who true (a - 0x80000000) l.length l
  else s

/-- What has been read from DRAM for a requester, from offset `a` on. -/
def State.gotBytes (s : State) (who : DramWho) (a n : Nat) : Frame :=
  (s.di.got.filter fun g => g.who == who).foldl (fun l g => patchAt l (g.addr - a) g.bytes) (List.replicate n 0)
def State.gotBad (s : State) (who : DramWho) : Bool := s.di.got.any fun g => g.who == who && g.bad

/-- Forget a requester's transfer. -/
def State.busDrop (s : State) (who : DramWho) : State :=
  { s with di := { s.di with queue := s.di.queue.filter fun r => r.who != who || r.wr, got := s.di.got.filter fun g => g.who != who } }

/-- Whether a requester has a request queued. -/
def State.busWaits (s : State) (who : DramWho) : Bool := s.di.queue.any fun r => r.who == who

/- ## SRAM check code (R470) -/

/-- Count a corrected or an uncorrectable read; interrupt 6. -/
def State.sramCheck (s : State) (e : Ecc) : State :=
  match e with
  | .clean => s
  | .corrected =>
    ((s.addOvf MI.SRAM_ECC.CORR MI.SRAM_ECC.OVF 1 1).wr MI.SRAM_ECC.CORR_SEEN 1).raiseIf (!s.isSet MI.SRAM_ECC.CORR_SEEN) 6
  | .uncorrectable =>
    ((s.addOvf MI.SRAM_ECC.UNCORR MI.SRAM_ECC.OVF 1 1).wr MI.SRAM_ECC.UNCORR_SEEN 1).raiseIf (!s.isSet MI.SRAM_ECC.UNCORR_SEEN) 6

/- ## The event log (R536) -/

/-- The slots of the log ring; values outside 10 to 20 act as 10 (notes/assumptions/24.md). -/
def State.logSlots (s : State) : Nat :=
  let k := s.rd MI.LOG_BASE.SIZE_LOG2
  2 ^ (if 10 ≤ k ∧ k ≤ 20 then k else 10)

/-- The 28 checked bytes of a log entry; SEV and DATA are free values. -/
def logBody (time cause isl sev count data : Nat) : Frame :=
  leBytes 8 time ++ leBytes 2 cause ++ leBytes 1 isl ++ leBytes 1 sev ++ leBytes 4 count ++ leBytes 12 data

/-- Write a log entry into the ring, or discard it when the ring is full, disabled, or DRAM is not ready. -/
def State.logPut (s : State) (cause isl count : Nat) : State :=
  if !s.isSet MI.LOG_BASE.EN then s
  else if !s.isSet MI.MODE_COND.DRAM_READY
      || (s.rd MI.LOG_IDX.PROD + 2 ^ 32 - s.rd MI.LOG_IDX.CONS) % 2 ^ 32 ≥ s.logSlots then
    (s.addF MI.LOG_STAT.LOST 1).wr MI.LOG_STAT.LOST_SEEN 1
  else
    let b := logBody s.time cause isl s.freeVal count (Config.freeValue (s.free + 1))
    let s1 := s.dramAsk .log true (s.rd MI.LOG_BASE.BASE + s.rd MI.LOG_IDX.PROD % s.logSlots * 32) 32 (b ++ leBytes 4 (crc32c b))
    ({ s1 with free := s1.free + 2 }).addF MI.LOG_IDX.PROD 1

/-- Count an event for the log; each cause and island writes at most one entry a second, with the count since. -/
def State.logEvent (s : State) (cause isl : Nat) : State :=
  let k := 16 * cause + isl
  let (last, since) := ngetD s.log k (none, 0)
  let due := match last with
    | none => true
    | some a => decide (a + 1000000000 ≤ s.now)
  if due then { s with log := nset s.log k (some s.now, 0) }.logPut cause isl (since + 1)
  else { s with log := nset s.log k (last, since + 1) }

end Sys2Proof.Machine
end

