-- ==== Sys2Proof/Machine/PortOps.lean ====
section
/-!
DEFINITION. Ports, channels and the shared buffer's bookkeeping: the registers of a port by its global number (R151),
handshake channels (R55), cells and queues (R278 to R281), and the counting of drops (R282, R545).
-/
namespace Sys2Proof.Machine

/- ## Ports by global number -/

/-- A luminaire port, or an uplink or cascade port: the ports with a MAC of 05_ports.md. -/
def isEthPort (p : Nat) : Bool := p < 96 || (98 ≤ p && p ≤ 100)

/-- The longest frame of a port (R151). -/
def portMax (p : Nat) : Nat := if p < 96 then 2000 else 9216

/-- The ingress FIFO of a port in bytes (R153). -/
def fifoSize (p : Nat) : Nat := if p < 96 then 16384 else 131072

def portEn (p : Nat) : Field :=
  if p < 96 then PI.PORT_CTL.EN (p / 16) (p % 16) else if p < 98 then RI.RING_CTL.EN (p - 96) else UI.PORT_CTL.EN (p - 98)
def portHonour (p : Nat) : Field :=
  if p < 96 then PI.PORT_CTL.PAUSE_HONOUR (p / 16) (p % 16) else UI.PORT_CTL.PAUSE_HONOUR (p - 98)
def portFlush (p : Nat) : Field :=
  if p < 96 then PI.PORT_CTL.LINK_FLUSH (p / 16) (p % 16) else UI.PORT_CTL.LINK_FLUSH (p - 98)
def portLink (p : Nat) : Field :=
  if p < 96 then PI.PORT_STAT.LINK (p / 16) (p % 16) else UI.PORT_STAT.LINK (p - 98)
def portSpeed (p : Nat) : Field :=
  if p < 96 then PI.PORT_STAT.SPEED (p / 16) (p % 16) else UI.PORT_STAT.SPEED (p - 98)
def portHeld (p : Nat) : Field :=
  if p < 96 then PI.PORT_STAT.HELD (p / 16) (p % 16) else UI.PORT_STAT.HELD (p - 98)
def portDone (p : Nat) : Field :=
  if p < 96 then PI.PORT_STAT.DONE (p / 16) (p % 16) else if p < 98 then RI.RING_STAT.DONE (p - 96) else UI.PORT_STAT.DONE (p - 98)
def portLinkChg (p : Nat) : Field :=
  if p < 96 then PI.PORT_STAT.LINK_CHG (p / 16) (p % 16) else UI.PORT_STAT.LINK_CHG (p - 98)
def portDownCnt (p : Nat) : Field :=
  if p < 96 then PI.PORT_STAT.LINK_DOWN_CNT (p / 16) (p % 16) else UI.PORT_STAT.LINK_DOWN_CNT (p - 98)
def portCnt (p c : Nat) : Field :=
  if p < 96 then PI.PORT_CNT.COUNT (p / 16) (p % 16) c else UI.PORT_CNT.COUNT (p - 98) c
def portCntOvf (p : Nat) : Field :=
  if p < 96 then PI.PORT_CNT_OVF.OVF (p / 16) (p % 16) else UI.PORT_CNT_OVF.OVF (p - 98)

/-- Count in a port statistics counter (05_ports.md, table "Port counter index"). -/
def State.cntPort (s : State) (p c n : Nat) : State := s.addOvf (portCnt p c) (portCntOvf p) (2 ^ c) n

/-- Picoseconds a byte takes on a port at its present speed. -/
def State.bytePs (s : State) (p : Nat) : Nat :=
  if p < 96 then
    match s.rd (portSpeed p) with
    | 0 => 800000
    | 1 => 80000
    | _ => 8000
  else if p < 98 then 800
  else if p = 100 then 320
  else if s.rd (portSpeed p) = 0 then 800 else 320

/-- Nanoseconds `n` bytes take on a port, rounded up. -/
def State.txNs (s : State) (p n : Nat) : Nat := (n * s.bytePs p + 999) / 1000

/-- A port with nothing in flight. -/
def PortMac.empty : PortMac := ⟨[], 0, 0, none, false, [], [], none, false, 0⟩

def State.mac (s : State) (p : Nat) : PortMac := ngetD s.ports p PortMac.empty
def State.setMac (s : State) (p : Nat) (m : PortMac) : State := { s with ports := nput PortMac.empty s.ports p m }

/-- Whether a port has link: the ring ports by marker lock, port 101 always. -/
def State.hasLink (s : State) (p : Nat) : Bool := if isEthPort p then s.isSet (portLink p) else true

/-- Whether a port takes new admissions to its queues (R76). -/
def State.portOn (s : State) (p : Nat) : Bool := if p ≤ 100 then s.isSet (portEn p) else true

/- ## Channels (R55, R56) -/

/-- Write an item: spend a credit. Without a credit nothing is sent. -/
def State.send (s : State) (c : Chan) (i : Item) : State :=
  let v := s.chan c
  if v.credits = 0 then s
  else (s.setChan c { v with credits := v.credits - 1, inFlight := v.inFlight ++ [i] }).count c.src 0x004 1

/-- The receiver removes an item: its credit starts back. -/
def State.take (s : State) (c : Chan) (i : Item) : State :=
  let v := s.chan c
  if i ∈ v.arrived then s.setChan c { v with arrived := v.arrived.erase i, returning := v.returning + 1 } else s

/-- Reset a channel (R62 step 2): flushed, all credits at the sender. -/
def State.flushChan (s : State) (c : Chan) : State := s.setChan c (Channel.fresh c)

/-- Change one copy. -/
def PortMac.setCopy (m : PortMac) (seq : Nat) (f : Copy → Copy) : PortMac :=
  { m with copies := m.copies.map fun c => if c.seq = seq then f c else c }

/-- Whether headers of a source go out: its island and its pipeline island are out of reset, and SI is neither in reset
nor replaying, so that what SI's reset took is re-presented ahead of later frames (R67, R69). -/
def State.headersGo (s : State) (src : Nat) : Bool :=
  s.isl? (portIsl src) != 2 && s.isl? (5 + pipeOf src) != 2 && s.isl? 7 < 2

/-- Send the next header of a source, if it has one, fewer than eight wait, and a credit is free. -/
def State.sendHeader (s : State) (src : Nat) : State :=
  let m := s.mac src
  match m.copies.find? (fun c => c.stage = 0) with
  | some c =>
    if s.headersGo src && m.waiting < 8 && s.canSend (ingressChan src) then
      (s.setMac src (m.setCopy c.seq fun c => { c with stage := 1 })).send (ingressChan src) (.header src c.seq)
    else s
  | none => s

/-- Release a copy that is committed (R28, R69): its space is free and the next header can go. While its island is held
in reset the release does not reach it, and its replay finds the copy committed (R69). -/
def State.commitCopy (s : State) (src seq : Nat) : State :=
  let m := s.mac src
  if s.isl? (portIsl src) = 2 then s.setMac src { m with committed := max m.committed (seq + 1) }
  else
    ((s.setMac src { m with copies := m.copies.filter (fun c => c.seq ≠ seq), committed := max m.committed (seq + 1) }).progress (portIsl src)).sendHeader src

/-- Count in a 15-bit group of MI.REPLAY_STAT. -/
def State.replayCnt (s : State) (f o : Field) (n : Nat) : State := s.addOvf f o 1 n

/-- A re-presented copy is suppressed: its packet has been given to BI already (R69). -/
def State.suppressed (s : State) (i n : Nat) : State :=
  s.replayCnt (MI.REPLAY_STAT.ING_SUPPRESSED i) (MI.REPLAY_STAT.ING_SUPPRESSED_OVF i) n

/- ## Cells and queues (R278 to R281) -/

/-- Cells a frame occupies: ceil(L / 128), at least one. -/
def Desc.cells (d : Desc) : Nat := max 1 ((d.bytes.length + 127) / 128)

/-- The buffer queue of a frame. -/
def Desc.q (d : Desc) : Nat := 8 * d.port + d.queue

def BufQueue.empty : BufQueue := ⟨[], [], []⟩
def State.bq (s : State) (q : Nat) : BufQueue := ngetD s.bi.queues q BufQueue.empty
def State.setBq (s : State) (q : Nat) (b : BufQueue) : State :=
  { s with bi := { s.bi with queues := nput BufQueue.empty s.bi.queues q b } }

/-- The spill index of a buffer queue, if it has one (R289). -/
def spillOf (q : Nat) : Option Nat :=
  if q / 8 = 98 then some (q % 8) else if q / 8 = 99 then some (8 + q % 8) else if q / 8 = 101 then some (16 + q % 8) else none

/-- The buffer queue of a spill index (R289). -/
def spillQueue (i : Nat) : Nat := if i < 8 then 8 * 98 + i else if i < 16 then 8 * 99 + (i - 8) else 8 * 101 + (i - 16)

/-- Shared-pool cells a queue uses when it holds `n` cells (R281). -/
def State.sharedUse (s : State) (q n : Nat) : Nat := n - s.rd (BI.Q_CFG.MIN_CELLS q)

/-- The BI cycle of the present time. -/
def State.biCycle (s : State) : Nat := cyclesTo 8 s.now

/-- Note `n` cells that a queue frees in this BI cycle: decisions see them from the next cycle on (R283). The staging cells
stand under queue 816. -/
def State.noteFreed (s : State) (q n : Nat) : State :=
  let l := if s.bi.freedAt = s.biCycle then s.bi.freed else []
  { s with bi := { s.bi with freedAt := s.biCycle, freed := nset l q (ngetD l q 0 + n) } }

/-- Cells a queue has freed in this BI cycle. -/
def State.freedNow (s : State) (q : Nat) : Nat := if s.bi.freedAt = s.biCycle then ngetD s.bi.freed q 0 else 0

/-- CELLS[q] and FREE_SHARED as a decision of this BI cycle sees them: without the releases of the cycle itself (R283). -/
def State.seenCells (s : State) (q : Nat) : Nat := s.rd (BI.Q_OCC.CELLS q) + s.freedNow q
def State.seenFree (s : State) : Nat :=
  let l := if s.bi.freedAt = s.biCycle then s.bi.freed else []
  s.rd BI.BUF_STAT.FREE_SHARED
    - (l.map fun e => if e.1 = 816 then e.2
        else s.sharedUse e.1 (s.rd (BI.Q_OCC.CELLS e.1) + e.2) - s.sharedUse e.1 (s.rd (BI.Q_OCC.CELLS e.1))).sum

/-- Set CELLS[q] and keep FREE_SHARED (R280). -/
def State.setCells (s : State) (q n : Nat) : State :=
  let free := s.rd BI.BUF_STAT.FREE_SHARED + s.sharedUse q (s.rd (BI.Q_OCC.CELLS q)) - s.sharedUse q n
  (s.wr (BI.Q_OCC.CELLS q) n).wr BI.BUF_STAT.FREE_SHARED free

/-- Take the cells of a frame admitted to its queue, on chip. -/
def State.chargeDesc (s : State) (d : Desc) : State :=
  ((s.setCells d.q (s.rd (BI.Q_OCC.CELLS d.q) + d.cells)).addF (BI.Q_OCC.FRAMES d.q) 1).count 8 0x102 d.cells

/-- Free cells of the return reserve that a spill queue holds (R291). -/
def State.freeReserve (s : State) (q n : Nat) : State :=
  match spillOf q with
  | some i =>
    (s.wr BI.BUF_STAT.RESERVE_USED (s.rd BI.BUF_STAT.RESERVE_USED - n)).wr (BI.SPILL_STAT.RB i)
      (s.rd (BI.SPILL_STAT.RB i) - n)
  | none => s

/-- Free the cells of a frame: to its queue's account, or to the return reserve (R291). -/
def State.releaseDesc (s : State) (d : Desc) : State :=
  if !d.charged then s
  else
  let s1 :=
    if d.reserve then s.freeReserve d.q d.cells
    else (s.setCells d.q (s.rd (BI.Q_OCC.CELLS d.q) - d.cells)).noteFreed d.q d.cells
  ((s1.wr (BI.Q_OCC.FRAMES d.q) (s1.rd (BI.Q_OCC.FRAMES d.q) - 1)).count 8 0x103 d.cells).progress 8

/-- Use or free staging cells (R290). -/
def State.stage (s : State) (n : Nat) : State :=
  (s.addF BI.BUF_STAT.STAGE_USED n).wr BI.BUF_STAT.FREE_SHARED (s.rd BI.BUF_STAT.FREE_SHARED - n)
def State.unstage (s : State) (n : Nat) : State :=
  ((s.wr BI.BUF_STAT.STAGE_USED (s.rd BI.BUF_STAT.STAGE_USED - n)).addF BI.BUF_STAT.FREE_SHARED n).noteFreed 816 n

/-- Count in a queue statistics counter (R545). -/
def State.cntQ (s : State) (q c n : Nat) : State := s.addOvf (BI.QSTAT.COUNT q c) (BI.QSTAT_OVF.OVF q) (2 ^ c) n

/-- Count in a port statistics counter of BI (R545). -/
def State.cntP (s : State) (p c n : Nat) : State := s.addOvf (BI.PSTAT.COUNT p c) (BI.PSTAT_OVF.OVF p) (2 ^ c) n

/-- Why BI drops a frame (BI.ADM_CNT). -/
inductive DropReason where
  | queueFull | colourDrop | portDisabled | spillEcc
deriving DecidableEq, Repr

def DropReason.index : DropReason → Nat
  | .queueFull => 0
  | .colourDrop => 1
  | .portDisabled => 2
  | .spillEcc => 3

/-- The log cause of a drop (R296, R329), where the drop is logged. -/
def DropReason.cause : DropReason → Option Nat
  | .queueFull => some 0x0B
  | .colourDrop => some 0x0C
  | .portDisabled => none
  | .spillEcc => some 0x0D

/-- Count a drop of BI: by reason, by queue and port, in the event counters and the log (R282, R296, R545). -/
def State.countDrop (s : State) (d : Desc) (r : DropReason) : State :=
  let s1 := (s.addOvf (BI.ADM_CNT.COUNT r.index) (BI.ADM_CNT.OVF r.index) 1 1).wr BI.ADM_EVT.DROP_SEEN 1
  let s2 := ((s1.cntQ d.q 2 1).cntQ d.q 3 d.bytes.length).cntP d.port (2 + r.index) 1
  let s3 := s2.count 8 0x101 1
  match r.cause with
  | some c => s3.logEvent c 8
  | none => s3

/-- Discard a frame that is queued on chip (R76, R135, R161): counted, its cells freed. -/
def State.discardDesc (s : State) (d : Desc) : State := (s.countDrop d .portDisabled).releaseDesc d

/-- Discard every frame of a list. -/
def State.discardAll (s : State) (l : List Desc) : State := l.foldl (fun s d => s.discardDesc d) s

/-- Take the writes of a spill queue out of the spill-write channel: their credits return. -/
def State.dropSpills (s : State) (i : Nat) : State :=
  let v := s.chan spillChan
  let mine := fun (x : Item) => match x with
    | .spill j _ => j == i
    | _ => false
  let n := (v.inFlight.filter mine).length + (v.arrived.filter mine).length
  if n = 0 then s
  else s.setChan spillChan { v with
    inFlight := v.inFlight.filter fun x => !mine x, arrived := v.arrived.filter fun x => !mine x, credits := v.credits + n }

/-- Forget what is under way between BI and DI for a spill queue whose DRAM segment is discarded: its writes and
read-backs, and an uncorrectable error of a running one; the next frame is read from where the next one is written. -/
def State.spillForget (s : State) (i : Nat) : State :=
  let s1 := s.dropSpills i
  { s1 with di := { s1.di with
    queue := s1.di.queue.filter fun r => r.who != .spillRd i && r.who != .spillWr i,
    spillGot := nset s1.di.spillGot i (ngetD s1.di.spillPut i 0), spillBad := s1.di.spillBad.filter (· != i) } }

/-- Discard every frame of a queue: head segment, DRAM segment and held tail. Spilled frames hold staging cells until
their write is acknowledged. -/
def State.flushQueue (s : State) (q : Nat) : State :=
  let b := s.bq q
  let s1 := s.discardAll (b.head ++ b.tail)
  let s2 := b.dram.foldl (fun s e =>
    let s := s.countDrop e.desc .portDisabled
    if e.reading then s.freeReserve q e.desc.cells else if e.acked then s else s.unstage e.desc.cells) s1
  let s3 := match spillOf q with
    | some i =>
      (s2.wrs [(BI.SPILL_STAT.DRAM_CELLS i, 0), (BI.SPILL_STAT.ACTIVE i, 0), (BI.SPILL_STAT.HELD_TAIL i, 0)]).spillForget i
    | none => s2
  (s3.setBq q BufQueue.empty).wr (BI.DWRR_Q.DEFICIT q) 0

/-- The frames on their way from BI to a port. -/
def State.cellsFor (s : State) (p : Nat) : List Desc :=
  (s.chan (egressChan p)).inFlight.filterMap fun i => match i with
    | .cells d => if d.port = p then some d else none
    | _ => none

/-- Discard the frames on their way from BI to a port; their credits return. -/
def State.dropCells (s : State) (p : Nat) : State :=
  let l := s.cellsFor p
  if l.isEmpty then s
  else
    let ch := egressChan p
    let v := s.chan ch
    let rest := v.inFlight.filter fun i => match i with
      | .cells d => d.port != p
      | _ => true
    (s.discardAll l).setChan ch { v with inFlight := rest, credits := v.credits + l.length }

/-- The eight queues of a port. -/
def queuesOf (p : Nat) : List Nat := (List.range 8).map fun v => 8 * p + v

/-- Discard what is queued for a port on chip and in DRAM, its egress FIFO lanes and the channel to it included. -/
def State.flushPort (s0 : State) (p : Nat) : State :=
  let s := s0.dropCells p
  let m := s.mac p
  let s1 := (s.discardAll (m.sched ++ m.ordin)).setMac p { m with sched := [], ordin := [] }
  (queuesOf p).foldl (fun s q => s.flushQueue q) s1

/-- How many frames stand queued for a port. -/
def State.queuedFor (s : State) (p : Nat) : Nat :=
  let m := s.mac p
  m.sched.length + m.ordin.length + (s.cellsFor p).length
    + ((queuesOf p).map fun q => (s.bq q).head.length + (s.bq q).dram.length + (s.bq q).tail.length).sum

end Sys2Proof.Machine
end

