-- ==== Sys2Proof/Machine/Ports.lean ====
section
/-!
DEFINITION. Ports (05_ports.md): receiving a frame, PAUSE, link state, the I²C masters, power allocation (R165), and
the power coordinator of R167 to R169 that admission calls.
-/
namespace Sys2Proof.Machine

/- ## Receiving -/

/-- EtherType of an untagged frame. -/
def etherType (l : Frame) : Nat := beNat (sliceAt l 12 2)

/-- What the MAC makes of a frame (R152, R153, R157): the counter it discards or consumes it under, or none if the
frame enters the ingress FIFO. That R152 and R157 come before R153 is the model's choice (notes/assumptions/60.md). -/
def State.rxVerdict (s : State) (p : Nat) (l : Frame) (codeErr : Bool) : Option Nat :=
  if l.length < 64 then some 2
  else if portMax p < l.length then some 3
  else if !fcsGood l then some 4
  else if codeErr then some 5
  else if etherType l = 0x8808 then some 7
  else if fifoSize p < ((s.mac p).copies.map fun c => c.bytes.length).sum + l.length then some 6
  else none

/-- The signed adjustment of receive stamps of a port (R381). -/
def State.rxStamp (s : State) (p t : Nat) : Nat := ((t : Int) + s.rdS (TI.TS_CFG.RX_ADJ p)).toNat

/-- A new held copy at the end of a port's ingress FIFO (R28). The packet handle is the device's own choice. -/
def State.hold (s : State) (p : Nat) (ingress : Nat) (l : Frame) (rx : Nat) (trial : Bool) : State :=
  let m := s.mac p
  let c : Copy := ⟨m.nextSeq, l, ingress, rx, s.freeVal % 2 ^ 32, none, trial, 0, false⟩
  (s.tookFree.setMac p { m with copies := m.copies ++ [c], nextSeq := m.nextSeq + 1 }).sendHeader p

/-- Whether a frame whose last bit comes now was on the wire, preamble included, before the port's EN was cleared (R76). -/
def State.wasOnWire (s : State) (p n : Nat) : Bool :=
  (s.mac p).offAt != 0 && s.now + 1 < (s.mac p).offAt + s.txNs p (n + 8)

/-- Whether a port receives a frame of `n` bytes: its island is out of reset (R65), it has link, and it is enabled or the
frame was on the wire when it was disabled (R76). -/
def State.receives (s : State) (p n : Nat) : Bool :=
  isEthPort p && s.islUp (portIsl p) && s.isSet (portLink p) && (s.isSet (portEn p) || s.wasOnWire p n)

/-- Count an accepted frame: RX_FRAMES, RX_BYTES and the event RX_FRAME. -/
def State.rxAccepted (s : State) (p : Nat) (l : Frame) : State :=
  ((s.cntPort p 0 1).cntPort p 1 l.length).count (portIsl p) 0x100 1

/-- RX_FRAME (R152, R153, R157). A MAC control frame is one that R152 accepts. -/
def State.rxFrame (s : State) (p : Nat) (l : Frame) (codeErr : Bool) (t : Nat) : State :=
  if s.receives p l.length then
    match s.rxVerdict p l codeErr with
    | some c =>
      let s1 := s.cntPort p c 1
      if c = 6 then s1.count (portIsl p) 0x102 1
      else if c = 7 then s1.rxAccepted p l
      else s1
    | none => (s.rxAccepted p l).hold p p l (s.rxStamp p t) false
  else s

def execRxFrame (port : Nat) (bytes : Frame) (codeErr : Bool) (t : Nat) (s : State) : Host.Outcome State Fault Refusal :=
  .next (let s0 := s.begin t; s0.rxFrame port bytes codeErr s0.time)

/- ## PAUSE -/

/-- Nanoseconds of `q` quanta of 512 bit times on a port. -/
def State.quantaNs (s : State) (p q : Nat) : Nat := s.txNs p (64 * q)

/-- Whether a port honours PAUSE: CX and the ring ports never do (R157). -/
def State.honours (s : State) (p : Nat) : Bool :=
  isEthPort p && p != 100 && s.islUp (portIsl p) && s.isSet (portEn p) && s.isSet (portHonour p)

/-- The whole quanta of 512 bit times in a time. -/
def State.quantaIn (s : State) (p ns : Nat) : Nat := ns * 1000 / (64 * s.bytePs p)

/-- When a hold is over: at its end, or at its limit (R159). -/
def State.holdOver (s : State) (p : Nat) (h : Hold) : Nat := min h.endAt (h.startAt + s.quantaNs p 65535)

/-- End a hold: HELD clears and the time held, up to when the hold was over, is counted in quanta (R159). -/
def State.endHold (s : State) (p t : Nat) : State :=
  let m := s.mac p
  match m.hold with
  | some h =>
    ((s.setMac p { m with hold := none }).wr (portHeld p) 0).cntPort p 11
      (s.quantaIn p (min t (s.holdOver p h) - h.startAt))
  | none => s

/-- PAUSE_RX (R158, R159). A hold starts after the frame on the wire; another PAUSE replaces the time that remains of it, or
of one that is still to start. HELD shows it from the reception on, which is the model's choice (notes/assumptions/60.md). -/
def State.pauseRx (s : State) (p q t : Nat) : State :=
  let m := s.mac p
  if !s.honours p || (m.owesFrame && 0 < s.queuedFor p) then s
  else if q = 0 then s.endHold p t
  else
    let start := match m.hold, m.wire with
      | some h, _ => h.startAt
      | none, some w => max t w.endAt
      | none, none => t
    let from' := match m.hold with
      | some h => max t h.startAt
      | none => start
    (s.setMac p { m with hold := some ⟨start, from' + s.quantaNs p q⟩, owesFrame := false }).wr (portHeld p) 1

def execPauseRx (port quanta t : Nat) (s : State) : Host.Outcome State Fault Refusal :=
  .next (let s0 := s.begin t; s0.pauseRx port quanta s0.time)

/-- PAUSE_HOLD_END (R158): the hold's time is up. -/
def State.pauseHoldEnd (s : State) (p t : Nat) : State :=
  match (s.mac p).hold with
  | some h => if h.endAt ≤ t then s.endHold p t else s
  | none => s

def execPauseHoldEnd (port t : Nat) (s : State) : Host.Outcome State Fault Refusal :=
  .next (let s0 := s.begin t; s0.pauseHoldEnd port s0.time)

/-- PAUSE_HOLD_LIMIT (R159): 65,535 quanta without a break end the hold; a frame goes before the next PAUSE. -/
def State.pauseHoldLimit (s : State) (p t : Nat) : State :=
  match (s.mac p).hold with
  | some h =>
    if h.startAt + s.quantaNs p 65535 ≤ t then
      let s1 := s.endHold p t
      s1.setMac p { s1.mac p with owesFrame := true }
    else s
  | none => s

def execPauseHoldLimit (port t : Nat) (s : State) : Host.Outcome State Fault Refusal :=
  .next (let s0 := s.begin t; s0.pauseHoldLimit port s0.time)

/- ## Link state -/

/-- Note a change of link: LINK_CHG, and local source 1 of the port's island. -/
def State.linkChanged (s : State) (p : Nat) : State := (s.wr (portLinkChg p) 1).raise (8 * portIsl p + 1)

/-- The frame on the wire ends with an error (R161): counted, its cells freed. -/
def State.abortWire (s : State) (p : Nat) : State :=
  let m := s.mac p
  match m.wire with
  | some w => (((s.setMac p { m with wire := none }).cntPort p 10 1).emit (.frameAborted p)).releaseDesc w.desc
  | none => s

/-- Discard what is queued for a port whose link is lost with LINK_FLUSH = 1, counting LINK_FLUSHED too (R161). -/
def State.linkFlush (s : State) (p : Nat) : State := (s.cntPort p 12 (s.queuedFor p)).flushPort p

/-- The loss of a port's link (R161). -/
def State.loseLink (s : State) (p : Nat) : State :=
  let s1 := ((s.wr (portLink p) 0).addF (portDownCnt p) 1).linkChanged p
  if s.isSet (portEn p) then
    let s2 := s1.abortWire p
    if s.isSet (portFlush p) then s2.linkFlush p else s2
  else s1

/-- A cascade member that has CX's receive link no longer becomes DOWN (R270); the cascade family gives the rest. -/
def State.linkDown (s : State) (p : Nat) : State :=
  if isEthPort p && s.isSet (portLink p) then s.loseLink p else s

/-- GUARD of a luminaire port: the time of 2,020 bytes (R314). -/
def State.setGuardNs (s : State) (p : Nat) : State :=
  if p < 96 then s.wr (BI.CAR_PORT.GUARD_NS p) (s.txNs p 2020) else s

/-- A port gains link (R154, R160, R170): its speed, L_CUR = 0. The cage of an uplink with link reports neither MOD_ABS nor
RX_LOS (R160). The speed of an uplink is the one the event brings, not UP_RATE of PORT_MAP: the model's choice
(notes/assumptions/60.md). -/
def State.gainLink (s : State) (p speed : Nat) : State :=
  let s0 := ((s.wr (portLink p) 1).wr (portSpeed p) (if p = 100 then 1 else speed)).linkChanged p
  let s1 := if p = 98 ∨ p = 99 then s0.wrs [(UI.SFP_IO.MOD_ABS (p - 98), 0), (UI.SFP_IO.RX_LOS (p - 98), 0)] else s0
  if p < 96 then (s1.wr (BI.PWR_PORT.L_CUR p) 0).setGuardNs p else s1

/-- LINK_UP: half duplex is refused (R154); a new speed is a loss followed by a gain (R161). -/
def State.linkUp (s : State) (p speed : Nat) (half : Bool) : State :=
  if !isEthPort p then s
  else if half && p < 96 then
    (if s.isSet (portLink p) then s.loseLink p else s).wr (PI.PORT_STAT.HDX_REFUSED (p / 16) (p % 16)) 1
  else (if s.isSet (portLink p) then s.loseLink p else s).gainLink p speed

/- ## I²C masters (R162 to R164) -/

/-- Whether bus `b` can start something. -/
def State.i2cIdle (s : State) (b : Nat) : Bool :=
  b < 4 && s.isSet (MI.I2C_CFG.EN b) && !s.isSet (MI.I2C_STAT.BUSY b)

/-- The first `n` bytes of a master's buffer. -/
def State.i2cBuf (s : State) (b n : Nat) : Frame :=
  ((List.range 4).flatMap fun w => leBytes 8 (s.rd (MI.I2C_BUF.DATA b w))).take n

/-- Put bytes at the front of a master's buffer. -/
def State.setI2cBuf (s : State) (b : Nat) (l : Frame) : State :=
  let all := patchAt (s.i2cBuf b 32) 0 (l.take 32)
  (List.range 4).foldl (fun s w => s.wr (MI.I2C_BUF.DATA b w) (leNat (sliceAt all (8 * w) 8))) s

/-- I2C_GO (R163): ignored while BUSY = 1. -/
def State.i2cGo (s : State) (b addr rd wr : Nat) : State :=
  let s1 := s.wrs [(MI.I2C_XFER.ADDR b, addr), (MI.I2C_XFER.RD_LEN b, rd), (MI.I2C_XFER.WR_LEN b, wr)]
  if s.i2cIdle b then
    ({ s1 with i2c := nset s1.i2c b ⟨false, s1.now, addr, rd, wr⟩ }.wr (MI.I2C_STAT.BUSY b) 1).emit (.i2c b addr (s1.i2cBuf b wr))
  else s1

def execI2cGo (src : Src) (bus addr rdLen wrLen : Nat) (s : State) : Host.Outcome State Fault Refusal :=
  .next (s.quiet.regCmd src 0 (0x820 + 8 * bus) false fun s => s.i2cGo bus addr rdLen wrLen)

/-- BUS_CLEAR (R164): nine clocks with SDA released, then a stop; BUSY meanwhile. A pulse while BUSY = 1 or EN = 0 is
ignored like GO, and its end sets DONE: the model's choices (notes/assumptions/60.md). -/
def State.busClear (s : State) (b : Nat) : State :=
  if s.i2cIdle b then
    ({ s with i2c := nset s.i2c b ⟨true, s.now, 0, 0, 0⟩ }.wr (MI.I2C_STAT.BUSY b) 1).emit (.pin "I2C_BUS_CLEAR" b)
  else s

def execBusClear (src : Src) (bus : Nat) (s : State) : Host.Outcome State Fault Refusal :=
  .next (s.quiet.regCmd src 0 (0x820 + 8 * bus) false fun s => s.busClear bus)

/-- What a master does with its lines at the end of a transfer (R163, R164): a stop, or both lines released, or nothing. -/
inductive LineEnd where
  | stop | release | nothing
deriving DecidableEq, Repr

def State.i2cLines (s : State) (b : Nat) (e : LineEnd) : State :=
  match e with
  | .stop => s.emit (.pin "I2C_STOP" b)
  | .release => s.emit (.pin "I2C_RELEASE" b)
  | .nothing => s

/-- The end of a transfer: the bytes read before it stand in the buffer (R163). -/
def State.i2cEnd (s : State) (b : Nat) (data : Frame) (e : LineEnd) (flags : List (Field × Nat)) : State :=
  match nget s.i2c b with
  | some op =>
    let s1 := if op.busClear then s else s.setI2cBuf b (data.take op.rdLen)
    (({ s1 with i2c := nerase s1.i2c b }.wrs [(MI.I2C_STAT.BUSY b, 0), (MI.I2C_STAT.DONE b, 1)]).wrs flags).i2cLines b e
  | none => s

/-- I2C_DONE: a NACK ends the transfer with a stop, as success does; lost arbitration without one (R163). -/
def State.i2cDone (s : State) (b : Nat) (e : I2cEnd) (data : Frame) : State :=
  match e with
  | .ok => s.i2cEnd b data .stop []
  | .nack k => s.i2cEnd b data .stop [(MI.I2C_STAT.NACK b, 1), (MI.I2C_STAT.NACK_AT b, k)]
  | .arbLost => s.i2cEnd b data .nothing [(MI.I2C_STAT.ARB_LOST b, 1)]

def execI2cDone (bus : Nat) (outcome : I2cEnd) (data : Frame) (s : State) : Host.Outcome State Fault Refusal :=
  .next (s.quiet.i2cDone bus outcome data)

/-- TIMEOUT of a master in ns; 0 acts as 1 ms. -/
def State.i2cLimit (s : State) (b : Nat) : Nat := max 1 (s.rd (MI.I2C_CFG.TIMEOUT b)) * 1000000

/-- I2C_TIMEOUT (R163): a transfer, not a bus clear, has had SCL low for longer than TIMEOUT, of the time it has run. -/
def State.i2cTimeout (s : State) (b : Nat) (w : I2cStall) : State :=
  match nget s.i2c b with
  | some op =>
    if !op.busClear && s.i2cLimit b < w.low && op.since + w.low ≤ s.now then
      s.i2cEnd b w.data .release [(MI.I2C_STAT.TIMEOUT b, 1)]
    else s
  | none => s

def execI2cTimeout (bus : Nat) (stall : I2cStall) (s : State) : Host.Outcome State Fault Refusal :=
  .next ((s.begin stall.t).i2cTimeout bus stall)

/- ## Power allocation (R165) -/

/-- ALLOC_WRITE (R165): refused when P_FULL exceeds ALLOC or the domain's sum its budget. -/
def State.allocWrite (s : State) (k alloc pFull : Nat) : State :=
  let a := alloc % 65536
  let f := pFull % 65536
  let d := s.rd (BI.PWR_PORT.DOMAIN k)
  let sum := s.rd (BI.PWR_DOM.SUM_ALLOC d) + a - s.rd (BI.PWR_PORT.ALLOC k)
  if a < f ∨ (d < 8 ∧ s.rd (BI.PWR_DOM.BUDGET d) < sum) then s.wr BI.PWR_STAT.ALLOC_REFUSED 1
  else
    let s1 := s.wrs [(BI.PWR_PORT.ALLOC k, a), (BI.PWR_PORT.P_FULL k, f)]
    if d < 8 then s1.wr (BI.PWR_DOM.SUM_ALLOC d) sum else s1

def execAllocWrite (src : Src) (port alloc pFull : Nat) (s : State) : Host.Outcome State Fault Refusal :=
  .next (s.quiet.regCmd src 8 (0xF100 + 8 * port) false fun s => if port < 96 then s.allocWrite port alloc pFull else s)

/-- BUDGET_WRITE (R165): a budget below SUM_ALLOC is refused, and changes nothing. -/
def State.budgetWrite (s : State) (d budget riseMax : Nat) : State :=
  if budget % 65536 < s.rd (BI.PWR_DOM.SUM_ALLOC d) then s.wr BI.PWR_STAT.ALLOC_REFUSED 1
  else s.wrs [(BI.PWR_DOM.BUDGET d, budget), (BI.PWR_DOM.RISE_MAX d, riseMax)]

def execBudgetWrite (src : Src) (dom budget riseMax : Nat) (s : State) : Host.Outcome State Fault Refusal :=
  .next (s.quiet.regCmd src 8 (0xF008 + 8 * dom) false fun s => if dom < 8 then s.budgetWrite dom budget riseMax else s)

/- ## The power coordinator (R167 to R169) -/

/-- Where the Poran payload starts in a frame whose EtherType, after at most two VLAN tags, is the Poran EtherType. -/
def State.poranAt (s : State) (l : Frame) : Option Nat :=
  let ty := s.rd RI.GW_CFG.ETYPE
  let isTag := fun i => beNat (sliceAt l i 2) = 0x8100 ∨ beNat (sliceAt l i 2) = 0x88A8
  if beNat (sliceAt l 12 2) = ty then some 14
  else if isTag 12 then
    if beNat (sliceAt l 16 2) = ty then some 18
    else if isTag 16 ∧ beNat (sliceAt l 20 2) = ty then some 22
    else none
  else none

/-- The level a Poran frame asks for: LEVEL, or 65,535 for a scene recall (R167). -/
def poranLevel (l : Frame) (o : Nat) : Nat :=
  if (l.getD o 0).toNat % 16 = 2 then 65535 else beNat (sliceAt l (o + 8) 2)

/-- ΔE of R167. -/
def rise (pFull lNew lCur : Nat) : Nat := if lCur < lNew then (pFull * (lNew - lCur) + 65534) / 65535 else 0

/-- The rises of a slot of a domain. -/
def PowerCoord.slotSum (c : PowerCoord) (d k : Nat) : Nat := ngetD (ngetD c.slots d []) k 0

/-- Whether a slot takes a rise (R168): one that holds none takes any. -/
def PowerCoord.fits (c : PowerCoord) (d k de riseMax : Nat) : Bool :=
  c.slotSum d k = 0 || c.slotSum d k + de ≤ riseMax

/-- The earliest slot from `lo` on, among the next `n`, that takes a rise. -/
def PowerCoord.find (c : PowerCoord) (d de riseMax : Nat) : Nat → Nat → Option Nat
  | _, 0 => none
  | lo, n + 1 => if c.fits d lo de riseMax then some lo else PowerCoord.find c d de riseMax (lo + 1) n

/-- Assign a rise to a slot; slots before `cur` have passed and are forgotten (R296). -/
def PowerCoord.assign (c : PowerCoord) (p d k de cur : Nat) : PowerCoord :=
  let m := (ngetD c.slots d []).filter fun e => cur ≤ e.1
  { slots := nset c.slots d (nset m k (ngetD m k 0 + de)), lastSlot := nset c.lastSlot p k }

/-- HORIZON, 0 acting as 1, and STEP in ns. -/
def State.horizon (s : State) : Nat := max 1 (s.rd BI.PWR_CFG.HORIZON)
def State.stepNs (s : State) : Nat := s.rd BI.PWR_CFG.STEP * 1000

/-- Put an activation time into a Poran frame and compute the FCS afresh (R169). -/
def setActTime (l : Frame) (o act : Nat) : Frame :=
  withFcs ((patchAt l (o + 16) (beBytes 8 act)).take (l.length - 4))

/-- The power coordinator on a frame admitted for luminaire port `p` (R167 to R169): the frame with the activation
time of R169's formula (which can leave two frames of a port out of their activation order: notes/assumptions/60.md), the slot memory, L_CUR and the counts. With STEP = 0 no slot is defined and the frame passes unchanged. -/
def State.coordinate (s : State) (d : Desc) : State × Desc :=
  let p := d.port
  let dom := s.rd (BI.PWR_PORT.DOMAIN p)
  if p < 96 ∧ dom < 8 ∧ s.isSet (BI.PWR_PORT.ALLOC p) then
    match s.poranAt d.bytes with
    | none => (s, d)
    | some o =>
      let lNew := poranLevel d.bytes o
      let de := rise (s.rd (BI.PWR_PORT.P_FULL p)) lNew (s.rd (BI.PWR_PORT.L_CUR p))
      let s1 := s.wr (BI.PWR_PORT.L_CUR p) lNew
      if de = 0 ∨ !s.isSet BI.PWR_CFG.EN ∨ s.stepNs = 0 then (s1, d)
      else
        let t0 := max (beNat (sliceAt d.bytes (o + 16) 8)) s.time
        let s0 := t0 / s.stepNs
        let lo := max s0 (ngetD s.bi.power.lastSlot p 0)
        let found := s.bi.power.find dom de (s.rd (BI.PWR_DOM.RISE_MAX dom)) lo (s0 + s.horizon + 1 - lo)
        let k := found.getD (s0 + s.horizon)
        let s2 := { s1 with bi := { s1.bi with power := s1.bi.power.assign p dom k de (s.time / s.stepNs) } }
        let s3 := match found with
          | some _ => s2
          | none => ((s2.addOvf BI.PWR_STAT.OVER_RISE BI.PWR_STAT.CNT_OVF 1 1).wr BI.PWR_STAT.OVER_RISE_SEEN 1).raise 71
        if s0 < k then
          (s3.addOvf BI.PWR_STAT.DEFERRED BI.PWR_STAT.CNT_OVF 1 1,
            { d with bytes := setActTime d.bytes o (t0 + (k - s0) * s.stepNs) })
        else (s3, d)
  else (s, d)

end Sys2Proof.Machine
end

