-- ==== Sys2Proof/Machine/PipeOps.lean ====
section
/-!
DEFINITION. What the pipeline families share: banks and epochs (R195, R230), in-flight counts (R197), Sideshow entries
(R326, R328), and the passing of ended packets to BI in receive order (R219).
-/
namespace Sys2Proof.Machine

/- ## Banks and epochs -/

def State.bank (s : State) (b : Bool) : Bank := if b then s.bank1 else s.bank0
def State.setBank (s : State) (b : Bool) (k : Bank) : State := if b then { s with bank1 := k } else { s with bank0 := k }
def State.curEpoch (s : State) : Nat := s.rd MI.EPOCH_STAT.CURRENT
def State.stagedEpoch (s : State) : Nat := (s.curEpoch + 1) % 16

/-- Which bank an epoch number selects: the current epoch's, or the other one (retiring or staged). -/
def State.bankOf (s : State) (e : Nat) : Bool := if e = s.curEpoch then s.curBank else !s.curBank

/-- The contents an epoch runs against (R195). -/
def State.epochBank (s : State) (e : Nat) : Bank := s.bank (s.bankOf e)

/-- What pipeline `k` runs, in a bank. -/
def Bank.pipe (b : Bank) (k : Nat) : PipeBank := if k = 0 then b.pa else b.pb
def Bank.setPipe (b : Bank) (k : Nat) (p : PipeBank) : Bank := if k = 0 then { b with pa := p } else { b with pb := p }

def State.pipe (s : State) (k : Nat) : Pipe := if k = 0 then s.pa else s.pb
def State.setPipe (s : State) (k : Nat) (p : Pipe) : State := if k = 0 then { s with pa := p } else { s with pb := p }

/-- The routine-table entry a RESULT (or entry 128, or a gateway entry) has under an epoch. -/
def State.routine? (s : State) (k e i : Nat) : Option Routine := nget ((s.epochBank e).pipe k).routines.entries i

/-- Whether something is staged: table or control-store changes, or a partial image. -/
def State.somethingStaged (s : State) : Bool := s.isSet MI.EPOCH_STAT.STAGED_DIRTY || s.isSet MI.IMG_STAT.STAGED

/-- Whether a packet is a trial frame that an abort discards (R207). -/
def State.isAborted (s : State) (src seq : Nat) : Bool := s.epoch.aborted.contains (src, seq)

/-- Count `n` discarded trial frames in the event log (R207, reason EPOCH_ABORT). -/
def State.abortDrop (s : State) (isl n : Nat) : State := (List.range n).foldl (fun s _ => s.logEvent 0x0F isl) s

/- ## Work in flight (R197) -/

/-- Held copies that BI has not committed (R83), gateway contexts and packets that bear an epoch, trial frames apart. -/
def State.inFlight (s : State) (e : Nat) (trial : Bool) : Nat :=
  (s.ports.map fun m => (m.2.copies.filter fun c => c.epoch = some e ∧ c.trial = trial ∧ m.2.committed ≤ c.seq).length).sum
    + ((s.pa.ctxs ++ s.pb.ctxs).filter fun c => c.2.packet = none ∧ c.2.epoch = e ∧ c.2.trial = trial ∧ !c.2.done).length

/-- Every stamped piece of work of an epoch. -/
def State.inFlightAll (s : State) (e : Nat) : Nat := s.inFlight e false + s.inFlight e true

/- ## Action words (R192) -/

def actDrop (a : Nat) : Bool := bitOf a 63
def actFwd (a : Nat) : Bool := bitOf a 62
def actCopy (a : Nat) : Bool := bitOf a 61
def actMirror (a : Nat) : Bool := bitOf a 60
def actSetClass (a : Nat) : Bool := bitOf a 59
def actClass (a : Nat) : Nat := bitsOf a 56 3
def actSetColour (a : Nat) : Bool := bitOf a 55
def actColour (a : Nat) : Nat := bitsOf a 53 2
def actSetQueue (a : Nat) : Bool := bitOf a 51
def actQueue (a : Nat) : Nat := bitsOf a 48 3
def actSession (a : Nat) : Nat := bitsOf a 44 4
def actPort (a : Nat) : Nat := bitsOf a 32 8
def actDisposition (a : Nat) : Nat := bitsOf a 60 4

/-- A word that R192 rejects at write and BAD_ACTION refuses: COLOUR 0b11, QUEUE 6 or 7, PORT 101 to 0xFE. -/
def actBad (a : Nat) : Bool := actColour a == 3 || 6 ≤ actQueue a || (101 ≤ actPort a && actPort a != 0xFF)

/-- Take one field of a word from another. -/
def takeField (acc w lo n : Nat) : Nat := acc - bitsOf acc lo n * 2 ^ lo + bitsOf w lo n * 2 ^ lo

/-- Merge an action word into the accumulator (R194): dispositions OR; CLASS, COLOUR and QUEUE from the last word that
sets them; MIRROR_SESSION with MIRROR, PORT with FWD; ROUTINE_DATA from the last word. -/
def mergeAct (acc w : Nat) : Nat :=
  let a0 := acc ||| (actDisposition w * 2 ^ 60)
  let a1 := if actSetClass w then takeField (takeField a0 w 59 1) w 56 3 else a0
  let a2 := if actSetColour w then takeField (takeField a1 w 55 1) w 53 2 else a1
  let a3 := if actSetQueue w then takeField (takeField a2 w 51 1) w 48 3 else a2
  let a4 := if actMirror w then takeField a3 w 44 4 else a3
  let a5 := if actFwd w then takeField a4 w 32 8 else a4
  takeField a5 w 0 32

/- ## Sideshow entries (R326 to R328) -/

/-- The Sideshow queue of a reason (BI.SS_QMAP). -/
def State.sideQueue (s : State) (reason : Nat) : Nat := bitsOf (s.rd (BI.SS_QMAP.QUEUES (reason / 16))) (4 * (reason % 16)) 3

/-- The provisional class of a packet (R284): from the default action of the routine entry its dispatch uses. -/
def State.provisional (s : State) (k e entry : Nat) : Nat :=
  match s.routine? k e entry with
  | some r => if actSetClass r.defaultAction then actClass r.defaultAction else 0
  | none => 0

/-- A Sideshow entry for a frame: the header's fields and the frame bytes, cut to 128 where the entry is truncated. -/
def State.sideDesc (s : State) (kind reason egress epoch cls colour ingress ruleIndex handle stamp : Nat) (trunc : Bool)
    (l : Frame) : Desc :=
  { port := 101, queue := s.sideQueue reason, cls, colour, ingress,
    bytes := if trunc then l.take 128 else l, epoch, handle, stamp,
    side := some ⟨kind, reason, egress, l.length, ruleIndex, trunc⟩, copy := kind != 0 && kind != 4,
    reserve := false, commits := none }

/-- A frame for an egress port that no Sideshow header goes with. -/
def plainDesc (port queue cls colour ingress epoch handle stamp : Nat) (copy : Bool) (l : Frame) : Desc :=
  { port, queue, cls, colour, ingress, bytes := l, epoch, handle, stamp, side := none, copy, reserve := false,
    commits := none }

/-- A delivery in place of forwarding (R326) of a packet as received. -/
def State.delivery (s : State) (p : Parsed) (reason ruleIndex cls : Nat) : Desc :=
  s.sideDesc (if p.trial then 4 else 0) reason 0xFF p.epoch cls 0 p.ingress ruleIndex p.handle p.rx false p.bytes

/- ## Passing ended packets to BI (R219) -/

/-- Pass waiting frames of a pipeline to BI while admission credit lasts. -/
def State.pumpAdmit (s : State) (k : Nat) : Nat → State
  | 0 => s
  | n + 1 =>
    match (s.pipe k).toBi with
    | [] => s
    | d :: r =>
      if s.canSend (admitChan k) then
        ((s.setPipe k { s.pipe k with toBi := r }).send (admitChan k) (.admission d)).pumpAdmit k n
      else s

/-- Give frames to BI behind those that wait. -/
def State.passToBi (s : State) (k : Nat) (l : List Desc) : State :=
  let s1 := s.setPipe k { s.pipe k with toBi := (s.pipe k).toBi ++ l }
  s1.pumpAdmit k (s1.pipe k).toBi.length

/-- Mark the frames of a packet with the copy they belong to. -/
def markCommit (src seq : Nat) (l : List Desc) : List Desc := l.map fun d => { d with commits := some (src, seq) }

/-- Whether an ended packet may pass: every earlier packet of its source has passed or is committed. -/
def State.mayPass (s : State) (e : Ended) : Bool :=
  (s.mac e.source).copies.all fun c => e.seq ≤ c.seq || c.passed || decide (c.seq < (s.mac e.source).committed)

/-- Whether a packet is the second of one copy: its frames have been given to BI, or the copy is committed (R69). -/
def State.again (s : State) (src seq : Nat) : Bool :=
  match (s.mac src).copies.find? fun c => c.seq = seq with
  | some c => c.passed || decide (seq < (s.mac src).committed)
  | none => true

/-- Pass the ended packets of a source that may pass, oldest first; a packet with no frame commits at once. -/
def State.passEnded (s : State) (k src : Nat) : Nat → State
  | 0 => s
  | n + 1 =>
    let es := (s.pipe k).ended.filter fun e => e.source = src
    match es.find? (fun e => es.all fun f => e.seq ≤ f.seq) with
    | none => s
    | some e =>
      if s.again e.source e.seq then
        ((s.setPipe k { s.pipe k with ended := (s.pipe k).ended.erase e }).suppressed (portIsl e.source) 1).passEnded k src n
      else if s.mayPass e then
        let s0 := s.setPipe k { s.pipe k with ended := (s.pipe k).ended.erase e }
        let s1 := s0.setMac e.source ((s0.mac e.source).setCopy e.seq fun c => { c with passed := true })
        let s2 := if e.outs.isEmpty then s1.commitCopy e.source e.seq else s1.passToBi k (markCommit e.source e.seq e.outs)
        s2.passEnded k src n
      else s

/-- A packet has ended with these frames (R219). -/
def State.endPacket (s : State) (k src seq : Nat) (outs : List Desc) : State :=
  let m := s.mac src
  let s1 := (s.setMac src (m.setCopy seq fun c => { c with stage := 5 })).progress (5 + k)
  let s2 := s1.setPipe k { s1.pipe k with ended := (s1.pipe k).ended ++ [⟨src, seq, outs⟩] }
  s2.passEnded k src (s2.pipe k).ended.length

end Sys2Proof.Machine
end

