-- ==== Sys2Proof/Machine/Contexts.lean ====
section
/-!
DEFINITION. Juggler contexts (R217): finding, filling and releasing one (R236), and the fragment table (R186 to R190)
whose pending entries hold contexts.
-/
namespace Sys2Proof.Machine

/- ## Contexts -/

/-- The place of a context in its pipeline. -/
def ctxKey (x : CtxId) : Nat := 4 * x.jug + x.ctx

/-- The context, if it holds work. -/
def State.ctx? (s : State) (x : CtxId) : Option Ctx := nget (s.pipe x.pipe).ctxs (ctxKey x)

/-- Write a context. -/
def State.setCtx (s : State) (x : CtxId) (c : Ctx) : State :=
  s.setPipe x.pipe { s.pipe x.pipe with ctxs := nset (s.pipe x.pipe).ctxs (ctxKey x) c }

/-- Mark a context busy or idle in PA.JUG_STAT. -/
def State.markBusy (s : State) (x : CtxId) (b : Bool) : State :=
  if b then s.orF (P.JUG_STAT.BUSY x.pipe x.jug) (2 ^ x.ctx) else s.andNotF (P.JUG_STAT.BUSY x.pipe x.jug) (2 ^ x.ctx)

/-- Remove a context. -/
def State.clearCtx (s : State) (x : CtxId) : State :=
  (s.setPipe x.pipe { s.pipe x.pipe with ctxs := nerase (s.pipe x.pipe).ctxs (ctxKey x) }).markBusy x false

/-- Whether a context that has not ended holds a gateway map (R454). -/
def State.mapHeld (s : State) (m : Nat) : Bool :=
  (s.pa.ctxs ++ s.pb.ctxs).any fun c => !c.2.done && match c.2.gw with
    | some g => g.held.contains m
    | none => false

/-- The routine of a context has ended (R236): the context is free once its searches have returned. -/
def State.releaseCtx (s : State) (x : CtxId) (c : Ctx) : State :=
  let s1 := if c.outstanding.isEmpty then s.clearCtx x else s.setCtx x { c with done := true, swait := none, waitFrag := none }
  match c.gw with
  | some g => g.held.foldl (fun s m => s.wr (RI.GW_MAP_STAT.HELD m) (if s.mapHeld m then 1 else 0)) s1
  | none => s1

/-- Count a packet that has ended (PA.JUG_RATE). -/
def State.ratePacket (s : State) (k : Nat) : State := s.setPipe k { s.pipe k with ratePkts := (s.pipe k).ratePkts + 1 }

/-- The routine of a context has ended and its packet with it: these frames go to BI (R219). -/
def State.finishCtx (s : State) (x : CtxId) (c : Ctx) (outs : List Desc) : State :=
  match c.packet with
  | some p => ((s.releaseCtx x c).ratePacket x.pipe).endPacket x.pipe p.source p.seq outs
  | none => s.releaseCtx x c

/-- Add cycles a context has not issued to a stall cause (R556); a cycle is 2 ns. -/
def Ctx.stalled (c : Ctx) (cause ns : Nat) : Ctx :=
  { c with stall := nset c.stall cause (ngetD c.stall cause 0 + ns / 2) }

/- ## The fragment table (R186 to R190) -/

def State.frag? (s : State) (key : FragKey) : Option FragEntry := s.si.frags.find? fun e => e.key = key

/-- Write the fragment table. -/
def State.setFrags (s : State) (l : List FragEntry) : State :=
  ({ s with si := { s.si with frags := l } }).wr SI.FRAG_STAT.OCCUPANCY l.length

/-- Change one entry. -/
def State.fragSet (s : State) (key : FragKey) (f : FragEntry → FragEntry) : State :=
  s.setFrags (s.si.frags.map fun e => if e.key = key then f e else e)

/-- The contexts that wait on a key. -/
def State.fragWaiters (s : State) (key : FragKey) : List (CtxId × Ctx) :=
  [0, 1].flatMap fun k => (s.pipe k).ctxs.filterMap fun c =>
    if c.2.waitFrag = some key then some (⟨k, c.1 / 4, c.1 % 4⟩, c.2) else none

/-- Deliver a non-first fragment whose first is not known (R188, R189). -/
def State.noFirst (s : State) (k : Nat) (p : Parsed) (entry : Nat) : Desc × State :=
  (s.delivery p 0x02 0xFFFF (s.provisional k p.epoch entry),
    s.addOvf SI.FRAG_STAT.NO_FIRST SI.FRAG_STAT.CNT_OVF 1 1)

/-- Remove an entry; the fragments that wait on it are delivered (R189). -/
def State.fragRemove (s : State) (key : FragKey) : State :=
  let ws := s.fragWaiters key
  ws.foldl (fun s w => match w.2.packet with
    | some p => let (d, s1) := s.noFirst w.1.pipe p w.2.routine
                s1.finishCtx w.1 w.2 [d]
    | none => s) (s.setFrags (s.si.frags.filter fun e => e.key ≠ key))

/-- Empty the fragment table. -/
def State.flushFrags (s : State) : State := s.si.frags.foldl (fun s e => s.fragRemove e.key) s

/-- A first fragment is dispatched: its entry is pending (R187, R189). -/
def State.fragFirst (s : State) (p : Parsed) (key : FragKey) : State :=
  match s.frag? key with
  | some _ => s.fragSet key fun e => { e with owner := some (p.source, p.seq), hitAt := s.now }
  | none =>
    if 1024 ≤ s.si.frags.length then s.addOvf SI.FRAG_STAT.TABLE_FULL SI.FRAG_STAT.CNT_OVF 1 1
    else s.setFrags (s.si.frags ++ [⟨key, some (p.source, p.seq), 0, s.now⟩])

/-- Whether a packet is a first fragment whose entry waits for it. -/
def State.fragOwned (s : State) (p : Parsed) : Option FragKey :=
  match p.frag, p.fragKey with
  | 1, some key =>
    match s.frag? key with
    | some e => if e.owner = some (p.source, p.seq) then some key else none
    | none => none
  | _, _ => none

/-- A first fragment's routine has ended with a decision (R186): the fragments that wait on it resume. -/
def State.fragComplete (s : State) (p : Parsed) (decision : Nat) : State :=
  match s.fragOwned p with
  | some key =>
    (s.fragWaiters key).foldl (fun s w =>
      s.setCtx w.1 (({ w.2 with waitFrag := none }.setAcc decision).stalled 4 (s.time - w.2.readyAt)))
      (s.fragSet key fun e => { e with owner := none, decision := decision })
  | none => s

/-- A first fragment ends without a decision (R189). -/
def State.fragFail (s : State) (p : Parsed) : State :=
  match s.fragOwned p with
  | some key => s.fragRemove key
  | none => s

/-- AGE_MS in ns, 0 acting as 1 ms (R190). -/
def State.fragAge (s : State) : Nat := max 1 (s.rd SI.FRAG_CFG.AGE_MS) * 1000000

/-- FRAG_ENTRY_EXPIRE (R190): AGE_MS have passed since the entry was made or last hit. -/
def State.fragExpire (s : State) (key : FragKey) : State :=
  match s.frag? key with
  | some e =>
    if e.hitAt + s.fragAge ≤ s.now then (s.fragRemove key).addOvf SI.FRAG_STAT.EXPIRED SI.FRAG_STAT.CNT_OVF 1 1 else s
  | none => s

def execFragEntryExpire (key : FragKey) (t : Nat) (s : State) : Host.Outcome State Fault Refusal :=
  .next ((s.begin t).fragExpire key)

/- ## Waiting heads (R284, R288) -/

/-- The oldest parsed frame of each source that waits for dispatch. -/
def Pipe.waitingHeads (p : Pipe) : List Parsed :=
  p.heads.filter fun h => p.heads.find? (fun g => g.source = h.source) = some h

/-- The time to which a waiting head of a pipeline is taken to have waited at `t`: it stands still from the beginning of a
hold of the pipeline, and of a pause of the head's source (R288). -/
def State.waitClock (s : State) (k : Nat) (paused : Bool) (t : Nat) : Nat :=
  let a := match (s.pipe k).heldSince with
    | some a => min a t
    | none => t
  if paused then min s.epoch.pauseAt a else a

/-- Time held does not count: heads of the chosen sources that waited when the hold began lose it, later ones begin at
its end (R288). -/
def State.shiftHeads (s : State) (start stop : Nat) (sel : Nat → Bool) : State :=
  let g := fun (h : Parsed) =>
    if sel h.source then { h with since := if h.since ≤ start then h.since + (stop - start) else stop } else h
  let f := fun (p : Pipe) => { p with heads := p.heads.map g }
  { s with pa := f s.pa, pb := f s.pb }

end Sys2Proof.Machine
end

