-- ==== Sys2Proof/Machine/Tables.lean ====
section
/-!
DEFINITION. The search tables as data: TCAM records (R253, R254), hash placement and overflow (R255 to R257), learned
entries (R260), and writing or invalidating one entry of a bank (R201).
-/
namespace Sys2Proof.Machine

/- ## TCAM slices -/

/-- The key width of a slice in bits (SI.SLICE_CFG.WIDTH). -/
def State.sliceWidth (s : State) (n : Nat) : Nat :=
  match s.rd (SI.SLICE_CFG.WIDTH n) with
  | 0 => 80
  | 1 => 160
  | _ => 320

/-- An entry of a slice, read from its record or its two rows (R253). -/
structure TcamEntry where
  value : Nat
  mask : Nat
  action : Nat
  pri : Nat
  valid : Bool
deriving DecidableEq, Repr

/-- Entry `i` of a slice whose rows are `rows`. -/
def tcamEntry (w : Nat) (rows : List (Nat × Nat)) (i : Nat) : TcamEntry :=
  if w = 80 then
    let r := ngetD rows i 0
    ⟨bitsOf r 0 80, bitsOf r 80 80, bitsOf r 160 64, bitsOf r 224 16, bitOf r 240⟩
  else if w = 160 then
    let r := ngetD rows i 0
    ⟨bitsOf r 0 160, bitsOf r 160 160, bitsOf r 320 64, bitsOf r 384 16, bitOf r 400⟩
  else
    let r := ngetD rows (2 * i) 0
    let r' := ngetD rows (2 * i + 1) 0
    ⟨bitsOf r 0 160 + bitsOf r' 0 160 * 2 ^ 160, bitsOf r 160 160 + bitsOf r' 160 160 * 2 ^ 160, bitsOf r 320 64,
      bitsOf r 384 16, bitOf r 400⟩

/-- The number of 1 bits among the low `n` bits. -/
def popCount : Nat → Nat → Nat
  | 0, _ => 0
  | n + 1, v => v % 2 + popCount n (v / 2)

/-- Why a record is refused (SI.TBL_REJECT.REASON). -/
inductive Reject where
  | priRange | mlenRange | badAction | reservedSet | hashFull | learnedFlag
deriving DecidableEq, Repr

def Reject.code : Reject → Nat
  | .priRange => 1
  | .mlenRange => 2
  | .badAction => 3
  | .reservedSet => 4
  | .hashFull => 5
  | .learnedFlag => 6

/-- A colour or queue that R192 rejects at write. -/
def actRejected (a : Nat) : Bool := actColour a == 3 || 6 ≤ actQueue a

/-- Whether a reserved bit of a TCAM record is set (R253). -/
def tcamReserved (w index r : Nat) : Bool :=
  if w = 80 then bitsOf r 241 15 != 0
  else if w = 160 then bitsOf r 401 111 != 0
  else if index % 2 = 0 then bitsOf r 401 111 != 0
  else bitsOf r 320 192 != 0

/-- The checks of R254 on a record for a row of slice `n`, given the slice's rows after the write. -/
def State.tcamCheck (s : State) (n index r : Nat) (rows : List (Nat × Nat)) : Option Reject :=
  let w := s.sliceWidth n
  let e := tcamEntry w rows (if w = 320 then index / 2 else index)
  let lo := s.rd (SI.SLICE_CFG.RANGE_LO n)
  let hi := s.rd (SI.SLICE_CFG.RANGE_HI n)
  let ones := popCount w e.mask
  if tcamReserved w index r then some .reservedSet
  else if actRejected e.action then some .badAction
  else if s.isSet (SI.SLICE_CFG.MODE n) && e.valid then
    if s.isSet (SI.SLICE_CFG.TYPE n) then (if ones < lo ∨ hi < ones then some .mlenRange else none)
    else if e.pri < lo ∨ hi < e.pri then some .priRange else none
  else none

/-- Whether a row number lies within the slice's depth (R249). -/
def State.tcamIndexOk (s : State) (n index : Nat) : Bool :=
  (if s.sliceWidth n = 320 then index / 2 else index) < s.rd (SI.SLICE_CFG.DEPTH n)

/- ## Hash tables -/

/-- A bridge key with LEARN and the reserved bits taken as 0 (R255, R256). -/
def bridgeKey (k : Frame) : Frame :=
  match k with
  | [] => []
  | b :: r => (b &&& 0x0F) :: r

/-- Buckets and overflow sets of a table: true for the bridge table, false for the flow table. -/
def hashBuckets (bridge : Bool) : Nat := if bridge then 16384 else 8192
def hashSets (bridge : Bool) : Nat := if bridge then 4096 else 2048

/-- The candidate buckets of a key (R256). -/
def bucket1 (bridge : Bool) (k : Frame) : Nat := crc32c k % hashBuckets bridge
def bucket2 (bridge : Bool) (k : Frame) : Nat := crc32c k / 65536 % hashBuckets bridge

/-- The first free way of a group of four locations. -/
def freeWay (t : HashTable) (ovf : Bool) (group : Nat) : Option Nat :=
  (List.range 4).map (fun w => 4 * group + w) |>.find? fun i => t.entries.all fun e => e.overflow != ovf || e.index != i

/-- The entry with a key. -/
def HashTable.find? (t : HashTable) (k : Frame) : Option HashEntry := t.entries.find? fun e => e.key = k

/-- Replace an entry with the same key. -/
def HashTable.replace (t : HashTable) (e : HashEntry) : HashTable :=
  { t with entries := t.entries.map fun x => if x.key = e.key then e else x }

/-- Remove the entry with a key (R255). -/
def HashTable.remove (t : HashTable) (k : Frame) : HashTable :=
  { t with entries := t.entries.filter fun e => e.key ≠ k }

/-- The first free on-chip way of a key (R256). -/
def HashTable.place (t : HashTable) (bridge : Bool) (k : Frame) : Option Nat :=
  match freeWay t false (bucket1 bridge k) with
  | some i => some i
  | none => freeWay t false (bucket2 bridge k)

/-- Insert a static entry or replace the one with its key (R255 to R257, R260); none when there is no room. -/
def HashTable.insert (t : HashTable) (bridge ovfEn : Bool) (k : Frame) (action t0 : Nat) : Option HashTable :=
  match t.find? k with
  | some e => some (t.replace { e with action := action, learned := false })
  | none =>
    match t.place bridge k with
    | some i => some { t with entries := t.entries ++ [⟨k, action, false, false, i, t0⟩] }
    | none =>
      if ovfEn then
        match freeWay t true (crc32c k % hashSets bridge) with
        | some i =>
          some { entries := t.entries ++ [⟨k, action, false, true, i, t0⟩],
                 ovf := if bucket1 bridge k ∈ t.ovf then t.ovf else bucket1 bridge k :: t.ovf }
        | none => none
      else none

/-- A hash record's key, action and VALID, and whether it is refused (R255). -/
def hashRecord (bridge : Bool) (r : Nat) : Frame × Nat × Bool :=
  if bridge then (bridgeKey (beBytes 8 (bitsOf r 0 64)), bitsOf r 64 64, bitOf r 128)
  else ((List.range 5).flatMap (fun w => beBytes 8 (bitsOf r (64 * w) 64)), bitsOf r 320 64, bitOf r 384)

def hashReject (bridge : Bool) (r : Nat) : Option Reject :=
  let res := if bridge then bitsOf r 60 3 != 0 || bitsOf r 130 126 != 0 else bitsOf r 385 127 != 0
  if res then some .reservedSet
  else if bridge && bitOf r 129 then some .learnedFlag
  else if actRejected (hashRecord bridge r).2.1 then some .badAction
  else none

/-- A bank's hash table. -/
def Bank.hash (b : Bank) (bridge : Bool) : HashTable := if bridge then b.bridge else b.flow
def Bank.setHash (b : Bank) (bridge : Bool) (t : HashTable) : Bank :=
  if bridge then { b with bridge := t } else { b with flow := t }

/-- A bank's TCAM rows. -/
def Bank.rows (b : Bank) (n : Nat) : List (Nat × Nat) := b.tcam.getD n []
def Bank.setRows (b : Bank) (n : Nat) (r : List (Nat × Nat)) : Bank := { b with tcam := b.tcam.set n r }

/-- SI.HASH_OCC of the current bank. -/
def State.recalcOcc (s : State) : State :=
  let b := s.bank s.curBank
  let on := fun (t : HashTable) => (t.entries.filter fun e => !e.overflow).length
  let ov := fun (t : HashTable) => (t.entries.filter fun e => e.overflow).length
  s.wrs [(SI.HASH_OCC.BR_USED, on b.bridge), (SI.HASH_OCC.FLOW_USED, on b.flow), (SI.HASH_OCC.BR_OVF_USED, ov b.bridge),
    (SI.HASH_OCC.FLOW_OVF_USED, ov b.flow)]

/-- One operation of the table-update port on a bank: the bank after it, or why the entry is refused. -/
def State.applyEntry (s : State) (b : Bank) (op : BatchOp) : Except Reject Bank :=
  if op.table < 8 then
    if op.invalidate then .ok (b.setRows op.table (nerase (b.rows op.table) op.index))
    else
      let rows := nput 0 (b.rows op.table) op.index op.record
      match s.tcamCheck op.table op.index op.record rows with
      | some r => .error r
      | none => .ok (b.setRows op.table rows)
  else
    let bridge := op.table == 8
    let (k, a, v) := hashRecord bridge op.record
    if op.invalidate then .ok (b.setHash bridge ((b.hash bridge).remove k))
    else
      match hashReject bridge op.record with
      | some r => .error r
      | none =>
        if v then
          match (b.hash bridge).insert bridge (s.isSet SI.HASH_CFG.OVF_EN) k a s.now with
          | some t => .ok (b.setHash bridge t)
          | none => .error .hashFull
        else .ok (b.setHash bridge ((b.hash bridge).remove k))

/-- Apply a batch to a bank; an operation that finds no room is left out. -/
def State.applyBatch (s : State) (b : Bank) (l : List BatchOp) : Bank :=
  l.foldl (fun b op => match s.applyEntry b op with
    | .ok b' => b'
    | .error _ => b) b

end Sys2Proof.Machine
end

