-- ==== Sys2Proof/Machine/Epoch.lean ====
section
/-!
DEFINITION. Rule epochs (R195 to R216): staging, commit, switch, retirement and abort, and pause-mode updates.
-/
namespace Sys2Proof.Machine

def State.ectl (s : State) (f : EpochCtl → EpochCtl) : State := { s with epoch := f s.epoch }

/-- Whether a matrix boundary falls at `t` (R133: multiples of 32 ms of schedule time). -/
def atMatrixBoundary (t : Nat) : Bool := t % 32000000 == 0

/- ## Commit and switch -/

/-- Accept a commit (R203): ALIGN and EPOCH_AT are sampled. -/
def State.acceptCommit (s : State) (fromImage : Bool) : State :=
  let a := s.rd MI.EPOCH_CFG.ALIGN
  let at' := s.rd MI.EPOCH_AT.TIME
  let a' := if a = 3 then 0 else if a = 2 ∧ at' ≤ s.time then 1 else a
  (s.ectl fun e => { e with align := a', atTime := at', fromImage := fromImage, reached := a' == 0 }).wr
    MI.EPOCH_STAT.PENDING 1

/-- The outcome of EPOCH_CMD.COMMIT (R202). -/
def State.commitError (s : State) : Nat :=
  if s.mode = 0 ∨ s.mode = 3 then 1
  else if !s.somethingStaged then 2
  else if s.isSet MI.IMG_STAT.STAGED then 3
  else if s.isSet MI.EPOCH_STAT.PENDING then 4
  else 0

/-- EPOCH_COMMIT (R202, R203). -/
def State.epochCommit (s : State) : State :=
  let e := s.commitError
  let s1 := s.wr MI.EPOCH_STAT.ERROR e
  if e = 0 then s1.acceptCommit false else s1

def execEpochCommit (src : Src) (t : Nat) (s : State) : Host.Outcome State Fault Refusal :=
  .next ((s.begin t).regCmd src 0 0x510 false State.epochCommit)

/-- PA, PB, SI and RI, each where powered, all run (R204). -/
def State.servingRun (s : State) : Bool := [3, 5, 6, 7].all fun i => s.isl? i == 0 || s.isl? i == 1

/-- Whether `t` is a switch point of the pending commit (R203, R204). -/
def State.switchPoint (s : State) (t : Nat) : Bool :=
  s.isSet MI.EPOCH_STAT.PENDING &&
    match s.epoch.align with
    | 0 => true
    | 1 => atMatrixBoundary t
    | _ => atMatrixBoundary t && (s.epoch.atTime ≤ t)

/-- GATEWAY of Jugglers 14 and 15 follows the current epoch (R247). -/
def State.gatewayBits (s : State) : State :=
  let b := s.bank s.curBank
  s.wrs ([0, 1].flatMap fun k => [14, 15].map fun j =>
    (P.JUG_STAT.GATEWAY k j, if (b.pipe k).routines.gwEn then 1 else 0))

/-- Remove every learned entry from both banks (R260). -/
def State.forgetLearned (s : State) : State :=
  let f := fun (b : Bank) => b.setHash true { b.bridge with entries := b.bridge.entries.filter fun e => !e.learned }
  { s with bank0 := f s.bank0, bank1 := f s.bank1 }

/-- The switch (R196, R205): one event. A staged image becomes the configuration (R105); every epoch that no image built sets
DRIFT, one of control-store writes alone too, of which R107 does not speak (DESIGN CHOICE, notes/assumptions/26.md). -/
def State.doSwitch (s : State) : State :=
  let c := s.curEpoch
  let s1 := s.wrs [(MI.EPOCH_STAT.RETIRING, c), (MI.EPOCH_STAT.RETIRING_VALID, 1), (MI.EPOCH_STAT.CURRENT, c + 1),
    (MI.EPOCH_STAT.STAGED, c + 2), (MI.EPOCH_STAT.PENDING, 0), (MI.EPOCH_STAT.SWITCH_WAIT, 0),
    (MI.EPOCH_STAT.STAGED_DIRTY, 0)]
  let s2 := ({ s1 with curBank := !s1.curBank }).addF MI.EPOCH_STAT.COMMIT_CNT 1
  let s3 := if s.epoch.fromImage then
      (s2.wr MI.IMG_CONFIG_ID.ID (s2.rd MI.IMG_STAGED_ID.ID)).wrs [(MI.IMG_STAT.STAGED, 0), (MI.IMG_STAGED_ID.ID, 0)]
    else s2.wr MI.IMG_STAT.DRIFT 1
  let s4 := if s.epoch.bridgeReplaced then s3.forgetLearned else s3
  let s5 := if s.isSet SI.FRAG_CFG.FLUSH_ON_COMMIT then s4.flushFrags else s4
  ((s5.ectl fun e => { e with reached := false, retireSince := s.now, stagedTables := [], imageTables := [],
                              bridgeReplaced := false, fromImage := false }).gatewayBits).recalcOcc

/-- EPOCH_SWITCH (R204, R205): at the switch point, if the serving islands run; else the switch moves. -/
def State.epochSwitch (s : State) (t : Nat) : State :=
  if s.switchPoint t then
    if s.servingRun then s.doSwitch
    else ((s.wrs [(MI.EPOCH_STAT.SWITCH_WAIT, 1), (MI.EPOCH_STAT.SLIPPED, 1)]).ectl fun e => { e with reached := true }).raise 3
  else s

def execEpochSwitch (t : Nat) (s : State) : Host.Outcome State Fault Refusal := .next (let s0 := s.begin t; s0.epochSwitch s0.time)

/-- EPOCH_RETIRE (R198): nothing is in flight; the bank is made equal to the current one. -/
def State.epochRetire (s : State) : State :=
  if s.isSet MI.EPOCH_STAT.RETIRING_VALID && s.inFlightAll (s.rd MI.EPOCH_STAT.RETIRING) == 0 then
    ((s.setBank (!s.curBank) (s.bank s.curBank)).wrs [(MI.EPOCH_STAT.RETIRING_VALID, 0), (MI.EPOCH_STAT.RETIRED, 1)]).raise 3
  else s

/-- RETIRE_SLOW (R199). -/
def State.retireSlow (s : State) : State :=
  if s.isSet MI.EPOCH_STAT.RETIRING_VALID
      && s.epoch.retireSince + max 1 (s.rd MI.EPOCH_CFG.RETIRE_WARN) * 1000000 < s.now then
    (s.wr MI.EPOCH_STAT.RETIRE_SLOW 1).raise 3
  else s

def execRetireSlow (t : Nat) (s : State) : Host.Outcome State Fault Refusal := .next ((s.begin t).retireSlow)

/- ## Abort -/

/-- Discard the trial frames of the staged number in one pipeline (R207): waiting heads, and contexts, which stay
occupied while they have searches outstanding. A fragment entry that such a frame had made pending stays until it ages out
(R190), and its waiters with it (DESIGN CHOICE, notes/assumptions/33.md). -/
def State.abortTrials (s : State) (k e : Nat) : State :=
  let p := s.pipe k
  let gone := p.heads.filter fun h => h.trial && h.epoch == e
  let busy := p.ctxs.filter fun c => c.2.trial && c.2.epoch == e && !c.2.done
  let s1 := s.setPipe k { p with
    heads := p.heads.filter (fun h => !(h.trial && h.epoch == e)),
    ctxs := p.ctxs.filterMap fun c =>
      if c.2.trial && c.2.epoch == e && !c.2.done then
        if c.2.outstanding.isEmpty then none else some (c.1, { c.2 with done := true, swait := none, packet := none })
      else some c }
  let s2 := busy.foldl (fun s c =>
    if c.2.outstanding.isEmpty then s.andNotF (P.JUG_STAT.BUSY k (c.1 / 4)) (2 ^ (c.1 % 4)) else s) s1
  (gone ++ busy.filterMap fun c => c.2.packet).foldl (fun s h => (s.abortDrop (5 + k) 1).endPacket k h.source h.seq []) s2

/-- The trial frames of an epoch that BI has not committed: an abort discards each one where it is (R207). -/
def State.trialsOf (s : State) (e : Nat) : List (Nat × Nat) :=
  s.ports.flatMap fun m =>
    (m.2.copies.filter fun c => c.epoch = some e ∧ c.trial = true ∧ m.2.committed ≤ c.seq).map fun c => (m.1, c.seq)

/-- Abort the staged epoch, dirty or pending (R207): its trial frames go, and the staged bank is the current one again. -/
def State.abortStaged (s : State) : State :=
  let e := s.stagedEpoch
  let keys := s.trialsOf e
  let s1 := (s.abortTrials 0 e).abortTrials 1 e
  let s2 := (s1.setBank (!s1.curBank) (s1.bank s1.curBank)).wrs [(MI.EPOCH_STAT.STAGED_DIRTY, 0),
    (MI.EPOCH_STAT.PENDING, 0), (MI.EPOCH_STAT.SWITCH_WAIT, 0), (MI.IMG_STAT.STAGED, 0), (MI.IMG_STAGED_ID.ID, 0)]
  s2.ectl fun c => { c with aborting := true, aborted := c.aborted ++ keys, stagedTables := [], imageTables := [], bridgeReplaced := false,
                            fromImage := false, reached := false }

/-- EPOCH_ABORT (R207). -/
def State.epochAbort (s : State) : State :=
  if s.somethingStaged then (s.wr MI.EPOCH_STAT.ERROR 0).abortStaged else s.wr MI.EPOCH_STAT.ERROR 2

def execEpochAbort (src : Src) (t : Nat) (s : State) : Host.Outcome State Fault Refusal :=
  .next ((s.begin t).regCmd src 0 0x510 false State.epochAbort)

/-- The discarded trial frames that are still in the device. -/
def State.abortLeft (s : State) : Nat := (s.trialsOf s.stagedEpoch).countP fun k => s.isAborted k.1 k.2

/-- EPOCH_ABORT_DONE (R207): the trial count is zero and the copy complete. -/
def State.epochAbortDone (s : State) : State :=
  if s.epoch.aborting && s.abortLeft == 0 then
    ((s.ectl fun c => { c with aborting := false, aborted := [] }).wr MI.EPOCH_STAT.ABORT_DONE 1).raise 3
  else s

def execEpochAbortDone (t : Nat) (s : State) : Host.Outcome State Fault Refusal := .next ((s.begin t).epochAbortDone)

/- ## The table-update port -/

/-- End a table-update command with an outcome code. -/
def State.tupdEnd (s : State) (e : Nat) : State :=
  let s1 := s.wr MI.TUPD_STAT.ERROR e
  if e = 0 then s1 else s1.wr MI.TUPD_STAT.ERR 1

/-- The staging refusals R201 and R231 share: 0 none, 1 E_MODE, 2 BUSY_RETIRE, 3 BUSY_COMMIT, 4 IMAGE_STAGED. -/
def State.stageRefusal (s : State) : Nat :=
  if s.mode = 0 ∨ s.mode = 3 then 1
  else if s.isSet MI.EPOCH_STAT.RETIRING_VALID then 2
  else if s.isSet MI.EPOCH_STAT.PENDING then 3
  else if s.isSet MI.IMG_STAT.STAGED then 4
  else 0

/-- A write refused while a partial image is staged sets WR_REFUSED (R106), its commit pending or not. -/
def State.noteWrRefused (s : State) (e : Nat) : State :=
  if e ≠ 0 ∧ s.isSet MI.IMG_STAT.STAGED = true then s.wr MI.IMG_STAT.WR_REFUSED 1 else s

/-- The record in MI.TUPD_DATA. -/
def State.tupdRecord (s : State) : Nat :=
  ((List.range 8).map fun w => s.rd (MI.TUPD_DATA.DATA w) * 2 ^ (64 * w)).sum

/-- Whether INDEX is in range for a table (R249, R255). -/
def State.tupdIndexOk (s : State) (table index : Nat) : Bool :=
  if table < 8 then s.tcamIndexOk table index else index == 0

/-- Record a refused entry (SI.TBL_REJECT). -/
def State.reject (s : State) (table index : Nat) (r : Reject) : State :=
  s.wrs [(SI.TBL_REJECT.REASON, r.code), (SI.TBL_REJECT.TABLE, table), (SI.TBL_REJECT.INDEX, index)]

/-- One table-update operation (R200, R201, R209). -/
def State.tupd (s : State) (invalidate : Bool) : State :=
  let table := s.rd MI.TUPD_ADDR.TABLE
  let index := s.rd MI.TUPD_ADDR.INDEX
  let op : BatchOp := ⟨invalidate, table, index, s.tupdRecord⟩
  if s.isSet MI.TUPD_STAT.PAUSE_RUNNING then s.tupdEnd 0x0D
  else if 9 < table then s.tupdEnd 0x05
  else if bitOf (s.rd MI.TBL_MODE.PAUSE) table then
    if !s.tupdIndexOk table index then s.tupdEnd 0x06
    else match s.applyEntry (s.applyBatch (s.bank s.curBank) s.epoch.batch) op with
      | .error r => (s.reject table index r).tupdEnd 0x07
      | .ok _ =>
        if 64 ≤ s.epoch.batch.length then s.tupdEnd 0x09
        else ((s.ectl fun c => { c with batch := c.batch ++ [op] }).addF MI.TUPD_STAT.BATCH_LEN 1).tupdEnd 0
  else
    let e := s.stageRefusal
    if e ≠ 0 then (s.noteWrRefused e).tupdEnd e
    else if !s.tupdIndexOk table index then s.tupdEnd 0x06
    else match s.applyEntry (s.bank (!s.curBank)) op with
      | .error r => (s.reject table index r).tupdEnd 0x07
      | .ok b =>
        (((s.setBank (!s.curBank) b).wr MI.EPOCH_STAT.STAGED_DIRTY 1).ectl fun c =>
          { c with stagedTables := table :: c.stagedTables.erase table }).tupdEnd 0

def execTupdWriteEntry (src : Src) (s : State) : Host.Outcome State Fault Refusal :=
  .next (s.quiet.regCmd src 0 0x598 false fun s => (s.wr MI.TUPD_ADDR.OP 1).tupd false)

def execTupdInvalidateEntry (src : Src) (s : State) : Host.Outcome State Fault Refusal :=
  .next (s.quiet.regCmd src 0 0x598 false fun s => (s.wr MI.TUPD_ADDR.OP 2).tupd true)

/- ## Pause-mode updates (R209 to R212) -/

/-- The ports MI.TUPD_PORTS names. -/
def State.tupdPorts (s : State) : List Nat :=
  (List.range 101).filter fun p => bitOf (s.rd (MI.TUPD_PORTS.PORTS (p / 64))) (p % 64)

/-- Hold or resume the dispatch of ports. -/
def State.pauseSources (s : State) (l : List Nat) (b : Bool) : State :=
  l.foldl (fun s p => s.setMac p { s.mac p with paused := b }) s

/-- Why PAUSE_GO is refused (R212). -/
def State.pauseRefusal (s : State) : Nat :=
  if s.isSet MI.TUPD_STAT.PAUSE_RUNNING then 0x0D
  else if s.mode = 0 then 0x01
  else if s.isSet MI.EPOCH_STAT.PENDING || s.isSet MI.EPOCH_STAT.RETIRING_VALID then 0x0C
  else if s.epoch.batch.any (fun o => o.table ∈ s.epoch.imageTables) then 0x0B
  else 0

/-- PAUSE_GO (R209 step 1, R212). -/
def State.pauseGo (s : State) (t : Nat) : State :=
  let e := s.pauseRefusal
  if e = 0x0D then s.tupdEnd e
  else if e ≠ 0 then ((s.tupdEnd e).wr MI.TUPD_STAT.PAUSE_FAIL 1).raise 3
  else
    let ps := s.tupdPorts
    (((s.ectl fun c => { c with pauseAt := t, pausePorts := ps }).pauseSources ps true).wr MI.TUPD_STAT.PAUSE_RUNNING 1).tupdEnd 0

def execPauseGo (src : Src) (t : Nat) (s : State) : Host.Outcome State Fault Refusal :=
  .next ((s.begin t).regCmd src 0 0x598 false fun s => s.pauseGo s.time)

/-- Empty the batch. -/
def State.emptyBatch (s : State) : State :=
  (s.ectl fun c => { c with batch := [] }).wr MI.TUPD_STAT.BATCH_LEN 0

def execPauseDiscard (src : Src) (s : State) : Host.Outcome State Fault Refusal :=
  .next (s.quiet.regCmd src 0 0x598 false fun s =>
    if s.isSet MI.TUPD_STAT.PAUSE_RUNNING then s.tupdEnd 0x0D else s.emptyBatch.tupdEnd 0)

/-- Every packet of the named ports that was dispatched has been committed (R209 step 2). -/
def State.pauseDrained (s : State) : Bool :=
  s.epoch.pausePorts.all fun p => (s.mac p).copies.all (fun c => c.stage < 4 && !c.passed)
    && (s.pa.ctxs ++ s.pb.ctxs).all (fun c => c.2.packet.all fun h => h.source != p) && (s.pa.ended ++ s.pb.ended).all (fun e => e.source != p)

/-- The end of a pause: dispatch resumes and the duration is recorded, in 16 ns, saturating. -/
def State.pauseEnd (s : State) (t : Nat) : State :=
  ((([0, 1].foldl (fun s k => s.shiftHeads (s.waitClock k true t) (s.waitClock k false t) fun p =>
      pipeOf p == k && s.epoch.pausePorts.contains p) (s.pauseSources s.epoch.pausePorts false))).wrs [(MI.TUPD_STAT.PAUSE_RUNNING, 0),
    (MI.TUPD_STAT.PAUSE_LAST_NS, min 65535 ((t - s.epoch.pauseAt) / 16))]).ectl fun c => { c with pausePorts := [] }

/-- PAUSE_APPLY (R209 steps 3 and 4). -/
def State.pauseApply (s : State) (t : Nat) : State :=
  if s.isSet MI.TUPD_STAT.PAUSE_RUNNING && s.pauseDrained && t < s.epoch.pauseAt + 100000 then
    let s1 := s.setBank s.curBank (s.applyBatch (s.bank s.curBank) s.epoch.batch)
    let s2 := if s1.isSet MI.EPOCH_STAT.STAGED_DIRTY then
        s1.setBank (!s1.curBank) (s1.applyBatch (s1.bank (!s1.curBank)) s1.epoch.batch)
      else s1.setBank (!s1.curBank) (s1.bank s1.curBank)
    (((s2.recalcOcc.pauseEnd t).emptyBatch).wr MI.TUPD_STAT.PAUSE_DONE 1).raise 3
  else s

def execPauseApply (t : Nat) (s : State) : Host.Outcome State Fault Refusal := .next (let s0 := s.begin t; s0.pauseApply s0.time)

/-- A pause that fails: nothing of the batch is left in the tables (R210, R216). -/
def State.pauseFail (s : State) (t e : Nat) : State :=
  (((s.pauseEnd t).tupdEnd e).wr MI.TUPD_STAT.PAUSE_FAIL 1).raise 3

/-- PAUSE_TIMEOUT (R210). -/
def State.pauseTimeout (s : State) (t : Nat) : State :=
  if s.isSet MI.TUPD_STAT.PAUSE_RUNNING && s.epoch.pauseAt + 100000 ≤ t then (s.emptyBatch).pauseFail t 0x0A else s

def execPauseTimeout (t : Nat) (s : State) : Host.Outcome State Fault Refusal := .next (let s0 := s.begin t; s0.pauseTimeout s0.time)

/-- R216: a reset of SI, or of a pipeline island that serves a named port, ends the update. -/
def State.pauseIslandReset (s : State) (i : Nat) : State :=
  if s.isSet MI.TUPD_STAT.PAUSE_RUNNING
      && (i == 7 || ((i == 5 || i == 6) && s.epoch.pausePorts.any fun p => 5 + pipeOf p == i)) then
    s.pauseFail s.time 0x0E
  else s

end Sys2Proof.Machine
end

