-- ==== Sys2Proof/Machine/Parse.lean ====
section
/-!
DEFINITION. The parse walk (R174 to R178), tags and layers (R182), fragments (R184, R185).
-/
namespace Sys2Proof.Machine

/-- What a walk has recorded so far (R183). -/
structure WalkRec where
  layers : List Nat
  tagOuter : Option Frame
  tagInner : Option Frame
  tagOvf : Bool
  frag : Nat
  fragKey : Option FragKey
  v6 : Option (Frame × Frame)
  badFrag : Bool
deriving DecidableEq, Repr

def WalkRec.empty : WalkRec := ⟨List.replicate 8 0xFF, none, none, false, 0, none, none, false⟩

/-- How a walk ends: a terminal result (SHORT is 0x7F) or PARSE_DEPTH at a node; with what it recorded and its visits. -/
inductive WalkEnd where
  | result (code visits : Nat) (r : WalkRec)
  /-- PARSE_DEPTH at a node, and whether BAD_FRAG had been found by then. -/
  | depth (node : Nat) (badFrag : Bool)
deriving DecidableEq, Repr

/-- Bytes of the parse window; what lies outside it or past the frame's end is a free value. -/
def windowBytes (l : Frame) (fv i n : Nat) : Frame :=
  (List.range n).map fun k =>
    if i + k < min 128 l.length then l.getD (i + k) 0 else BitVec.ofNat 8 (fv / 256 ^ (i + k))

/-- Record a tag (R182). -/
def WalkRec.tag (r : WalkRec) (b : Frame) : WalkRec :=
  match r.tagOuter, r.tagInner with
  | none, _ => { r with tagOuter := some b }
  | some _, none => { r with tagInner := some b }
  | some _, some _ => { r with tagOvf := true }

/-- Fragment classes from the offset and the more-fragments flag (R184). -/
def fragClass (off : Nat) (more : Bool) : Nat := if off ≠ 0 then 2 else if more then 1 else 0

/-- Record what a node's FRAG_KIND names (R184, table "Fragment fields by FRAG_KIND"). -/
def WalkRec.fragment (r : WalkRec) (kind : Nat) (w : Nat → Nat → Frame) (pos : Nat) : WalkRec :=
  if kind = 1 then
    let f := beNat (w (pos + 6) 2)
    { r with frag := fragClass (f % 8192) (bitOf f 13),
             fragKey := some ⟨w (pos + 12) 4, w (pos + 16) 4, beNat (w (pos + 4) 2), beNat (w (pos + 9) 1)⟩ }
  else if kind = 2 then { r with v6 := some (w (pos + 8) 16, w (pos + 24) 16) }
  else if kind = 3 then
    match r.v6 with
    | some (a, b) =>
      let f := beNat (w (pos + 2) 2)
      { r with frag := fragClass (f / 8) (bitOf f 0),
               fragKey := some ⟨a, b, beNat (w (pos + 4) 4), beNat (w pos 1)⟩ }
    | none => { r with frag := 0, badFrag := true }
  else r

/-- Step 2 of R174: record the layer, tag or fragment header the node names. -/
def WalkRec.visit (r : WalkRec) (n : GraphNode) (w : Nat → Nat → Frame) (pos : Nat) : WalkRec :=
  let r1 := match n.markLayer with
    | some i => { r with layers := r.layers.set i (pos % 256) }
    | none => r
  let r2 := if n.tagKind = 1 ∨ n.tagKind = 2 then r1.tag (w pos 4) else r1
  r2.fragment n.fragKind w pos

/-- Step 3 of R174: the first transition that matches, or DEFAULT_NEXT. -/
def GraphNode.next (n : GraphNode) (field : Nat) : Nat :=
  match n.trans.find? (fun t => field &&& t.2.1 == t.1 &&& t.2.1) with
  | some t => t.2.2
  | none => n.dflt

/-- The advance of a node (R176). -/
def GraphNode.advance (n : GraphNode) (field : Nat) : Nat :=
  if n.advMode = 0 then n.advConst else field * n.advScale + n.advConst

/-- The number of bytes of a node's select field (R175). -/
def GraphNode.bytes (n : GraphNode) : Nat := (n.fieldWidth + n.fieldShift + 7) / 8

/-- The walk (R174 to R178): `fuel` visits are left of 24. The node it reports for a 25th visit is the one that visit would
have been to (DESIGN CHOICE, notes/assumptions/30.md). -/
def walk (g : Graph) (l : Frame) (fv : Nat) : Nat → Nat → Nat → WalkRec → WalkEnd
  | 0, node, _, r => .depth node r.badFrag
  | fuel + 1, node, pos, r =>
    match g.nodes[node]? with
    | none => .depth node r.badFrag
    | some n =>
      let lo := pos + n.fieldOffset
      let hi := lo + n.bytes
      if 128 < hi then .depth node r.badFrag
      else if l.length < hi then .result 0x7F (24 - fuel) r
      else
        let field := bitsOf (beNat (sliceAt l lo n.bytes)) n.fieldShift n.fieldWidth
        let r1 := r.visit n (windowBytes l fv) pos
        let nx := n.next field
        if 128 ≤ nx then .result (nx - 128) (24 - fuel) r1
        else walk g l fv fuel nx (min 511 (pos + n.advance field)) r1

/-- The local ingress number of a port in PARSE_FRAG_MODE. -/
def localIngress (p : Nat) : Nat := if p < 96 then p % 48 else if p < 98 then 48 else if p < 100 then 49 else 50

/-- Whether an ingress port is in SLOW mode (R185), by the register that holds its bit; port 101 has none. -/
def State.slowMode (s : State) (p : Nat) : Bool :=
  p < 101 && bitOf (s.rd (P.PARSE_FRAG_MODE.SLOW (pipeOf p))) (localIngress p)

/-- The header of a source that has arrived at its pipeline, oldest first. -/
def State.arrivedHeader (s : State) (src : Nat) : Option Nat :=
  (s.chan (ingressChan src)).arrived.findSome? fun i => match i with
    | .header a q => if a = src then some q else none
    | _ => none

/-- Stamp a packet at its first parse and record the epoch with its copy (R83, R195, R208, R214). -/
def State.stampFor (s : State) (c : Copy) : Nat :=
  match c.epoch with
  | some e => e
  | none => if c.trial then s.stagedEpoch else s.curEpoch

/-- A packet before its walk. -/
def parsedOf (src : Nat) (c : Copy) (e : Nat) (t : Nat) : Parsed :=
  { source := src, seq := c.seq, ingress := c.ingress, bytes := c.bytes, rx := c.rx, handle := c.handle, epoch := e,
    trial := c.trial, result := 0, layers := List.replicate 8 0xFF, tagOuter := none, tagInner := none, tagOvf := false,
    frag := 0, fragKey := none, visits := 0, since := t }

/-- Note an IPv6 fragment header without an IPv6 header before it (R184). -/
def State.noteBadFrag (s : State) (k : Nat) (b : Bool) : State := if b then s.wr (P.PARSE_STAT.BAD_FRAG k) 1 else s

/-- What comes of a walk (R177, R178, R184, R185). A fragment on a SLOW port whose walk ends PARSE_DEPTH has that reason:
whether it is a fragment is a result of a walk that completes (DESIGN CHOICE, notes/assumptions/30.md). -/
def State.parsed (s : State) (k : Nat) (p : Parsed) (e : WalkEnd) : State :=
  match e with
  | .depth node bad =>
    ((s.noteBadFrag k bad).addOvf (P.PARSE_STAT.DEPTH k) (P.PARSE_STAT.DEPTH_OVF k) 1 1).endPacket k p.source p.seq [s.delivery p 0x01 node 0]
  | .result code visits r =>
    let s1 := if code = 0x7F then s.addOvf (P.PARSE_STAT.SHORT k) (P.PARSE_STAT.SHORT_OVF k) 1 1 else s
    let s2 := s1.noteBadFrag k r.badFrag
    let p1 := { p with result := code, layers := r.layers, tagOuter := r.tagOuter, tagInner := r.tagInner,
                       tagOvf := r.tagOvf, frag := r.frag, fragKey := r.fragKey, visits := visits }
    if r.frag ≠ 0 ∧ s.slowMode p.ingress = true then
      s2.endPacket k p.source p.seq [s2.delivery p1 0x03 0xFFFF (s2.provisional k p.epoch code)]
    else s2.setPipe k { s2.pipe k with heads := (s2.pipe k).heads ++ [p1] }

/-- PARSE_WALK (R174): the oldest header of a source that has arrived at its pipeline island. -/
def State.parseWalk (s : State) (src t : Nat) : State :=
  let k := pipeOf src
  match s.arrivedHeader src with
  | none => s
  | some seq =>
    match (s.mac src).copies.find? (fun c => c.seq = seq), s.islUp (5 + k) with
    | some c, true =>
      -- a header that was recalled when SI was reset (R67) is presented again later
      if c.stage = 0 then s.take (ingressChan src) (.header src seq) else
      let s0 := s.take (ingressChan src) (.header src seq)
      let e := s.stampFor c
      let p := parsedOf src c e t
      let s1 := s0.setMac src ((s0.mac src).setCopy seq fun c => { c with epoch := some e, stage := 3 })
      if c.trial && c.epoch.isNone && !s.somethingStaged then
        s0.endPacket k src seq [s0.delivery p 0x0F 0xFFFF 0]
      else if s.isAborted src seq then (s1.abortDrop (5 + k) 1).endPacket k src seq []
      else
        let g := ((s.epochBank e).pipe k).graph
        (s1.parsed k p (walk g c.bytes s.freeVal 24 g.start 0 WalkRec.empty)).tookFree
    | none, true => (s.take (ingressChan src) (.header src seq)).suppressed (portIsl src) 1
    | _, _ => s

def execParseWalk (source t : Nat) (s : State) : Host.Outcome State Fault Refusal :=
  .next (let s0 := s.begin t; s0.parseWalk source s0.time)

end Sys2Proof.Machine
end

