-- ==== Sys2Proof/Machine/Selectors.lean ====
section
/-!
DEFINITION. The one-in-N selectors of R324: mirror sessions, port samplers, and the precise-sample selectors (R552).
-/
namespace Sys2Proof.Machine

/-- One step of the 32-bit LFSR of R324. -/
def lfsrStep (s : Nat) : Nat :=
  let b := (s / 2 ^ 31 + s / 2 ^ 21 + s / 2 + s) % 2
  (2 * s + b) % 2 ^ 32

/-- Set the gap count of a selector with N and MODE (R324). -/
def Selector.reload (sel : Selector) (n : Nat) (pseudo : Bool) : Selector :=
  let n := max 1 n
  if pseudo then
    let l := lfsrStep sel.lfsr
    ⟨l, 1 + l % (2 * n - 1)⟩
  else { sel with gap := n }

/-- Step a selector for one frame or instruction: whether it is chosen, and the selector after it. -/
def Selector.step (sel : Selector) (n : Nat) (pseudo : Bool) : Bool × Selector :=
  if sel.gap ≤ 1 then (true, sel.reload n pseudo) else (false, { sel with gap := sel.gap - 1 })

/-- Load a seed, 0 acting as 1, and set the gap count (R324). -/
def Selector.seed (n : Nat) (pseudo : Bool) (seed : Nat) : Selector :=
  Selector.reload ⟨if seed = 0 then 1 else seed, 1⟩ n pseudo

/-- A selector nothing has configured. -/
def Selector.fresh : Selector := ⟨1, 1⟩

def State.mirrorSel (s : State) (m : Nat) : Selector := ngetD s.bi.mirrors m Selector.fresh
def State.samplerSel (s : State) (p : Nat) : Selector := ngetD s.bi.samplers p Selector.fresh

/-- Step the selector of a mirror session. -/
def State.stepMirror (s : State) (m : Nat) : Bool × State :=
  let (c, sel) := (s.mirrorSel m).step (s.rd (BI.MIR_CFG.N m)) (s.isSet (BI.MIR_CFG.MODE m))
  (c, { s with bi := { s.bi with mirrors := nset s.bi.mirrors m sel } })

/-- Step the sampler of an ingress port. -/
def State.stepSampler (s : State) (p : Nat) : Bool × State :=
  let (c, sel) := (s.samplerSel p).step (s.rd (BI.SMP_CFG.N p)) (s.isSet (BI.SMP_CFG.MODE p))
  (c, { s with bi := { s.bi with samplers := nset s.bi.samplers p sel } })

end Sys2Proof.Machine
end

