-- ==== Sys2Proof/Machine/Turnstile.lean ====
section
/-!
DEFINITION. Turnstile admission (R284 to R288) and dispatch (R218 to R221), with Juggler faults (R237, R238), which a
dispatch can raise, and precise samples (R552 to R557).
-/
namespace Sys2Proof.Machine

/- ## Faults (R237, R238) -/

/-- The handle of the packet a context holds; 0 without one (R450). -/
def Ctx.handle (c : Ctx) : Nat :=
  match c.packet with
  | some p => p.handle
  | none => 0

/-- A PA.JUG_FAULT entry. -/
def faultEntry (x : CtxId) (c : Ctx) (code data addr : Nat) : Nat :=
  2 ^ 63 + x.jug * 2 ^ 59 + x.ctx * 2 ^ 57 + c.epoch % 16 * 2 ^ 53 + code * 2 ^ 45 + addr % 8192 * 2 ^ 32
    + data % 256 * 2 ^ 24 + c.handle % 2 ^ 24

/-- Push an entry into the JUG_FAULT window of 64 entries; local source 1 is active while it holds one. -/
def State.pushFault (s : State) (k entry : Nat) : State :=
  let p := s.pipe k
  if p.faults.length < 64 then
    (s.setPipe k { p with faults := p.faults ++ [entry] }).raiseIf p.faults.isEmpty (8 * (5 + k) + 1)
  else s.addOvf (P.JUG_FAULT_LOST.COUNT k) (P.JUG_FAULT_LOST.OVF k) 1 1

/-- A Juggler fault (R237): the frame is delivered as received, and the context released. -/
def State.jugFault (s : State) (x : CtxId) (c : Ctx) (code data addr : Nat) : State :=
  let k := x.pipe
  let s1 := ((s.addOvf (P.JUG_FAULT_CNT.COUNT k) (P.JUG_FAULT_CNT.OVF k) 1 1).count (5 + k) 0x105 1).pushFault k
    (faultEntry x c code data addr)
  match c.packet with
  | some p => (s1.fragFail p).finishCtx x c [s1.delivery p 0x05 addr (s1.provisional k p.epoch c.routine)]
  | none => s1.finishCtx x c []

/- ## Filling a context (R221) -/

/-- Bytes taken from a free value. -/
def freeBytes (fv n : Nat) : Frame := leBytes n fv

/-- The header window's length: min(128, L − 4). -/
def windowLen (l : Frame) : Nat := min 128 (l.length - 4)

/-- Pad with zeros, or cut, to a length. -/
def padTo (n : Nat) (l : Frame) : Frame := (l ++ List.replicate (n - l.length) 0).take n

/-- A search slot to which nothing has returned: STATUS reads 0xFF, the rest is not stated. -/
def emptySlot (fv : Nat) : Frame := freeBytes fv 10 ++ [0xFF] ++ freeBytes (fv / 2 ^ 80) 1 ++ beBytes 4 0

/-- The PHV of a packet at dispatch (R221), with the accumulator given. -/
def phvOf (p : Parsed) (acc fv : Nat) : Frame :=
  let w := windowLen p.bytes
  padTo 160 (p.bytes.take w) ++ beBytes 1 p.result ++ beBytes 1 (p.epoch % 16)
    ++ beBytes 1 (p.tagOuter.isSome.toNat * 128 + p.tagInner.isSome.toNat * 64 + p.tagOvf.toNat * 32 + p.frag * 8)
    ++ beBytes 1 p.visits ++ p.layers.flatMap (beBytes 1) ++ padTo 4 (p.tagOuter.getD []) ++ padTo 4 (p.tagInner.getD [])
    ++ beBytes 12 0 ++ beBytes 1 p.ingress ++ beBytes 1 0 ++ beBytes 2 p.bytes.length ++ beBytes 4 p.handle
    ++ beBytes 8 p.rx ++ beBytes 1 0xFF ++ beBytes 1 w ++ beBytes 1 w ++ beBytes 13 0 ++ beBytes 8 acc ++ beBytes 24 0
    ++ beBytes 64 0 ++ (List.range 4).flatMap fun i => emptySlot (fv / 2 ^ (88 * i))

/-- A context that starts a routine. -/
def Ctx.start (packet : Option Parsed) (phv : Frame) (entry epoch : Nat) (trial : Bool) (r : Routine) (now : Nat)
    (gw : Option GwCtx) : Ctx :=
  { packet, phv, g := List.replicate 16 0, z := false, c := false, hit := false, csr := false, stack := [],
    pc := r.entry, issued := 0, routine := entry, budget := r.budget, epoch, trial, issuedSlots := [], outstanding := [],
    swait := none, waitFrag := none, done := false, copyIndex := 0xFFFF, mirrorIndex := 0xFFFF, lastHit := 0xFFFF,
    readyAt := now, stall := [], creditSince := none, sampled := false, gw }

/-- A gateway context's output buffer before any GOUT. -/
def GwCtx.fresh (trigger : Frame) : GwCtx := ⟨trigger, none, [], [], 0⟩

/- ## Choosing a Juggler (R218, R220, R247) -/

/-- GW_EN of the running routine table (R220). -/
def State.gwEn (s : State) (k : Nat) : Bool := ((s.bank s.curBank).pipe k).routines.gwEn

/-- Whether a Juggler's role admits a routine. -/
def State.roleAdmits (s : State) (k j : Nat) (gw : Bool) : Bool := if gw then 14 ≤ j else j < 14 || !s.gwEn k

/-- Busy contexts of a Juggler. -/
def State.busyOf (s : State) (k j : Nat) : Nat := ((s.pipe k).ctxs.filter fun c => c.1 / 4 = j).length

/-- The Juggler with the fewest busy contexts among those enabled whose role admits and that have one free; the lower
number on a tie. -/
def State.freeJuggler (s : State) (k : Nat) (gw : Bool) : Option Nat :=
  (List.range 16).foldl (fun best j =>
    if s.isSet (P.JUG_CTL.EN k j) && s.roleAdmits k j gw && s.busyOf k j < 4 then
      match best with
      | some b => if s.busyOf k j < s.busyOf k b then some j else best
      | none => some j
    else best) none

/-- The free context a routine would start on: the lowest free one of that Juggler (notes/assumptions/32.md). -/
def State.freeCtx (s : State) (k : Nat) (gw : Bool) : Option CtxId :=
  match s.freeJuggler k gw with
  | some j => ((List.range 4).find? fun c => nget (s.pipe k).ctxs (4 * j + c) = none).map fun c => ⟨k, j, c⟩
  | none => none

/-- The frame trigger for a RESULT (R449), as a gateway entry: kind 1, in Performance only. -/
def State.frameTrigger (s : State) (e result : Nat) : Option Nat :=
  let h := ngetD (s.epochBank e).templates 0 []
  if s.mode = 2 then
    ((List.range 15).find? fun i => (h.getD (4 + 4 * i) 0).toNat = 1 && (h.getD (5 + 4 * i) 0).toNat = result).map (129 + ·)
  else none

/-- The fragment entry a non-first fragment hits (R188). -/
def State.fragHit (s : State) (p : Parsed) : Option FragEntry :=
  match p.frag, p.fragKey with
  | 2, some key => if s.isSet SI.FRAG_CFG.EN then s.frag? key else none
  | _, _ => none

/-- The routine-table entry a packet's dispatch uses (R218, R188, R449). -/
def State.entryFor (s : State) (p : Parsed) : Nat :=
  match s.fragHit p with
  | some _ => 128
  | none => (s.frameTrigger p.epoch p.result).getD p.result

/-- Whether a packet's routine is a gateway routine. -/
def State.needsGw (s : State) (k : Nat) (p : Parsed) : Bool :=
  match s.routine? k p.epoch (s.entryFor p) with
  | some r => r.gateway
  | none => false

/-- The provisional class of a head (R284). -/
def State.headClass (s : State) (k : Nat) (p : Parsed) : Nat := s.provisional k p.epoch (s.entryFor p)

/-- Dispatch is held for the island: it replays, or SI is in reset or replaying (R67, R288). -/
def State.dispatchHeld (s : State) (k : Nat) : Bool := !s.islRuns (5 + k) || s.isl? 7 == 2 || s.isl? 7 == 3

/-- The waiting heads that may be granted a context: those of sources whose dispatch a pause does not hold (R209). -/
def State.readyHeads (s : State) (k : Nat) : List Parsed :=
  (s.pipe k).waitingHeads.filter fun h => !(s.mac h.source).paused

/-- How long a head has waited, less what was held (R288). -/
def State.headWait (s : State) (h : Parsed) : Nat :=
  s.waitClock (pipeOf h.source) (s.mac h.source).paused s.time - h.since

/-- SHED_WAIT; values below 2,000 act as 2,000. -/
def State.shedWait (s : State) (k : Nat) : Nat := max 2000 (s.rd (P.TS_CFG.SHED_WAIT k))

/-- The longest wait among those of a list of heads that are of provisional class 0 to 5. -/
def State.longestWait (s : State) (k : Nat) (l : List Parsed) : Option Nat :=
  (l.filter fun h => s.headClass k h < 6).foldl (fun m h => some (max (m.getD 0) (s.headWait h))) none

/-- The longest wait among the heads that no pause holds: what R286 judges. -/
def State.oldestWait (s : State) (k : Nat) : Option Nat := s.longestWait k (s.readyHeads k)

/-- PA.TS_STAT.OLDEST_NS now: over every waiting head, a paused one with its wait before the pause (R288). -/
def State.oldestNs (s : State) (k : Nat) : Nat := min 65535 ((s.longestWait k (s.pipe k).waitingHeads).getD 0)

/-- PA.TS_STAT.SHEDDING now (R286). -/
def State.shedding (s : State) (k : Nat) : Bool := s.shedWait k < (s.oldestWait k).getD 0

/-- PA.TS_STAT: OLDEST_NS and SHEDDING. -/
def State.turnstileStat (s : State) (k : Nat) : State :=
  (s.wr (P.TS_STAT.OLDEST_NS k) (s.oldestNs k)).flag (P.TS_STAT.SHEDDING k) (s.shedding k)

/- ## Dispatch -/

/-- Take a head out of the waiting frames. -/
def State.takeHead (s : State) (k : Nat) (p : Parsed) (stage : Nat) : State :=
  let s1 := s.setPipe k { s.pipe k with heads := (s.pipe k).heads.erase p }
  (s1.setMac p.source ((s1.mac p.source).setCopy p.seq fun c => { c with stage := stage })).sendHeader p.source

/-- Start a packet's routine on a context. -/
def State.startPacket (s : State) (x : CtxId) (p : Parsed) (entry acc : Nat) (wait : Option FragKey) : State :=
  match s.routine? x.pipe p.epoch entry with
  | some r =>
    let c := Ctx.start (some p) (phvOf p acc s.freeVal) entry p.epoch p.trial r s.time
      (if r.gateway then some (GwCtx.fresh []) else none)
    let s1 := if r.gateway then s.count (5 + x.pipe) 0x107 1 else s
    ((s1.tookFree.setCtx x { c with waitFrag := wait }).markBusy x true)
  | none =>
    -- NO_ROUTINE: no word was fetched, and the spec names no address for it
    let c := Ctx.start (some p) (phvOf p acc s.freeVal) entry p.epoch p.trial ⟨0, 0, false, 0⟩ s.time none
    (s.tookFree.setCtx x c).jugFault x c 0x09 0 (s.freeVal % 8192)

/-- Dispatch a packet to a context (R218, R188, R189). -/
def State.dispatch (s : State) (x : CtxId) (p : Parsed) : State :=
  let k := x.pipe
  let s0 := (s.takeHead k p 4).count (5 + k) 0x100 1
  match p.frag, p.fragKey with
  | 1, some key => (s0.fragFirst p key).startPacket x p (s.entryFor p) 0 none
  | 2, some key =>
    match s.fragHit p with
    | some e =>
      let s1 := s0.fragSet key fun e => { e with hitAt := s.now }
      if e.owner.isSome then s1.startPacket x p 128 0 (some key) else s1.startPacket x p 128 e.decision none
    | none =>
      let (d, s1) := s0.noFirst k p p.result
      s1.endPacket k p.source p.seq [d]
  | _, _ => s0.startPacket x p (s.entryFor p) 0 none

/-- The next source after a pointer whose head a test admits; sources run 0 to 111. -/
def nextHead (l : List Parsed) (ptr : Nat) (ok : Parsed → Bool) : Option Parsed :=
  match roundRobin 112 ptr (fun src => l.any fun h => h.source == src && ok h) with
  | some src => l.find? fun h => h.source == src
  | none => none

/-- The grant of R285: every eighth goes to class 6 or 7 when RES_EN = 1 and such a head waits. -/
def State.grantHead (s : State) (k : Nat) (gw : Bool) : Option (Parsed × Bool) :=
  let p := s.pipe k
  let l := (s.readyHeads k).filter fun h => s.needsGw k h == gw
  let n := if gw then p.gwGrants else p.grants
  let ordinary := (nextHead l (if gw then p.gwRrAny else p.rrAny) fun _ => true).map fun h => (h, false)
  if s.isSet (P.TS_CFG.RES_EN k) && n % 8 == 7 then
    match nextHead l (if gw then p.gwRrRes else p.rrRes) (fun h => 6 ≤ s.headClass k h) with
    | some h => some (h, true)
    | none => ordinary
  else ordinary

/-- Move the grant counter and the pointer a grant used. -/
def Pipe.granted (p : Pipe) (gw res : Bool) (src : Nat) : Pipe :=
  if gw then
    if res then { p with gwGrants := (p.gwGrants + 1) % 8, gwRrRes := src }
    else { p with gwGrants := (p.gwGrants + 1) % 8, gwRrAny := src }
  else if res then { p with grants := (p.grants + 1) % 8, rrRes := src }
  else { p with grants := (p.grants + 1) % 8, rrAny := src }

/-- PACKET_DISPATCH (R218, R285): the Turnstile gives a free context to a waiting head. -/
def State.packetDispatch (s : State) (k : Nat) (gw : Bool) : State :=
  if 2 ≤ k || s.dispatchHeld k then s
  else
    match s.freeCtx k gw, s.grantHead k gw with
    | some x, some (h, res) =>
      (((s.setPipe k ((s.pipe k).granted gw res h.source)).dispatch x h).turnstileStat k)
    | _, _ => s

def execPacketDispatch (pipe : Nat) (gw : Bool) (t : Nat) (s : State) : Host.Outcome State Fault Refusal :=
  .next ((s.begin t).packetDispatch pipe gw)

/-- The head R286 sheds: of the lowest provisional class, round-robin over sources. -/
def State.shedHead (s : State) (k : Nat) : Option Parsed :=
  let l := s.readyHeads k
  let lowest := l.foldl (fun m h => min m (s.headClass k h)) 8
  if lowest < 6 then nextHead l (s.pipe k).rrShed fun h => s.headClass k h == lowest else none

/-- TURNSTILE_SHED (R286, R287). -/
def State.turnstileShed (s : State) (k : Nat) : State :=
  if 2 ≤ k || s.dispatchHeld k then s
  else if s.shedding k then
    match s.shedHead k with
    | some h =>
      let c := s.headClass k h
      let s1 := (s.setPipe k { s.pipe k with rrShed := h.source }).takeHead k h 4
      let s2 := ((s1.addOvf (P.TS_DROP.COUNT k c) (P.TS_DROP.OVF k c) 1 1).count (5 + k) 0x106 1).logEvent 0x0A (5 + k)
      let s3 := (s2.wr (P.TS_STAT.SHED_SEEN k) 1).raiseIf (!s.isSet (P.TS_STAT.SHED_SEEN k)) (8 * (5 + k) + 3)
      (s3.endPacket k h.source h.seq []).turnstileStat k
    | none => s
  else s.turnstileStat k

def execTurnstileShed (pipe t : Nat) (s : State) : Host.Outcome State Fault Refusal :=
  .next ((s.begin t).turnstileShed pipe)

/- ## Precise samples (R552 to R557) -/

/-- Step the precise-sample selector of a pipeline for an issued instruction (R552). -/
def State.stepSample (s : State) (x : CtxId) (c : Ctx) : Bool × State :=
  let k := x.pipe
  if s.isSet (P.PS_CFG.EN k) && bitOf (s.rd (P.PS_CFG.JMASK k)) x.jug
      && (!s.isSet (P.PS_CFG.EPOCH_EN k) || s.rd (P.PS_CFG.EPOCH k) == c.epoch) then
    let (b, sel) := (s.pipe k).sampler.step (s.rd (P.PS_CFG.N k)) (s.isSet (P.PS_CFG.MODE k))
    (b, s.setPipe k { s.pipe k with sampler := sel })
  else (false, s)

/-- LATENCY and STALL of an instruction that retires now (R556). -/
def Ctx.latency (c : Ctx) (now : Nat) : Nat × Nat :=
  let lat := (now - c.readyAt) / 2 + 1
  let known := (c.stall.map fun e => e.2).sum
  let all := nset c.stall 1 (ngetD c.stall 1 0 + (lat - 1 - known))
  let worst := all.foldl (fun (b : Nat × Nat) e => if b.2 < e.2 then e else b) (0, 0)
  (min 65535 lat, if lat = 1 then 0 else worst.1)

/-- A precise-sample entry (R555). -/
def sampleEntry (x : CtxId) (c : Ctx) (addr outcome now : Nat) : Nat :=
  let (lat, stall) := c.latency now
  addr % 8192 * 2 ^ 115 + c.epoch % 16 * 2 ^ 111 + x.jug % 16 * 2 ^ 107 + x.ctx % 4 * 2 ^ 105 + c.issued % 512 * 2 ^ 96
    + c.handle % 2 ^ 32 * 2 ^ 64 + lat * 2 ^ 48 + stall * 2 ^ 44 + outcome * 2 ^ 42 + c.flagBits * 2 ^ 32 + now % 2 ^ 32

/-- The slots of the DRAM copy; SIZE_LOG2 outside 10 to 24 acts as 10. -/
def State.psSlots (s : State) (k : Nat) : Nat :=
  let n := s.rd (P.PS_DRAM.SIZE_LOG2 k)
  2 ^ (if 10 ≤ n ∧ n ≤ 24 then n else 10)

/-- Write an entry to DRAM too (R557). -/
def State.sampleToDram (s : State) (k idx entry : Nat) : State :=
  if !s.isSet (P.PS_DRAM.EN k) then s
  else if s.isSet MI.MODE_COND.DRAM_READY then
    s.dramAsk .sample true (s.rd (P.PS_DRAM.BASE k) / 16384 * 16384 + idx % s.psSlots k * 16) 16 (leBytes 16 entry)
  else s.addOvf (P.PS_STAT.DRAM_DROP k) (P.PS_STAT.OVF k) 1 1

/-- Record a chosen instruction (R553, R554). -/
def State.recordSample (s : State) (x : CtxId) (c : Ctx) (addr outcome : Nat) : State :=
  let k := x.pipe
  let n := (s.pipe k).sampledSinceEn
  let stop := s.isSet (P.PS_CFG.STOP k)
  if s.isSet (P.PS_CFG.FREEZE k) || (stop && 1024 ≤ n) then s.addOvf (P.PS_STAT.DROPPED k) (P.PS_STAT.OVF k) 1 1
  else
    let idx := s.rd (P.PS_STAT.WR_IDX k)
    let e := sampleEntry x c addr outcome s.time
    let s1 := (s.wr (P.PS_BUF.DATA k (idx % 1024) 0) e).wr (P.PS_BUF.DATA k (idx % 1024) 1) (e / 2 ^ 64)
    let s2 := ((s1.addF (P.PS_STAT.WR_IDX k) 1).setPipe k { s1.pipe k with sampledSinceEn := n + 1 }).sampleToDram k idx e
    if stop && n + 1 == 1024 then
      (s2.wrs [(P.PS_STAT.FULL k, 1), (P.PS_STAT.FULL_SEEN k, 1)]).raiseIf (!s.isSet (P.PS_STAT.FULL_SEEN k))
        (8 * (5 + k) + 4)
    else s2

end Sys2Proof.Machine
end

