-- ==== Sys2Proof/Machine/Juggler.lean ====
section
/-!
DEFINITION. The Jugglers (07_jugglers.md): the issue of one micro-instruction, the instruction set but for the gateway
operations, the end of a routine (R228), budget stops, search responses, and the control-store registers.
-/
namespace Sys2Proof.Machine

/- ## Issue and retirement (R217, R222, R232, R234, R236) -/

/-- How an issued micro-instruction goes on. -/
inductive Retire where
  /-- It retires; the context holds its effect and the next address. -/
  | next (s : State) (c : Ctx)
  /-- It faults, with none of its effect. -/
  | fault (code data : Nat)
  /-- It has issued and waits (SWAIT). -/
  | wait (s : State) (c : Ctx)
  /-- It cannot issue yet (R58). -/
  | stay
  /-- It retires and the routine ends. -/
  | ended (k : State → State)

/-- The word at a context's next address, from the bank of its stamped epoch (R230). -/
def State.fetch (s : State) (x : CtxId) (c : Ctx) : Nat :=
  ngetD ((s.epochBank c.epoch).pipe x.pipe).store c.pc 0

/-- GW_EN of the routine table a context runs under. -/
def State.ctxGwEn (s : State) (x : CtxId) (c : Ctx) : Bool := ((s.epochBank c.epoch).pipe x.pipe).routines.gwEn

/-- Whether a context is ready: it waits for no search result, no fragment entry and no cycle of its own (R217, R456). -/
def State.ctxReady (s : State) (c : Ctx) : Bool :=
  !c.done && c.swait.isNone && c.waitFrag.isNone && c.readyAt + 2 * ngetD c.stall 7 0 ≤ s.time && c.issued < c.budget

/-- The cycle of a pipeline island. -/
def State.pipeCycle (s : State) (k : Nat) : Nat := cyclesTo (5 + k) s.now

/-- Whether another context of a Juggler competes for its cycle: ready, and not kept by a response credit (R58). -/
def State.competes (s : State) (x : CtxId) : Bool :=
  match s.ctx? x with
  | some c => s.ctxReady c && c.creditSince.isNone
  | none => false

/-- Whether a Juggler issues from a context now (R217): one instruction per island cycle, from its ready contexts in
round-robin order. -/
def State.issueTurn (s : State) (x : CtxId) : Bool :=
  let p := s.pipe x.pipe
  ngetD p.issuedAt x.jug 0 != s.pipeCycle x.pipe + 1
    && roundRobin 4 (ngetD p.lastCtx x.jug 3) (fun i => i == x.ctx || s.competes { x with ctx := i }) == some x.ctx

/-- Whether a context can issue its next instruction (R217, R236). -/
def State.mayIssue (s : State) (x : CtxId) (c : Ctx) : Bool :=
  x.pipe < 2 && x.jug < 16 && x.ctx < 4 && s.islUp (5 + x.pipe) && s.ctxReady c && s.issueTurn x

/-- What an error on the fetch does (R232). -/
def State.fetchEcc (s : State) (k : Nat) (e : Ecc) : State :=
  match e with
  | .clean => s
  | .corrected => s.addOvf (P.CS_STAT.ECC_CORR k) (P.CS_STAT.CNT_OVF k) 1 1
  | .uncorrectable => (s.wr (P.CS_STAT.ECC_UNCORR k) 1).raiseIf (!s.isSet (P.CS_STAT.ECC_UNCORR k)) (8 * (5 + k) + 2)

/-- Record the instruction if it was chosen (R553). -/
def State.sampleIf (s : State) (b : Bool) (x : CtxId) (c : Ctx) (addr outcome : Nat) : State :=
  if b then s.recordSample x c addr outcome else s

/-- The cycles a context waits after a GEMIT: one for each copy (R456), stall cause 7. -/
def Ctx.afterEmit (c : Ctx) : List (Nat × Nat) :=
  match c.gw with
  | some g => if g.copying = 0 then [] else [(7, g.copying)]
  | none => []

/-- An instruction retires: its context goes on with the next one from the next cycle. -/
def State.retireAt (s : State) (x : CtxId) (c : Ctx) (chosen : Bool) (addr outcome : Nat) : State :=
  (s.sampleIf chosen x c addr outcome).setCtx x
    { c with readyAt := s.time + 2, stall := c.afterEmit, creditSince := none, sampled := false,
             gw := c.gw.map fun g => { g with copying := 0 } }

/-- Count an issued instruction. -/
def State.noteIssue (s : State) (x : CtxId) : State :=
  let k := x.pipe
  let p := s.pipe k
  (s.setPipe k { p with rateInstrs := p.rateInstrs + 1, issuedAt := nset p.issuedAt x.jug (s.pipeCycle k + 1),
                        lastCtx := nset p.lastCtx x.jug x.ctx }).count (5 + k) 0x101 1

/-- Issue a context's next instruction, if it is one of a row's: count it, step the selector, and run it. With
`always` the condition is not asked. -/
def State.issue (s : State) (x : CtxId) (ecc : Ecc) (always : Bool) (row : State → Ctx → Micro → Bool)
    (eff : State → CtxId → Ctx → Micro → Retire) : State :=
  match s.ctx? x with
  | none => s
  | some c0 =>
    let m := microOf (s.fetch x c0)
    if s.mayIssue x c0 && row s c0 m then
      let waited := match c0.creditSince with
        | some a => c0.stalled 3 (s.time - a)
        | none => c0
      let c := if ecc = .corrected then { waited with issued := c0.issued + 1 }.stalled 5 2
        else { waited with issued := c0.issued + 1 }
      let (chosen, s1) := (s.noteIssue x).stepSample x c
      let s2 := s1.fetchEcc x.pipe ecc
      let fault := fun (code data : Nat) => (s2.sampleIf chosen x c c.pc 2).jugFault x c code data c.pc
      if ecc = .uncorrectable then fault 0x08 0
      else if !m.condListed then fault 0x01 0
      else if always || c.holds m.cond then
        match eff s2 x c m with
        | .next s3 c3 => s3.retireAt x c3 chosen c.pc 0
        | .fault code data => fault code data
        | .wait s3 c3 => s3.setCtx x { c3 with sampled := chosen }
        | .stay => s.setCtx x { c0 with creditSince := some (c0.creditSince.getD s.time) }
        | .ended k => k (s2.sampleIf chosen x c c.pc 0)
      else s2.retireAt x c.stepPc chosen c.pc 1
    else s

/-- The row of one opcode. -/
def rowOp (op : Nat) : State → Ctx → Micro → Bool := fun _ _ m => m.op == op

/-- The row of one ALU function. -/
def rowAlu (fn : Nat) : State → Ctx → Micro → Bool := fun _ _ m => m.op == 5 && m.sub % 16 == fn

/- ## Moves, ALU and control flow (R222, R223) -/

def effNop (s : State) (_ : CtxId) (c : Ctx) (_ : Micro) : Retire := .next s c.stepPc

def effLdf (s : State) (_ : CtxId) (c : Ctx) (m : Micro) : Retire :=
  let w := m.wm1 + 1
  if phvInRange m.off (fieldBytes m.boff w) then
    .next s (c.setReg m.rd (BitVec.ofNat 32 (getField c.phv m.off m.boff w))).stepPc
  else .fault 0x02 0

def effStf (s : State) (_ : CtxId) (c : Ctx) (m : Micro) : Retire :=
  let w := m.wm1 + 1
  if phvMayWrite m.off (fieldBytes m.boff w) then
    .next s { c with phv := putField c.phv m.off m.boff w (c.reg m.ra).toNat }.stepPc
  else .fault 0x02 0

def effLdi (s : State) (_ : CtxId) (c : Ctx) (m : Micro) : Retire := .next s (c.setReg m.rd (BitVec.ofNat 32 m.imm)).stepPc

/-- An ALU function writes RD and sets Z and C. -/
def effAlu (f : BitVec 32 → BitVec 32 → AluResult) (s : State) (_ : CtxId) (c : Ctx) (m : Micro) : Retire :=
  let r := f (c.reg m.ra) (c.operand m)
  .next s ((c.setReg m.rd r.value).setZC r).stepPc

/-- CMP sets Z and C only. -/
def effCmp (s : State) (_ : CtxId) (c : Ctx) (m : Micro) : Retire :=
  .next s (c.setZC (aluSub (c.reg m.ra) (c.operand m))).stepPc

def effJmp (s : State) (_ : CtxId) (c : Ctx) (m : Micro) : Retire := .next s { c with pc := m.target }

def effCall (s : State) (_ : CtxId) (c : Ctx) (m : Micro) : Retire :=
  if 4 ≤ c.stack.length then .fault 0x03 0
  else .next s { c with stack := (c.pc + 1) % 8192 :: c.stack, pc := m.target }

def effRet (s : State) (_ : CtxId) (c : Ctx) (_ : Micro) : Retire :=
  match c.stack with
  | [] => .fault 0x03 0
  | a :: r => .next s { c with stack := r, pc := a }

/- ## Actions, header rewrites, checksum, time -/

/-- Merge an action word (R194), refusing a bad one; note the INDEX for RULE_COPY and RULE_MIRROR (R329). -/
def Ctx.apply (c : Ctx) (w index : Nat) : Option Ctx :=
  if actBad w then none
  else some ({ c with copyIndex := if actCopy w then index else c.copyIndex,
                      mirrorIndex := if actMirror w then index else c.mirrorIndex }.setAcc (mergeAct c.acc w))

def effActSlot (s : State) (_ : CtxId) (c : Ctx) (m : Micro) : Retire :=
  if c.slotStatus m.slot = 1 then
    match c.apply (c.slotAction m.slot) (c.slotIndex m.slot) with
    | some c1 => .next s c1.stepPc
    | none => .fault 0x0A 0
  else .next s c.stepPc

def effActImm (s : State) (_ : CtxId) (c : Ctx) (m : Micro) : Retire :=
  match c.apply m.imm 0xFFFF with
  | some c1 => .next s c1.stepPc
  | none => .fault 0x0A 0

/-- INS (R229): zero bytes go in at OFF, what follows moves up. -/
def effIns (s : State) (_ : CtxId) (c : Ctx) (m : Micro) : Retire :=
  let n := m.imm % 64
  if 1 ≤ n ∧ n ≤ 32 ∧ m.off ≤ c.emit ∧ c.emit + n ≤ 160 then
    let w := c.phv.take 160
    let w1 := (w.take m.off ++ List.replicate n 0 ++ w.drop m.off).take 160
    .next s ((c.patch 0 w1).setByte phvEmit (c.emit + n)).stepPc
  else .fault 0x05 0

/-- DEL (R229): what follows moves down; the spec names no value for the bytes left at the window's end. -/
def effDel (s : State) (_ : CtxId) (c : Ctx) (m : Micro) : Retire :=
  let n := m.imm % 64
  if 1 ≤ n ∧ n ≤ 32 ∧ m.off + n ≤ c.emit then
    let w := c.phv.take 160
    let w1 := w.take m.off ++ w.drop (m.off + n) ++ freeBytes s.freeVal n
    .next s.tookFree ((c.patch 0 w1).setByte phvEmit (c.emit - n)).stepPc
  else .fault 0x05 0

/-- One's-complement addition of 16-bit values. -/
def onesAdd (a b : Nat) : Nat := (a + b) % 65536 + (a + b) / 65536

/-- RFC 1624: HC' = ~(~HC + ~m + m'). -/
def csumUpdate (hc m m' : Nat) : Nat := 65535 - onesAdd (onesAdd (65535 - hc) (65535 - m)) m'

def effCsum (s : State) (_ : CtxId) (c : Ctx) (m : Micro) : Retire :=
  if phvMayWrite m.off 2 then
    let hc := beNat (sliceAt c.phv m.off 2)
    .next s (c.patch m.off (beBytes 2 (csumUpdate hc ((c.reg m.ra).toNat % 65536) ((c.reg m.rb).toNat % 65536)))).stepPc
  else .fault 0x02 0

def effTime (s : State) (_ : CtxId) (c : Ctx) (m : Micro) : Retire :=
  if phvMayWrite m.off 8 then .next s (c.patch m.off (beBytes 8 s.time)).stepPc else .fault 0x02 0

def effFault (_ : State) (_ : CtxId) (_ : Ctx) (m : Micro) : Retire := .fault 0x0B (m.imm % 256)

/-- An instruction the context's Juggler does not run (R222, R223): an unlisted opcode, an ALU function without a
name, or a gateway operation outside its role. -/
def rowIllegal (x : CtxId) : State → Ctx → Micro → Bool := fun s c m =>
  let gwOp := 0x18 ≤ m.op && m.op ≤ 0x1B
  if gwOp then x.jug < 14 || !s.ctxGwEn x c
  else if m.op = 5 then 9 ≤ m.sub % 16
  else !(1 ≤ m.op && m.op ≤ 0x13)

def effIllegal (_ : State) (_ : CtxId) (_ : Ctx) (_ : Micro) : Retire := .fault 0x01 0

/- ## The control store (R231, R245) -/

/-- Write a word of the staged bank of a pipeline: the staged epoch is dirty. -/
def State.stageWord (s : State) (k addr w : Nat) : State :=
  let b := s.bank (!s.curBank)
  let p := b.pipe k
  (s.setBank (!s.curBank) (b.setPipe k { p with store := nput 0 p.store addr w })).wr MI.EPOCH_STAT.STAGED_DIRTY 1

/-- Count a refused control-store write. -/
def State.csRefused (s : State) (k e : Nat) : State :=
  (s.addOvf (P.CS_STAT.REFUSED k) (P.CS_STAT.CNT_OVF k) 1 1).noteWrRefused e

/-- CSW: write to the staged bank, or be refused with CSR set. -/
def effCsw (s : State) (x : CtxId) (c : Ctx) (m : Micro) : Retire :=
  if phvInRange m.off 16 then
    let e := if s.stageRefusal ≠ 0 then s.stageRefusal else if c.trial then 5 else 0
    if e = 0 then
      .next (s.stageWord x.pipe ((c.reg m.ra).toNat % 8192) (beNat (sliceAt c.phv m.off 16))) { c with csr := false }.stepPc
    else .next ((s.csRefused x.pipe e).wr (P.CS_STAT.CSW_ERROR x.pipe) e) { c with csr := true }.stepPc
  else .fault 0x02 0

/- ## Searches (R225 to R227) -/

/-- The key length of a table. -/
def State.keyLen (s : State) (table : Nat) : Nat :=
  if table < 8 then s.sliceWidth table / 8 else if table = 8 then 8 else 40

/-- Whether a table is a slice in cascade mode. -/
def State.isCascade (s : State) (table : Nat) : Bool := table < 8 && s.isSet (SI.SLICE_CFG.MODE table)

/-- Searches that wait for the cascade, those of the probe ports included (R267). -/
def State.cascadeWaiting (s : State) : Nat :=
  (s.si.reqs.filter fun r => s.isCascade r.table && r.result.isNone).length
    + ([s.si.probe0, s.si.probe1].filter fun o => match o with
      | some p => s.isCascade p.table && p.result.isNone
      | none => false).length

/-- Searches whose entry in a pipeline's response channel is reserved. -/
def State.reserved (s : State) (k : Nat) : Nat := (s.si.reqs.filter fun r => r.ctx.pipe = k).length

/-- Whether SRCH gets its request credit, one of the 256 entries of its island's response channel (R58) and, for a cascade
slice, a place in the queue of 64 (R267). -/
def State.searchCredit (s : State) (k table : Nat) : Bool :=
  s.canSend (searchChan k) && s.reserved k < 256 && (!s.isCascade table || s.cascadeWaiting < 64)

/-- Issue a search (R225). -/
def State.issueSearch (s : State) (x : CtxId) (c : Ctx) (slot table : Nat) (key : Frame) : State :=
  let ingress := match c.packet with
    | some p => p.ingress
    | none => 101
  let r : SearchReq := { id := s.si.nextId, ctx := x, slot, table, key, epoch := c.epoch, trial := c.trial, ingress,
                         issuedAt := s.time, arrived := false, result := none }
  (({ s with si := { s.si with reqs := s.si.reqs ++ [r], nextId := r.id + 1 } }).send (searchChan x.pipe) (.search r.id)).count
    (5 + x.pipe) 0x102 1

def effSrch (s : State) (x : CtxId) (c : Ctx) (m : Micro) : Retire :=
  let n := s.keyLen m.sub
  if 9 < m.sub then .fault 0x01 0
  else if c.outstanding.any fun o => o.1 = m.slot then .fault 0x04 0
  else if !phvInRange m.off n then .fault 0x02 0
  else if s.searchCredit x.pipe m.sub then
    let c1 := { c with issuedSlots := if m.slot ∈ c.issuedSlots then c.issuedSlots else m.slot :: c.issuedSlots,
                       outstanding := c.outstanding ++ [(m.slot, s.si.nextId)] }
    .next (s.issueSearch x c m.slot m.sub (sliceAt c.phv m.off n)) (c1.setByte (phvSlot m.slot + 0xA) 0xFF).stepPc
  else .stay

/-- SWAIT completes on lost (R227): the routine ends and the frame is dropped. A first fragment's followers are
dropped with it (notes/assumptions/33.md). -/
def State.endLost (s : State) (x : CtxId) (c : Ctx) : State :=
  let s1 := s.addOvf (P.JUG_LOST_CNT.COUNT x.pipe) (P.JUG_LOST_CNT.OVF x.pipe) 1 1
  match c.packet with
  | some p => (s1.fragComplete p (2 ^ 63)).finishCtx x c []
  | none => s1.finishCtx x c []

/-- SWAIT completes: HIT says whether STATUS is a hit. -/
def swaitDone (s : State) (x : CtxId) (c : Ctx) (slot : Nat) : Retire :=
  let st := c.slotStatus slot
  if st = 2 then .ended fun s => s.endLost x c
  else .next s { c with hit := st == 1, swait := none, lastHit := if st = 1 then c.slotIndex slot else c.lastHit }.stepPc

def effSwait (s : State) (x : CtxId) (c : Ctx) (m : Micro) : Retire :=
  if m.slot ∉ c.issuedSlots then .fault 0x04 0
  else if c.slotStatus m.slot = 0xFF then .wait s { c with swait := some m.slot }
  else swaitDone s x c m.slot

/-- A result reaches its slot; a context that waits for it in SWAIT goes on. -/
def State.slotFilled (s : State) (r : SearchReq) (res : Nat × Nat × Nat × Nat) : State :=
  let x := r.ctx
  match s.ctx? x with
  | none => s
  | some c0 =>
    let out := c0.outstanding.filter fun o => o.2 ≠ r.id
    if c0.done then (if out.isEmpty then s.clearCtx x else s.setCtx x { c0 with outstanding := out })
    else
      let c : Ctx := ({ c0 with outstanding := out } : Ctx).setSlot r.slot res.1 res.2.1 res.2.2.1 res.2.2.2
      if c.swait = some r.slot then
        let c1 := c.stalled 2 (s.time - c.readyAt)
        match swaitDone s x c1 r.slot with
        | .next s1 c2 => s1.retireAt x c2 c.sampled c.pc 0
        | .ended k => k (s.sampleIf c.sampled x c1 c.pc 0)
        | _ => s
      else s.setCtx x c

/-- SEARCH_RESPONSE (R225, R272): a result returns to its slot. -/
def State.searchResponse (s : State) (id : Nat) : State :=
  match s.si.reqs.find? fun r => r.id = id with
  | some r =>
    match r.result with
    | some res => ({ s with si := { s.si with reqs := s.si.reqs.filter fun q => q.id ≠ id } }).slotFilled r res
    | none => s
  | none => s

def execSearchResponse (id t : Nat) (s : State) : Host.Outcome State Fault Refusal := .next ((s.begin t).searchResponse id)

/- ## Ending a routine (R228) -/

/-- What END makes of a packet. -/
structure Composed where
  acc : Nat
  /-- The egress when the frame is forwarded. -/
  egress : Option Nat
  frame : Frame
  cls : Nat
  colour : Nat
  queue : Nat
deriving DecidableEq, Repr

/-- The default action of the routine entry a context runs. -/
def State.defaultAction (s : State) (x : CtxId) (c : Ctx) : Nat :=
  match s.routine? x.pipe c.epoch c.routine with
  | some r => r.defaultAction
  | none => 0

/-- The merged action word at END. -/
def State.endAction (s : State) (x : CtxId) (c : Ctx) : Nat :=
  if actDisposition c.acc = 0 then mergeAct c.acc (s.defaultAction x c) else c.acc

/-- The composed frame of R228 step 3: the window, the original bytes behind it, a new FCS. -/
def Ctx.composed (c : Ctx) (l : Frame) : Frame :=
  withFcs (c.phv.take c.emit ++ sliceAt l c.cut (l.length - 4 - c.cut))

/-- Steps 1 to 4 of R228, or the fault. -/
def State.compose (s : State) (x : CtxId) (c : Ctx) (p : Parsed) : Except Nat Composed :=
  let acc := s.endAction x c
  let fwd := actFwd acc && !actDrop acc
  let egress := if actPort acc = 0xFF then c.byte phvEgress else actPort acc
  let cls := if actSetClass acc then actClass acc else 0
  if fwd && 100 < egress then .error 0x07
  else if fwd && portMax egress < p.bytes.length - c.cut + c.emit then .error 0x06
  else .ok { acc, egress := if fwd then some egress else none, frame := c.composed p.bytes, cls,
             colour := if actSetClass acc && actSetColour acc then actColour acc else 0,
             queue := if actSetQueue acc && cls < 6 then actQueue acc else cls }

/-- A mirror copy (R322): whole to a port, or a Sideshow entry for port 101. -/
def State.mirrorCopy (s : State) (k : Composed) (p : Parsed) (ruleIndex : Nat) : List Desc × State :=
  let m := actSession k.acc
  if actMirror k.acc && s.isSet (BI.MIR_CFG.EN m) then
    let (chosen, s1) := s.stepMirror m
    let dest := s.rd (BI.MIR_CFG.DEST m)
    if chosen then
      if dest ≤ 100 then
        ([plainDesc dest (s.rd (BI.MIR_CFG.CLASS m)) (s.rd (BI.MIR_CFG.CLASS m)) k.colour p.ingress p.epoch p.handle p.rx
            true k.frame], s1)
      else
        ([s.sideDesc 2 0x07 (k.egress.getD 0xFF) p.epoch k.cls k.colour p.ingress ruleIndex p.handle p.rx
            (s.isSet (BI.MIR_CFG.TRUNC m)) k.frame], s1)
    else ([], s1)
  else ([], s)

/-- The frames a completed packet passes to BI (R228, R192, R322), or, for a trial frame, its Sideshow entry (R208). -/
def State.endFrames (s : State) (c : Ctx) (k : Composed) (p : Parsed) : List Desc × State :=
  if p.trial then
    ([s.sideDesc 4 0x00 (k.egress.getD 0xFF) p.epoch k.cls k.colour p.ingress c.lastHit p.handle p.rx false k.frame], s)
  else
    let out : List Desc := match k.egress with
      | some e => [plainDesc e k.queue k.cls k.colour p.ingress p.epoch p.handle p.rx false k.frame]
      | none => []
    let copy := if actCopy k.acc then
        [s.sideDesc 1 0x06 (k.egress.getD 0xFF) p.epoch k.cls k.colour p.ingress c.copyIndex p.handle p.rx false k.frame]
      else []
    let (mir, s1) := s.mirrorCopy k p c.mirrorIndex
    (out ++ copy ++ mir, s1)

/-- The decision record of a first fragment: the merged word, PORT resolved (R186). -/
def Composed.decision (k : Composed) : Nat :=
  match k.egress with
  | some e => takeField k.acc (e * 2 ^ 32) 32 8
  | none => k.acc

/-- The packet ends whole. -/
def State.endWith (s : State) (x : CtxId) (c : Ctx) (p : Parsed) (k : Composed) : State :=
  let (outs, s1) := s.endFrames c k p
  (if p.trial then s1.fragFail p else s1.fragComplete p k.decision).finishCtx x c outs

def effEnd (s : State) (x : CtxId) (c : Ctx) (_ : Micro) : Retire :=
  match c.packet with
  | none => .ended fun s => s.finishCtx x c []
  | some p =>
    match s.compose x c p with
    | .error code => .fault code 0
    | .ok k => .ended fun s => s.endWith x c p k

/- ## The rows -/

def execNop (x : CtxId) (ecc : Ecc) (t : Nat) (s : State) : Host.Outcome State Fault Refusal :=
  .next ((s.begin t).issue x ecc false (rowOp 0x01) effNop)
def execLdf (x : CtxId) (ecc : Ecc) (t : Nat) (s : State) : Host.Outcome State Fault Refusal :=
  .next ((s.begin t).issue x ecc false (rowOp 0x02) effLdf)
def execStf (x : CtxId) (ecc : Ecc) (t : Nat) (s : State) : Host.Outcome State Fault Refusal :=
  .next ((s.begin t).issue x ecc false (rowOp 0x03) effStf)
def execLdi (x : CtxId) (ecc : Ecc) (t : Nat) (s : State) : Host.Outcome State Fault Refusal :=
  .next ((s.begin t).issue x ecc false (rowOp 0x04) effLdi)
def execAluAdd (x : CtxId) (ecc : Ecc) (t : Nat) (s : State) : Host.Outcome State Fault Refusal :=
  .next ((s.begin t).issue x ecc false (rowAlu 0) (effAlu aluAdd))
def execAluSubtract (x : CtxId) (ecc : Ecc) (t : Nat) (s : State) : Host.Outcome State Fault Refusal :=
  .next ((s.begin t).issue x ecc false (rowAlu 1) (effAlu aluSub))
def execAluAnd (x : CtxId) (ecc : Ecc) (t : Nat) (s : State) : Host.Outcome State Fault Refusal :=
  .next ((s.begin t).issue x ecc false (rowAlu 2) (effAlu aluAnd))
def execAluOr (x : CtxId) (ecc : Ecc) (t : Nat) (s : State) : Host.Outcome State Fault Refusal :=
  .next ((s.begin t).issue x ecc false (rowAlu 3) (effAlu aluOr))
def execAluXor (x : CtxId) (ecc : Ecc) (t : Nat) (s : State) : Host.Outcome State Fault Refusal :=
  .next ((s.begin t).issue x ecc false (rowAlu 4) (effAlu aluXor))
def execAluShiftLeft (x : CtxId) (ecc : Ecc) (t : Nat) (s : State) : Host.Outcome State Fault Refusal :=
  .next ((s.begin t).issue x ecc false (rowAlu 5) (effAlu aluShl))
def execAluShiftRight (x : CtxId) (ecc : Ecc) (t : Nat) (s : State) : Host.Outcome State Fault Refusal :=
  .next ((s.begin t).issue x ecc false (rowAlu 6) (effAlu aluShr))
def execAluMinimum (x : CtxId) (ecc : Ecc) (t : Nat) (s : State) : Host.Outcome State Fault Refusal :=
  .next ((s.begin t).issue x ecc false (rowAlu 7) (effAlu aluMin))
def execAluMaximum (x : CtxId) (ecc : Ecc) (t : Nat) (s : State) : Host.Outcome State Fault Refusal :=
  .next ((s.begin t).issue x ecc false (rowAlu 8) (effAlu aluMax))
def execCmp (x : CtxId) (ecc : Ecc) (t : Nat) (s : State) : Host.Outcome State Fault Refusal :=
  .next ((s.begin t).issue x ecc false (rowOp 0x06) effCmp)
def execJmp (x : CtxId) (ecc : Ecc) (t : Nat) (s : State) : Host.Outcome State Fault Refusal :=
  .next ((s.begin t).issue x ecc false (rowOp 0x07) effJmp)
def execCall (x : CtxId) (ecc : Ecc) (t : Nat) (s : State) : Host.Outcome State Fault Refusal :=
  .next ((s.begin t).issue x ecc false (rowOp 0x08) effCall)
def execRet (x : CtxId) (ecc : Ecc) (t : Nat) (s : State) : Host.Outcome State Fault Refusal :=
  .next ((s.begin t).issue x ecc false (rowOp 0x09) effRet)
def execSrch (x : CtxId) (ecc : Ecc) (t : Nat) (s : State) : Host.Outcome State Fault Refusal :=
  .next ((s.begin t).issue x ecc false (rowOp 0x0A) effSrch)
def execSwait (x : CtxId) (ecc : Ecc) (t : Nat) (s : State) : Host.Outcome State Fault Refusal :=
  .next ((s.begin t).issue x ecc false (rowOp 0x0B) effSwait)
def execActFromSlot (x : CtxId) (ecc : Ecc) (t : Nat) (s : State) : Host.Outcome State Fault Refusal :=
  .next ((s.begin t).issue x ecc false (fun _ _ m => m.op == 0x0C && m.sub % 2 == 0) effActSlot)
def execActFromImm (x : CtxId) (ecc : Ecc) (t : Nat) (s : State) : Host.Outcome State Fault Refusal :=
  .next ((s.begin t).issue x ecc false (fun _ _ m => m.op == 0x0C && m.sub % 2 == 1) effActImm)
def execIns (x : CtxId) (ecc : Ecc) (t : Nat) (s : State) : Host.Outcome State Fault Refusal :=
  .next ((s.begin t).issue x ecc false (rowOp 0x0D) effIns)
def execDel (x : CtxId) (ecc : Ecc) (t : Nat) (s : State) : Host.Outcome State Fault Refusal :=
  .next ((s.begin t).issue x ecc false (rowOp 0x0E) effDel)
def execCsum (x : CtxId) (ecc : Ecc) (t : Nat) (s : State) : Host.Outcome State Fault Refusal :=
  .next ((s.begin t).issue x ecc false (rowOp 0x0F) effCsum)
def execTime (x : CtxId) (ecc : Ecc) (t : Nat) (s : State) : Host.Outcome State Fault Refusal :=
  .next ((s.begin t).issue x ecc false (rowOp 0x10) effTime)
def execCsw (x : CtxId) (ecc : Ecc) (t : Nat) (s : State) : Host.Outcome State Fault Refusal :=
  .next ((s.begin t).issue x ecc false (rowOp 0x11) effCsw)
def execFault (x : CtxId) (ecc : Ecc) (t : Nat) (s : State) : Host.Outcome State Fault Refusal :=
  .next ((s.begin t).issue x ecc false (rowOp 0x12) effFault)
def execIllegalOpcode (x : CtxId) (ecc : Ecc) (t : Nat) (s : State) : Host.Outcome State Fault Refusal :=
  .next ((s.begin t).issue x ecc true (rowIllegal x) effIllegal)
def execEndRoutine (x : CtxId) (ecc : Ecc) (t : Nat) (s : State) : Host.Outcome State Fault Refusal :=
  .next ((s.begin t).issue x ecc false (rowOp 0x13) effEnd)

/-- BUDGET_STOP (R236): the context has issued its budget and has not ended. -/
def State.budgetStop (s : State) (x : CtxId) : State :=
  match s.ctx? x with
  | none => s
  | some c =>
    if !c.done && c.swait.isNone && c.waitFrag.isNone && c.budget ≤ c.issued && s.islUp (5 + x.pipe) then
      let k := x.pipe
      let s1 := (s.addOvf (P.JUG_BUDGET_CNT.COUNT k) (P.JUG_BUDGET_CNT.OVF k) 1 1).count (5 + k) 0x104 1
      match c.packet with
      | some p => (s1.fragFail p).finishCtx x c [s1.delivery p 0x04 c.pc (s1.provisional k p.epoch c.routine)]
      | none => s1.finishCtx x c []
    else s

def execBudgetStop (x : CtxId) (t : Nat) (s : State) : Host.Outcome State Fault Refusal := .next ((s.begin t).budgetStop x)

/- ## The register path to the control store (R231, PA.CS_*) -/

/-- Whether an access to PA.CS_* is refused to its source: the host, once FIELD_SEAL is blown. -/
def State.csOpen (s : State) (src : Src) : Bool := src != .host || !s.isSet AO.FUSE_STAT.FIELD_SEAL

/-- CS_READ: copy a word into CS_DATA. -/
def State.csRead (s : State) (k : Nat) : State :=
  let b := if s.isSet (P.CS_ADDR.BANK k) then !s.curBank else s.curBank
  let w := ngetD ((s.bank b).pipe k).store (s.rd (P.CS_ADDR.ADDR k)) 0
  s.wrs [(P.CS_DATA.DATA k 0, w), (P.CS_DATA.DATA k 1, w / 2 ^ 64), (P.CS_STAT.ERROR k, 0), (P.CS_STAT.DONE k, 1)]

def execCsRead (src : Src) (pipe : Nat) (s : State) : Host.Outcome State Fault Refusal :=
  .next (s.quiet.regCmd src (5 + pipe % 2) 0x618 (s.csOpen src) fun s => s.csRead (pipe % 2))

/-- CS_WRITE: write CS_DATA to the staged bank, or be refused. -/
def State.csWrite (s : State) (k : Nat) : State :=
  let e := s.stageRefusal
  let s1 := if e = 0 then
      s.stageWord k (s.rd (P.CS_ADDR.ADDR k)) (s.rd (P.CS_DATA.DATA k 0) + s.rd (P.CS_DATA.DATA k 1) * 2 ^ 64)
    else s.csRefused k e
  s1.wrs [(P.CS_STAT.ERROR k, e), (P.CS_STAT.DONE k, 1)]

def execCsWrite (src : Src) (pipe : Nat) (s : State) : Host.Outcome State Fault Refusal :=
  .next (s.quiet.regCmd src (5 + pipe % 2) 0x618 (s.csOpen src) fun s => s.csWrite (pipe % 2))

end Sys2Proof.Machine
end

