-- ==== Sys2Proof/Machine/Search.lean ====
section
/-!
DEFINITION. The search island (08_search.md): lookups in TCAM slices and hash tables, learning and ageing, and the
probe ports.
-/
namespace Sys2Proof.Machine

/-- A search result: STATUS, ACTION, INDEX, LOC. -/
abbrev SearchResult := Nat × Nat × Nat × Nat

/-- A miss (R252). -/
def missResult : SearchResult := (0, 0, 0xFFFF, 0)

/- ## TCAM slices (R249 to R252) -/

/-- Whether an entry matches a key (R250). -/
def TcamEntry.matches' (e : TcamEntry) (k : Nat) : Bool := e.valid && ((k ^^^ e.value) &&& e.mask) == 0

/-- The entry numbers of a slice that hold a record, rising. -/
def rowEntries (w : Nat) (rows : List (Nat × Nat)) : List Nat :=
  rows.filterMap fun r => if w = 320 then (if r.1 % 2 = 0 then some (r.1 / 2) else none) else some r.1

/-- Whether entry `e` comes ahead of `b` in a slice of a type (R251); ties stay with the earlier index. -/
def ahead (longest : Bool) (w : Nat) (e b : TcamEntry) : Bool :=
  if longest then popCount w b.mask < popCount w e.mask else e.pri < b.pri

/-- The winner of a slice in a bank: its index and entry (R249, R251). -/
def State.tcamWinner (s : State) (b : Bank) (n : Nat) (key : Frame) : Option (Nat × TcamEntry) :=
  let w := s.sliceWidth n
  let rows := b.rows n
  let longest := s.isSet (SI.SLICE_CFG.TYPE n)
  (rowEntries w rows).foldl (fun best i =>
    let e := tcamEntry w rows i
    if i < s.rd (SI.SLICE_CFG.DEPTH n) && e.matches' (beNat key) then
      match best with
      | some (_, b) => if ahead longest w e b then some (i, e) else best
      | none => some (i, e)
    else best) none

/-- The winner's ACTION and INDEX (R252). -/
def State.tcamOwn (s : State) (b : Bank) (n : Nat) (key : Frame) : Option (Nat × Nat) :=
  (s.tcamWinner b n key).map fun w => (w.2.action, s.rd SI.CAS_CFG.POSITION * 2 ^ 14 + w.1 % 4096)

/-- A hit, or a miss. -/
def ofOwn (o : Option (Nat × Nat)) : SearchResult :=
  match o with
  | some (a, i) => (1, a, i, 0)
  | none => missResult

/- ## Hash tables (R256 to R261) -/

/-- Whether a lookup reads the overflow set (R258): both buckets miss and h1's OVF flag is set. -/
def HashTable.readsOverflow (t : HashTable) (bridge : Bool) (k : Frame) : Bool :=
  !(t.entries.any fun e => e.key = k && !e.overflow) && t.ovf.contains (bucket1 bridge k)

/-- The entry a lookup finds; `ovf` says whether the overflow set could be read. Without DI it holds no match
(notes/assumptions/35.md), and neither does one that DI reports uncorrectable (R345). -/
def HashTable.lookup (t : HashTable) (bridge : Bool) (k : Frame) (ovf : Bool) : Option HashEntry :=
  match t.find? k with
  | some e => if e.overflow && !(t.readsOverflow bridge k && ovf) then none else some e
  | none => none

/-- The result of a hash lookup. -/
def ofHash (o : Option HashEntry) : SearchResult :=
  match o with
  | some e => (1, e.action, e.index, if e.overflow then 1 else 0)
  | none => missResult

/-- The key a hash table compares. -/
def hashKey (bridge : Bool) (k : Frame) : Frame := if bridge then bridgeKey k else k

/-- A learned entry for a key in one bank, if it can be made; an entry that a bank holds is kept. -/
def HashTable.learn (t : HashTable) (k : Frame) (action now : Nat) : Option HashTable :=
  match t.find? k with
  | some _ => some t
  | none => (t.place true k).map fun i => { t with entries := t.entries ++ [⟨k, action, true, false, i, now⟩] }

/-- Change a learned entry in one bank. -/
def HashTable.relearn (t : HashTable) (k : Frame) (f : HashEntry → HashEntry) : HashTable :=
  { t with entries := t.entries.map fun e => if e.key = k ∧ e.learned then f e else e }

/-- Change the bridge tables of both banks (R260). -/
def State.bothBridges (s : State) (f : HashTable → HashTable) : State :=
  { s with bank0 := { s.bank0 with bridge := f s.bank0.bridge }, bank1 := { s.bank1 with bridge := f s.bank1.bridge } }

/-- The action of a learned entry: FWD to a port (R259). -/
def learnAction (port : Nat) : Nat := 2 ^ 62 + port * 2 ^ 32

/-- LEARN (R259), after a lookup of a bridge key that found `o`. -/
def State.learn (s : State) (k : Frame) (ingress : Nat) (o : Option HashEntry) : State :=
  match o with
  | some e =>
    if e.learned then
      let moved := actPort e.action != ingress % 256
      let s1 := s.bothBridges fun t => t.relearn k fun e =>
        { e with action := takeField e.action (learnAction ingress) 32 8, hitAt := s.now }
      if moved then s1.addOvf SI.HASH_STAT.MOVES SI.HASH_STAT.OVF 1 1 else s1
    else s
  | none =>
    match s.bank0.bridge.learn k (learnAction ingress) s.now, s.bank1.bridge.learn k (learnAction ingress) s.now with
    | some t0, some t1 =>
      (({ s with bank0 := { s.bank0 with bridge := t0 }, bank1 := { s.bank1 with bridge := t1 } }).count 7 0x105 1).recalcOcc
    | _, _ => s.addOvf SI.HASH_STAT.LEARN_FULL SI.HASH_STAT.OVF 1 1

/-- A hash search of a bank, with learning when `ingress` names the packet's port. -/
def State.hashSearch (s : State) (b : Bank) (bridge : Bool) (key : Frame) (ingress : Option Nat) (ovf : Bool) : SearchResult × State :=
  let k := hashKey bridge key
  let t := b.hash bridge
  let o := t.lookup bridge k ovf
  let s1 := s.count 7 0x101 1
  let s2 := if t.readsOverflow bridge k then s1.count 7 0x102 1 else s1
  match ingress with
  | some p =>
    if bridge && s.isSet SI.HASH_CFG.LEARN_EN && bitOf (key.getD 0 0).toNat 7 then (ofHash o, s2.learn k p o)
    else (ofHash o, s2)
  | none => (ofHash o, s2)

/-- LEARNED_AGE_OUT (R261): a learned entry without a LEARN hit for AGE_S seconds. -/
def State.ageOut (s : State) (k : Frame) : State :=
  let age := s.rd SI.HASH_CFG.AGE_S
  let old := fun (e : HashEntry) => e.key = k ∧ e.learned ∧ e.hitAt + age * 1000000000 ≤ s.now
  if age ≠ 0 ∧ (s.bank s.curBank).bridge.entries.any (fun e => old e) then
    ((s.bothBridges fun t => { t with entries := t.entries.filter fun e => ¬ (e.key = k ∧ e.learned) }).addOvf
      SI.HASH_STAT.AGED SI.HASH_STAT.OVF 1 1).recalcOcc
  else s

def execLearnedAgeOut (vidMac t : Nat) (s : State) : Host.Outcome State Fault Refusal :=
  .next ((s.begin t).ageOut (bridgeKey (beBytes 8 vidMac)))

/- ## Cascade searches: slots, state and messages (R264 to R270) -/

/-- The slot counter, without its wrap at 16 bits (R264, R270). -/
def State.slotNow (s : State) : Nat := s.si.slotBase + (s.now - s.si.slotAt) / 8

def State.casPos (s : State) : Nat := s.rd SI.CAS_CFG.POSITION
def State.casCount (s : State) : Nat := s.rd SI.CAS_CFG.COUNT

/-- Every position of the cascade. -/
def State.casAll (s : State) : Nat := 2 ^ s.casCount - 1

/-- STATE is UP. -/
def State.casUp (s : State) : Bool := s.rd SI.CAS_STAT.STATE == 2

/-- The first slot from `t + 32` that is the requester's (R264). -/
def execSlotFor (count pos t : Nat) : Nat :=
  match (List.range 8).find? fun i => (t + 32 + i) % 65536 % count == pos with
  | some i => t + 32 + i
  | none => t + 32

def State.setSi (s : State) (f : Search → Search) : State := { s with si := f s.si }

/-- The first execute slot of a search issued at slot `t` (R264, R267): this member's searches execute one in each slot of
its own, in order of issue. -/
def State.nextExec (s : State) (t : Nat) : Nat :=
  let e := execSlotFor s.casCount s.casPos t
  if s.si.lastExec ≤ e then e else s.si.lastExec - 1 + max 1 s.casCount

/-- A message leaves on CX as cascade blocks with their CRC (R268, R269). -/
def State.casEmit (s : State) (m : CasMsg) : State := s.emit (.cascade (casLane m.kind) (casBlocks m))

/-- Send a cascade message with this member as ORIGIN and FROM. -/
def State.casSend (s : State) (kind seen : Nat) : State :=
  s.casEmit { kind, origin := s.casPos, sender := s.casPos, seen, tag := 0, table := s.casCount, execSlot := 0,
              key := [], action := 0, index := 0 }

/-- Change the cascade STATE. -/
def State.casState (s : State) (v : Nat) : State :=
  if s.rd SI.CAS_STAT.STATE = v then s
  else (s.wrs [(SI.CAS_STAT.STATE, v), (SI.CAS_STAT.STATE_CHG, 1)]).raiseIf (!s.isSet SI.CAS_STAT.STATE_CHG) 57

/-- Become DOWN (R270), sending DOWN unless one was received. -/
def State.casDown (s : State) (send : Bool) : State :=
  if s.rd SI.CAS_STAT.STATE = 1 ∨ s.rd SI.CAS_STAT.STATE = 2 then
    let s1 := ((s.casState 0).addF SI.CAS_STAT.DOWN_CNT 1).setSi fun i => { i with ready := 0, incompleteRun := 0, helloAt := 0 }
    if send then s1.casSend 7 (2 ^ s.casPos) else s1
  else s

/-- A lost result (R266); the spec states no ACTION or INDEX for it. -/
def State.lostResult (s : State) : SearchResult := (2, s.freeVal % 2 ^ 64, s.freeVal / 2 ^ 64 % 65536, 0)

/-- Give a search's outcome to its owner. -/
def State.casResolve (s : State) (o : CasOwner) (r : SearchResult) : State :=
  match o with
  | .search id => s.setSi fun i => { i with reqs := i.reqs.map fun q => if q.id = id then { q with result := some r } else q }
  | .probe 0 => s.setSi fun i => { i with probe0 := i.probe0.map fun p => { p with result := some r } }
  | .probe _ => s.setSi fun i => { i with probe1 := i.probe1.map fun p => { p with result := some r } }
  | .member => s

/-- An incomplete search (R266): the slice's LOST setting decides; the sixteenth in a row makes the member DOWN. -/
def State.casIncomplete (s : State) (o : CasOwner) (table : Nat) (own : Option (Nat × Nat)) : State :=
  let lost := s.isSet (SI.SLICE_CFG.LOST table)
  let r := if lost then s.lostResult else ofOwn own
  let s1 := if lost then s.tookFree else s
  let s2 := ((s1.casResolve o r).addOvf SI.CAS_CNT.INCOMPLETE SI.CAS_CNT.OVF 1 1).count 7 0x104 1
  let s3 := s2.setSi fun i => { i with incompleteRun := i.incompleteRun + 1 }
  if 16 ≤ s3.si.incompleteRun then s3.casDown true else s3

/-- Start a cascade search (R264): REQ leaves at once; outside UP it is incomplete at once (R266). One that waits for an
execute slot counts as issued 32 slots before it (DESIGN CHOICE, notes/assumptions/36.md). -/
def State.casStart (s : State) (o : CasOwner) (table : Nat) (key : Frame) (own : Option (Nat × Nat)) : State :=
  let s0 := s.count 7 0x103 1
  if s.casUp then
    let t := s.slotNow
    let e := s.nextExec t
    let tag := s.si.nextTag
    let c : CasSearch := { owner := o, origin := s.casPos, tag, table, key, issueSlot := max t (e - 32 - s.casCount), execSlot := e, seen := 0, own,
                           executed := false, outcome := none }
    (s0.setSi fun i => { i with casc := i.casc ++ [c], nextTag := (tag + 1) % 4096, lastExec := e + 1 }).casEmit
      { kind := 1, origin := s.casPos, sender := s.casPos, seen := 0, tag, table, execSlot := e % 65536, key,
        action := 0, index := 0 }
  else s0.casIncomplete o table own

/- ## Lookups -/

/-- Record a request's result. -/
def State.setResult (s : State) (id : Nat) (r : SearchResult) : State := (s.casResolve (.search id) r).progress 7

/-- Where the overflow set of a key lies (R257, TCAM_GEOM OVF_BASE): two banks of 512 KiB for each table, sets of four
ways. Each set takes an equal part of its table's area. -/
def State.overflowSet (s : State) (bank bridge : Bool) (key : Frame) : Nat × Nat :=
  let c := crc32c (hashKey bridge key)
  let b := s.di.ovfBase + bank.toNat * 0x100000
  if bridge then (b + c % 4096 * 128, 128) else (b + 0x80000 + c % 2048 * 256, 256)

/-- Ask DI for the overflow set of a search. -/
def State.askOverflow (s : State) (id : Nat) (bank bridge : Bool) (key : Frame) : State :=
  let (a, n) := s.overflowSet bank bridge key
  s.dramAsk (.ovf id) false a n []

/-- Run a request against the bank of its packet's epoch (R195, R251). -/
def State.lookup (s : State) (r : SearchReq) : State :=
  let b := s.epochBank r.epoch
  if r.table < 8 then
    let s1 := s.count 7 0x100 1
    let own := s1.tcamOwn b r.table r.key
    if s.isCascade r.table then s1.casStart (.search r.id) r.table r.key own else s1.setResult r.id (ofOwn own)
  else if (b.hash (r.table == 8)).readsOverflow (r.table == 8) (hashKey (r.table == 8) r.key) && s.islRuns 9 then
    s.askOverflow r.id (s.bankOf r.epoch) (r.table == 8) r.key
  else
    let (res, s1) := s.hashSearch b (r.table == 8) r.key (some r.ingress) false
    s1.setResult r.id res

def State.probe? (s : State) (p : Nat) : Option Probe := if p = 0 then s.si.probe0 else s.si.probe1
def State.setProbe (s : State) (p : Nat) (v : Option Probe) : State :=
  s.setSi fun i => if p = 0 then { i with probe0 := v } else { i with probe1 := v }

/-- The bank a probe reads (R275). -/
def State.probeBank (s : State) (bank : Nat) : Bool := if bank % 2 = 1 then !s.curBank else s.curBank

/-- The overflow read of a probe has been served (R258, R274). -/
def State.probeRead (s : State) (p id : Nat) (ok : Bool) : State :=
  match s.probe? p with
  | some q =>
    if q.asked = some id then
      let (res, s1) := s.hashSearch (s.bank (s.probeBank q.bank)) (q.table == 8) q.key none ok
      s1.setProbe p (some { q with result := some res, asked := none })
    else s
  | none => s

/-- DI has served the overflow read of a search or a probe, well or not (R258, R345): the search ends. -/
def State.overflowRead (s : State) (id : Nat) (ok : Bool) : State :=
  match s.si.reqs.find? fun r => r.id = id with
  | some r =>
    let (res, s1) := s.hashSearch (s.epochBank r.epoch) (r.table == 8) r.key (some r.ingress) ok
    s1.setResult r.id res
  | none => (s.probeRead 0 id ok).probeRead 1 id ok

/-- SEARCH_LOOKUP: a request that has arrived at SI and has not been looked up. -/
def State.searchLookup (s : State) (id : Nat) : State :=
  match s.si.reqs.find? fun r => r.id = id with
  | some r =>
    let ch := searchChan r.ctx.pipe
    if s.islRuns 7 && (s.chan ch).arrived.contains (.search id) then (s.take ch (.search id)).lookup r else s
  | none => s

def execSearchLookup (id t : Nat) (s : State) : Host.Outcome State Fault Refusal := .next ((s.begin t).searchLookup id)

/- ## The probe ports (R273 to R275) -/

/-- Show a probe's result in RES0 and RES1, both at once (R273). -/
def State.probeShow (s : State) (p seq : Nat) (r : SearchResult) : State :=
  (s.setProbe p none).wrs [(SI.PROBE_RES0.VALID p, 1), (SI.PROBE_RES0.SEQ p, seq), (SI.PROBE_RES0.STATUS p, r.1),
    (SI.PROBE_RES0.LOC p, r.2.2.2), (SI.PROBE_RES0.INDEX p, r.2.2.1), (SI.PROBE_RES1.ACTION p, r.2.1)]

/-- The key in PROBE_KEY. -/
def State.probeKey (s : State) (p : Nat) : Frame := (List.range 5).flatMap fun w => beBytes 8 (s.rd (SI.PROBE_KEY.KEY p w))

/-- Whether a probe of a hash table reads the overflow set at DI (R258). -/
def State.probeOverflows (s : State) (bank table : Nat) (key : Frame) : Bool :=
  let b := table == 8
  8 ≤ table && ((s.bank (s.probeBank bank)).hash b).readsOverflow b (hashKey b key) && s.islRuns 9

/-- PROBE_GO (R273, R274): abandons an outstanding probe; a bad table completes at once, INDEX and ACTION not stated. -/
def State.probeGo (s : State) (p seq bank table : Nat) : State :=
  let s0 := s.wrs [(SI.PROBE_CMD.SEQ p, seq), (SI.PROBE_CMD.BANK p, bank), (SI.PROBE_CMD.TABLE p, table),
    (SI.PROBE_RES0.VALID p, 0), (SI.PROBE_RES0.SEQ p, 0), (SI.PROBE_RES0.STATUS p, 0), (SI.PROBE_RES0.LOC p, 0),
    (SI.PROBE_RES0.INDEX p, 0), (SI.PROBE_RES1.ACTION p, 0)]
  let table := table % 16
  if 9 < table then
    s0.tookFree.probeShow p (seq % 65536) (0x10, s.freeVal % 2 ^ 64, s.freeVal / 2 ^ 64 % 65536, s.freeVal / 2 ^ 80 % 2)
  else
    let key := (s0.probeKey p).take (s0.keyLen table)
    let s1 := s0.setProbe p (some { seq := seq % 65536, bank := bank % 2, table, key, result := none, asked := none })
    if s0.isCascade table then
      let dropped := s1.setSi fun i => { i with casc := i.casc.filter fun c => c.owner ≠ .probe p }
      dropped.casStart (.probe p) table key (s0.tcamOwn (s0.bank (s0.probeBank bank)) table key)
    else if s0.probeOverflows bank table key then
      let id := s0.si.nextId
      let q : Probe := { seq := seq % 65536, bank := bank % 2, table, key, result := none, asked := some id }
      ((s1.setProbe p (some q)).setSi fun i => { i with nextId := id + 1 }).askOverflow id (s0.probeBank bank) (table == 8) key
    else s1

def execProbeGo (src : Src) (probe seq bank table t : Nat) (s : State) : Host.Outcome State Fault Refusal :=
  .next (
    let p := probe % 2
    let off := 0x428 + 0x80 * p
    (s.begin t).guarded src .store 7 off fun s =>
      if !s.islUp 7 then s
      else if (src = .host) ≠ (p = 1) then s.unmapped src 7 off
      else (s.counted 7).probeGo p seq bank table)

/-- PROBE_COMPLETE (R273): the lookup's result appears; a cascade probe's, and one that reads the overflow set, once that has
ended. -/
def State.probeComplete (s : State) (p : Nat) : State :=
  match s.probe? p with
  | none => s
  | some q =>
    if !s.islRuns 7 then s
    else
      match q.result with
      | some r => s.probeShow p q.seq r
      | none =>
        if s.isCascade q.table || q.asked.isSome then s
        else if q.table < 8 then
          (s.count 7 0x100 1).probeShow p q.seq (ofOwn (s.tcamOwn (s.bank (s.probeBank q.bank)) q.table q.key))
        else
          let (r, s1) := s.hashSearch (s.bank (s.probeBank q.bank)) (q.table == 8) q.key none false
          s1.probeShow p q.seq r

def execProbeComplete (probe t : Nat) (s : State) : Host.Outcome State Fault Refusal :=
  .next ((s.begin t).probeComplete (probe % 2))

end Sys2Proof.Machine
end

