-- ==== Sys2Proof/Machine/Cascade.lean ====
section
/-!
DEFINITION. The cascade of up to four devices (R262 to R271): executing a search at its slot, its messages, training,
and loss of the CX link.
-/
namespace Sys2Proof.Machine

/- ## Executing and completing a search (R264 to R266) -/

/-- Change the entries of a search. -/
def State.casMap (s : State) (origin tag : Nat) (f : CasSearch → CasSearch) : State :=
  s.setSi fun i => { i with casc := i.casc.map fun c => if c.origin = origin ∧ c.tag = tag then f c else c }

/-- Forget a search. -/
def State.casDrop (s : State) (origin tag : Nat) : State :=
  s.setSi fun i => { i with casc := i.casc.filter fun c => ¬ (c.origin = origin ∧ c.tag = tag) }

def State.casFind (s : State) (origin tag : Nat) : Option CasSearch :=
  s.si.casc.find? fun c => c.origin = origin ∧ c.tag = tag

/-- A search of this member's own is complete when REQ has come back with every position and the outcome is known, before
slot t + 96 (R265, R266). -/
def State.casCheck (s : State) (tag : Nat) : State :=
  match s.casFind s.casPos tag with
  | some c =>
    match c.outcome with
    | some o =>
      if c.seen ||| 2 ^ s.casPos = s.casAll ∧ s.slotNow < c.issueSlot + 96 then
        ((s.casDrop s.casPos tag).setSi fun i => { i with incompleteRun := 0 }).casResolve c.owner (ofOwn o)
      else s
    | none => s
  | none => s

/-- A RESULT or MISS message of a search for its requester. -/
def State.casReply (s : State) (c : CasSearch) (kind action index : Nat) : State :=
  s.casEmit { kind, origin := c.origin, sender := s.casPos, seen := 0, tag := c.tag, table := c.table,
              execSlot := c.execSlot % 65536, key := [], action, index }

/-- CASCADE_EXEC_SLOT (R264): this member samples MATCH_IN_N (`low` when it reads low) and drives MATCH_OUT_N. -/
def State.casExec (s : State) (origin tag : Nat) (low : Bool) : State :=
  match s.casFind origin tag with
  | none => s
  | some c =>
    if c.executed ∨ s.slotNow < c.execSlot + s.casPos then s
    else
      let hit := c.own.isSome
      let s1 := if hit || low then s.emit (.matchOut ((c.execSlot + s.casPos + 1) % 65536)) else s
      let last := s.casPos + 1 == s.casCount
      if origin = s.casPos then
        let o : Option (Option (Nat × Nat)) :=
          if hit && !low then some c.own else if last && !hit && !low then some none else c.outcome
        (s1.casMap origin tag fun c => { c with executed := true, outcome := o }).casCheck tag
      else
        let s2 := match c.own with
          | some (a, i) => if low then s1 else s1.casReply c 2 a i
          | none => if last && !low then s1.casReply c 3 0 0 else s1
        s2.casDrop origin tag

def execCascadeExecSlot (origin tag : Nat) (matchIn : Bool) (t : Nat) (s : State) : Host.Outcome State Fault Refusal :=
  .next (let s0 := s.begin t; if s0.islRuns 7 then s0.casExec origin tag matchIn else s0)

/-- CASCADE_SEARCH_TIMEOUT (R266): not complete by slot t + 96. -/
def State.casTimeout (s : State) (tag : Nat) : State :=
  match s.casFind s.casPos tag with
  | some c => if c.issueSlot + 96 ≤ s.slotNow then (s.casDrop s.casPos tag).casIncomplete c.owner c.table c.own else s
  | none => s

def execCascadeSearchTimeout (tag t : Nat) (s : State) : Host.Outcome State Fault Refusal :=
  .next (let s0 := s.begin t; if s0.islRuns 7 then s0.casTimeout tag else s0)

/- ## Messages (R265, R268, R269, R271) -/

/-- A run of a CX lane's stream arrives with a message of a kind in it: a bad message, or one of an unknown type, is
discarded and counted (R269), and one on the lane that does not carry its kind is not taken (R268; DEDUCED,
notes/assumptions/37.md). SI must run to take one. -/
def State.casReceive (s : State) (lane : Nat) (w : List CodeBlock) (kind : Nat) (k : State → CasMsg → State) : State :=
  if !s.islRuns 7 then s
  else
    match casMessage w with
    | none => s.addOvf SI.CAS_CNT.CRC_ERR SI.CAS_CNT.OVF 1 1
    | some m => if m.kind = kind ∧ lane = casLane kind then k s m else s

/-- Forward a message, with this member's bit in SEEN or without; its CRC is computed again (R269). -/
def State.casForward (s : State) (m : CasMsg) (bit : Bool) : State :=
  s.casEmit ({ m with seen := if bit then m.seen ||| 2 ^ s.casPos else m.seen })

/-- The slot of a 16-bit EXEC_SLOT nearest to now. -/
def nearSlot (now s : Nat) : Nat :=
  let d := (s + 65536 - now % 65536) % 65536
  if d < 32768 then now + d else now + d - 65536

/-- A REQ arrives: the requester takes back its own; another member looks up its current bank, unless slot s has begun. -/
def State.casReq (s : State) (m : CasMsg) : State :=
  if m.origin = s.casPos then (s.casMap m.origin m.tag fun c => { c with seen := m.seen }).casCheck m.tag
  else
    let e := nearSlot s.slotNow m.execSlot
    if e ≤ s.slotNow then (s.addOvf SI.CAS_CNT.LATE SI.CAS_CNT.OVF 1 1).casForward m false
    else if s.casUp then
      let c : CasSearch := { owner := .member, origin := m.origin, tag := m.tag, table := m.table, key := m.key,
                             issueSlot := s.slotNow, execSlot := e, seen := 0,
                             own := s.tcamOwn (s.bank s.curBank) m.table (m.key.take (s.keyLen m.table)),
                             executed := false, outcome := none }
      (s.setSi fun i => { i with casc := i.casc ++ [c] }).casForward m true
    else s.casForward m false

def execCasReqRx (lane : Nat) (w : List CodeBlock) (t : Nat) (s : State) : Host.Outcome State Fault Refusal :=
  .next ((s.begin t).casReceive lane w 1 fun s m => s.casReq m)

/-- An outcome arrives: the requester takes it, another member forwards it. -/
def State.casOutcome (s : State) (m : CasMsg) (o : Option (Nat × Nat)) : State :=
  if m.origin = s.casPos then
    (s.casMap m.origin m.tag fun c => { c with outcome := some (c.outcome.getD o) }).casCheck m.tag
  else s.casForward m true

def execCasResultRx (lane : Nat) (w : List CodeBlock) (t : Nat) (s : State) : Host.Outcome State Fault Refusal :=
  .next ((s.begin t).casReceive lane w 2 fun s m => s.casOutcome m (some (m.action, m.index)))

def execCasMissRx (lane : Nat) (w : List CodeBlock) (t : Nat) (s : State) : Host.Outcome State Fault Refusal :=
  .next ((s.begin t).casReceive lane w 3 fun s m => s.casOutcome m none)

/-- What becomes of a control message (R271): consumed by its origin, discarded when seen, else forwarded. -/
def State.casControl (s : State) (m : CasMsg) : State :=
  if m.origin = s.casPos ∨ bitOf m.seen s.casPos then s else s.casForward m true

/- ## Training (R270) -/

/-- CAS_HELLO_TIMER: a DOWN member with CX link sends HELLO and enters TRAIN, where it sends one every 1 ms. -/
def State.casHelloTimer (s : State) : State :=
  let st := s.rd SI.CAS_STAT.STATE
  if s.islRuns 7 && 1 < s.casCount && s.isSet (UI.PORT_STAT.LINK 2)
      && (st == 0 || (st == 1 && s.si.helloAt + 1000000 ≤ s.now + 1)) then
    ((s.casSend 4 (2 ^ s.casPos)).casState 1).setSi fun i => { i with helloAt := s.now + 1 }
  else s

def execCasHelloTimer (t : Nat) (s : State) : Host.Outcome State Fault Refusal := .next ((s.begin t).casHelloTimer)

/-- A HELLO: on its return to position 0 with every position seen, training begins. -/
def State.casHello (s : State) (m : CasMsg) : State :=
  if m.origin = s.casPos then
    let s1 := s.wr SI.CAS_STAT.SEEN_LAST m.seen
    if s.casPos = 0 ∧ s.rd SI.CAS_STAT.STATE = 1 ∧ m.seen = s.casAll then
      (s1.setSi fun i => { i with ready := 0 }).emit (.matchOut 1)
    else s1
  else s.casControl m

def execCasHelloRx (lane : Nat) (w : List CodeBlock) (t : Nat) (s : State) : Host.Outcome State Fault Refusal :=
  .next ((s.begin t).casReceive lane w 4 fun s m => s.casHello m)

/-- Set the 16-bit slot counter to `v`: the slots of open searches move with it, so that their time limits stay as far
away as they were. -/
def State.setSlot (s : State) (v : Nat) : State :=
  let old := s.slotNow
  let base := old + (v + 65536 - old % 65536) % 65536
  s.setSi fun i => { i with slotBase := base, slotAt := s.now, lastExec := 0, casc := i.casc.map fun c =>
    { c with issueSlot := c.issueSlot + (base - old), execSlot := c.execSlot + (base - old) } }

/-- CAS_TRAIN_PULSE: a TRAIN member p ≥ 1 samples MATCH_IN_N low, sets its slot counter to p and sends READY. -/
def State.casTrainPulse (s : State) : State :=
  if s.islRuns 7 && s.rd SI.CAS_STAT.STATE == 1 && 1 ≤ s.casPos then
    ((s.setSlot s.casPos).emit (.matchOut (s.casPos + 1))).casSend 5 (2 ^ s.casPos)
  else s

def execCasTrainPulse (t : Nat) (s : State) : Host.Outcome State Fault Refusal := .next ((s.begin t).casTrainPulse)

/-- A READY: position 0 sends UP once every other position is ready. -/
def State.casReady (s : State) (m : CasMsg) : State :=
  let s1 := if s.casPos = 0 ∧ s.rd SI.CAS_STAT.STATE = 1 then
      let r := s.si.ready ||| 2 ^ m.origin
      let s2 := s.setSi fun i => { i with ready := r }
      if r ||| 1 = s.casAll then s2.casSend 6 1 else s2
    else s
  s1.casControl m

def execCasReadyRx (lane : Nat) (w : List CodeBlock) (t : Nat) (s : State) : Host.Outcome State Fault Refusal :=
  .next ((s.begin t).casReceive lane w 5 fun s m => s.casReady m)

/-- An UP makes a TRAIN member UP. -/
def State.casUpMsg (s : State) (m : CasMsg) : State :=
  (if s.rd SI.CAS_STAT.STATE = 1 then (s.casState 2).setSi fun i => { i with incompleteRun := 0 } else s).casControl m

def execCasUpRx (lane : Nat) (w : List CodeBlock) (t : Nat) (s : State) : Host.Outcome State Fault Refusal :=
  .next ((s.begin t).casReceive lane w 6 fun s m => s.casUpMsg m)

def execCasDownRx (lane : Nat) (w : List CodeBlock) (t : Nat) (s : State) : Host.Outcome State Fault Refusal :=
  .next ((s.begin t).casReceive lane w 7 fun s m => (s.casDown false).casControl m)

/-- RETRAIN. -/
def execRetrain (src : Src) (t : Nat) (s : State) : Host.Outcome State Fault Refusal :=
  .next ((s.begin t).regCmd src 7 0x58 false fun s => s.casDown true)

/-- LINK_UP (R154, R161): on a port with link it is a loss and a gain, and a loss of CX makes the member DOWN (R270). -/
def execLinkUp (port speed : Nat) (half : Bool) (t : Nat) (s : State) : Host.Outcome State Fault Refusal :=
  .next (
    let s0 := s.begin t
    let s1 := s0.linkUp port speed half
    if port = 100 ∧ s0.isSet (portLink 100) ∧ s1.islRuns 7 then s1.casDown true else s1)

/-- LINK_DOWN (R161): loss of CX makes the member DOWN (R270). -/
def execLinkDown (port t : Nat) (s : State) : Host.Outcome State Fault Refusal :=
  .next (
    let s1 := (s.begin t).linkDown port
    if port = 100 ∧ s1.islRuns 7 then s1.casDown true else s1)

end Sys2Proof.Machine
end

