-- ==== Sys2Proof/Machine/Buffer.lean ====
section
/-!
DEFINITION. The buffer island's admission (R279 to R283, R323, R325) and spill to DRAM (R289 to R294).
-/
namespace Sys2Proof.Machine

/- ## The admission decision (R281, R282) -/

/-- Where an admitted frame goes. -/
inductive Place where
  | head | heldTail | spill
deriving DecidableEq, Repr

/-- The dynamic limit of a queue for a colour (R281). -/
def State.queueLimit (s : State) (q colour : Nat) : Nat :=
  let limit := s.seenFree * 2 ^ min 9 (s.rd (BI.Q_CFG.ALPHA q)) / 64
  match colour with
  | 0 => limit
  | 1 => limit * min 8 (s.rd (BI.Q_CFG.YEL q)) / 8
  | _ => limit * min 8 (s.rd (BI.Q_CFG.RED q)) / 8

/-- Whether R281 admits `n` cells of a colour to a queue. -/
def State.r281 (s : State) (q n colour : Nat) : Bool :=
  let cells := s.seenCells q
  let sh := s.sharedUse q cells
  let ns := s.sharedUse q (cells + n) - sh
  ns == 0 || (ns ≤ s.seenFree && sh + ns ≤ s.queueLimit q colour)

/-- Why R281 refuses a frame (R282). -/
def State.r282 (s : State) (d : Desc) : DropReason :=
  if d.colour ≠ 0 ∧ s.r281 d.q d.cells 0 then .colourDrop else .queueFull

/-- Whether a port has lost link and flushes what is queued for it (R161). -/
def State.linkFlushes (s : State) (p : Nat) : Bool := isEthPort p && !s.isSet (portLink p) && s.isSet (portFlush p)

/-- Whether BI drops a frame before applying R281: its port is disabled (R76), class 7 is closed (R135), or its port has
no link and flushes (R161). The eight queues of the Sideshow (port 101) are no classes, so queue 7 of port 101 is not
closed outside Performance (DEDUCED, notes/assumptions/60.md). -/
def State.portClosed (s : State) (d : Desc) : Bool :=
  d.port ≤ 100 && (!s.portOn d.port || (d.queue == 7 && s.mode != 2) || s.linkFlushes d.port)

/-- Whether a frame is spill-bound (R290). -/
def State.spillBound (s : State) (i q : Nat) : Bool :=
  s.isSet (BI.SPILL_CTL.EN i) && (!(s.bq q).dram.isEmpty || s.rd (BI.SPILL_CTL.ON i) ≤ s.seenCells q)

/-- Whether a spill-bound frame is admitted (R290): region room, staging, shared pool. A region of m MiB has 8,192 m
cells. -/
def State.spillRoom (s : State) (i n : Nat) : Bool :=
  s.rd (BI.SPILL_STAT.DRAM_CELLS i) + n ≤ ngetD s.bi.spillMib i 0 * 8192
    && s.rd BI.BUF_STAT.STAGE_USED + s.freedNow 816 + n ≤ s.rd BI.BUF_CFG.STAGE_MAX && n ≤ s.seenFree

/-- BI's decision on a frame. -/
def State.decide' (s : State) (d : Desc) : Except DropReason Place :=
  if s.portClosed d then .error .portDisabled
  else
    let onChip := fun (p : Place) => if s.r281 d.q d.cells d.colour then .ok p else .error (s.r282 d)
    match spillOf d.q with
    | some i =>
      if s.spillBound i d.q then (if s.spillRoom i d.cells then .ok .spill else .error .queueFull)
      else if !s.isSet (BI.SPILL_CTL.EN i) && s.isSet (BI.SPILL_STAT.ACTIVE i) then onChip .heldTail
      else onChip .head
    | none => onChip .head

/-- Count an admission (R545). -/
def State.countAdmit (s : State) (d : Desc) : State :=
  ((((s.cntQ d.q 0 1).cntQ d.q 1 d.bytes.length).cntP d.port 0 1).cntP d.port 1 d.bytes.length).count 8 0x100 1

/-- Where the regions of spill index `i` begin, and their cells (R289): ascending from SPILL_BASE with no gaps. -/
def State.spillStart (s : State) (i : Nat) : Nat :=
  s.bi.spillBase + ((List.range i).map fun j => ngetD s.bi.spillMib j 0).sum * 0x100000
def State.spillCells (s : State) (i : Nat) : Nat := ngetD s.bi.spillMib i 0 * 8192

/-- Ask DI for the cells of a frame: the region is a ring of cells, written and read in order. -/
def State.spillAsk (s : State) (i : Nat) (wr : Bool) (d : Desc) : State :=
  let at_ := if wr then ngetD s.di.spillPut i 0 else ngetD s.di.spillGot i 0
  let s1 := (List.range d.cells).foldl (fun s k =>
    s.dramAsk (if wr then .spillWr i else .spillRd i) wr (s.spillStart i + (at_ + k) % max 1 (s.spillCells i) * 128) 128
      (if wr then (sliceAt d.bytes (128 * k) 128 ++ List.replicate 128 0).take 128 else [])) s
  let next := (at_ + d.cells) % max 1 (s.spillCells i)
  if wr then { s1 with di := { s1.di with spillPut := nset s1.di.spillPut i next } }
  else { s1 with di := { s1.di with spillGot := nset s1.di.spillGot i next } }

/-- Cells of a spill queue's writes on their way to DI (rank 5). -/
def State.spillsUnderWay (s : State) (i : Nat) : Nat :=
  ((s.chan spillChan).inFlight.map fun x => match x with
    | .spill j d => if j = i then d.cells else 0
    | _ => 0).sum

/-- Mark the first entry of a list that a test admits. -/
def markFirst (p : Spilled → Bool) (f : Spilled → Spilled) : List Spilled → List Spilled
  | [] => []
  | e :: r => if p e then f e :: r else e :: markFirst p f r

/-- Give the oldest write of a spill queue that waits for it to the spill-write channel. -/
def State.spillSend (s : State) (i : Nat) : State :=
  let q := spillQueue i
  let b := s.bq q
  match b.dram.find? fun e => !e.asked with
  | some e =>
    if s.canSend spillChan then
      (s.setBq q { b with dram := markFirst (fun e => !e.asked) (fun e => { e with asked := true }) b.dram }).send spillChan
        (.spill i e.desc)
    else s
  | none => s

/-- Give waiting spill writes to the channel while BI holds credits for it (R55, R57): the spill queues in ascending order,
each one's frames in theirs. -/
def State.spillPump (s : State) : State :=
  (List.range 24).foldl (fun s i => (s.bq (spillQueue i)).dram.foldl (fun s _ => s.spillSend i) s) s

/-- Requests of one kind still waiting at DI. -/
def State.dramWaiting (s : State) (w : DramWho) : Nat := (s.di.queue.filter fun r => r.who == w).length

/-- Put an admitted frame into its place. -/
def State.place (s : State) (d : Desc) (p : Place) : State :=
  let b := s.bq d.q
  match p with
  | .head => (s.chargeDesc d).setBq d.q { b with head := b.head ++ [d] }
  | .heldTail =>
    let s1 := (s.chargeDesc d).setBq d.q { b with tail := b.tail ++ [d] }
    match spillOf d.q with
    | some i => s1.wr (BI.SPILL_STAT.HELD_TAIL i) 1
    | none => s1
  | .spill =>
    let s1 := (((s.stage d.cells).setBq d.q { b with dram := b.dram ++ [⟨d, false, false, false⟩] }).cntQ d.q 6 1).count 8 0x104
      d.cells
    match spillOf d.q with
    | some i => ((s1.addF (BI.SPILL_STAT.DRAM_CELLS i) d.cells).wr (BI.SPILL_STAT.ACTIVE i) 1).spillPump
    | none => s1

/-- A spill-bound frame that finds staging full is noted (BI.ADM_EVT). -/
def State.noteStage (s : State) (d : Desc) : State :=
  match spillOf d.q with
  | some i =>
    if s.spillBound i d.q && s.rd BI.BUF_CFG.STAGE_MAX < s.rd BI.BUF_STAT.STAGE_USED + s.freedNow 816 + d.cells then
      (s.wr BI.ADM_EVT.STAGE_FULL 1).raiseIf (!s.isSet BI.ADM_EVT.STAGE_FULL) 66
    else s
  | none => s

/-- A link-down port's flushed admissions count as LINK_FLUSHED too (R161). -/
def State.noteFlushed (s : State) (d : Desc) : State :=
  if d.port ≤ 100 && s.portOn d.port && s.linkFlushes d.port then s.cntPort d.port 12 1
  else s

/-- Decide one frame: take it, past the power coordinator (R167), or drop it. -/
def State.admitOne (s : State) (d : Desc) : State × Bool :=
  match s.decide' d with
  | .error .portDisabled => ((s.noteFlushed d).countDrop d .portDisabled, false)
  | .error .queueFull => ((s.noteStage d).countDrop d .queueFull, false)
  | .error r => (s.countDrop d r, false)
  | .ok p =>
    let (s1, d1) := s.coordinate d
    (((s1.countAdmit d1).place d1 p), true)

/-- The sampler of an admitted frame's ingress port (R323): the copy it makes is decided as a frame of its own. -/
def State.sampleCopy (s : State) (d : Desc) : State :=
  if d.copy || 100 < d.ingress || !s.isSet (BI.SMP_CFG.EN d.ingress) then s
  else
    let (chosen, s1) := s.stepSampler d.ingress
    if chosen then
      let egress := match d.side with
        | some m => m.egress
        | none => d.port
      (s1.admitOne (s1.sideDesc 3 0x08 egress d.epoch d.cls d.colour d.ingress 0xFFFF d.handle d.stamp true d.bytes)).1
    else s1

/-- Admission of a frame and of the sample it may give. -/
def State.admitFrame (s : State) (d : Desc) : State :=
  let (s1, ok) := s.admitOne { d with commits := none }
  if ok then s1.sampleCopy d else s1

/-- The oldest frame of a pipeline that has arrived at BI. -/
def State.arrivedAdmit (s : State) (k : Nat) : Option Desc :=
  (s.chan (admitChan k)).arrived.findSome? fun i => match i with
    | .admission d => some d
    | _ => none

/-- Whether frames of a packet are still on their way to BI. -/
def State.moreToCome (s : State) (k : Nat) (key : Nat × Nat) : Bool :=
  let v := s.chan (admitChan k)
  (s.pipe k).toBi.any (fun d => d.commits == some key) || (v.inFlight ++ v.arrived).any fun i => match i with
    | .admission d => d.commits == some key
    | _ => false

/-- Whether a frame on its way to BI is a trial frame that an abort discards (R207). -/
def State.abortDrops (s : State) (d : Desc) : Bool :=
  match d.commits with
  | some (src, seq) => s.isAborted src seq
  | none => false

/-- Whether a pipeline has had its decision of the present BI cycle. -/
def State.decided (s : State) (k : Nat) : Bool := ngetD s.bi.admAt k 0 == s.biCycle + 1

/-- Whether a pipeline's frame is decided now (R283): one per pipeline and BI cycle; where both present one, PA's first in
even cycles and PB's in odd ones. -/
def State.turnOf (s : State) (k : Nat) : Bool :=
  !s.decided k && (s.biCycle % 2 == k || s.decided (1 - k) || (s.arrivedAdmit (1 - k)).isNone)

/-- BI_ADMISSION (R281 to R283): one decision; the last frame of a packet commits its copy (R28, R69). -/
def State.biAdmission (s : State) (k : Nat) : State :=
  if 2 ≤ k || !s.islRuns 8 || !s.turnOf k then s
  else
    match s.arrivedAdmit k with
    | none => s
    | some d =>
      let s' := { s with bi := { s.bi with admAt := nset s.bi.admAt k (s.biCycle + 1) } }
      let s0 := s'.take (admitChan k) (.admission d)
      let s1 := if s.abortDrops d then s0.abortDrop 8 1 else s0.admitFrame d
      match d.commits with
      | some (src, seq) => if s1.moreToCome k (src, seq) then s1 else s1.commitCopy src seq
      | none => s1

def execBiAdmission (pipe t : Nat) (s : State) : Host.Outcome State Fault Refusal := .next ((s.begin t).biAdmission pipe)

/- ## Spill (R290 to R294) -/

/-- The DRAM segment of a spill queue may have become empty (R292): the held tail then joins the head segment (R294). -/
def State.spillSettle (s : State) (i : Nat) : State :=
  let q := spillQueue i
  let b := s.bq q
  if b.dram.isEmpty then
    (s.setBq q { b with head := b.head ++ b.tail, tail := [] }).wrs [(BI.SPILL_STAT.ACTIVE i, 0),
      (BI.SPILL_STAT.HELD_TAIL i, 0)]
  else s

/-- SPILL_WRITE_ACK (R290): the oldest unacknowledged frame's staging cells are free. -/
def State.spillAck (s : State) (i : Nat) : State :=
  let q := spillQueue i
  let b := s.bq q
  match b.dram.find? fun e => !e.acked with
  | some e =>
    let later := ((b.dram.filter fun e => !e.acked).map fun e => e.desc.cells).sum - e.desc.cells
    let unsent := ((b.dram.filter fun e => !e.asked).map fun e => e.desc.cells).sum
    if s.islRuns 8 && s.islRuns 9 && s.dramWaiting (.spillWr i) + s.spillsUnderWay i + unsent ≤ later then
      ((s.unstage e.desc.cells).take spillChan (.spill i e.desc)).setBq q { b with dram := markFirst (fun e => !e.acked) (fun e => { e with acked := true }) b.dram }
    else s
  | none => s

def execSpillWriteAck (spill t : Nat) (s : State) : Host.Outcome State Fault Refusal :=
  .next (let s0 := s.begin t; if spill < 24 then s0.spillAck spill else s0)

/-- Whether a spill queue may read its oldest frame back (R291): acknowledged, below SPILL_OFF, and the reserve has room. -/
def State.readable (s : State) (i : Nat) : Bool :=
  let q := spillQueue i
  match (s.bq q).dram with
  | e :: _ => e.acked && !e.reading
      && s.rd (BI.Q_OCC.CELLS q) + s.rd (BI.SPILL_STAT.RB i) < s.rd (BI.SPILL_CTL.OFF i)
      && s.rd BI.BUF_STAT.RESERVE_USED + e.desc.cells ≤ 512
  | [] => false

/-- SPILL_READBACK_START (R291): the oldest frame of the segment is read back into the return reserve, which the spill
queues share round-robin. -/
def State.spillRead (s0 : State) (i : Nat) : State :=
  let q := spillQueue i
  let b := s0.bq q
  let s := { s0 with bi := { s0.bi with spillRr := i } }
  match b.dram with
  | e :: r =>
    let n := e.desc.cells
    if s0.islRuns 8 && s0.islRuns 9 && roundRobin 24 s0.bi.spillRr s0.readable == some i then
      ((((s.addF BI.BUF_STAT.RESERVE_USED n).addF (BI.SPILL_STAT.RB i) n).count 8 0x105 n).setBq q
        { b with dram := { e with reading := true } :: r }).spillAsk i false e.desc
    else s0
  | [] => s0

def execSpillReadbackStart (spill t : Nat) (s : State) : Host.Outcome State Fault Refusal :=
  .next (let s0 := s.begin t; if spill < 24 then s0.spillRead spill else s0)

/-- SPILL_READBACK_DONE (R291, R293): the frame joins the head segment, or an uncorrectable one is dropped. -/
def State.spillDone (s0 : State) (i : Nat) : State :=
  let q := spillQueue i
  let bad := s0.di.spillBad.contains i
  let s := { s0 with di := { s0.di with spillBad := s0.di.spillBad.filter (· != i) } }
  let b := s.bq q
  match b.dram with
  | e :: r =>
    if e.reading && s.islRuns 8 && s.dramWaiting (.spillRd i) == 0 then
      let d := { e.desc with reserve := true }
      let s1 := s.wr (BI.SPILL_STAT.DRAM_CELLS i) (s.rd (BI.SPILL_STAT.DRAM_CELLS i) - d.cells)
      let s2 :=
        if bad then
          ((((s1.countDrop d .spillEcc).freeReserve q d.cells).wr BI.ADM_EVT.SPILL_ECC_SEEN 1).raiseIf
            (!s.isSet BI.ADM_EVT.SPILL_ECC_SEEN) 66).setBq q { b with dram := r }
        else (s1.addF (BI.Q_OCC.FRAMES q) 1).setBq q { b with head := b.head ++ [d], dram := r }
      s2.spillSettle i
    else s0
  | [] => s0

def execSpillReadbackDone (spill t : Nat) (s : State) : Host.Outcome State Fault Refusal :=
  .next (let s0 := s.begin t; if spill < 24 then s0.spillDone spill else s0)

end Sys2Proof.Machine
end

