-- ==== Sys2Proof/Machine/Schedule.lean ====
section
/-!
DEFINITION. The running schedule mode as data (R415 to R418): mode bodies, ring windows, port windows, and where they
fall in schedule time.
-/
namespace Sys2Proof.Machine

/-- A basic cycle in ns, and a matrix cycle (R415, R133). -/
def basicNs : Nat := 500000
def matrixNs : Nat := 32000000

/-- The number of the basic cycle at a schedule time, and its start. -/
def cycleAt (t : Nat) : Nat := t / basicNs % 64
def cycleStart (t : Nat) : Nat := t / basicNs * basicNs

/-- A little-endian field of a section body. -/
def bodyLe (b : Frame) (off n : Nat) : Nat := leNat (sliceAt b off n)

/-- A ring window (R416). -/
structure RingWindow where
  index : Nat
  start : Nat
  length : Nat
  kind : Nat
  owner : Nat
  slots : Nat
  payloadLen : Nat
  mask : Nat
deriving DecidableEq, Repr

/-- A port window (R416). -/
structure PortWindow where
  ports : Nat
  startNs : Nat
  lengthNs : Nat
  mask : Nat
deriving DecidableEq, Repr

def modeMatrixId (b : Frame) : Nat := bodyLe b 0 1

/-- The ring windows of a body. -/
def ringWindows (b : Frame) : List RingWindow :=
  (List.range (min 32 (bodyLe b 1 1))).map fun i =>
    let o := 0x40 + 32 * i
    ⟨i, bodyLe b o 4, bodyLe b (o + 4) 4, bodyLe b (o + 8) 1, bodyLe b (o + 9) 1, bodyLe b (o + 0xA) 1,
      bodyLe b (o + 0xC) 2, bodyLe b (o + 0x10) 8⟩

/-- The port windows of a body. -/
def portWindows (b : Frame) : List PortWindow :=
  (List.range (min 64 (bodyLe b 2 1))).map fun j =>
    let o := 0x440 + 32 * j
    ⟨bodyLe b o 16, bodyLe b (o + 0x10) 4, bodyLe b (o + 0x14) 4, bodyLe b (o + 0x18) 8⟩

/-- Whether a ring serves the device (MI.MODE_COND.RING_USED). -/
def State.ringUsed (s : State) : Bool := s.isSet MI.MODE_COND.RING_USED

/-- The body the current epoch holds for a schedule mode. -/
def State.modeBody (s : State) (m : Nat) : Option Frame := nget (s.bank s.curBank).modes m

/-- The running schedule mode: of the ring's markers, or BI.SCH_LOCAL without a ring (R438). -/
def State.runningMode (s : State) : Nat :=
  if s.ringUsed then s.rd RI.SCHED_STAT.MODE else s.rd BI.SCH_LOCAL.RUNNING

/-- The mode whose port windows are in force: from the boundary on at which an agreed mode applies (R436). -/
def State.portMode (s : State) : Nat := if s.ringUsed then s.rsch.portMode else s.rd BI.SCH_LOCAL.RUNNING

/-- The windows of a port under the running mode. -/
def State.windowsOf (s : State) (p : Nat) : List PortWindow :=
  match s.modeBody s.portMode with
  | some b => (portWindows b).filter fun w => bitOf w.ports p
  | none => []

/-- The window of a port that is open at `t` or opens next, within a matrix cycle: its open and close times (R418). -/
def State.nextWindow (s : State) (p t : Nat) : Option (Nat × Nat) :=
  let ws := s.windowsOf p
  (List.range 65).findSome? fun k =>
    let c := cycleStart t + k * basicNs
    ((ws.filter fun w => bitOf w.mask (cycleAt c) && t < c + w.startNs + w.lengthNs).foldl (fun best w =>
      match best with
      | some (o, _) => if c + w.startNs < o then some (c + w.startNs, c + w.startNs + w.lengthNs) else best
      | none => some (c + w.startNs, c + w.startNs + w.lengthNs)) none)

end Sys2Proof.Machine
end

