-- ==== Sys2Proof/Machine/Carousel.lean ====
section
/-!
DEFINITION. The Carousel (R305 to R310), the token buckets (R315 to R321), and the class-7 windows of the ports (R311,
R312, R314, R418).
-/
namespace Sys2Proof.Machine

/- ## Shapers (R315 to R321) -/

/-- A shaper nothing has touched. -/
def Shaper.fresh : Shaper := ⟨0, 0, false, false, false, false, false⟩
def State.shaper (s : State) (h : Nat) : Shaper := ngetD s.bi.shapers h Shaper.fresh
def State.setShaper (s : State) (h : Nat) (v : Shaper) : State := { s with bi := { s.bi with shapers := nset s.bi.shapers h v } }

/-- The index of a port's shaper. -/
def portShaper (p : Nat) : Nat := 816 + p

/-- Register fields of a bucket: the excess bucket when `e`, else the committed one. -/
def bucketF (e : Bool) (h : Nat) : Field := if e then BI.SHP_LVL.EB h else BI.SHP_LVL.CB h
def rateF (e : Bool) (h : Nat) : Field := if e then BI.SHP_EIR.RATE h else BI.SHP_CIR.RATE h
def burstF (e : Bool) (h : Nat) : Field := if e then BI.SHP_EBS.BURST h else BI.SHP_CBS.BURST h

/-- A queue's shaper level (R308): 0 C, 1 E, 2 none. -/
def State.queueLevel (s : State) (q : Nat) : Nat :=
  if !(s.shaper q).active then 0
  else if 0 ≤ s.rdS (BI.SHP_LVL.CB q) ∧ s.isSet (BI.SHP_CIR.RATE q) then 0
  else if 0 ≤ s.rdS (BI.SHP_LVL.EB q) ∧ s.isSet (BI.SHP_EIR.RATE q) then 1
  else 2

/-- Whether a port's shaper lets queues 0 to 6 go (R306, R317). -/
def State.portEligible (s : State) (p : Nat) : Bool :=
  let h := portShaper p
  !(s.shaper h).active || (decide (0 ≤ s.rdS (BI.SHP_LVL.CB h)) && s.isSet (BI.SHP_CIR.RATE h))

/-- Show the level of a shaper (BI.SHP_STAT). -/
def State.showLevel (s : State) (h : Nat) : State :=
  s.wr (BI.SHP_STAT.LEVEL h) (if h < 816 then s.queueLevel h else if s.rdS (BI.SHP_LVL.CB h) < 0 then 2 else 0)

/-- The lowest value of a bucket. -/
def bucketMin : Int := -2 ^ 31

/-- Charge a bucket (R315). -/
def State.chargeBucket (s : State) (e : Bool) (h b : Nat) : State :=
  let v := s.rdS (bucketF e h) - b
  let s1 := s.wrS (bucketF e h) (if v < bucketMin then bucketMin else v)
  (if v < bucketMin then s1.wr (if e then BI.SHP_STAT.SAT_E h else BI.SHP_STAT.SAT_C h) 1 else s1).showLevel h

/-- RATE; larger values act as 3,125,000 (R316). -/
def State.rate (s : State) (e : Bool) (h : Nat) : Nat := min 3125000 (s.rd (rateF e h))

/-- One bucket at a tick: FORGIVE (R318), refill (R316), clamp (R319): its value and accumulator. -/
def tickBucket (v : Int) (acc rate burst : Nat) (forgive clamp : Bool) : Int × Nat :=
  let v0 := if forgive then max v 0 else v
  let a := (if forgive then 0 else acc) + rate
  let v1 := v0 + (a / 1000 : Nat)
  let v2 := if (burst : Int) < v1 then max (burst : Int) v0 else v1
  let v3 := if clamp && decide ((burst : Int) < v2) && decide (0 < v2) then (burst : Int) else v2
  (v3, a % 1000)

/-- One enabled shaper at a refill tick; the shaper of a port has one bucket. -/
def State.tickOn (s : State) (h : Nat) : State :=
  let w := s.shaper h
  let (c, ac) := tickBucket (s.rdS (BI.SHP_LVL.CB h)) w.accC (s.rate false h) (s.rd (BI.SHP_CBS.BURST h)) w.forgiveC w.clampC
  let s1 := s.wrS (BI.SHP_LVL.CB h) c
  if h < 816 then
    let (e, ae) := tickBucket (s.rdS (BI.SHP_LVL.EB h)) w.accE (s.rate true h) (s.rd (BI.SHP_EBS.BURST h)) w.forgiveE w.clampE
    (s1.wrS (BI.SHP_LVL.EB h) e).setShaper h ⟨ac, ae, false, false, false, false, true⟩
  else s1.setShaper h ⟨ac, w.accE, false, false, false, false, true⟩

/-- One shaper at a refill tick: a disabled one has its gate removed and is frozen (R76, R320). -/
def State.tickShaper (s : State) (h : Nat) : State :=
  (if s.isSet (BI.SHP_CTL.EN h) then s.tickOn h else s.setShaper h { s.shaper h with active := false }).showLevel h

/-- SHAPER_REFILL_TICK (R316, R321). Shapers that nothing has touched hold no bytes and are disabled. -/
def State.refillTick (s : State) : State :=
  if s.islRuns 8 then s.bi.shapers.foldl (fun s e => s.tickShaper e.1) s else s

def execShaperRefillTick (t : Nat) (s : State) : Host.Outcome State Fault Refusal := .next ((s.begin t).refillTick)

/-- A write to RATE (R318): the bucket and ACC stay; FORGIVE acts at the next tick. -/
def State.rateWrite (s : State) (h : Nat) (e : Bool) (rate : Nat) (forgive : Bool) : State :=
  if 918 ≤ h || (e && 816 ≤ h) then s
  else
    let w := s.shaper h
    let w1 := if e then { w with forgiveE := w.forgiveE || forgive } else { w with forgiveC := w.forgiveC || forgive }
    ((s.wr (rateF e h) rate).setShaper h w1).showLevel h

def execShaperRateWrite (src : Src) (shaper : Nat) (excess : Bool) (rate : Nat) (forgive : Bool) (s : State) :
    Host.Outcome State Fault Refusal :=
  .next (s.quiet.regCmd src 8 ((if excess then 0x3A000 else 0x36000) + 8 * shaper) false fun s =>
    s.rateWrite shaper excess rate forgive)

/-- A write to BURST (R319): a positive bucket above it is cut at the next tick. -/
def State.burstWrite (s : State) (h : Nat) (e : Bool) (burst : Nat) : State :=
  if 918 ≤ h || (e && 816 ≤ h) then s
  else
    let w := s.shaper h
    (s.wr (burstF e h) burst).setShaper h (if e then { w with clampE := true } else { w with clampC := true })

def execShaperBurstWrite (src : Src) (shaper : Nat) (excess : Bool) (burst : Nat) (s : State) :
    Host.Outcome State Fault Refusal :=
  .next (s.quiet.regCmd src 8 ((if excess then 0x3C000 else 0x38000) + 8 * shaper) false fun s =>
    s.burstWrite shaper excess burst)

/- ## Selection (R305 to R310) -/

/-- A port nothing has been served on. -/
def CarPort.fresh : CarPort := ⟨0, 0, none, none, false, false, 0, 0, false⟩
def State.car (s : State) (p : Nat) : CarPort := ngetD s.bi.car p CarPort.fresh
def State.setCar (s : State) (p : Nat) (v : CarPort) : State := { s with bi := { s.bi with car := nput CarPort.fresh s.bi.car p v } }

/-- The frame at the head of a queue's head segment. -/
def State.headOf (s : State) (q : Nat) : Option Desc := (s.bq q).head.head?

/-- The charge of a frame (R307). -/
def State.charge (s : State) (d : Desc) : Nat := max 64 d.bytes.length + s.rd (BI.CAR_PORT.OVERHEAD d.port)

/-- QUANTUM, 0 acting as 64. -/
def State.quantum (s : State) (q : Nat) : Nat := if s.rd (BI.DWRR_Q.QUANTUM q) = 0 then 64 else s.rd (BI.DWRR_Q.QUANTUM q)

/-- The deficit a queue may hold. -/
def deficitMax : Nat := 2 ^ 17 - 1

/-- Deficit-weighted round-robin at one level (R309): the queue number 0 to 5 that sends, and the state with the
deficits, pointer and visit after the choice. -/
def State.dwrr (s : State) (p lvl : Nat) : Nat → Option Nat × State
  | 0 => (none, s)
  | n + 1 =>
    let c := s.car p
    let ptr := if lvl = 0 then c.ptrC else c.ptrE
    let visit := if lvl = 0 then c.visitC else c.visitE
    let ok := fun v => (s.headOf (8 * p + v)).isSome && s.queueLevel (8 * p + v) == lvl
    let moved : CarPort := if lvl = 0 then { c with ptrC := (ptr + 1) % 6, visitC := none }
      else { c with ptrE := (ptr + 1) % 6, visitE := none }
    let cost := fun v => match s.headOf (8 * p + v) with
      | some d => s.charge d
      | none => 0
    match visit with
    | some v =>
      if ok v && cost v ≤ s.rd (BI.DWRR_Q.DEFICIT (8 * p + v)) then
        (some v, s.wr (BI.DWRR_Q.DEFICIT (8 * p + v)) (s.rd (BI.DWRR_Q.DEFICIT (8 * p + v)) - cost v))
      else (s.setCar p moved).dwrr p lvl n
    | none =>
      if ok ptr then
        let s1 := s.wr (BI.DWRR_Q.DEFICIT (8 * p + ptr))
          (min deficitMax (s.rd (BI.DWRR_Q.DEFICIT (8 * p + ptr)) + s.quantum (8 * p + ptr)))
        (s1.setCar p (if lvl = 0 then { c with visitC := some ptr } else { c with visitE := some ptr })).dwrr p lvl n
      else (s.setCar p moved).dwrr p lvl n

/-- Whether some queue of 0 to 5 has a frame at a level. -/
def State.anyAt (s : State) (p lvl : Nat) : Bool :=
  (List.range 6).any fun v => (s.headOf (8 * p + v)).isSome && s.queueLevel (8 * p + v) == lvl

/-- Steps enough for the largest charge, 9,216 bytes and an OVERHEAD of 255, at a QUANTUM of 1: as many rounds of six
queues, two steps each. -/
def dwrrFuel : Nat := 12 * 9472

/-- Whether the Carousel serves queue 7 of a port: its window is near or open (R312); the ring ports hand class 7 to RI
(R311); port 101 has no windows (R310). Class 7 is closed outside Performance (R135). -/
def State.serves7 (s : State) (p : Nat) : Bool :=
  if p = 101 then true else s.mode == 2 && (p == 96 || p == 97 || (s.car p).service7)

/-- Whether queue 6 can be served. -/
def State.serves6 (s : State) (p : Nat) : Bool := s.portEligible p && s.queueLevel (8 * p + 6) != 2

/-- The queue that supplies the next frame (R305, R310). -/
def State.selectQueue (s : State) (p : Nat) : Option Nat × State :=
  let has := fun v => (s.headOf (8 * p + v)).isSome
  if s.serves7 p && has 7 then (some 7, s)
  else if s.serves6 p && has 6 then (some 6, s)
  else if s.portEligible p then
    if s.anyAt p 0 then s.dwrr p 0 dwrrFuel
    else if s.anyAt p 1 then s.dwrr p 1 dwrrFuel
    else (none, s)
  else (none, s)

/-- Charge the shapers of a frame that queue `v` of port `p` sends (R306, R308). Queue 7 is charged to the port shaper
only. -/
def State.chargeShapers (s : State) (p v b : Nat) : State :=
  let q := 8 * p + v
  let s1 :=
    if v == 7 || !(s.shaper q).active then s
    else s.chargeBucket (s.queueLevel q == 1) q b
  if (s.shaper (portShaper p)).active then s1.chargeBucket false (portShaper p) b else s1

/-- Whether the port can take a frame: a rank-7 credit, or, at port 101, an idle ring writer. -/
def State.portTakes (s : State) (p : Nat) : Bool :=
  if p = 101 then s.bi.ringWriter.isEmpty && s.bi.ringPut.isNone else s.canSend (egressChan p)

/-- Take the head frame of a queue; a queue that becomes empty has its deficit set to 0 (R309). -/
def State.popHead (s : State) (q : Nat) : State :=
  let b := s.bq q
  let s1 := s.setBq q { b with head := b.head.tail }
  if s1.bq q == BufQueue.empty then s1.wr (BI.DWRR_Q.DEFICIT q) 0 else s1

/-- CAROUSEL_SELECT (R305): the next frame of a port leaves its queue. -/
def State.carouselSelect (s : State) (p : Nat) : State :=
  if 102 ≤ p || !s.islRuns 8 || !s.portTakes p then s
  else
    match s.selectQueue p with
    | (none, _) => s
    | (some v, s1) =>
      match s1.headOf (8 * p + v) with
      | none => s
      | some d =>
        let s2 := (s1.chargeShapers p v (s1.charge d)).popHead (8 * p + v)
        if p = 101 then { s2 with bi := { s2.bi with ringWriter := s2.bi.ringWriter ++ [d] } }
        else s2.send (egressChan p) (.cells d)

def execCarouselSelect (port t : Nat) (s : State) : Host.Outcome State Fault Refusal :=
  .next ((s.begin t).carouselSelect port)

/- ## Class-7 windows (R312, R314, R418) -/

/-- The window of a MAC port that is open or next, in Performance; outside it class 7 is closed (R135). -/
def State.portWindow (s : State) (p t : Nat) : Option (Nat × Nat) :=
  if isEthPort p && s.mode == 2 then s.nextWindow p t else none

/-- CLASS7_SERVICE_START (R312): from 2 µs before the window opens. -/
def State.serviceStart (s : State) (p t : Nat) : State :=
  match s.portWindow p t with
  | some (o, c) => if o ≤ t + 2000 then s.setCar p { s.car p with service7 := true, openAt := o, closeAt := c } else s
  | none => s

def execClass7ServiceStart (port t : Nat) (s : State) : Host.Outcome State Fault Refusal :=
  .next (let s0 := s.begin t; s0.serviceStart port s0.time)

/-- GUARD of a port before a window (R314): the fixed time of a luminaire port, else that of the frame at the head of
the ordinary lane. -/
def State.guardNs (s : State) (p : Nat) : Nat :=
  if p < 96 then s.rd (BI.CAR_PORT.GUARD_NS p)
  else match (s.mac p).ordin with
    | d :: _ => s.txNs p (s.charge d)
    | [] => 0

/-- GUARD_START (R314): the guard band of a window has begun. -/
def State.guardStart (s : State) (p t : Nat) : State :=
  match s.portWindow p t with
  | some (o, c) =>
    if o ≤ t + s.guardNs p then s.setCar p { s.car p with guard := true, openAt := o, closeAt := c } else s
  | none => s

def execGuardStart (port t : Nat) (s : State) : Host.Outcome State Fault Refusal :=
  .next (let s0 := s.begin t; s0.guardStart port s0.time)

/-- PORT_WINDOW_OPEN (R418). -/
def State.windowOpen (s : State) (p t : Nat) : State :=
  match s.portWindow p t with
  | some (o, c) =>
    if o ≤ t ∧ t < c then
      (s.setCar p { s.car p with service7 := true, guard := true, openAt := o, closeAt := c, deferred := false }).wr
        (BI.CAR_PORT.WIN_OPEN p) 1
    else s
  | none => s

def execPortWindowOpen (port t : Nat) (s : State) : Host.Outcome State Fault Refusal :=
  .next (let s0 := s.begin t; s0.windowOpen port s0.time)

/-- Count a class-7 frame carried to a later window (R313). -/
def State.countDefer (s : State) (p : Nat) : State := s.addOvf (BI.CAR_PORT.C7_DEFER p) (BI.CAR_PORT.C7_DEFER_OVF p) 1 1

/-- The window of a port shuts: a frame still in the scheduled lane waits for the next one (R313). -/
def State.shutWindow (s : State) (p : Nat) : State :=
  let c := s.car p
  let s1 := if !(s.mac p).sched.isEmpty && !c.deferred && s.isSet (BI.CAR_PORT.WIN_OPEN p) then s.countDefer p else s
  (s1.setCar p { c with service7 := false, guard := false, deferred := false, openAt := 0, closeAt := 0 }).wr
    (BI.CAR_PORT.WIN_OPEN p) 0

/-- PORT_WINDOW_CLOSE (R418): the ordinary lane reopens. -/
def State.windowClose (s : State) (p t : Nat) : State :=
  if s.isSet (BI.CAR_PORT.WIN_OPEN p) && (s.car p).closeAt ≤ t then s.shutWindow p else s

def execPortWindowClose (port t : Nat) (s : State) : Host.Outcome State Fault Refusal :=
  .next (let s0 := s.begin t; if port < 102 then s0.windowClose port s0.time else s0)

/-- Shut every port window, at a mode change (R441) or when class 7 closes (R135). -/
def State.shutWindows (s : State) : State := s.bi.car.foldl (fun s e => s.shutWindow e.1) s

end Sys2Proof.Machine
end

