-- ==== Sys2Proof/Machine/Sideshow.lean ====
section
/-!
DEFINITION. The Sideshow's rings (R326 to R334): writing entries into receive rings, taking frames from injection
rings; and the seeds of the selectors (R324).
-/
namespace Sys2Proof.Machine

/- ## Selector seeds (R324) -/

/-- SELECTOR_SEED_WRITE: the LFSR takes the seed and the gap count is set. -/
def State.seedWrite (s : State) (sel : SelectorId) (seed : Nat) : State :=
  let v := seed % 2 ^ 32
  match sel with
  | .mirror m =>
    if m < 16 then
      let x := Selector.seed (s.rd (BI.MIR_CFG.N m)) (s.isSet (BI.MIR_CFG.MODE m)) v
      { s with bi := { s.bi with mirrors := nset s.bi.mirrors m x } }.wr (BI.MIR_SEED.SEED m) v
    else s
  | .sampler p =>
    if p < 101 then
      let x := Selector.seed (s.rd (BI.SMP_CFG.N p)) (s.isSet (BI.SMP_CFG.MODE p)) v
      { s with bi := { s.bi with samplers := nset s.bi.samplers p x } }.wr (BI.SMP_SEED.SEED p) v
    else s
  | .precise k =>
    if k < 2 then
      let x := Selector.seed (s.rd (P.PS_CFG.N k)) (s.isSet (P.PS_CFG.MODE k)) v
      (s.setPipe k { s.pipe k with sampler := x }).wr (P.PS_SEED.SEED k) v
    else s

/-- The island and offset of a selector's seed register. -/
def seedReg : SelectorId → Nat × Nat
  | .mirror m => (8, 0x40080 + 8 * m)
  | .sampler p => (8, 0x40500 + 8 * p)
  | .precise k => (5 + k, (P.PS_SEED.SEED k).off)

def execSelectorSeedWrite (src : Src) (sel : SelectorId) (seed : Nat) (s : State) : Host.Outcome State Fault Refusal :=
  .next (s.quiet.regCmd src (seedReg sel).1 (seedReg sel).2 false fun s => s.seedWrite sel seed)

/- ## Ring geometry (R330) -/

/-- SLOT_LOG2 and SIZE_LOG2, values outside their ranges acting as 8 and 4. -/
def State.slotLog2 (s : State) (r : Nat) : Nat :=
  let v := s.rd (BI.SS_RING_CFG.SLOT_LOG2 r)
  if 8 ≤ v ∧ v ≤ 14 then v else 8
def State.sizeLog2 (s : State) (r : Nat) : Nat :=
  let v := s.rd (BI.SS_RING_CFG.SIZE_LOG2 r)
  if 4 ≤ v ∧ v ≤ 16 then v else 4

/-- The address of a slot. -/
def State.slotAddr (s : State) (r i : Nat) : Nat :=
  s.rd (BI.SS_RING_BASE.BASE r) / 2 ^ s.slotLog2 r * 2 ^ s.slotLog2 r + i % 2 ^ s.sizeLog2 r * 2 ^ s.slotLog2 r

/-- How many slots of a ring are handed over. -/
def State.ringFill (s : State) (r : Nat) : Nat :=
  (s.rd (BI.SS_RING_PROD.INDEX r) + 2 ^ 32 - s.rd (BI.SS_RING_CONS.INDEX r)) % 2 ^ 32

/-- Whether a ring's memory is reached: host memory needs the PCIe link (16_management_core.md). -/
def State.ringReachable (s : State) (r : Nat) : Bool := !s.isSet (BI.SS_RING_CFG.TARGET r) || s.isSet MI.PCIE_STAT.LINK_UP

/-- Write into a ring's memory: host memory by posted writes (R332), SRAM at once, DRAM by requests of MI (R339). -/
def State.ringMemWrite (s : State) (r a : Nat) (l : Frame) : State :=
  if s.isSet (BI.SS_RING_CFG.TARGET r) then s.hostPost a l else s.busWrite (.entry r) a l

/- ## Receive rings (R327, R328, R331) -/

/-- CAP_LEN of an entry in a ring (R327). -/
def State.capLen (s : State) (r : Nat) (d : Desc) : Nat := min d.bytes.length (2 ^ s.slotLog2 r - 32)

/-- The 32-byte metadata header (R328). -/
def sideHeader (d : Desc) (m : SideMeta) (cap seq : Nat) : Frame :=
  beBytes 1 (0x10 + m.kind) ++ beBytes 1 m.reason ++ beBytes 1 d.ingress ++ beBytes 1 m.egress
    ++ beBytes 1 (d.epoch % 16 * 16 + d.cls % 8 * 2 + if cap < m.origLen then 1 else 0)
    ++ beBytes 1 (d.colour % 4 * 64) ++ beBytes 2 m.origLen ++ beBytes 2 cap ++ beBytes 2 m.ruleIndex
    ++ beBytes 4 d.handle ++ beBytes 8 d.stamp ++ beBytes 4 seq ++ beBytes 4 0

/-- Discard an entry (R331). -/
def State.sideDiscard (s : State) (r : Nat) (d : Desc) : State :=
  let s1 := ((s.addOvf (BI.SS_RING_STAT.DISCARD r) (BI.SS_RING_STAT.CNT_OVF r) 1 1).count 8 0x107 1).releaseDesc d
  (s1.wr (BI.SS_RING_STAT.DISCARD_SEEN r) 1).raiseIf (!s.isSet (BI.SS_RING_STAT.DISCARD_SEEN r)) 69

/-- The confirmed sending of a frame: counted, and its cells freed (R28, R545). -/
def State.confirmDesc (s : State) (d : Desc) : State :=
  ((s.cntQ d.q 4 1).cntQ d.q 5 d.bytes.length).releaseDesc d

/-- An entry has been written: PROD advances; local source 4 rises if no enabled ring had entries. -/
def State.sideFinish (s : State) (r : Nat) (d : Desc) : State :=
  let quiet := (List.range 8).all fun i => !s.isSet (BI.SS_RING_CFG.EN i) || s.ringFill i == 0
  (((s.addF (BI.SS_RING_PROD.INDEX r) 1).count 8 0x106 1).confirmDesc d).raiseIf quiet 68

/-- Write an entry into the slot PROD names, then advance PROD: for a ring in DRAM once its requests have been served. -/
def State.sideStore (s : State) (r : Nat) (d : Desc) (m : SideMeta) (seq : Nat) : State :=
  let cap := s.capLen r d
  let s1 := s.ringMemWrite r (s.slotAddr r (s.rd (BI.SS_RING_PROD.INDEX r))) (sideHeader d m cap seq ++ d.bytes.take cap)
  if s1.busWaits (.entry r) then { s1 with bi := { s1.bi with ringPut := some (r, d) } } else s1.sideFinish r d

/-- The requests of an entry have been served. -/
def State.sideLanded (s : State) (r : Nat) : State :=
  match s.bi.ringPut with
  | some (q, d) =>
    if q = r ∧ s.busWaits (.entry r) = false then ({ s with bi := { s.bi with ringPut := none } }).sideFinish r d else s
  | none => s

/-- SIDESHOW_RING_WRITE (R331): the ring writer handles the entry it holds. RING_SEQ counts every entry of the ring's
queue, this one included. -/
def State.sideWrite (s : State) (r : Nat) : State :=
  match s.bi.ringWriter with
  | d :: rest =>
    if d.queue = r && s.islRuns 8 && s.bi.ringPut.isNone then
      let seq := (ngetD s.bi.ringSeq r 0 + 1) % 2 ^ 32
      let s1 := { s with bi := { s.bi with ringWriter := rest, ringSeq := nset s.bi.ringSeq r seq } }
      match d.side with
      | some m =>
        if s1.isSet (BI.SS_RING_CFG.EN r) && s1.ringFill r != 2 ^ s1.sizeLog2 r && s1.ringReachable r then s1.sideStore r d m seq
        else s1.sideDiscard r d
      | none => s1.sideDiscard r d
    else s
  | [] => s

def execSideshowRingWrite (ring t : Nat) (s : State) : Host.Outcome State Fault Refusal :=
  .next ((s.begin t).sideWrite ring)

/- ## Injection rings (R333, R334) -/

/-- INJECT_PROD_ADVANCE: the core's ring is ring 8, the host's ring 9. -/
def execInjectProdAdvance (src : Src) (ring prod : Nat) (s : State) : Host.Outcome State Fault Refusal :=
  .next (
    let off := 0x50110 + 0x20 * ring
    s.quiet.guarded src .store 8 off fun s =>
      if !s.islUp 8 then s
      else if (ring = 8 ∧ src ≠ .host) ∨ (ring = 9 ∧ src = .host) then (s.counted 8).wr (BI.SS_RING_PROD.INDEX ring) prod
      else s.unmapped src 8 off)

/-- An injection descriptor (R333). -/
structure Inject where
  direct : Bool
  trial : Bool
  pipe : Nat
  ingress : Nat
  egress : Nat
  cls : Nat
  colour : Nat
  len : Nat
deriving DecidableEq, Repr

def injectOf (h : Frame) : Inject :=
  let b := fun i => (h.getD i 0).toNat
  ⟨bitOf (b 1) 0, bitOf (b 1) 1, bitsOf (b 1) 2 1, b 2, b 3, bitsOf (b 4) 1 3, bitsOf (b 5) 6 2, b 6 * 256 + b 7⟩

/-- Whether R334 accepts a descriptor in a slot of `slot` bytes: version, reserved bits, DIRECT with TRIAL, ranges. The
fields of DIRECT count only with DIRECT. -/
def injectGood (h : Frame) (slot : Nat) : Bool :=
  let b := fun i => (h.getD i 0).toNat
  let d := injectOf h
  let longest := if d.direct then portMax d.egress else 9216
  b 0 == 0x10 && b 1 < 8 && (h.drop 8).all (· == 0) && !(d.direct && d.trial) && d.ingress ≤ 101
    && (!d.direct || (d.egress ≤ 100 && b 4 / 16 == 0 && b 4 % 2 == 0 && b 5 % 64 == 0 && d.colour != 3))
    && 60 ≤ d.len && d.len ≤ min (longest - 4) (slot - 32)

/-- Hand over an injected frame (R334). -/
def State.inject (s : State) (d : Inject) (l : Frame) : State :=
  if d.direct then
    let f := { (plainDesc d.egress d.cls d.cls d.colour 101 s.curEpoch (s.freeVal % 2 ^ 32) s.time false (withFcs l)) with
      commits := none }
    s.tookFree.admitFrame f
  else s.hold (110 + d.pipe) d.ingress (withFcs l) s.time d.trial

/-- Take the slot of an injection ring whose bytes have come; one that reads uncorrectable from DRAM is a bad descriptor. -/
def State.injectTake (s : State) (r : Nat) (raw : Frame) (bad : Bool) : State :=
  let h := raw.take 32
  let s1 :=
    if injectGood h (2 ^ s.slotLog2 r) && !bad then s.inject (injectOf h) (sliceAt raw 32 (injectOf h).len)
    else
      ((s.addOvf (BI.SS_RING_STAT.BAD_DESC r) (BI.SS_RING_STAT.CNT_OVF r) 1 1).wr (BI.SS_RING_STAT.BAD_DESC_SEEN r) 1).raiseIf
        (!s.isSet (BI.SS_RING_STAT.BAD_DESC_SEEN r)) 69
  s1.addF (BI.SS_RING_CONS.INDEX r) 1

/-- The requests of an injection slot have been served. -/
def State.injectLanded (s : State) (r : Nat) : State :=
  if s.busWaits (.inject r) then s
  else
    let a := s.slotAddr r (s.rd (BI.SS_RING_CONS.INDEX r)) - 0x80000000
    let raw := s.gotBytes (.inject r) a (2 ^ s.slotLog2 r)
    let bad := s.gotBad (.inject r)
    let s1 := s.busDrop (.inject r)
    if s.bi.injWait.contains r then
      let s2 := { s1 with bi := { s1.bi with injWait := s1.bi.injWait.erase r } }
      if s2.isSet (BI.SS_RING_CFG.EN r) then s2.injectTake r raw bad else s2
    else s1

/-- INJECT_DESCRIPTOR (R333, R334): the device takes the next slot of an injection ring; a slot in DRAM is asked for (R339). -/
def State.injectNext (s : State) (r : Nat) : State :=
  if (r == 8 || r == 9) && s.islRuns 8 && s.isSet (BI.SS_RING_CFG.EN r) && s.ringFill r != 0 && s.ringReachable r
      && !s.bi.injWait.contains r then
    let slot := 2 ^ s.slotLog2 r
    let a := s.slotAddr r (s.rd (BI.SS_RING_CONS.INDEX r))
    if s.isSet (BI.SS_RING_CFG.TARGET r) then s.injectTake r (s.hostRead a slot) false
    else if s.inFixed a slot then
      { s with bi := { s.bi with injWait := r :: s.bi.injWait } }.dramAsk (.inject r) false (a - 0x80000000) slot []
    else s.injectTake r (s.coreRead a slot) false
  else s

def execInjectDescriptor (ring t : Nat) (s : State) : Host.Outcome State Fault Refusal := .next ((s.begin t).injectNext ring)

end Sys2Proof.Machine
end

