-- ==== Sys2Proof/Machine/Journal.lean ====
section
/-!
DEFINITION. The flash controller and the journal's queue (18_persistence.md): the watchdog's count, the hold-up check (R513 to
R515), the controller (R511, R512), and appending (R518 to R523).
-/
namespace Sys2Proof.Machine

/- ## The watchdog's count (R486, R489) -/

/-- Whether REMAIN stands still: disabled, halted by the debug module, or suspended by an erase. -/
def State.wdtStopped (s : State) : Bool := !s.isSet MI.WDT_CFG.EN || s.mg.halted || s.isSet MI.WDT_STAT.ERASE_SUSP

/-- Bring REMAIN up to the present: one less for every ms counted. -/
def State.wdtSync (s : State) : State :=
  if s.wdtStopped then { s with mg := { s.mg with wdtAt := s.now } }
  else
    let ms := (s.now - s.mg.wdtAt) / 1000000
    { s.wr MI.WDT_STAT.REMAIN (s.rd MI.WDT_STAT.REMAIN - ms) with mg := { s.mg with wdtAt := s.mg.wdtAt + ms * 1000000 } }

/-- A suspension has ended: REMAIN is raised to GRACE_MS, 0 acting as 1 (R489). -/
def State.wdtResume (s : State) : State :=
  if s.mg.halted || s.isSet MI.WDT_STAT.ERASE_SUSP then s
  else s.wr MI.WDT_STAT.REMAIN (max (s.rd MI.WDT_STAT.REMAIN) (max 1 (s.rd MI.WDT_CFG.GRACE_MS)))

/-- An erase starts to suspend the watchdog, or stops doing so. -/
def State.eraseSuspends (s : State) (b : Bool) : State :=
  let was := s.isSet MI.WDT_STAT.ERASE_SUSP
  let s1 := (s.wdtSync.flag MI.WDT_STAT.ERASE_SUSP b).flag MI.FLASH_STAT.ERASING b
  if was && !b then s1.wdtResume else s1

/- ## The hold-up check (R514) -/

/-- What a store needs, in quarters of a mJ (table "Worst-case store energy"). -/
inductive Store where
  | program | erase4k | erase64k | flush | fuse
deriving DecidableEq, Repr

def Store.required : Store → Nat
  | .program => 8109
  | .erase4k => 71232
  | .erase64k => 325632
  | .flush => 7632
  | .fuse => 9222

/-- Twice the available energy, in 10⁻¹⁵ mJ: HOLDUP_CAP × (V² − VMIN²), with V in µV; 0 below VMIN. Without a sample of
channel 11, V is 0. -/
def State.energy2 (s : State) : Nat :=
  let v := s.rd MI.HU_CFG.SCALE * (match s.mg.sense with
    | [] => 0
    | [a] => a
    | a :: b :: _ => min a b)
  let w := s.rd MI.HU_CFG.VMIN_MV * 1000
  s.rd MI.HU_CFG.CAP_UF * (v * v - w * w)

/-- The hold-up check: whether a store may start. A deferral is counted and logged (R514, R536). -/
def State.holdup (s : State) (k : Store) : Bool × State :=
  let e := s.energy2
  let s1 := s.wr MI.HU_STAT.E_MJ (e / 2000000000000000)
  if k.required * 1000000000000000 ≤ 2 * e ∧ s.rd MI.HU_CFG.CAP_UF ≠ 0 then (true, s1)
  else
    (false, (((s1.addOvf MI.HU_STAT.DEFER_CNT MI.HU_STAT.OVF 1 1).wr MI.HU_STAT.DEFERRED_SEEN 1).logEvent 0x103 1))

/-- Stores are refused: PF = 1, or no 1 ms step with PF = 0 has come since (R517). -/
def State.pfRefuses (s : State) : Bool := s.isSet MI.HU_STAT.PF || s.fl.pfHold

/-- Recovery (R130). -/
def State.inRecovery (s : State) : Bool := s.boot.recovery

/- ## Flash layout (R511) -/

/-- Whether the layout is that of a 64 or 128 MiB part. -/
def State.bigFlash (s : State) : Bool := 64 ≤ s.rd MI.FLASH_STAT.SIZE_MIB
def State.flashBytes (s : State) : Nat := s.rd MI.FLASH_STAT.SIZE_MIB * 0x100000
def State.slotSize (s : State) : Nat := if s.bigFlash then 0x1000000 else 0xC00000
def State.jnlBase (s : State) : Nat := if s.bigFlash then 0x2000000 else 0x1800000
def State.storeBase (s : State) : Nat := if s.bigFlash then 0x2800000 else 0x1E00000
def State.storeSize (s : State) : Nat := if s.bigFlash then 0x200000 else 0x1F0000
def State.bootBase (s : State) : Nat := if s.bigFlash then 0x2A00000 else 0x1FF0000

/-- A program clears bits and never sets them (serial NOR). -/
def State.flashProgram (s : State) (a : Nat) (l : Frame) : State :=
  s.flashWrite a (List.zipWith (· &&& ·) (s.flashRead a l.length) l)

/-- An erase sets every byte of an area to 0xFF: the area is unlisted. -/
def State.flashErase (s : State) (a n : Nat) : State :=
  { s with flash := s.flash.filter fun c => decide (c.1 < a ∨ a + n ≤ c.1) }

/- ## Journal records (R518) -/

/-- Whether a slot's bytes are erased, and whether its check is good. -/
def recErased (r : Frame) : Bool := r.all (· == 0xFF)
def recGood (r : Frame) : Bool := leNat (sliceAt r 60 4) == crc32c (r.take 60)
def recSeq (r : Frame) : Nat := leNat (r.take 4)
def recType (r : Frame) : Nat := (r.getD 4 0).toNat

/-- TYPE values that an append takes (table "Record types"). -/
def recTypeOk (t : Nat) : Bool := (1 ≤ t && t ≤ 6) || (0x80 ≤ t && t ≤ 0xFE)

/-- Give a record its CRC. -/
def recSeal (r : Frame) : Frame := r.take 60 ++ leBytes 4 (crc32c (r.take 60))

/-- The record an append queues: SEQ, TIME, FLAGS.DEVICE and CRC are the device's (R520). -/
def recFill (r : Frame) (seq time : Nat) (device : Bool) : Frame :=
  let f := (r.getD 6 0).toNat
  recSeal (leBytes 4 seq ++ sliceAt r 4 2 ++ [BitVec.ofNat 8 (f - f / 2 % 2 * 2 + device.toNat * 2)] ++ sliceAt r 7 1
    ++ leBytes 8 time ++ sliceAt r 16 44)

/-- A record of the device's own, before it is filled. -/
def recNew (ty : Nat) (payload : Frame) : Frame :=
  (leBytes 4 0 ++ leBytes 1 ty ++ leBytes 1 1 ++ leBytes 2 0 ++ leBytes 8 0 ++ payload ++ List.replicate 60 0).take 64

/-- Serial arithmetic: `a` is newer than `b`. -/
def serialNewer (a b : Nat) : Bool := let d := (a + 2 ^ 32 - b) % 2 ^ 32; 0 < d && d < 2 ^ 31

/-- The newest of a list of sequence numbers. -/
def serialNewest : List Nat → Option Nat
  | [] => none
  | a :: r => some (match serialNewest r with
    | some b => if serialNewer b a then b else a
    | none => a)

/- ## Journal space (R519, R521, R523) -/

def jnlSlots : Nat := 65536

/-- A journal slot's bytes. -/
def State.jnlSlot (s : State) (i : Nat) : Frame := s.flashRead (s.jnlBase + i % jnlSlots * 64) 64

/-- Blocks of 64 KiB that are not in use. -/
def State.jnlFree (s : State) : Nat := 64 - s.fl.inUse

/-- The erased slots ahead of the head: those left in its block, and those of the free blocks. -/
def State.jnlAhead (s : State) : Nat :=
  match s.fl.head with
  | some h => s.jnlFree * 1024 + (if h % 1024 = 0 then 0 else 1024 - h % 1024)
  | none => 0

/-- Publish FREE_BLOCKS, and LOW as the space falls below LOW_KIB (R523). -/
def State.jnlSpace (s : State) : State :=
  let low := s.fl.head.isSome && s.jnlAhead * 64 < s.rd MI.JNL_CFG.LOW_KIB * 1024
  let s1 := { s.wr MI.JNL_STAT.FREE_BLOCKS s.jnlFree with fl := { s.fl with low := low } }
  if low && !s.fl.low then (s1.wr MI.JNL_STAT.LOW 1).raiseIf (!s.isSet MI.JNL_STAT.LOW) 14 else s1

/-- Publish QUEUED and DURABLE_SEQ: every accepted record before the oldest queued one is durable (R520). -/
def State.jnlCounts (s : State) : State :=
  (s.wr MI.JNL_STAT.QUEUED s.fl.queue.length).wr MI.JNL_SEQ.DURABLE_SEQ
    (match s.fl.queue.find? fun e => !e.copy with
     | some e => (e.seq + 2 ^ 32 - 1) % 2 ^ 32
     | none => s.rd MI.JNL_SEQ.LAST_SEQ)

/- ## The controller (R512): one operation at a time, journal programs first between operations -/

/-- Set a flag of FLASH_STAT that raises interrupt 13. -/
def State.flashNote (s : State) (f : Field) : State := (s.wr f 1).raiseIf (!s.isSet f) 13

/-- Start an operation. -/
def State.flashStart (s : State) (o : FlashOp) : State :=
  let s1 := { s with fl := { s.fl with op := some o, opSince := s.now } }
  match o with
  | .erase _ _ _ => s1.eraseSuspends true
  | _ => s1

/-- The figure an operation needs; a journal program during the flush needs the flush figure (R522). -/
def State.storeOf (s : State) (o : FlashOp) : Store :=
  match o with
  | .erase _ _ n => if n = 4096 then .erase4k else .erase64k
  | .program _ _ _ => .program
  | .journal _ _ => if s.isSet MI.HU_STAT.PF then .flush else .program

/-- The next journal program, if records and erased space wait: as many records as one flash page takes (R520). -/
def State.jnlNext (s : State) : Option FlashOp :=
  match s.fl.head with
  | some h =>
    let n := min (min s.fl.queue.length (4 - h % 4)) s.jnlAhead
    if n = 0 ∨ s.fl.jWait = true then none else some (.journal h ((s.fl.queue.take n).map (·.raw)))
  | none => none

/-- A deferred journal program is retried at the next 1 ms step; a deferred flush is short (R515, R522). -/
def State.jnlDefer (s : State) : State :=
  let s1 := { s with fl := { s.fl with jWait := true } }
  if s.isSet MI.HU_STAT.PF && !s.isSet MI.HU_STAT.FLUSH_SHORT then
    ((s1.wr MI.HU_STAT.FLUSH_SHORT 1).raise 14).logEvent 0x105 1
  else s1

/-- Start the boot ROM's trial mark (R534); it was checked when it was decided. -/
def State.flashThenTries (s : State) : State :=
  match s.fl.op, s.fl.wantTries with
  | none, some a => ({ s with fl := { s.fl with wantTries := none } }).flashStart (.program false a [0])
  | _, _ => s

/-- Start firmware's operation, or end it deferred (R515). -/
def State.flashThenFirmware (s : State) : State :=
  match s.fl.op, s.fl.want with
  | none, some o =>
    let s0 := { s with fl := { s.fl with want := none } }
    let (ok, s1) := s0.holdup (s0.storeOf o)
    if ok then s1.flashStart o else (s1.wr MI.FLASH_STAT.BUSY 0).flashNote MI.FLASH_STAT.DEFERRED
  | _, _ => s

/-- Start ERASE_OLDEST; a deferred one is dropped, and firmware reissues it. -/
def State.flashThenOldest (s : State) : State :=
  if s.fl.op.isNone && s.fl.wantOldest then
    let (ok, s1) := ({ s with fl := { s.fl with wantOldest := false } }).holdup .erase64k
    if ok then s1.flashStart (.erase false (s.jnlBase + s.fl.oldest * 0x10000) 0x10000) else s1
  else s

/-- The controller takes its next operation, journal programs first. -/
def State.flashPump (s : State) : State :=
  if s.fl.op.isSome then s
  else
    match s.jnlNext with
    | some o =>
      let (ok, s1) := s.holdup (s.storeOf o)
      if ok then s1.flashStart o else s1.jnlDefer.flashThenTries.flashThenFirmware.flashThenOldest
    | none => s.flashThenTries.flashThenFirmware.flashThenOldest

/-- Refuse a command with a code (R512). -/
def State.flashRefuse (s : State) (code : Nat) : State := (s.wr MI.FLASH_STAT.REFUSE code).flashNote MI.FLASH_STAT.REFUSED

/-- Whether an area meets another. -/
def meets (a n b m : Nat) : Bool := a < b + m && b < a + n

/-- Areas no command of firmware touches: the journal, and the slot the image came from (R512). -/
def State.flashGuarded (s : State) (a n : Nat) : Bool :=
  meets a n s.jnlBase 0x400000
    || (s.rd MI.BOOT_STAT.SLOT_LOADED == 0 && meets a n 0 s.slotSize)
    || (s.rd MI.BOOT_STAT.SLOT_LOADED == 1 && meets a n s.slotSize s.slotSize)

/-- The reason for which R512 refuses a command, the first of its table that holds. -/
def State.flashRefusal (s : State) (src : Src) (o : Nat) (a n srcA : Nat) : Option Nat :=
  if (o = 1 ∧ a % 256 + n > 256) ∨ (o ≠ 1 ∧ a % n ≠ 0) ∨ s.flashBytes < a + n then some 1
  else if s.pfRefuses then some 2
  else if s.flashGuarded a n then some 3
  else if o = 1 ∧ inSram srcA n = false then some 4
  else if src = .coreU ∨ (src = .host ∧ s.inRecovery = false) then some 5
  else none

/-- A GO on MI.FLASH_CMD (R512): refused, ignored while BUSY, or accepted and started once the controller is free. -/
def State.flashGo (s : State) (src : Src) (o lenM1 : Nat) : State :=
  if s.isSet MI.FLASH_STAT.BUSY then s
  else
    let a := s.rd MI.FLASH_ADDR.ADDR
    let n := if o = 1 then lenM1 % 256 + 1 else if o = 2 then 4096 else 65536
    let from_ := s.rd MI.FLASH_SRC.ADDR / 4 * 4
    match s.flashRefusal src o a n from_ with
    | some c => s.flashRefuse c
    | none =>
      let op := if o = 1 then .program true a (s.sramRead (from_ - 0x10000000) n) else .erase true a n
      ({ s.wr MI.FLASH_STAT.BUSY 1 with fl := { s.fl with want := some op } }).flashPump

/-- A write of MI.FLASH_CMD with GO: OP and LEN_M1 are written; the host's counts as refused outside recovery. -/
def State.flashCmd (s : State) (src : Src) (o lenM1 : Nat) : State :=
  s.guarded src .store 0 0x9000 fun s =>
  if !s.islUp 0 then s
  else if src = .host ∧ s.inRecovery = false then (s.unmapped src 0 0x9000).flashRefuse 5
  else ((s.counted 0).wrs [(MI.FLASH_CMD.OP, o), (MI.FLASH_CMD.LEN_M1, lenM1)]).flashGo src o lenM1

def execFlashProgram (src : Src) (lenM1 t : Nat) (s : State) : Host.Outcome State Fault Refusal :=
  .next ((s.begin t).flashCmd src 1 lenM1)
def execFlashErase4k (src : Src) (lenM1 t : Nat) (s : State) : Host.Outcome State Fault Refusal :=
  .next ((s.begin t).flashCmd src 2 lenM1)
def execFlashErase64k (src : Src) (lenM1 t : Nat) (s : State) : Host.Outcome State Fault Refusal :=
  .next ((s.begin t).flashCmd src 3 lenM1)

/-- A block of the journal has been erased: it was the oldest in use. -/
def State.jnlErased (s : State) (a : Nat) : State :=
  if a = s.jnlBase + s.fl.oldest * 0x10000 ∧ 0 < s.fl.inUse then
    ({ s with fl := { s.fl with oldest := (s.fl.oldest + 1) % 64, inUse := s.fl.inUse - 1 } }).jnlSpace
  else s

/-- The effect of a program or erase that completes; DONE is for firmware's (R512). The instruction cache is
invalidated (R468). -/
def State.flashFinish (s : State) : State :=
  let fin := fun (s : State) (fw : Bool) =>
    let s1 := { s with fl := { s.fl with op := none }, mg := { s.mg with icache := false } }
    if fw then (s1.wr MI.FLASH_STAT.BUSY 0).flashNote MI.FLASH_STAT.DONE else s1
  match s.fl.op with
  | some (.program fw a l) => fin (s.flashProgram a l) fw
  | some (.erase fw a n) =>
    let s1 := fin ((s.flashErase a n).eraseSuspends false) fw
    if fw then s1 else s1.jnlErased a
  | _ => s

/-- FLASH_OP_DONE: a program or erase that is not the journal's completes, and the next operation starts. -/
def execFlashOpDone (t : Nat) (s : State) : Host.Outcome State Fault Refusal := .next ((s.begin t).flashFinish.flashPump)

/- ## Appending (R520, R521) -/

/-- Why an append is refused: QUEUE_FULL or NO_SPACE (R521). -/
def State.jnlRefusal (s : State) : Option Nat :=
  if 64 ≤ s.fl.queue.length then some 1
  else if s.jnlAhead < s.fl.queue.length + 1 then some 2
  else none

/-- Queue a record. -/
def State.jnlQueue (s : State) (e : JnlEntry) : State :=
  (({ s with fl := { s.fl with queue := s.fl.queue ++ [e] } }).jnlCounts).flashPump

/-- Queue a new record under the next SEQ. -/
def State.jnlAppend (s : State) (r : Frame) (device : Bool) : State :=
  let q := s.fl.nextSeq
  let s1 := { s.wr MI.JNL_SEQ.LAST_SEQ q with fl := { s.fl with nextSeq := (q + 1) % 2 ^ 32 } }
  s1.jnlQueue ⟨q, recFill r q s.time device, false⟩

/-- A record of the device's own; a refused one is counted LOST (R521). -/
def State.jnlDevice (s : State) (ty : Nat) (payload : Frame) : State :=
  if s.fl.head.isSome && s.jnlRefusal.isNone then s.jnlAppend (recNew ty payload) true
  else
    (((s.addOvf MI.JNL_STAT.LOST MI.JNL_STAT.OVF 1 1).wr MI.JNL_STAT.LOST_SEEN 1).raiseIf
      (!s.isSet MI.JNL_STAT.LOST_SEEN) 14).logEvent 0x104 1

/-- Whether a record of the device's own would be taken. -/
def State.jnlTakes (s : State) : Bool := s.fl.head.isSome && s.jnlRefusal.isNone

end Sys2Proof.Machine
end

