-- ==== Sys2Proof/Machine/ModeOps.lean ====
section
/-!
DEFINITION. What several families share of the operating modes: class 7 closing (R135), device-built Poran frames (R442,
R447), the safe scene (R138), emergency bursts (R459), entry to Safety Net (R137), the triggers (R136, R142, R143), and
JOIN_OK.
-/
namespace Sys2Proof.Machine

/- ## Poran frames the device builds (R442, R459) -/

/-- The 24-byte Poran payload. -/
def poranPayload (ty flags seq group scene level cct fade act : Nat) : Frame :=
  beBytes 1 (0x10 + ty) ++ beBytes 1 flags ++ beBytes 2 seq ++ beBytes 2 group ++ beBytes 1 scene ++ beBytes 1 0
    ++ beBytes 2 level ++ beBytes 2 cct ++ beBytes 2 fade ++ beBytes 2 0 ++ beBytes 8 act

/-- An untagged frame to every station with a Poran payload, padded to 64 bytes. -/
def State.poranFrame (s : State) (payload : Frame) : Frame :=
  let l := List.replicate 6 0xFF ++ beBytes 6 (s.rd RI.GW_CFG.SRC_MAC) ++ beBytes 2 (s.rd RI.GW_CFG.ETYPE) ++ payload
  withFcs (l ++ List.replicate (60 - l.length) 0)

/-- The counter of a group (R447): the lowest valid entry for it, or the shared one. -/
def State.seqField (s : State) (group : Nat) : Field :=
  match (List.range 256).find? fun g => s.isSet (RI.GW_SEQ.VALID g) && s.rd (RI.GW_SEQ.GROUP g) == group with
  | some g => RI.GW_SEQ.NEXT g
  | none => RI.GW_SEQ_ANY.NEXT

/-- Take the next sequence number of a group (R447). -/
def State.takeSeq (s : State) (group : Nat) : Nat × State :=
  let f := s.seqField group
  (s.rd f, s.addF f 1)

/-- The luminaire ports that are enabled. -/
def State.enabledLuminaires (s : State) : List Nat := (List.range 96).filter fun p => s.isSet (portEn p)

/-- Give one frame of the device to BI for each port of a list, in class 6 (R138, R459). -/
def State.sendToAll (s : State) (ps : List Nat) (l : Frame) : State :=
  ps.foldl (fun s p => s.admitFrame (plainDesc p 6 6 0 101 s.curEpoch 0 s.time true l)) s

/-- Give a safe scene that waits to BI, once BI runs (R138). -/
def State.sendScene (s : State) : State :=
  match s.gw.scene with
  | some (ps, l) =>
    if s.islRuns 8 then
      ps.foldl (fun s p => s.admitFrame { plainDesc p 6 6 0 101 s.curEpoch 0 s.time true l with scene := s.gw.entries })
        { s with gw := { s.gw with scene := none } }
    else s
  | none => s

/-- The safe scene (R138): its SEQ, its activation time and its ports are those of the entry; SENT_CNT counts its frames as
their ports send them. While BI is held in reset the frames wait for it (DESIGN CHOICE, notes/assumptions/73.md). -/
def State.safeScene (s0 : State) : State :=
  let s : State := { s0.wr MI.SN_SCENE.SENT_CNT 0 with gw := { s0.gw with entries := s0.gw.entries + 1, scene := none } }
  if s.isSet MI.SN_SCENE.EN then
    let g := s.rd MI.SN_SCENE.GROUP
    let (seq, s1) := s.takeSeq g
    let l := s1.poranFrame (poranPayload 2 0 seq g (s.rd MI.SN_SCENE.SCENE) 0 0 0 s.time)
    ({ s1 with gw := { s1.gw with scene := some (s.enabledLuminaires, l) } }).sendScene
  else s

/-- One burst of the emergency generator (R459). -/
def State.emergencyBurst (s : State) : State :=
  if s.mode != 0 && s.islUp 3 && s.isSet RI.GW_EMERG.EN && s.islRuns 8 then
    let ps := s.enabledLuminaires
    let (seq, s1) := s.takeSeq 0xFFFF
    let l := s1.poranFrame
      (poranPayload 4 0 seq 0xFFFF 0 (s.rd RI.GW_EMERG.LEVEL) (s.rd RI.GW_EMERG.CCT) 0 s.time)
    let s2 := (s1.sendToAll ps l).addOvf RI.GW_STAT.EMERG_SENT RI.GW_STAT.CNT_OVF 1 ps.length
    { s2 with gw := { s2.gw with burstAt := s2.now } }
  else s

/- ## Class 7 closes (R135) -/

/-- Discard what the class-7 queue of a port and its scheduled lane hold. -/
def State.flush7 (s : State) (p : Nat) : State :=
  let m := s.mac p
  ((s.discardAll m.sched).setMac p { m with sched := [] }).flushQueue (8 * p + 7)

/-- Class-7 windows shut and local insertion stops: class-7 frames are discarded and counted PORT_DISABLED. -/
def State.closeClass7 (s : State) : State :=
  let s1 := (List.range 101).foldl (fun s p => s.flush7 p) s.shutWindows
  let s2 := s1.discardAll s1.rsch.queue
  { s2 with rsch := { s2.rsch with queue := [], occ := none }, ringE := { s2.ringE with copies := [] },
            ringW := { s2.ringW with copies := [] } }

/- ## Mode changes -/

/-- A transition completes: the mode and its cause change, and MODE_CHANGE is journaled (R43, R518). -/
def State.setMode (s : State) (m cause : Nat) : State :=
  (s.wrs [(MI.MODE_STAT.PREV_MODE, s.mode), (MI.MODE_STAT.MODE, m), (MI.MODE_STAT.CAUSE, cause)]).jnlDevice 3
    (leBytes 1 s.mode ++ leBytes 1 m ++ leBytes 1 cause)

/-- End a transition in transit. -/
def State.endTransit (s : State) : State := s.wrs [(MI.MODE_STAT.IN_TRANSIT, 0), (MI.MODE_REQ_STAT.PENDING, 0)]

/-- Refuse a request with a reason. -/
def State.refuseMode (s : State) (r : Nat) : State := s.wrs [(MI.MODE_REQ_STAT.REFUSE, r), (MI.MODE_REQ_STAT.REFUSED, 1)]

/-- A transition in transit is dropped with CANCELLED (R146, R147). -/
def State.cancelTransit (s : State) : State :=
  if s.isSet MI.MODE_STAT.IN_TRANSIT then s.endTransit.refuseMode 0xC else s

/-- A STAGE that runs ends with E_MODE and stages nothing (R137). -/
def State.stopStage (s : State) : State :=
  if s.isSet MI.IMG_STAT.BUSY && s.rd MI.IMG_STAT.LAST_CMD == 3 && s.img.error == 0 then
    { s with img := { s.img with error := 1, detail := 0xFF } }
  else s

/-- A gateway routine halts between two instructions (R137, R234): it ends there, nothing of its output buffer is sent, and
a frame it holds goes on as END would send it (DESIGN CHOICE, notes/assumptions/73.md). -/
def State.haltRoutine (s : State) (x : CtxId) : State :=
  match s.ctx? x with
  | some c =>
    if c.done || c.gw.isNone then s
    else
      match c.packet with
      | some p =>
        match s.compose x c p with
        | .ok k => s.endWith x c p k
        | .error code => s.jugFault x c code 0 c.pc
      | none => s.finishCtx x c []
  | none => s

/-- The gateway halts (R133, R137): every routine on Jugglers 14 and 15 that a trigger started. -/
def State.haltGateway (s : State) : State :=
  [0, 1].foldl (fun s k => [14, 15].foldl (fun s j => (List.range 4).foldl (fun s c => s.haltRoutine ⟨k, j, c⟩) s) s) s

/-- Entry to Safety Net (R137): class 7 closes, insertion stops, the gateway halts, the staged epoch is aborted unless its
commit was accepted, and the safe scene is sent (R138). A STAGE that runs fails. -/
def State.enterSafetyNet (s0 : State) (cause : Nat) : State :=
  let s : State := { s0 with boot := { s0.boot with netAt := s0.time + 1 } }
  let s1 := ((s.cancelTransit.setMode 3 cause).closeClass7).haltGateway
  let s2 := if s1.somethingStaged && !s1.isSet MI.EPOCH_STAT.PENDING then s1.abortStaged else s1
  (s2.stopStage).safeScene

/-- Set or clear JOIN_OK, with its copy JOINED and JOIN_CHG (R430); a fall starts RING_GRACE (R136). -/
def State.setJoin (s : State) (b : Bool) : State :=
  let was := s.isSet MI.MODE_COND.JOIN_OK
  if was == b then s
  else
    let s1 := ((s.flag MI.MODE_COND.JOIN_OK b).flag RI.SCHED_STAT.JOINED b).wr RI.SCHED_STAT.JOIN_CHG 1
    let s2 := { s1 with rsch := { s1.rsch with graceSince := if b then none else some s1.now } }
    s2.raiseIf (!s.isSet RI.SCHED_STAT.JOIN_CHG) 28

/-- Conditions that keep a transition to Performance away: a trigger bit. -/
def State.trigLatched (s : State) : Bool :=
  s.isSet MI.MODE_COND.TRIG_RING || s.isSet MI.MODE_COND.TRIG_TIME || s.isSet MI.MODE_COND.TRIG_TRIPS

/-- An entry to Rehearsal with FA asserted sends a burst (R459). -/
def State.burstOnEntry (s : State) : State := if s.isSet AO.SIDEBAND.FA then s.emergencyBurst else s

/-- Safety Net to Rehearsal (table "Transition conditions and effects"). -/
def State.leaveNet (s : State) : State := ((s.endTransit.setMode 1 1).setJoin false).burstOnEntry

/-- Whether a mode request was accepted at this very instant and waits: a trigger is acted on before it (R148). -/
def State.requestNow (s : State) : Bool := s.isSet MI.MODE_STAT.IN_TRANSIT && s.boot.reqAt == s.time

/-- A trigger fires in Performance (R136): a request of the same instant is judged against Safety Net (R148). -/
def State.triggerNet (s : State) (cause : Nat) : State :=
  if s.requestNow then
    let s1 := s.endTransit.enterSafetyNet cause
    if s.boot.goal = 1 then s1.leaveNet else s1.refuseMode 1
  else s.enterSafetyNet cause

/-- A trigger fires just after another cause of the same instant has led to Safety Net (R148): a lower code takes its place,
and a request that had led there is refused. -/
def State.triggerAgain (s : State) (cause : Nat) : State :=
  if s.boot.netAt == s.time + 1 && s.rd MI.MODE_STAT.CAUSE == 1 then (s.wr MI.MODE_STAT.CAUSE cause).refuseMode 1
  else if s.boot.netAt == s.time + 1 && cause < s.rd MI.MODE_STAT.CAUSE then s.wr MI.MODE_STAT.CAUSE cause
  else s

/-- A trigger fires (R136, R143): its bit sets in every mode; enabled, it takes Performance to Safety Net, and cancels a
transition to Performance (R147). A request for Performance of the same instant is judged after it, and refused with
TRIGGER_LATCHED (R148). -/
def State.trigger (s : State) (bit en : Field) (cause : Nat) : State :=
  let s1 := s.wr bit 1
  if s.mode = 1 ∧ s.boot.goal = 2 ∧ s.requestNow then s1.endTransit.refuseMode 9
  else if !s.isSet en then s1
  else if s.mode = 2 then s1.triggerNet cause
  else if s.mode = 3 then s1.triggerAgain cause
  else if s.mode = 1 ∧ s.isSet MI.MODE_STAT.IN_TRANSIT ∧ s.boot.goal = 2 then s1.cancelTransit
  else s1

/-- RING_GRACE in ns, 0 acting as 1 ms. -/
def State.graceNs (s : State) : Nat := max 1 (s.rd MI.SN_CFG.RING_GRACE) * 1000000

/-- TRIGGER_RING (R136): JOIN_OK has been 0 for RING_GRACE since it fell. -/
def State.triggerRing (s : State) : State :=
  match s.rsch.graceSince with
  | some a =>
    if s.ringUsed && !s.isSet MI.MODE_COND.JOIN_OK && a + s.graceNs ≤ s.now then
      ({ s with rsch := { s.rsch with graceSince := none } }).trigger MI.MODE_COND.TRIG_RING MI.SN_CFG.RING_EN 2
    else s
  | none => s

def execTriggerRing (t : Nat) (s : State) : Host.Outcome State Fault Refusal := .next ((s.begin t).triggerRing)

end Sys2Proof.Machine
end

