-- ==== Sys2Proof/Machine/Time.lean ====
section
/-!
DEFINITION. The time island (12_time.md): samples and frequencies (R368 to R370), reference states (R371), selection and
switching (R372, R373, R385), slews and steps of wall time (R374, R379, R380), holdover and quality (R366, R367, R375),
and the time pulse (R377, R378). References are 0 PTP_UP0, 1 PTP_UP1, 2 RING, 3 PPS_IN.
-/
namespace Sys2Proof.Machine

def State.tiSet (s : State) (f : TimeIsland → TimeIsland) : State := { s with ti := f s.ti }

/-- Sums over no samples. -/
def Sums.zero : Sums := ⟨0, 0, 0, 0, 0⟩
def Sums.add (a b : Sums) : Sums := ⟨a.n + b.n, a.sx + b.sx, a.sy + b.sy, a.sxx + b.sxx, a.sxy + b.sxy⟩
def Sums.push (a : Sums) (x y : Int) : Sums := a.add ⟨1, x, y, x * x, x * y⟩

/-- The least-squares slope in ppb of samples with x in ns and y in ps, rounded to the nearest integer
(notes/assumptions/40.md); none without two instants. -/
def Sums.slope (a : Sums) : Option Int :=
  let den := a.n * a.sxx - a.sx * a.sx
  let num := (a.n * a.sxy - a.sx * a.sy) * 1000000
  if den ≤ 0 then none else some ((2 * num + den) / (2 * den))

def State.ref (s : State) (r : Nat) : RefHist := s.ti.refs.getD r RefHist.fresh
def State.setRef (s : State) (r : Nat) (h : RefHist) : State := s.tiSet fun t => { t with refs := setAt t.refs r h }

/- ## Roles (R365) -/

/-- The node originates markers. -/
def State.isMaster (s : State) : Bool := s.rd RI.SCHED_STAT.CS_STATE == 2

/-- Marker lock on either ring port. -/
def State.anyLock (s : State) : Bool := s.isSet (RI.RING_STAT.MARKER_LOCK 0) || s.isSet (RI.RING_STAT.MARKER_LOCK 1)

/-- The role the ring state gives: 0 standalone, 1 member, 2 Ringmaster, 3 unjoined. -/
def State.roleNow (s : State) : Nat :=
  if !s.ringUsed then 0 else if s.isMaster then 2 else if s.anyLock then 1 else 3

def State.role (s : State) : Nat := s.rd TI.SEL_STAT.ROLE

/-- Whether a reference is enabled and a candidate for a role. -/
def State.candidate (s : State) (role r : Nat) : Bool := r < 4 && s.isSet (TI.REF_CFG.EN r) && (r != 2 || role == 1)

/- ## Configuration values -/

def State.fstep (s : State) : Int := max 1 (s.rd TI.CFG.FSTEP_PPB)
/-- SLEW_PPM, within 1 to 100; it is also the ns a slew moves in 1 ms. -/
def State.slewPpm (s : State) : Nat := min 100 (max 1 (s.rd TI.CFG.SLEW_PPM))
def State.wtr (s : State) : Nat := max 1 (s.rd TI.CFG.WTR_S)
/-- STEP_US in ns. -/
def State.stepNsLimit (s : State) : Int := s.rd TI.CFG.STEP_US * 1000
def State.wallOfs (s : State) : Int := s.rdS TI.WALL_OFS.OFS

/- ## Events of TI (R384) -/

def State.tiEvent (s : State) (f : Field) (n : Nat) : State := (s.wr f 1).raiseIf (!s.isSet f) n
def State.qChanged (s : State) : State := s.tiEvent TI.EVT.Q_CHG 17
def State.refChanged (s : State) : State := s.tiEvent TI.EVT.REF_CHG 18

/- ## Samples (R368, R370) -/

/-- Note a sample: phase error `e` in ns of the reference against local time, whose phase against the oscillator is
`y` ps. -/
def State.addSample (s : State) (r x : Nat) (e y : Int) : State :=
  let h := s.ref r
  s.setRef r { h with cur := h.cur.push x y, last := some (x, y), seenAt := some s.time,
                      since := some (h.since.getD s.time), err := e }

/-- A sample of a wall-time reference: `e` is reference minus local wall time. -/
def State.wallSample (s : State) (r x : Nat) (e : Int) : State := s.addSample r x e ((e + s.wallOfs) * 1000 + s.ti.leadPs)

/-- A RING sample (R368): marker time plus link delay minus local schedule time at its arrival. -/
def State.ringSample (s : State) (x : Nat) (e : Int) : State :=
  let s1 := s.addSample 2 x e (e * 1000 + s.ti.leadPs)
  (s1.setRef 2 { s1.ref 2 with err := 0 }).tiSet fun t => { t with errs := (e :: t.errs).take 16, schedErr := e }

/-- PTP_MEAS_SUBMIT (R369): a 64-bit write of OFFSET and T2_LO. -/
def State.ptpSubmit (s : State) (u offset t2lo : Nat) : State :=
  let s1 := s.wrs [(TI.PTP_MEAS.OFFSET u, offset), (TI.PTP_MEAS.T2_LO u, t2lo)]
  let age := (s.time % 2 ^ 32 + 2 ^ 32 - t2lo % 2 ^ 32) % 2 ^ 32
  if age ≤ 2000000000 then
    (s1.wallSample u (s.time - age) (-(signedOf 32 offset))).count 2 0x101 1
  else s1.addOvf TI.MEAS_STAT.STALE TI.MEAS_STAT.OVF 1 1

def execPtpMeasSubmit (src : Src) (u offset t2lo t : Nat) (s : State) : Host.Outcome State Fault Refusal :=
  .next ((s.begin t).regCmd src 2 (0xC0 + 8 * u) false fun s => if u < 2 then s.ptpSubmit u offset t2lo else s)

/-- Fold a wall time to its distance from the nearest whole second, in (−0.5 s, +0.5 s]. -/
def foldSecond (w : Int) : Int := if 500000000 < w % 1000000000 then w % 1000000000 - 1000000000 else w % 1000000000

/-- PPS_IN_EDGE (R368): an edge of the polarity IN_POL names. -/
def State.ppsIn (s : State) (rising : Bool) : State :=
  if s.islRuns 2 && rising == !s.isSet TI.PPS_CFG.IN_POL then
    (s.wr TI.PPS_IN_TS.TIME s.time).wallSample 3 s.time (-(foldSecond (s.time + s.wallOfs)))
  else s

def execPpsInEdge (rising : Bool) (t : Nat) (s : State) : Host.Outcome State Fault Refusal := .next ((s.begin t).ppsIn rising)

/- ## Reference states (R371) -/

/-- Change STATE and CAUSE; a change of STATE is an event. -/
def State.setRefState (s : State) (r st cause : Nat) : State :=
  let old := s.rd (TI.REF_STAT.STATE r)
  let s1 := s.wrs [(TI.REF_STAT.STATE r, st), (TI.REF_STAT.CAUSE r, cause)]
  if old = st then s1
  else (s1.setRef r { s1.ref r with changedAt := s.time, stateBefore := old, good := 0 }).refChanged

/-- A reference becomes DISQUALIFIED: one that was qualified before waits to restore. -/
def State.disqualify (s : State) (r cause : Nat) : State :=
  let s1 := s.setRefState r 0 cause
  (s1.setRef r { s1.ref r with good := 0 }).wr (TI.REF_STAT.WTR_LEFT r) (if (s.ref r).before then s.wtr else 0)

/-- A reference becomes QUALIFIED. -/
def State.qualify (s : State) (r : Nat) : State :=
  let s1 := s.setRefState r 1 0
  (s1.setRef r { s1.ref r with before := true, good := 0 }).wr (TI.REF_STAT.WTR_LEFT r) 0

/-- Whether a reference shows no signal (R368). -/
def State.lost (s : State) (r : Nat) : Bool :=
  let age := match (s.ref r).seenAt with
    | some a => s.time - a
    | none => 3000000000
  if r = 2 then !s.anyLock else if r = 3 then 1100000000 ≤ age else 3000000000 ≤ age

/-- EN = 0, a role without the reference, and loss of signal disqualify it at once (R371, R388). -/
def State.checkRef (s : State) (role r : Nat) : State :=
  if !s.candidate role r then
    let s1 := if s.rd (TI.REF_STAT.STATE r) = 0 ∧ s.rd (TI.REF_STAT.CAUSE r) = 1 then s else s.disqualify r 1
    s1.setRef r { s1.ref r with since := none }
  else if s.lost r then
    let s1 := if s.rd (TI.REF_STAT.STATE r) = 0 ∧ s.rd (TI.REF_STAT.CAUSE r) = 2 then s else s.disqualify r 2
    s1.setRef r { s1.ref r with since := none }
  else s

/-- A signed number cut to a field of `w` bits. -/
def saturate (w : Nat) (x : Int) : Int := clampInt (-2 ^ (w - 1)) (2 ^ (w - 1) - 1) x

/-- The new F1, if the last second gives one: two samples, or one and the last before it. -/
def RefHist.newF1 (h : RefHist) : Option Int :=
  match h.cur.slope, h.anchor with
  | some f, _ => some f
  | none, some (x, y) => (h.cur.push x y).slope
  | none, none => none

/-- The computations of R370 for one reference; whether its frequency jumped, and whether its second is complete. -/
def State.updateFreq (s : State) (r : Nat) : State × Bool × Bool :=
  let h := s.ref r
  let f1 := if h.cur.n = 0 then none else h.newF1
  let past := (h.cur :: h.past).take 64
  let f64 := (past.foldl Sums.add Sums.zero).slope
  let jumped := match f1, h.f1 with
    | some a, some b => (s.rd TI.QUAL_CFG.JUMP_PPB : Int) < |a - b|
    | _, _ => false
  let whole := match h.since with
    | some a => decide (a + 1000000000 ≤ s.time) && f1.isSome
    | none => false
  let s1 := s.setRef r { h with cur := Sums.zero, past, f1 := f1.orElse fun _ => h.f1, f64,
                                anchor := h.last.orElse fun _ => h.anchor }
  let s2 := match f64 with
    | some f => s1.wrS (TI.REF_STAT.F64_PPB r) (saturate 24 f)
    | none => s1.tookFree.wr (TI.REF_STAT.F64_PPB r) s1.freeVal
  (s2, jumped, whole)

/-- D of a reference (R370). -/
def State.drift (s : State) (r : Nat) : Option Int :=
  match (s.ref r).f64, s.ti.anchorH with
  | some f, some h => some (f - h)
  | _, _ => none

/-- One reference's state at a 1 s update (R371). One that is no candidate stays DISQUALIFIED. -/
def State.updateState (s : State) (r : Nat) (jumped whole : Bool) : State :=
  let d := s.drift r
  let within := fun (lim : Nat) => match d with
    | some x => decide (|x| ≤ (lim : Int))
    | none => true
  let soft := within (s.rd TI.QUAL_CFG.SOFT_PPB)
  let hard := within (s.rd TI.QUAL_CFG.HARD_PPB)
  let s0 := (s.wrS (TI.REF_STAT.D_PPB r) (saturate 24 (d.getD 0))).flag (TI.REF_STAT.D_DEF r) d.isSome
  let h := s.ref r
  match s.rd (TI.REF_STAT.STATE r) with
  | 0 =>
    if s.lost r || !s.candidate s.role r then s0
    else if whole && !jumped && soft then
      if !h.before then s0.qualify r
      else if s.wtr ≤ h.good + 1 then s0.qualify r
      else (s0.setRef r { h with good := h.good + 1 }).wr (TI.REF_STAT.WTR_LEFT r) (s.wtr - (h.good + 1))
    else (s0.setRef r { h with good := 0 }).wr (TI.REF_STAT.WTR_LEFT r) (if h.before then s.wtr else 0)
  | st =>
    if jumped then s0.disqualify r 3
    else if !hard then s0.disqualify r 4
    else if st = 1 then (if soft then s0 else s0.setRefState r 2 5)
    else if soft then
      if 8 ≤ h.good + 1 then s0.qualify r else s0.setRef r { h with good := h.good + 1 }
    else s0.setRef r { h with good := 0 }

/-- H and the count of updates that followed one selected reference (R370, R374). -/
def State.updateAnchor (s : State) : State :=
  let sel := s.rd TI.SEL_STAT.SELECTED
  if 4 ≤ sel then s.tiSet fun t => { t with hist := [], anchorH := none, followed := 0, trainRun := 0 }
  else
    let frozen := s.isSet TI.SEL_STAT.INTEG_FROZEN
    let n := s.ti.followed + 1
    let run := if s.rd (TI.REF_STAT.STATE sel) = 1 ∧ !frozen then s.ti.trainRun + 1 else 0
    let s1 := s.tiSet fun t =>
      { t with followed := n, trainRun := run,
               anchorH := if frozen then t.anchorH else if 128 ≤ n then (t.hist.getD 63 none).orElse (fun _ => t.anchorH) else none,
               hist := ((s.ref sel).f64 :: t.hist).take 64 }
    if 64 ≤ run then s1.wr TI.SEL_STAT.TRAINED 1 else s1

/-- TIME_UPDATE_1S (R370, R371): every enabled reference is computed, whether the role lets it be selected or not. -/
def State.timeUpdate (s : State) : State :=
  if s.islRuns 2 && s.time % 1000000000 == 0 then
    let rs := (List.range 4).filter fun r => s.isSet (TI.REF_CFG.EN r)
    let (s1, l) := rs.foldl (fun (a : State × List (Nat × Bool × Bool)) r =>
      let (s2, j, w) := a.1.updateFreq r
      (s2, a.2 ++ [(r, j, w)])) (s, [])
    l.foldl (fun s e => s.updateState e.1 e.2.1 e.2.2) s1.updateAnchor
  else s

/- ## Selection and switching (R372, R373, R385) -/

/-- STATE as the selector sees it: a change detected at one step takes effect at the next. -/
def State.seenState (s : State) (r : Nat) : Nat :=
  if (s.ref r).changedAt < s.time then s.rd (TI.REF_STAT.STATE r) else (s.ref r).stateBefore

def State.prio (s : State) (r : Nat) : Nat := s.rd (TI.REF_CFG.PRIORITY r)

/-- Whether one reference is better than another: the lower PRIORITY, the lower index on a tie. -/
def State.better (s : State) (a b : Nat) : Bool := s.prio a < s.prio b || (s.prio a == s.prio b && a < b)

/-- FORCE_REF, when it is in force. -/
def State.forced (s : State) : Option Nat :=
  let f := s.rd TI.CFG.FORCE_REF
  if s.isSet TI.CFG.FORCE_EN && s.candidate s.role f && s.seenState f != 0 then some f else none

/-- The best reference (R372). -/
def State.best (s : State) : Option Nat :=
  match s.forced with
  | some f => some f
  | none =>
    (List.range 4).foldl (fun b r =>
      if s.candidate s.role r && s.seenState r == 1 then
        match b with
        | some x => if s.better r x then some r else b
        | none => some r
      else b) none

/-- The wall phase error of a reference; the ring carries no wall time. -/
def State.wallErr (s : State) (r : Nat) : Int := if r = 2 then 0 else (s.ref r).err

/-- Begin a switch, or re-target one (R373, R385). -/
def State.switchTo (s : State) (r : Nat) : State :=
  let s0 := if s.isSet TI.SEL_STAT.SWITCHING then s.addF TI.SEL_STAT.RETARGET_CNT 1 else s
  let b := s.wallErr r
  let step := s.stepNsLimit < |b|
  let s1 := (s0.wrs [(TI.SEL_STAT.SELECTED, r), (TI.SEL_STAT.TARGET, r), (TI.SEL_STAT.SWITCHING, 1)]).tiSet fun t =>
    { t with build := b, hist := [], anchorH := none, followed := 0, trainRun := 0,
             pending := if step then some b else t.pending }
  if step then s1.wr TI.EVT.STEP_PENDING 1 else s1

/-- The action of the selector at a 1 ms step (R372). A forced reference is the best, and better than any other. With
NONREVERT a selected reference that is not DISQUALIFIED is kept while it is QUALIFIED, and in a switch whatever it is
(R385). -/
def State.selectRef (s : State) : State :=
  let sel := s.rd TI.SEL_STAT.SELECTED
  let s1 :=
    if 4 ≤ sel || s.seenState sel == 0 then
      match s.best with
      | some b => s.switchTo b
      | none => s.wrs [(TI.SEL_STAT.SELECTED, 7), (TI.SEL_STAT.TARGET, 7), (TI.SEL_STAT.SWITCHING, 0)]
    else
      match s.best with
      | some b =>
        if b = sel ∨ (s.isSet TI.SEL_STAT.SWITCHING && s.isSet TI.CFG.NONREVERT) = true then s
        else if s.seenState sel = 2 then
          if s.prio b ≤ s.prio sel + 1 then s.switchTo b else s
        else if (s.forced.isSome || s.better b sel) && !s.isSet TI.CFG.NONREVERT then s.switchTo b else s
      | none => s
  let now := s1.rd TI.SEL_STAT.SELECTED
  if 4 ≤ now then s1
  else if s1.seenState now = 2 then s1.wr TI.SEL_STAT.INTEG_FROZEN 1
  else s1.wr TI.SEL_STAT.INTEG_FROZEN 0

/-- The reference whose frequency schedule time follows (R365). -/
def State.follows (s : State) : Option Nat :=
  let sel := s.rd TI.SEL_STAT.SELECTED
  match s.role with
  | 1 => if s.rd (TI.REF_STAT.STATE 2) = 0 then none else some 2
  | 3 => none
  | _ => if sel < 4 then some sel else none

/-- OUT_PPB moves toward F1 by at most FSTEP_PPB (R373, R374), and schedule time runs on at it for 1 ms; a member
removes phase error by rate. -/
def State.steer (s : State) : State :=
  let out := s.rdS TI.SEL_STAT.OUT_PPB
  let target := match s.follows with
    | some r => (s.ref r).f1
    | none => none
  let out' := match target with
    | some f =>
      if s.isSet TI.SEL_STAT.INTEG_FROZEN && !s.isSet TI.SEL_STAT.SWITCHING then out
      else out + clampInt (-s.fstep) s.fstep (f - out)
    | none => out
  let d := if s.role = 1 ∧ s.follows.isSome then clampInt (-(s.slewPpm : Int)) s.slewPpm s.ti.schedErr else 0
  (s.wrS TI.SEL_STAT.OUT_PPB out').tiSet fun t => { t with leadPs := t.leadPs + out' + d * 1000, schedErr := t.schedErr - d }

/- ## Wall time (R364, R373, R374, R379) -/

/-- Add to WALL_OFS: the measured errors and the build-out change with it. -/
def State.addWall (s : State) (d : Int) : State :=
  (((s.wr TI.WALL_OFS_PREV.OFS (s.rd TI.WALL_OFS.OFS)).wrS TI.WALL_OFS.OFS (s.wallOfs + d)).wr TI.WALL_OFS_AT.TIME s.time).tiSet
    fun t => { t with refs := t.refs.map fun h => { h with err := h.err - d },
                      build := if s.isSet TI.SEL_STAT.SWITCHING then t.build - d else t.build }

/-- Slew WALL_OFS. -/
def State.moveWall (s : State) (d : Int) : State := if d = 0 then s else s.addWall d

/-- The frequency part of R373's completion: OUT_PPB has reached the target's F1. -/
def State.freqReached (s : State) : Bool :=
  match (s.ref (s.rd TI.SEL_STAT.TARGET)).f1 with
  | some f => decide (|s.rdS TI.SEL_STAT.OUT_PPB - f| ≤ s.fstep)
  | none => false

/-- A switch completes (R373). -/
def State.checkSwitch (s : State) : State :=
  if s.isSet TI.SEL_STAT.SWITCHING && s.ti.build == 0 && s.freqReached then
    (s.wrs [(TI.SEL_STAT.SWITCHING, 0), (TI.SEL_STAT.TARGET, 7)]).tiEvent TI.EVT.SW_DONE 21
  else s

/-- Apply the pending step (R379). -/
def State.applyStep (s : State) : State :=
  match s.ti.pending with
  | some d =>
    (((s.addWall d).tiSet fun t => { t with pending := none }).wr TI.EVT.STEP_PENDING 0).tiEvent TI.EVT.STEP_APPLIED 21
  | none => s

/-- The wall phase error that the servo removes: the build-out in a switch, else the selected reference's error. -/
def State.servoErr (s : State) : Int :=
  let sel := s.rd TI.SEL_STAT.SELECTED
  if s.isSet TI.SEL_STAT.SWITCHING then s.ti.build else if sel < 4 then s.wallErr sel else 0

/-- Slew WALL_OFS, or ask for the step that a large error needs (R373, R374), in place of one that is pending (R379). -/
def State.slewWall (s : State) : State :=
  let x := s.servoErr
  if s.stepNsLimit < |x| then (s.tiSet fun t => { t with pending := some x }).wr TI.EVT.STEP_PENDING 1
  else s.moveWall (clampInt (-(s.slewPpm : Int)) s.slewPpm x)

/-- STEP_GO (R380). -/
def State.stepGo (s : State) : State :=
  if s.rd TI.SEL_STAT.WALL_Q = 0 then s.tiEvent TI.EVT.STEP_REFUSED 21
  else (s.tiSet fun t => { t with pending := some (s.rdS TI.STEP.AMOUNT) }).wr TI.EVT.STEP_PENDING 1

def execStepGo (src : Src) (t : Nat) (s : State) : Host.Outcome State Fault Refusal :=
  .next ((s.begin t).regCmd src 2 0xB0 false State.stepGo)

/-- STEP_CANCEL (R380). -/
def State.stepCancel (s : State) : State := (s.tiSet fun t => { t with pending := none }).wr TI.EVT.STEP_PENDING 0

def execStepCancel (src : Src) (t : Nat) (s : State) : Host.Outcome State Fault Refusal :=
  .next ((s.begin t).regCmd src 2 0xB0 false State.stepCancel)

/- ## Quality (R366, R367, R375) -/

/-- E in units of 10⁻¹² ns. -/
def State.boundE (s : State) (h : Holdover) : Nat := h.e0 * 10 ^ 12 + s.rd TI.HOLD_CFG.RATE_PS * (s.now - h.since)

/-- FREERUN_H in ns, 0 acting as 1 hour. -/
def State.freerunNs (s : State) : Nat := max 1 (s.rd TI.HOLD_CFG.FREERUN_H) * 3600000000000

/-- The quality walk of a timescale in holdover (R375): LOCKED is left first. -/
def State.walk (s : State) (q spec e0 : Nat) (h : Option Holdover) : Nat × Option Holdover :=
  let v := h.getD ⟨s.now, e0⟩
  if q = 0 then (if s.isSet TI.SEL_STAT.TRAINED then 1 else 3, some v)
  else
    let q1 := if q = 1 ∧ spec * 10 ^ 12 < s.boundE v then 2 else q
    (if q1 = 2 ∧ s.freerunNs ≤ s.now - v.since then 3 else q1, some v)

/-- Whether schedule time is LOCKED (R366). -/
def State.schedLocked (s : State) : Bool :=
  if s.role = 0 ∨ s.role = 2 then s.isSet TI.SEL_STAT.SCHED_VALID
  else s.role == 1 && s.rd (TI.REF_STAT.STATE 2) != 0 && s.ti.errs.length == 16
    && s.ti.errs.all fun e => decide (|e| ≤ (s.rd TI.HOLD_CFG.LOCK_NS : Int))

/-- SCHED_Q changes: TIME_OK follows, and a fall below HOLDOVER_IN_SPEC is the TIME trigger (R136). -/
def State.setSchedQ (s : State) (q : Nat) : State :=
  let old := s.rd TI.SEL_STAT.SCHED_Q
  if old = q then s
  else
    let s1 := ((s.wr TI.SEL_STAT.SCHED_Q q).flag MI.MODE_COND.TIME_OK (q == 0)).qChanged
    if old ≤ 1 ∧ 2 ≤ q then s1.trigger MI.MODE_COND.TRIG_TIME MI.SN_CFG.TIME_EN 3 else s1

/-- WALL_Q changes. -/
def State.setWallQ (s : State) (q : Nat) : State :=
  if s.rd TI.SEL_STAT.WALL_Q = q then s else (s.wr TI.SEL_STAT.WALL_Q q).qChanged

/-- TI.EST, saturating: the last error while disciplined, E in holdover. -/
def State.estimate (s : State) (h : Option Holdover) (e : Nat) : Nat :=
  min (2 ^ 32 - 1) (match h with
    | some v => s.boundE v / 10 ^ 12
    | none => e)

/-- SCHED_Q (R366, R375). -/
def State.evalSched (s : State) : State :=
  let e := (s.ti.errs.headD 0).natAbs
  if s.schedLocked then
    ((s.tiSet fun t => { t with schedHold := none }).wr TI.EST.SCHED_NS (s.estimate none e)).setSchedQ 0
  else
    let (q, h) := s.walk (s.rd TI.SEL_STAT.SCHED_Q) (s.rd TI.HOLD_CFG.SCHED_SPEC_NS) e s.ti.schedHold
    ((s.tiSet fun t => { t with schedHold := h }).wr TI.EST.SCHED_NS (s.estimate h e)).setSchedQ q

/-- WALL_Q (R367, R375). -/
def State.evalWall (s : State) : State :=
  let spec := s.rd TI.HOLD_CFG.WALL_SPEC_NS
  if s.rd TI.SEL_STAT.SELECTED < 4 then
    let e := s.servoErr.natAbs
    ((s.tiSet fun t => { t with wallHold := none, lastWall := e }).wr TI.EST.WALL_NS (s.estimate none e)).setWallQ
      (if e ≤ spec ∧ s.ti.pending.isNone then 0 else 2)
  else
    let (q, h) := s.walk (s.rd TI.SEL_STAT.WALL_Q) spec s.ti.lastWall s.ti.wallHold
    ((s.tiSet fun t => { t with wallHold := h }).wr TI.EST.WALL_NS (s.estimate h 0)).setWallQ q

/-- Both qualities. -/
def State.evalQuality (s : State) : State := s.evalSched.evalWall

/- ## The 1 ms step -/

/-- Loss of signal and the role, at the step that detects them (R368, R388). -/
def State.checkRefs (s : State) : State :=
  let role := s.roleNow
  (List.range 4).foldl (fun s r => s.checkRef role r) (s.wr TI.SEL_STAT.ROLE role)

/-- Take the rates of the last 1 ms of a pipeline into JUG_RATE. -/
def State.latchRate (s : State) (k : Nat) : State :=
  let p := s.pipe k
  (s.wrs [(P.JUG_RATE.PKTS k, min 65535 p.ratePkts),
    (P.JUG_RATE.AVG_X16 k, if p.ratePkts = 0 then 0 else min 65535 (16 * p.rateInstrs / p.ratePkts))]).setPipe k
    { p with ratePkts := 0, rateInstrs := 0 }

/-- TIME_STEP_1MS (R372 to R375, R379, R385, R388). A step that begins a switch moves nothing yet (R373). -/
def State.timeStep (s : State) : State :=
  if s.time % 1000000 != 0 then s
  else
    let s0 := (s.latchRate 0).latchRate 1
    if !s.islRuns 2 then s0
    else
      let s1 := s0.count 2 0x100 1
      let s2 := if s1.mode = 2 then s1 else s1.applyStep
      let s3 := s2.selectRef
      let began := s3.isSet TI.SEL_STAT.SWITCHING && (!s2.isSet TI.SEL_STAT.SWITCHING
        || s2.rd TI.SEL_STAT.TARGET != s3.rd TI.SEL_STAT.TARGET)
      let s4 := if began then s3.tiSet fun t => { t with leadPs := t.leadPs + s3.rdS TI.SEL_STAT.OUT_PPB }
        else (s3.steer.slewWall).checkSwitch
      (s4.checkRefs).evalQuality

def execTimeStep1ms (t : Nat) (s : State) : Host.Outcome State Fault Refusal := .next ((s.begin t).timeStep)

def execTimeUpdate1s (t : Nat) (s : State) : Host.Outcome State Fault Refusal := .next ((s.begin t).timeUpdate)

/- ## Validity (R363) and reset (R387) -/

/-- Schedule time becomes valid, once. -/
def State.validate (s : State) : State :=
  if s.isSet TI.SEL_STAT.SCHED_VALID then s else (s.wr TI.SEL_STAT.SCHED_VALID 1).tiSet fun t => { t with validAt := s.now }

/-- TI is reset (R387): each timescale is in holdover from here on, and leaves LOCKED unless R366 holds still. -/
def State.tiReset (s : State) : State :=
  let s1 := (List.range 4).foldl (fun s r => ((s.wrs [(TI.REF_STAT.D_DEF r, 0), (TI.REF_STAT.D_PPB r, 0),
    (TI.REF_STAT.WTR_LEFT r, 0)]).setRefState r 0 1).setRef r
    { RefHist.fresh with changedAt := s.time, stateBefore := s.rd (TI.REF_STAT.STATE r) }) s
  let s2 := s1.wrs [(TI.SEL_STAT.SELECTED, 7), (TI.SEL_STAT.TARGET, 7), (TI.SEL_STAT.SWITCHING, 0),
    (TI.SEL_STAT.INTEG_FROZEN, 0), (TI.EVT.STEP_PENDING, 0)]
  let s3 := if s2.ti.pending.isSome then s2.tiEvent TI.EVT.STEP_REFUSED 21 else s2
  let e0 := s.rd TI.HOLD_CFG.LOCK_NS
  (s3.tiSet fun t =>
    { t with
      hist := [], anchorH := none, followed := 0, trainRun := 0, build := 0, pending := none, errs := [], schedErr := 0,
      schedHold := some ⟨s.now, e0⟩, wallHold := some ⟨s.now, e0⟩, txts := [] }).evalQuality

/- ## The time pulse (R377, R378, R386) -/

/-- A pending step that falls due at this instant is applied before the edge (R386): at a 1 ms step, in Performance at a
matrix boundary (R379). -/
def State.dueStep (s : State) : State :=
  if s.islRuns 2 && s.time % (if s.mode = 2 then matrixNs else 1000000) == 0 then s.applyStep else s

/-- An edge that falls due is emitted, or suppressed within 0.5 s of the last one. -/
def State.ppsEdge (s : State) : State :=
  let t := s.time
  let ofs := s.rdS TI.PPS_OFS.OFS
  let last := s.rd TI.PPS_LAST.TIME
  if s.isSet TI.SEL_STAT.SCHED_VALID && s.isSet TI.PPS_CFG.OUT_EN && ((t : Int) + ofs) % 1000000000 == 0
      && (!s.ti.ppsAny || last + 500000000 ≤ t) then
    let s1 := s.wrs [(TI.PPS_LAST.TIME, t), (TI.PPS_INTV.INTV, t - last), (TI.PPS_INTV.IRREG, s.ti.ppsIrregular.toNat),
      (TI.PPS_OFS.OFS, s.rd TI.WALL_OFS.OFS)]
    let s2 := if s.ti.ppsIrregular then s1.tiEvent TI.EVT.IRREGULAR 20 else s1
    ((s2.tiSet fun x => { x with ppsAny := true, ppsIrregular := decide (s.slewPpm * 1000 < (s.wallOfs - ofs).natAbs) }).count
      2 0x102 1).emit (.pin "PPS_OUT" (if s.isSet TI.PPS_CFG.OUT_POL then 0 else 1))
  else s

/-- PPS_OUT_EDGE. -/
def State.ppsOut (s : State) : State := s.dueStep.ppsEdge

def execPpsOutEdge (t : Nat) (s : State) : Host.Outcome State Fault Refusal := .next ((s.begin t).ppsOut)

end Sys2Proof.Machine
end

