-- ==== Sys2Proof/Machine/Egress.lean ====
section
/-!
DEFINITION. The egress MAC of a luminaire, uplink or cascade port: choosing a lane (R311, R313, R314), sending (R156,
R158, R159), the transmit stamp of a PTP event message (R381 to R383), and the confirmation (R28, R71).
-/
namespace Sys2Proof.Machine

/- ## PTP messages (R382, R383) -/

/-- Where the type field of a frame stands after at most two VLAN tags. -/
def typeAt (l : Frame) : Nat :=
  let tag := fun i => beNat (sliceAt l i 2) = 0x8100 ∨ beNat (sliceAt l i 2) = 0x88A8
  if tag 12 then (if tag 16 then 20 else 16) else 12

/-- A PTP message in a frame: where it starts, and where a UDP/IPv4 header before it starts; whether IPv6 carries it. -/
structure PtpAt where
  msg : Nat
  udp4 : Option Nat
  v6 : Bool
deriving DecidableEq, Repr

/-- The event message the MAC recognises in a frame (R382): by EtherType, or by UDP destination port 319. -/
def ptpAt (l : Frame) : Option PtpAt :=
  let o := typeAt l
  let ip := o + 2
  let ty := beNat (sliceAt l o 2)
  let byte := fun i => (l.getD i 0).toNat
  if ty = 0x88F7 then some ⟨ip, none, false⟩
  else if ty = 0x0800 then
    let u := ip + 4 * (byte ip % 16)
    if byte (ip + 9) = 17 ∧ beNat (sliceAt l (u + 2) 2) = 319 then some ⟨u + 8, some u, false⟩ else none
  else if ty = 0x86DD then
    if byte (ip + 6) = 17 ∧ beNat (sliceAt l (ip + 42) 2) = 319 then some ⟨ip + 48, none, true⟩ else none
  else none

/-- messageType and sequenceId of a PTP message. -/
def ptpType (l : Frame) (m : Nat) : Nat := (l.getD m 0).toNat % 16
def ptpSeq (l : Frame) (m : Nat) : Nat := beNat (sliceAt l (m + 30) 2)

/-- Push an entry into the window of transmit stamps, or count it lost (R382); local source 3 rises while one waits. -/
def State.pushTxts (s : State) (p ty seq stamp : Nat) : State :=
  if 256 ≤ s.ti.txts.length then s.addOvf TI.MEAS_STAT.TXTS_LOST TI.MEAS_STAT.OVF 1 1
  else
    let e := 2 ^ 63 + p % 128 * 2 ^ 56 + ty % 16 * 2 ^ 52 + seq % 65536 * 2 ^ 32 + stamp % 2 ^ 32
    ((s.tiSet fun t => { t with txts := t.txts ++ [e] }).progress 2).raiseIf s.ti.txts.isEmpty 19

/-- The wall time of a stamp, under the WALL_OFS in force at it (R364). -/
def State.wallOf (s : State) (stamp : Nat) : Nat :=
  ((stamp : Int) + if s.rd TI.WALL_OFS_AT.TIME ≤ stamp then s.wallOfs else s.rdS TI.WALL_OFS_PREV.OFS).toNat

/-- A Sync message with the transmit stamp as wall time in originTimestamp (R383): six bytes of seconds, four of ns. -/
def State.oneStep (s : State) (l : Frame) (m : PtpAt) (stamp : Nat) : Frame :=
  let w := s.wallOf stamp
  let l1 := patchAt l (m.msg + 34) (beBytes 6 (w / 1000000000) ++ beBytes 4 (w % 1000000000))
  let l2 := match m.udp4 with
    | some u => patchAt l1 (u + 6) [0, 0]
    | none => l1
  withFcs (l2.take (l.length - 4))

/-- The transmit stamp of a frame that begins on a port at `t` (R381). -/
def State.txStamp (s : State) (p t : Nat) : Nat := ((t : Int) + s.rdS (TI.TS_CFG.TX_ADJ p)).toNat

/-- TX_TIMESTAMP_CAPTURE: the stamp of an event message, of types 0 to 3, is written into it, or pushed. -/
def State.stampTx (s : State) (p t : Nat) (l : Frame) : State × Frame :=
  if !s.isSet (TI.TS_CFG.PTP_EN p) then (s, l)
  else
    match ptpAt l with
    | none => (s, l)
    | some m =>
      if 4 ≤ ptpType l m.msg then (s, l)
      else if s.isSet (TI.TS_CFG.ONE_STEP p) && ptpType l m.msg == 0 && !m.v6 then (s, s.oneStep l m (s.txStamp p t))
      else (s.pushTxts p (ptpType l m.msg) (ptpSeq l m.msg) (s.txStamp p t), l)

/- ## Sending -/

/-- A frame padded to 64 bytes, its FCS computed afresh when padding was added. -/
def padFrame (l : Frame) : Frame :=
  if 64 ≤ l.length then l
  else
    let b := l.take (l.length - 4)
    withFcs (b ++ List.replicate (60 - b.length) 0)

/-- Whether a PAUSE hold keeps a port from beginning a frame at `t` (R158). -/
def PortMac.held (m : PortMac) (t : Nat) : Bool :=
  match m.hold with
  | some h => h.startAt ≤ t && t < h.endAt
  | none => false

/-- Whether the MAC of a port may begin a frame at all. -/
def State.macFree (s : State) (p t : Nat) : Bool :=
  isEthPort p && s.islUp (portIsl p) && s.hasLink p && s.portOn p && (s.mac p).wire.isNone && !(s.mac p).held t

/-- Whether the ordinary lane is closed (R314): from GUARD before a window opens until it closes. GUARD is that of the
present speed and, on UP0, UP1 and CX, of the frame now at the head of the lane. -/
def State.laneClosed (s : State) (p t : Nat) : Bool :=
  s.isSet (BI.CAR_PORT.WIN_OPEN p) || match s.portWindow p t with
    | some (o, _) => o ≤ t + s.guardNs p
    | none => false

/-- Whether a class-7 frame ends at or before the window closes (R313). -/
def State.fitsWindow (s : State) (p t : Nat) (d : Desc) : Bool := t + s.txNs p (s.charge d) ≤ (s.car p).closeAt

/-- Begin a frame on the wire; a frame for the cascade port goes on lane (ingress port + class) mod 2 (R156). -/
def State.beginTx (s : State) (p t : Nat) (d : Desc) : State :=
  let (s1, l) := s.stampTx p t (padFrame d.bytes)
  (s1.setMac p { s1.mac p with wire := some ⟨d, t, t + s.txNs p (s.charge d)⟩, owesFrame := false }).emit
    (.frame p (if p = 100 then (d.ingress + d.cls) % 2 else 0) l)

/-- EGRESS_TX_START (R311, R313, R314): the scheduled lane goes first, in its window only. -/
def State.txStart (s : State) (p t : Nat) : State :=
  if !s.macFree p t then s
  else
    let m := s.mac p
    let ordinary :=
      match m.ordin with
      | d :: r => if s.laneClosed p t then s else (s.setMac p { m with ordin := r }).beginTx p t d
      | [] => s
    match m.sched with
    | d :: r =>
      if s.isSet (BI.CAR_PORT.WIN_OPEN p) then
        if s.fitsWindow p t d then (s.setMac p { m with sched := r }).beginTx p t d
        else if (s.car p).deferred then s
        else (s.countDefer p).setCar p { s.car p with deferred := true }
      else ordinary
    | [] => ordinary

def execEgressTxStart (port t : Nat) (s : State) : Host.Outcome State Fault Refusal :=
  .next (let s0 := s.begin t; s0.txStart port s0.time)

/-- A frame of the latest safe scene has been sent (R138). -/
def State.sceneSent (s : State) (d : Desc) : State :=
  if d.scene ≠ 0 ∧ d.scene = s.gw.entries then s.addF MI.SN_SCENE.SENT_CNT 1 else s

/-- TRANSMIT_CONFIRM (R28, R71): the last bit has left; descriptor and cells are released. -/
def State.txConfirm (s : State) (p t : Nat) : State :=
  let m := s.mac p
  match m.wire with
  | some w =>
    if w.endAt ≤ t then
      let s1 := ((s.setMac p { m with wire := none }).confirmDesc w.desc).sceneSent w.desc
      if isEthPort p then
        (((s1.cntPort p 8 1).cntPort p 9 (max 64 w.desc.bytes.length)).count (portIsl p) 0x101 1).progress (portIsl p)
      else s1
    else s
  | none => s

def execTransmitConfirm (port t : Nat) (s : State) : Host.Outcome State Fault Refusal :=
  .next (let s0 := s.begin t; s0.txConfirm port s0.time)

end Sys2Proof.Machine
end

