-- ==== Sys2Proof/Machine/Triggers.lean ====
section
/-!
DEFINITION. Gateway triggers without a frame (R449 to R451): their records, the queue of each pipeline, and the start
of a triggered routine.
-/
namespace Sys2Proof.Machine

/-- KIND, ARG and PIPE of trigger `i` in the header of the GW_TEMPLATES body of the current epoch. -/
def State.triggerAt (s : State) (i : Nat) : Nat × Nat × Nat :=
  let h := ngetD (s.bank s.curBank).templates 0 []
  (bodyLe h (4 + 4 * i) 1, bodyLe h (5 + 4 * i) 1, bodyLe h (6 + 4 * i) 1)

/-- A trigger record (R450). -/
def trigRecord (kind arg t rxSeq : Nat) : Frame :=
  beBytes 1 kind ++ beBytes 1 arg ++ beBytes 2 0 ++ beBytes 8 t ++ beBytes 2 rxSeq ++ beBytes 2 0

def State.trigQueue (s : State) (k : Nat) : List (Nat × Frame) := if k = 0 then s.gw.queueA else s.gw.queueB
def State.setTrigQueue (s : State) (k : Nat) (l : List (Nat × Frame)) : State :=
  if k = 0 then { s with gw := { s.gw with queueA := l } } else { s with gw := { s.gw with queueB := l } }

/-- Count a trigger that found the queue full. -/
def State.trigLost (s : State) : State :=
  ((s.addOvf RI.GW_STAT.TRIG_LOST RI.GW_STAT.CNT_OVF 1 1).wr RI.GW_STAT.TRIG_LOST_SEEN 1).raiseIf
    (!s.isSet RI.GW_STAT.TRIG_LOST_SEEN) 31

/-- Whether a queued trigger is one of a signal window. -/
def ofWindow (w : Nat) (e : Nat × Frame) : Bool := beNat (sliceAt e.2 0 1) == 2 && beNat (sliceAt e.2 1 1) == w

/-- Queue trigger `i` at pipeline `k` (R451): one of a signal window replaces the one queued for that window; 64 places, and
one more for a fire alarm. -/
def State.pushTrigger (s : State) (k i kind : Nat) (r : Frame) : State :=
  let q := s.trigQueue k
  if !s.islUp (5 + k) then s
  else if kind = 2 ∧ q.any (ofWindow (beNat (sliceAt r 1 1))) then
    (s.setTrigQueue k (q.map fun e => if ofWindow (beNat (sliceAt r 1 1)) e then (i, r) else e)).addOvf RI.GW_STAT.COALESCED RI.GW_STAT.CNT_OVF 1 1
  else if q.length < 64 ∨ (kind = 3 ∧ q.length < 65) then s.setTrigQueue k (q ++ [(i, r)])
  else s.trigLost

/-- An event of a kind happens: every trigger set on it is queued where PIPE names, in Performance only (R449). -/
def State.fireTriggers (s : State) (kind arg : Nat) (r : Frame) : State :=
  if s.mode != 2 then s
  else
    (List.range 15).foldl (fun s i =>
      let (kd, a, pipe) := s.triggerAt i
      if kd = kind ∧ (kind ≠ 2 ∨ a = arg) then
        let s1 := if bitOf pipe 0 then s.pushTrigger 0 i kind r else s
        if bitOf pipe 1 then s1.pushTrigger 1 i kind r else s1
      else s) s

/-- The PHV of a context without a frame (R450): no layer is marked. -/
def trigPhv (r : Frame) (epoch t fv : Nat) : Frame :=
  padTo 160 r ++ beBytes 1 0 ++ beBytes 1 (epoch % 16) ++ beBytes 2 0
    ++ List.replicate 8 0xFF ++ beBytes 20 0 ++ beBytes 1 101 ++ beBytes 1 0 ++ beBytes 2 0
    ++ beBytes 4 0 ++ beBytes 8 t ++ beBytes 1 0xFF ++ beBytes 15 0 ++ beBytes 8 0 ++ beBytes 24 0 ++ beBytes 64 0
    ++ (List.range 4).flatMap fun i => emptySlot (fv / 2 ^ (88 * i))

/-- TRIGGER_DISPATCH (R449, R450): the oldest trigger of a pipeline starts its routine on Juggler 14 or 15. A trigger that is
still queued when Performance ends stays queued, and starts at the next Performance (DESIGN CHOICE,
notes/assumptions/73.md). -/
def State.trigDispatch (s : State) (k : Nat) : State :=
  if 2 ≤ k || s.mode != 2 || s.dispatchHeld k then s
  else
    match s.trigQueue k, s.freeCtx k true with
    | (i, r) :: rest, some x =>
      let e := s.curEpoch
      match s.routine? k e (129 + i) with
      | some rt =>
        let c := Ctx.start none (trigPhv r e (beNat (sliceAt r 4 8)) s.freeVal) (129 + i) e false rt s.time
          (some (GwCtx.fresh r))
        (((s.setTrigQueue k rest).tookFree.count (5 + k) 0x107 1).setCtx x c).markBusy x true
      | none => s.setTrigQueue k rest
    | _, _ => s

def execTriggerDispatch (pipe t : Nat) (s : State) : Host.Outcome State Fault Refusal :=
  .next ((s.begin t).trigDispatch pipe)

end Sys2Proof.Machine
end

