-- ==== Sys2Proof/Machine/RingOps.lean ====
section
/-!
DEFINITION. What the ring families share: markers and container heads as bytes (R393, R401), the ring ports' records,
the coils (R411 to R414), lock and its loss (R391, R398, R399), roles and the coldstart timer (R425, R426), and the
standing of the running mode (R431, R436, R437, R440). Port 0 is RING_E, 1 is RING_W.
-/
namespace Sys2Proof.Machine

/- ## Markers (R393) -/

/-- The marker in 32 bytes, if SYNC and CRC are good. -/
def markerOf (l : Frame) : Option Marker :=
  let b := fun i => (l.getD i 0).toNat
  let n := fun i k => beNat (sliceAt l i k)
  if l.length = 32 ∧ n 0 4 = 0x4B1D7E93 ∧ n 28 4 = crc32c (l.take 28) then
    some { mode := bitsOf (b 4) 6 2, cycle := bitsOf (b 4) 0 6, matrixId := b 5, dir := bitsOf (b 6) 7 1,
           rmNode := bitsOf (b 6) 0 5, members := bitsOf (b 7) 0 6, vote := n 8 4, schedTime := n 12 8,
           correction := n 20 4, hops := b 24, reqValid := bitOf (b 25) 7, reqMode := bitsOf (b 25) 5 2,
           reqNode := bitsOf (b 25) 0 5, reqAge := bitsOf (b 26) 6 2 }
  else none

/-- The 32 bytes of a marker. -/
def Marker.bytes (m : Marker) : Frame :=
  let l := beBytes 4 0x4B1D7E93 ++ beBytes 1 (m.mode % 4 * 64 + m.cycle % 64) ++ beBytes 1 m.matrixId
    ++ beBytes 1 (m.dir % 2 * 128 + m.rmNode % 32) ++ beBytes 1 (m.members % 64) ++ beBytes 4 m.vote
    ++ beBytes 8 m.schedTime ++ beBytes 4 m.correction ++ beBytes 1 m.hops
    ++ beBytes 1 (m.reqValid.toNat * 128 + m.reqMode % 4 * 32 + m.reqNode % 32) ++ beBytes 1 (m.reqAge % 4 * 64)
    ++ beBytes 1 0
  l ++ beBytes 4 (crc32c l)

/-- Whether a marker follows another after `n` basic cycles (R397, R399). -/
def Marker.follows (m p : Marker) (n : Nat) : Bool :=
  m.cycle == (p.cycle + n) % 64 && m.schedTime == p.schedTime + 500000 * n && m.dir == p.dir && m.rmNode == p.rmNode

/- ## Container heads (R401) -/

/-- The head in 16 bytes, if TYPE, HCRC, DST and LENGTH make it one; and whether TYPE alone does. -/
def conHeadOf (l : Frame) : Option ConHead :=
  let b := fun i => (l.getD i 0).toNat
  let dst := bitsOf (b 2) 0 6
  let len := beNat (sliceAt l 6 2)
  if (b 0 = 0xA7 ∨ b 0 = 0xA8) ∧ beNat (sliceAt l 12 4) = crc32c (l.take 12) ∧ (dst < 32 ∨ dst = 0x3F) ∧ 64 ≤ len
      ∧ len ≤ 9216 then
    some { scheduled := b 0 == 0xA7, cls := bitsOf (b 1) 5 3, src := bitsOf (b 1) 0 5, dst, cycle := bitsOf (b 3) 0 6,
           index := bitsOf (b 4) 5 3, window := bitsOf (b 4) 0 5, hops := b 5, length := len }
  else none

/-- The 16 bytes of a head. -/
def ConHead.bytes (h : ConHead) : Frame :=
  let l := beBytes 1 (if h.scheduled then 0xA7 else 0xA8) ++ beBytes 1 (h.cls % 8 * 32 + h.src % 32)
    ++ beBytes 1 (h.dst % 64) ++ beBytes 1 (h.cycle % 64) ++ beBytes 1 (h.index % 8 * 32 + h.window % 32)
    ++ beBytes 1 h.hops ++ beBytes 2 h.length ++ beBytes 4 0
  l ++ beBytes 4 (crc32c l)

/-- Data blocks of a container: the frame, its last block zero-filled. -/
def conData (l : Frame) : Frame := l ++ List.replicate ((8 - l.length % 8) % 8) 0

/-- Blocks of a container with a frame of `n` bytes. -/
def conBlocks (n : Nat) : Nat := 2 + (n + 7) / 8

/- ## Ring ports -/

def State.ring (s : State) (d : Nat) : RingPort := if d = 0 then s.ringE else s.ringW
def State.setRing (s : State) (d : Nat) (r : RingPort) : State :=
  if d = 0 then { s with ringE := r } else { s with ringW := r }
def State.rschSet (s : State) (f : RingSched → RingSched) : State := { s with rsch := f s.rsch }

/-- Count in a ring port counter (table "Ring counter index"). -/
def State.cntR (s : State) (d c n : Nat) : State := s.addOvf (RI.RING_CNT.COUNT d c) (RI.RING_CNT_OVF.OVF d) (2 ^ c) n

def State.locked (s : State) (d : Nat) : Bool := s.isSet (RI.RING_STAT.MARKER_LOCK d)
def State.node (s : State) : Nat := s.rd RI.NODE_CFG.NODE

/-- A flag whose setting raises an interrupt. -/
def State.flagIrq (s : State) (f : Field) (n : Nat) : State := (s.wr f 1).raiseIf (!s.isSet f) n

/-- TX_DISABLE of a ring port is forced in Rigging and while EN = 0. -/
def State.ringTxForced (s : State) (d : Nat) : Bool := s.mode == 0 || !s.isSet (RI.RING_CTL.EN d)

/-- Whether what port `d` sends leaves the node: its laser is on, and the coil of the direction that leaves there is
energised (R411). -/
def State.ringLit (s : State) (d : Nat) : Bool :=
  !s.ringTxForced d && !s.isSet (RI.SFP_IO.TX_DISABLE d)
    && s.isSet (if d = 0 then RI.BYP_STAT.DRIVE_W else RI.BYP_STAT.DRIVE_E)

/-- Blocks with a bad sync header read as 64 zero bits (R389). -/
def zeroBlocks (l : Frame) (bad : List Nat) : Frame :=
  bad.foldl (fun l i => patchAt l (8 * i) (List.replicate 8 0)) l

/-- Count the bad sync headers among `n` blocks received on a ring port (R389). -/
def State.hdrErrs (s : State) (d n : Nat) (bad : List Nat) : State :=
  let k := ((List.range n).filter bad.contains).length
  if k = 0 then s else s.cntR d 4 k

/-- Whether a ring port takes blocks in: RI runs, and the port has block lock. -/
def State.ringHears (s : State) (d : Nat) : Bool := s.islRuns 3 && s.isSet (RI.RING_STAT.BLOCK_LOCK d)

/-- Send blocks on a ring port. -/
def State.sendBlocks (s : State) (d : Nat) (l : Frame) : State := if s.ringLit d then s.emit (.ringBlocks d l) else s

/-- Loop timing of both transmitters (R391). -/
def State.loopTimed (s : State) : State :=
  [0, 1].foldl (fun s d => s.flag (RI.RING_STAT.LOOP_TIMED d) (!s.isMaster && s.isSet (RI.RING_STAT.BLOCK_LOCK (1 - d)))) s

/- ## Roles and the coldstart timer (R425, R426) -/

/-- Whether node `a`'s pair is better than node `b`'s. -/
def State.pairBetter (s : State) (a b : Nat) : Bool :=
  let p := fun n => s.rd (RI.CS_PRIO.PRIO n)
  p a < p b || (p a == p b && a < b)

/-- CS_RANK: the eligible nodes with a better pair. -/
def State.csRank (s : State) : Nat :=
  ((List.range 32).filter fun n => s.isSet (RI.CS_PRIO.ELIGIBLE n) && s.pairBetter n s.node).length

/-- The node may coldstart: its own entry is ELIGIBLE and CS_EN = 1. -/
def State.csEligible (s : State) : Bool := s.isSet (RI.CS_PRIO.ELIGIBLE s.node) && s.isSet RI.SCHED_CFG.CS_EN

/-- Change CS_STATE (0 member or unjoined, 1 timer running, 2 Ringmaster). -/
def State.setCsState (s : State) (v : Nat) : State :=
  if s.rd RI.SCHED_STAT.CS_STATE = v then s
  else ((s.wr RI.SCHED_STAT.CS_STATE v).flagIrq RI.SCHED_STAT.ROLE_CHG 28).loopTimed

/-- Show whether the coldstart timer runs. -/
def State.refreshCs (s : State) : State :=
  if s.isMaster then s else s.setCsState (if s.rsch.quietSince.isSome && s.csEligible then 1 else 0)

/-- Neither port has lock or a train, outside Rigging. -/
def State.ringQuiet (s : State) : Bool :=
  s.mode != 0 && s.islRuns 3 && !s.anyLock && s.ringE.trains.isEmpty && s.ringW.trains.isEmpty

/-- Keep since when the ring has been quiet (R426). -/
def State.noteQuiet (s : State) : State :=
  (s.rschSet fun r => { r with quietSince := if s.ringQuiet then some (r.quietSince.getD s.now) else none }).refreshCs

/- ## Lock (R398, R399) -/

/-- A ring port on which nothing is tracked or known. -/
def RingPort.clear (r : RingPort) : RingPort := { r with trains := [], last := none, missed := 0, fresh := false }

/-- Marker lock of a port changes (R399). -/
def State.lockChanged (s : State) (d : Nat) : State := s.flagIrq (RI.RING_STAT.LOCK_CHG d) 25

/-- The port that feeds the time island (R410). -/
def State.timePort (s : State) : Nat :=
  let p := s.rd RI.TIME_SRC.PREF
  if s.locked p || !s.locked (1 - p) then p else 1 - p
def State.setUsed (s : State) : State := s.wr RI.TIME_SRC.USED s.timePort

/-- Break the run of basic cycles under observation. -/
def State.breakRun (s : State) : State := s.rschSet fun r => { r with runSeen := 0, runOk := false, runSig := none }

/-- The search of a port restarts with an empty table; JOIN_OK falls when neither port is locked. -/
def State.unlock (s : State) (d : Nat) : State :=
  let was := s.locked d
  let s1 := (s.setRing d (s.ring d).clear).wrs [(RI.RING_STAT.TRAINS d, 0), (RI.RING_STAT.MARKER_LOCK d, 0)]
  let s2 := if was then (s1.addF (RI.RING_STAT.LOCK_LOSS_CNT d) 1).lockChanged d else s1
  let s3 := if was && !s2.anyLock then (s2.setJoin false).breakRun else s2
  s3.setUsed.noteQuiet

/-- A port loses block lock, and marker lock with it. -/
def State.loseBlockLock (s : State) (d : Nat) : State :=
  if s.isSet (RI.RING_STAT.BLOCK_LOCK d) then ((s.wr (RI.RING_STAT.BLOCK_LOCK d) 0).unlock d).loopTimed else s

/- ## Coils (R411, R413, R414) -/

def coilDrive (c : Nat) : Field := if c = 0 then RI.BYP_STAT.DRIVE_E else RI.BYP_STAT.DRIVE_W
def coilHit (c : Nat) : Field := if c = 0 then RI.BYP_STAT.HIT_E else RI.BYP_STAT.HIT_W
def coilPin (c : Nat) : String := if c = 0 then "BYPASS_HOLD_E" else "BYPASS_HOLD_W"

/-- Drive a coil (0 BYPASS_HOLD_E, 1 BYPASS_HOLD_W). De-energised, its direction passes the node by, and the port it
enters at loses block lock. -/
def State.setCoil (s : State) (c : Nat) (on : Bool) : State :=
  if s.isSet (coilDrive c) == on then s
  else
    let s1 := (((s.flag (coilDrive c) on).addF RI.BYP_STAT.CHG_CNT 1).wr (coilHit c) 1).flagIrq RI.BYP_STAT.CHG 26
    let s2 := s1.rschSet fun r => if c = 0 then { r with hitE := s.now } else { r with hitW := s.now }
    let s3 := s2.emit (.pin (coilPin c) on.toNat)
    if on then s3 else s3.loseBlockLock c

/-- Rehearsal to Rigging is in transit (R140). -/
def State.closing (s : State) : Bool := s.isSet MI.MODE_STAT.IN_TRANSIT && s.boot.goal == 0

/-- Whether the opening and closing sequences of R139 and R140 have a coil energised. -/
def State.coilWanted (s : State) (c : Nat) : Bool :=
  s.mode != 0 && s.ringUsed && s.rsch.opticsAt.isNone
    && (if c = 0 then !s.closing || s.rsch.releasedWAt.isSome else s.rsch.heldEAt.isNone && !s.closing)

/-- Drive a coil as its sequence and FORCE_BYP have it; FORCE_BYP acts outside Rigging (R414). -/
def State.applyCoil (s : State) (c : Nat) : State :=
  s.setCoil c (s.coilWanted c && !s.isSet (RI.RING_CTL.FORCE_BYP c))

/- ## The running mode -/

/-- MATRIX_ID of the node's own body for a mode. -/
def State.ownMatrix (s : State) (mode : Nat) : Option Nat := (s.modeBody mode).map modeMatrixId

/-- Change STATUS of the node's request (R437). -/
def State.setReqStatus (s : State) (v : Nat) : State :=
  if s.rd RI.MCHG_STAT.STATUS = v then s else (s.wr RI.MCHG_STAT.STATUS v).flagIrq RI.MCHG_STAT.OUTCOME 29

/-- The running mode as the markers carry it. -/
def State.setRunning (s : State) (mode matrix : Nat) : State :=
  let s1 := s.wrs [(RI.SCHED_STAT.MODE, mode), (RI.SCHED_STAT.MATRIX_ID, matrix)]
  if s.rd RI.SCHED_STAT.MODE = mode % 4 then s1 else s1.flagIrq RI.SCHED_STAT.MODE_CHG 29

/-- The Ringmaster changes: an open request is dropped (R440). -/
def State.setRm (s : State) (n : Nat) : State :=
  let st := s.rd RI.MCHG_STAT.STATUS
  let s1 := s.wr RI.SCHED_STAT.RM_NODE n
  if s.rd RI.SCHED_STAT.RM_NODE ≠ n ∧ (st = 1 ∨ st = 2) then s1.setReqStatus 7 else s1

/-- The port windows follow a mode; those of another mode shut (R436, R441). -/
def State.applyPortMode (s : State) (m : Nat) : State :=
  if s.rsch.portMode = m then s else s.shutWindows.rschSet fun r => { r with portMode := m }

/-- The vote of R434 on a mode. Instance m of the SCHED_MODE bodies is structure 100 + m of a staged image. -/
def State.wouldVote (s : State) (m : Nat) : Bool :=
  (s.modeBody m).isSome && !(s.epoch.imageTables.contains (100 + m)) && !s.isSet RI.SCHED_CFG.VETO

/-- The number of one bits of a 32-bit number. -/
def popcount32 (v : Nat) : Nat := ((List.range 32).filter fun i => bitOf v i).length

/-- The agreed target of a change that takes effect at the next matrix boundary (R104, R436). -/
def State.agreeTo (s : State) (m : Nat) : State :=
  (s.wr RI.SCHED_STAT.AGREED_PENDING 1).rschSet fun r => { r with agreed := some m }

/-- The requester sees what a marker says of its request (R436, R437). -/
def State.seeRequest (s : State) (m : Marker) : State :=
  let st := s.rd RI.MCHG_STAT.STATUS
  let mine := m.reqValid && m.reqNode == s.node && m.reqMode == s.rd RI.MCHG_STAT.LAST_MODE
  let s0 := s.wr RI.MCHG_STAT.REQ_AGE m.reqAge
  let announced := m.reqValid && m.vote == 0xFFFFFFFF
  let s1 := if announced then s0.agreeTo m.reqMode else s0
  if announced && mine && st == 2 then s1.setReqStatus 3
  else if m.cycle == 0 && (st == 2 || st == 3) then
    if m.mode == s.rd RI.MCHG_STAT.LAST_MODE then s1.setReqStatus 4 else if mine then s1 else s1.setReqStatus 5
  else s1

/- ## Joining (R430) -/

/-- Observe a present marker for the full valid matrix cycle of R430. -/
def State.observeRun (s : State) (m : Marker) : State :=
  let sig := (m.rmNode, m.mode, m.matrixId)
  let r := s.rsch
  if s.ownMatrix m.mode != some m.matrixId || s.isSet RI.SCHED_STAT.SCALE_CONFLICT then s.breakRun
  else if m.cycle = 0 ∧ !(r.runOk && r.runSeen == 1 && r.runSig == some sig) then
    s.rschSet fun r => { r with runSeen := 1, runOk := true, runSig := some sig }
  else if r.runOk && r.runSig == some sig && m.cycle == r.runSeen then s.rschSet fun r => { r with runSeen := r.runSeen + 1 }
  else if r.runOk && r.runSig == some sig && m.cycle + 1 == r.runSeen then s
  else s.breakRun

/-- Set SCALE_CONFLICT (R428). -/
def State.setConflict (s : State) : State :=
  (s.breakRun.wr RI.SCHED_STAT.SCALE_CONFLICT 1).flagIrq RI.SCHED_STAT.CONFLICT_SEEN 28

/-- A change of role ends what a Ringmaster counts: the HOPS of its returned markers (R429), and TALLY (R435). -/
def State.clearCounts (s : State) : State :=
  { s with ringE := { s.ringE with hopsBack := none }, ringW := { s.ringW with hopsBack := none } }.wr RI.MCHG_STAT.TALLY 0

/- ## Positions in a port's transmit stream (R391, R392) -/

/-- Whether a port's stream carries markers and containers (R400). -/
def State.streams (s : State) (d : Nat) : Bool := s.islRuns 3 && (s.isMaster || s.locked (1 - d))

/-- The block position at `t` in port `d`'s transmit stream, and the number of the basic cycle there. -/
def State.streamPos (s : State) (d t : Nat) : Option (Nat × Nat) :=
  match (s.ring d).sent with
  | (c, t3) :: _ =>
    if s.streams d && t3 ≤ t then some ((t - t3) % 500000 * 10 / 64, (c + (t - t3) / 500000) % 64) else none
  | [] => none

/-- Where `n` blocks from a position on end; positions 0 to 6 are skipped (R402). -/
def endBlock (pos n : Nat) : Nat := if pos + n ≤ 78125 then pos + n else pos + n + 7

/-- Nanoseconds of a number of blocks, rounded up. -/
def blockNs (n : Nat) : Nat := (n * 64 + 9) / 10

/-- Nanoseconds that `n` blocks take out of a port from `t` on: positions 0 to 6 are skipped (R402). -/
def State.runNs (s : State) (d t n : Nat) : Nat :=
  match s.streamPos d t with
  | some (pos, _) => blockNs (endBlock (max pos 7) n - pos)
  | none => blockNs n

end Sys2Proof.Machine
end

