-- ==== Sys2Proof/Machine/RingLink.lean ====
section
/-!
DEFINITION. The ring link (13_gwevik_ring_link.md): the search for markers (R396 to R398), present and missing markers
(R399, R395, R410), what a member and a Ringmaster do with them (R427 to R435), originating (R394, R415), block lock,
and link service (R408, R409).
-/
namespace Sys2Proof.Machine

/- ## Requests and votes (R432 to R435) -/

/-- Write the node's waiting request into a marker that carries none (R432). -/
def State.carryRequest (s : State) (m : Marker) : State × Marker :=
  if s.rd RI.MCHG_STAT.STATUS = 1 ∧ !m.reqValid then
    (s.setReqStatus 2, { m with reqValid := true, reqMode := s.rd RI.MCHG_STAT.LAST_MODE, reqNode := s.node, reqAge := 0 })
  else (s, m)

/-- Set the node's vote bit where R434 has it. -/
def State.castVote (s : State) (m : Marker) : Marker :=
  if m.reqValid && s.wouldVote m.reqMode then { m with vote := m.vote ||| 2 ^ s.node } else m

/-- A request carried by the Ringmaster is agreed at the first instant TALLY holds MEMBERS_MAX bits (R435). -/
def State.checkAgreed (s : State) : State :=
  match s.rsch.request with
  | some _ =>
    if !s.rsch.announced && s.rsch.membersMax ≤ popcount32 (s.rd RI.MCHG_STAT.TALLY) then
      s.rschSet fun r => { r with announced := true }
    else s
  | none => s

/- ## Sending markers and link service -/

/-- The link-service blocks of a port (R408), for a marker sent at `t3`. -/
def State.linkService (s : State) (d t3 : Nat) : Frame :=
  let r := s.ring d
  let (t2, v, c) := match r.last with
    | some m => (r.lastAt, 1, m.cycle)
    | none => (0, 0, 0)
  let l := beBytes 8 t2 ++ beBytes 8 t3 ++ beBytes 4 (s.node * 2 ^ 27 + v * 2 ^ 26 + c * 2 ^ 18)
  l ++ beBytes 4 (crc32c l)

/-- Send the link-service blocks of a cycle without a marker on a port (R408): they stand behind where it would be. -/
def State.sendService (s : State) (d t3 : Nat) : State := s.sendBlocks d (s.linkService d t3)

/-- Where the marker of the cycle about `t` would begin on a port: a whole number of cycles behind the last one sent. -/
def State.nextT3 (s : State) (d t : Nat) : Nat :=
  match (s.ring d).sent with
  | (_, t3) :: _ => t3 + (t + 250000 - t3) / 500000 * 500000
  | [] => t

/-- Send a marker, and the link-service blocks behind it, on a port at `t3`; CYCLE and T3 are kept for R409. -/
def State.sendMarker (s : State) (d t3 : Nat) (m : Marker) : State :=
  let s1 := s.sendBlocks d (m.bytes ++ s.linkService d t3)
  s1.setRing d { s1.ring d with sent := ((m.cycle, t3) :: (s1.ring d).sent).take 64 }

/-- A member repeats a marker out of the other port (R395, R409). -/
def State.repeatMarker (s : State) (d t res : Nat) (m : Marker) : State :=
  if 31 < m.hops + 1 then s.sendService (1 - d) (t + res)
  else
    let (s1, m1) := s.carryRequest m
    let m2 := s1.castVote m1
    let m3 := { m2 with hops := m.hops + 1,
                        correction := (m.correction + s.rd (RI.RING_DLY.HOP_NS d) + res) % 2 ^ 32 }
    ((s1.wr (RI.RING_DLY.RES_NS d) res).wr RI.MCHG_STAT.TALLY m3.vote).sendMarker (1 - d) (t + res) m3

/- ## Time from markers (R363, R368, R410, R428) -/

/-- Schedule time as a marker on port `d` has it at its arrival. -/
def State.markerTime (s : State) (d : Nat) (m : Marker) : Nat := m.schedTime + m.correction + s.rd (RI.RING_DLY.HOP_NS d)

/-- Load schedule time at a member's first marker lock (R363). The scale changes, so what was kept in the old one goes. -/
def State.loadTime (s : State) (t : Nat) : State :=
  let s1 := (s.wr TI.SCHED.TIME t).validate
  { s1 with ringE := { s1.ringE with sent := [] }, ringW := { s1.ringW with sent := [] } }

/-- Feed a present marker to the time island, and judge the scale by it (R410, R428). -/
def State.feedTime (s : State) (d t : Nat) (m : Marker) : State :=
  let s0 := s.setUsed
  if s0.isMaster || m.rmNode == s0.node || s0.timePort != d || !s0.islUp 2 then s0
  else
    let e : Int := (s0.markerTime d m : Int) - t
    let s1 := (s0.ringSample t e).evalQuality
    let conflict := (s0.ring d).fresh && 10000 < e.natAbs
    let s2 := s1.setRing d { s1.ring d with fresh := false }
    if conflict then s2.setConflict
    else if s2.isSet RI.SCHED_STAT.SCALE_CONFLICT && e.natAbs ≤ 1000 then s2.wr RI.SCHED_STAT.SCALE_CONFLICT 0
    else s2

/- ## Present markers -/

/-- Keep the last present marker of a port and its arrival. -/
def State.keepMarker (s : State) (d t : Nat) (m : Marker) (bytes : Frame) : State :=
  let s1 := s.setRing d { s.ring d with last := some m, lastAt := t, missed := 0 }
  ((List.range 4).foldl (fun s w => s.wr (RI.MARKER.BYTES d w) (beNat (sliceAt bytes (8 * w) 8))) s1).cntR d 0 1 |>.count 3
    0x100 1

/-- MISMATCH (R431): set by a joined node at a marker whose MATRIX_ID is not that of its own body, until one matches. -/
def State.noteMismatch (s : State) (m : Marker) : State :=
  if s.ownMatrix m.mode = some m.matrixId then s.wr RI.SCHED_STAT.MISMATCH 0
  else if s.isSet MI.MODE_COND.JOIN_OK then s.wr RI.SCHED_STAT.MISMATCH 1
  else s

/-- What an accepted marker shows (RI.SCHED_STAT). The running mode's port windows apply; those of an agreed mode, which
a matrix boundary has already applied, wait for the cycle-0 marker that carries it (R436). -/
def State.acceptMarker (s : State) (m : Marker) : State :=
  let s1 := ((s.setRm m.rmNode).setRunning m.mode m.matrixId).wrs [(RI.SCHED_STAT.MEMBERS, m.members),
    (RI.SCHED_STAT.CYCLE, m.cycle)]
  let s2 := s1.noteMismatch m
  let s3 := if m.cycle = 0 ∨ s2.rsch.agreed ≠ some s2.rsch.portMode then s2.applyPortMode m.mode else s2
  let s4 := if m.cycle = 0 then (s3.wr RI.SCHED_STAT.AGREED_PENDING 0).rschSet fun r => { r with agreed := none } else s3
  s4.seeRequest m

/-- Whether RING_E's own returned marker of the same RI cycle, with a request, is still to come in the queue: it is the one
whose request is adopted (R433). -/
def State.eastRequest (s : State) : Bool :=
  s.pending.any fun c => match c with
    | .ringMarkerRx d w _ t =>
      d == 0 && cyclesTo 3 t == cyclesTo 3 s.time && s.locked 0 && (match markerOf (zeroBlocks w.bytes w.bad) with
        | some m => m.reqValid && m.rmNode == s.node && m.follows ((s.ring 0).last.getD m) ((s.ring 0).missed + 1)
        | none => false)
    | _ => false

/-- A Ringmaster receives a marker of its own (R429, R433, R435). -/
def State.ownReturned (s : State) (d : Nat) (m : Marker) : State :=
  let r := s.ring d
  let s1 := s.setRing d { r with hopsBack := some (max m.hops (r.hopsBack.getD 0)) }
  let s2 := s1.orF RI.MCHG_STAT.TALLY m.vote
  let s3 := if m.reqValid && s2.rsch.request.isNone && !(d == 1 && s2.eastRequest) then
      s2.rschSet fun q => { q with request := some (m.reqMode, m.reqNode, m.reqAge) }
    else s2
  s3.checkAgreed

/-- A present marker (R399): kept, passed to the time island and the schedule, and repeated or terminated. -/
def State.presentMarker (s : State) (d t res : Nat) (m : Marker) (bytes : Frame) : State :=
  let s1 := (s.keepMarker d t m bytes).feedTime d t m
  if s1.isMaster then
    if m.rmNode = s1.node then ((s1.ownReturned d m).observeRun m).noteMismatch m
    else if s1.pairBetter m.rmNode s1.node then s1.rschSet fun r => { r with yield := true }
    else s1
  else ((s1.acceptMarker m).observeRun m).repeatMarker d t res m

/- ## The search (R396 to R398) -/

/-- Show the trains tracked. -/
def State.setTrains (s : State) (d : Nat) (l : List Train) : State :=
  ((s.setRing d { s.ring d with trains := l }).wr (RI.RING_STAT.TRAINS d) l.length).noteQuiet

/-- Remove the trains whose expected position has passed by a block (R397). -/
def State.expireTrains (s : State) (d : Nat) (gone : Train → Bool) : State :=
  let l := (s.ring d).trains
  let n := (l.filter gone).length
  if n = 0 then s else (s.setTrains d (l.filter fun t => !gone t)).cntR d 2 n

/-- Marker lock at the third marker of a train, which stays tracked alone (R398). The third marker is itself present. -/
def State.lock (s : State) (d t res : Nat) (m : Marker) (bytes : Frame) (train : Train) : State :=
  let s1 := ((s.setTrains d [train]).wr (RI.RING_STAT.MARKER_LOCK d) 1).lockChanged d
  let load := !s1.isMaster && !s1.isSet TI.SEL_STAT.SCHED_VALID && m.rmNode != s1.node
  let s2 := if load then s1.loadTime (s1.markerTime d m) else s1
  let s3 := (s2.setRing d { s2.ring d with fresh := !load }).setUsed.noteQuiet
  s3.presentMarker d (if load then s1.markerTime d m else t) res m bytes

/-- RING_MARKER_CANDIDATE (R396, R397): a candidate that begins at a block of the received stream. -/
def State.search (s : State) (d : Nat) (bytes : Frame) (block res : Nat) : State :=
  match markerOf bytes with
  | some m =>
    if s.ringHears d && !s.locked d then
      let s1 := s.expireTrains d fun t => t.block + 78125 < block
      let l := (s1.ring d).trains
      match l.find? fun t => t.block + 78125 == block && m.follows t.last 1 with
      | some t =>
        if 2 ≤ t.count then s1.lock d s1.time res m bytes ⟨block, t.count + 1, m⟩
        else s1.setTrains d (l.map fun u => if u = t then ⟨block, t.count + 1, m⟩ else u)
      | none => if l.length < 4 then s1.setTrains d (l ++ [⟨block, 1, m⟩]) else s1.cntR d 3 1
    else s
  | none => s

/-- Blocks arrive on a ring port: those in `bad` are counted, and read as zeros (R389). -/
def State.hear (s : State) (d n : Nat) (bad : Blocks) : State := if s.ringHears d then s.hdrErrs d n bad else s

def execRingMarkerCandidate (d : Nat) (run : RingRun) (block res t : Nat) (s : State) :
    Host.Outcome State Fault Refusal :=
  .next (let s0 := s.begin t; if d < 2 then (s0.hear d 4 run.bad).search d (zeroBlocks run.bytes run.bad) block res else s0)

/-- RING_TRAIN_EXPIRE (R397): an expected position has passed without a consistent candidate. The search is over once the
port is locked. -/
def execRingTrainExpire (d block t : Nat) (s : State) : Host.Outcome State Fault Refusal :=
  .next (let s0 := s.begin t; if d < 2 && !s0.locked d then s0.expireTrains d fun t => t.block + 78125 ≤ block else s0)

/- ## Locked (R399) -/

/-- An expected position without a present marker; the fourth in a row ends lock. A member that is locked still has nothing
to repeat, but sends the link-service blocks of the cycle (R408). -/
def State.missMarker (s : State) (d t : Nat) : State :=
  let r := s.ring d
  let s1 := (s.setRing d { r with missed := r.missed + 1 }).cntR d 1 1
  if 4 ≤ r.missed + 1 then s1.unlock d
  else if s1.isMaster then s1
  else s1.sendService (1 - d) (s1.nextT3 (1 - d) t)

/-- Whether a marker is consistent with the last present one, the positions missed since counted in. MODE and MATRIX_ID
change only where a cycle 0 has been reached. -/
def RingPort.consistent (r : RingPort) (m : Marker) : Bool :=
  match r.last with
  | some p =>
    m.follows p (r.missed + 1)
      && ((m.mode == p.mode && m.matrixId == p.matrixId) || 64 ≤ p.cycle + r.missed + 1)
  | none => true

/-- RING_MARKER_RX: what stands at the expected position of a locked port. -/
def State.markerRx (s : State) (d : Nat) (bytes : Frame) (res t : Nat) : State :=
  if !s.islRuns 3 || !s.locked d then s
  else
    match markerOf bytes with
    | some m =>
      if (s.ring d).consistent m then s.presentMarker d t res m bytes
      else (s.flagIrq (RI.RING_STAT.INCONSIST d) 27).missMarker d t
    | none => s.missMarker d t

def execRingMarkerRx (d : Nat) (run : RingRun) (res t : Nat) (s : State) : Host.Outcome State Fault Refusal :=
  .next (let s0 := s.begin t
         if d < 2 then (s0.hear d 4 run.bad).markerRx d (zeroBlocks run.bytes run.bad) res s0.time else s0)

/-- RING_MARKER_MISSING: no marker at the expected position. -/
def execRingMarkerMissing (d t : Nat) (s : State) : Host.Outcome State Fault Refusal :=
  .next (let s0 := s.begin t; if d < 2 && s0.islRuns 3 && s0.locked d then s0.missMarker d s0.time else s0)

/- ## Block lock (R391, R399) -/

/-- RING_BLOCK_LOCK_LOSS. -/
def execRingBlockLockLoss (d t : Nat) (s : State) : Host.Outcome State Fault Refusal :=
  .next (let s0 := s.begin t; if d < 2 then s0.loseBlockLock d else s0)

/-- RING_BLOCK_LOCK_ACQUIRED: the coil of the received direction has to be energised (R411). -/
def State.blockLock (s : State) (d : Nat) : State :=
  if s.islRuns 3 && s.isSet (coilDrive d) && !s.isSet (RI.RING_STAT.BLOCK_LOCK d) then
    ((s.wr (RI.RING_STAT.BLOCK_LOCK d) 1).setTrains d []).loopTimed
  else s

def execRingBlockLockAcquired (d t : Nat) (s : State) : Host.Outcome State Fault Refusal :=
  .next (let s0 := s.begin t; if d < 2 then s0.blockLock d else s0)

/- ## Originating (R394, R415, R427, R429, R433, R435) -/

/-- MEMBERS of the next markers (R429). -/
def State.membersNow (s : State) : Nat := 1 + max (s.ringE.hopsBack.getD 0) (s.ringW.hopsBack.getD 0)

/-- The request fields, and VOTE, of an originated marker. -/
def State.ownRequest (s : State) (m : Marker) : Marker :=
  match s.rsch.request with
  | some (mode, node, age) =>
    let m1 := { m with reqValid := true, reqMode := mode, reqNode := node, reqAge := age }
    if s.rsch.announced then { m1 with vote := 0xFFFFFFFF } else s.castVote m1
  | none => m

/-- A waiting Ringmaster carries its own request (R432). -/
def State.adoptOwn (s : State) : State :=
  if s.rd RI.MCHG_STAT.STATUS = 1 ∧ s.rsch.request.isNone then
    (s.setReqStatus 2).rschSet fun r => { r with request := some (s.rd RI.MCHG_STAT.LAST_MODE, s.node, 0) }
  else s

/-- The Ringmaster's own vote bit counts in TALLY (R435). -/
def State.tallyOwn (s : State) : State :=
  match s.rsch.request with
  | some (mode, _, _) =>
    (if s.wouldVote mode then s.orF RI.MCHG_STAT.TALLY (2 ^ s.node) else s).checkAgreed
  | none => s

/-- The Ringmaster that has met a better one's markers becomes a member at the start of a basic cycle (R427). -/
def State.yieldRole (s : State) : State :=
  if s.isMaster && s.rsch.yield then
    (((s.rschSet fun r => { r with yield := false, request := none, announced := false }).clearCounts).setCsState 0).noteQuiet
  else s

/-- MARKER_ORIGINATE: the Ringmaster originates a marker on both ports at a multiple of 500,000 ns. -/
def State.originate (s : State) (t : Nat) : State :=
  if !(s.isMaster && t % 500000 == 0) then s
  else if s.rsch.yield then s.yieldRole
  else if s.islRuns 3 then
    let members := min 32 s.membersNow
    let s1 := (s.rschSet fun r => { r with membersMax := max r.membersMax members }).adoptOwn.tallyOwn
    let s2 := { s1 with ringE := { s1.ringE with hopsBack := none }, ringW := { s1.ringW with hopsBack := none } }
    let mode := s2.rd RI.SCHED_STAT.MODE
    let m : Marker := { mode, cycle := cycleAt t, matrixId := (s2.ownMatrix mode).getD (s2.rd RI.SCHED_STAT.MATRIX_ID),
                        dir := 0, rmNode := s2.node, members, vote := 0, schedTime := t, correction := 0, hops := 0,
                        reqValid := false, reqMode := 0, reqNode := 0, reqAge := 0 }
    let m1 := s2.ownRequest m
    let s3 := ((s2.setRm s2.node).setRunning mode m.matrixId).wrs [(RI.SCHED_STAT.MEMBERS, members),
      (RI.SCHED_STAT.CYCLE, m.cycle)]
    let s4 := if m.cycle = 0 then ((s3.applyPortMode mode).wr RI.SCHED_STAT.AGREED_PENDING 0).rschSet fun r =>
      { r with agreed := none } else s3
    (((s4.seeRequest m1).sendMarker 0 t m1)).sendMarker 1 t { m1 with dir := 1 }
  else s

def execMarkerOriginate (t : Nat) (s : State) : Host.Outcome State Fault Refusal :=
  .next (let s0 := s.begin t; s0.originate s0.time)

/- ## Link service (R408, R409) -/

/-- Count a link-service reception that gives no sample. -/
def State.lsBad (s : State) (d : Nat) : State := (s.cntR d 15 1).raise 27

/-- A link-delay sample, doubled. -/
def lsSample (t1 t2 t3 t4 : Nat) (asym : Int) : Int := ((t4 : Int) - t1) - ((t3 : Int) - t2) + 2 * asym

/-- The mean of doubled samples, to the nearest ns (notes/assumptions/40.md). -/
def meanHalf (l : List Int) : Int := (l.sum + l.length) / (2 * l.length)

/-- T3 of the node's own marker of a CYCLE, sent in the last 32 ms. -/
def State.sentT3 (s : State) (d cycle : Nat) : Option Nat :=
  ((s.ring d).sent.find? fun e => e.1 == cycle && s.time ≤ e.2 + 32000000).map fun e => e.2

/-- Note NODE of good link-service blocks: a change empties the mean. -/
def State.neighbour (s : State) (d n : Nat) : State :=
  let changed := s.isSet (RI.RING_STAT.NB_VALID d) && s.rd (RI.RING_STAT.NEIGHBOUR d) != n
  let s1 := s.wrs [(RI.RING_STAT.NEIGHBOUR d, n), (RI.RING_STAT.NB_VALID d, 1)]
  if changed then s1.setRing d { s1.ring d with samples := [] } else s1

/-- LINK_SERVICE_RX (R409): the neighbour's blocks 4 to 6. -/
def State.linkServiceRx (s : State) (d : Nat) (l : Frame) : State :=
  if !s.islRuns 3 || !s.locked d then s
  else if l.length ≠ 24 ∨ beNat (sliceAt l 20 4) ≠ crc32c (l.take 20) then s.lsBad d
  else
    let w := beNat (sliceAt l 16 4)
    let s1 := s.neighbour d (bitsOf w 27 5)
    let r := s1.ring d
    match r.last, s1.sentT3 d (bitsOf w 18 6) with
    | some _, some t1 =>
      if bitOf w 26 && r.missed == 0 then
        let x := lsSample t1 (beNat (sliceAt l 0 8)) (beNat (sliceAt l 8 8)) r.lastAt (s1.rdS (RI.RING_CTL.ASYM_NS d))
        let samples := (x :: r.samples).take 16
        ((s1.setRing d { r with samples, sampleAt := s1.now }).wr (RI.RING_STAT.LS_STALE d) 0).wrS (RI.RING_DLY.HOP_NS d)
          (meanHalf samples)
      else s1.lsBad d
    | _, _ => s1.lsBad d

def execLinkServiceRx (d : Nat) (run : RingRun) (t : Nat) (s : State) : Host.Outcome State Fault Refusal :=
  .next (let s0 := s.begin t; if d < 2 then (s0.hear d 3 run.bad).linkServiceRx d (zeroBlocks run.bytes run.bad) else s0)

/-- LS_STALE (R409): no sample for the time of 16 cycles, the port locked or not; HOP_NS keeps its value. -/
def execLsStale (d t : Nat) (s : State) : Host.Outcome State Fault Refusal :=
  .next (let s0 := s.begin t
         if d < 2 && s0.islUp 3 && (s0.ring d).sampleAt + 8000000 ≤ s0.now then s0.wr (RI.RING_STAT.LS_STALE d) 1 else s0)

/- ## Forced bypass (R414) -/

/-- FORCE_BYP_WRITE: refused when it would change one coil during the other's hit. -/
def State.forceBypass (s : State) (d : Nat) (v : Bool) : State :=
  let s1 := s.flag (RI.RING_CTL.FORCE_BYP d) v
  let want := s1.coilWanted d && !v
  if s1.mode = 0 ∨ s.isSet (coilDrive d) = want then s1
  else if s.isSet (coilHit (1 - d)) then s.flagIrq RI.BYP_STAT.FORCE_REFUSED 26
  else s1.applyCoil d

def execForceBypWrite (src : Src) (d : Nat) (v : Bool) (s : State) : Host.Outcome State Fault Refusal :=
  .next (s.quiet.regCmd src 3 (0x10 + 8 * d) false fun s => if d < 2 then s.forceBypass d v else s)

/-- BYPASS_HIT_END (R413): 15 ms after a coil change. -/
def State.hitEnd (s : State) (c : Nat) : State :=
  if (if c = 0 then s.rsch.hitE else s.rsch.hitW) + 15000000 ≤ s.now then s.wr (coilHit c) 0 else s

def execBypassHitEnd (coil t : Nat) (s : State) : Host.Outcome State Fault Refusal :=
  .next (let s0 := s.begin t; if coil < 2 then s0.hitEnd coil else s0)

end Sys2Proof.Machine
end

