-- ==== Sys2Proof/Machine/RingFrames.lean ====
section
/-!
DEFINITION. Containers (R401 to R407): reception, delivery and deduplication, transit, and what a node inserts itself
(R405, R406, R419 to R421); delivery of signals (R424).
-/
namespace Sys2Proof.Machine

/- ## The running ring windows -/

/-- The ring windows of the running mode. -/
def State.runWindows (s : State) : List RingWindow :=
  match s.modeBody (s.rd RI.SCHED_STAT.MODE) with
  | some b => ringWindows b
  | none => []

/-- The window of index `w`, if it is a signal window. -/
def State.signalWindow (s : State) (w : Nat) : Option RingWindow := s.runWindows.find? fun x => x.index == w && x.kind == 1

/- ## Signal buffers (R422 to R424) -/

/-- The 256 bytes of a bank held in registers, byte 8k in the upper end of word k. -/
def State.sigBank (s : State) (f : Nat → Nat → Field) (w : Nat) : Frame :=
  (List.range 32).flatMap fun k => beBytes 8 (s.rd (f w k))
def State.setSigBank (s : State) (f : Nat → Nat → Field) (w : Nat) (l : Frame) : State :=
  (List.range 32).foldl (fun s k => s.wr (f w k) (beNat (sliceAt l (8 * k) 8))) s

/-- Publish a window: the back bank becomes the published one, and is copied into the new back bank (R422). Publications of
one window in one RI cycle are one (R463), with the content of the last. -/
def State.publish (s : State) (w : Nat) : State :=
  let now := cyclesTo 3 s.now + 1
  let s1 := s.rschSet fun r => { r with sigPub := nset r.sigPub w (s.sigBank RI.SIG_TX.DATA w) }
  if ngetD s.gw.pubAt w 0 == now then s1
  else { s1.addF (RI.SIG_STAT.PUB_SEQ w) 1 with gw := { s.gw with pubAt := nset s.gw.pubAt w now } }

/-- The published bank of a window. -/
def State.published (s : State) (w : Nat) : Frame := ngetD s.rsch.sigPub w (List.replicate 256 0)

/-- The start of the latest basic cycle numbered `c` at or before `t`. -/
def latestCycle (c t : Nat) : Nat := (t / basicNs - (t / basicNs + 64 - c % 64) % 64) * basicNs

/-- A delivered signal container is consumed (R424): a good one becomes the front bank of its receive pair. -/
def State.signalRx (s : State) (h : ConHead) (l : Frame) : State :=
  let w := h.window
  let start := latestCycle h.cycle s.time
  let s0 := s.rschSet fun r => { r with sigSeen := nset r.sigSeen w start }
  if (l.getD 0 0).toNat / 16 == 1 && fcsGood l then
    let n := min 256 (min (beNat (sliceAt l 6 2)) (l.length - 12))
    let front := s.sigBank RI.SIG_RX.DATA w
    let back := patchAt (ngetD s.rsch.sigBack w (List.replicate 256 0)) 0 (sliceAt l 8 n)
    let s1 := (s0.rschSet fun r => { r with sigBack := nset r.sigBack w front }).setSigBank RI.SIG_RX.DATA w back
    let s2 := s1.addF (RI.SIG_STAT.RX_SEQ w) 1
    s2.fireTriggers 2 w (trigRecord 2 w start (s2.rd (RI.SIG_STAT.RX_SEQ w)))
  else s0.wr (RI.SIG_STAT.MISSED w) 1

/- ## Delivery (R403, R407) -/

/-- A frame enters a ring port's ingress FIFO, or is refused (R403); MAC control frames are ignored (R157). -/
def State.ringIngress (s : State) (d t : Nat) (l : Frame) : State :=
  let p := 96 + d
  if fifoSize p < ((s.mac p).copies.map fun c => c.bytes.length).sum + l.length then s.cntR d 7 1
  else if !fcsGood l then s.cntR d 6 1
  else if etherType l = 0x8808 then s
  else s.hold p p l (s.rxStamp p t) false

/-- The key of a scheduled container (R407). -/
def dedupKey (src cycle window index : Nat) : Nat := ((src * 64 + cycle) * 32 + window) * 8 + index

/-- The entries that have not expired. -/
def State.dedupLive (s : State) : List (Nat × Nat) := s.rsch.dedup.filter fun e => s.now < e.2

/-- Whether RING_E's copy of a key in the same RI cycle is still to come in the queue: it is the first (R407). -/
def State.eastCopy (s : State) (k : Nat) : Bool :=
  s.pending.any fun c => match c with
    | .ringContainerRx d head _ bad t =>
      d == 0 && cyclesTo 3 t == cyclesTo 3 s.time && s.locked 0
        && (match conHeadOf (zeroBlocks head (bad.filter (· < 2))) with
          | some h => h.scheduled && dedupKey h.src h.cycle h.window h.index == k
          | none => false)
    | _ => false

/-- First-copy acceptance: whether a scheduled container is delivered, and the table after it. -/
def State.firstCopy (s : State) (d : Nat) (h : ConHead) : Bool × State :=
  let k := dedupKey h.src h.cycle h.window h.index
  let s0 := s.rschSet fun r => { r with dedup := s.dedupLive }
  if (s0.rsch.dedup.any fun e => e.1 == k) || (d == 1 && s0.eastCopy k) then (false, (s0.cntR d 11 1).count 3 0x104 1)
  else if 4096 ≤ s0.rsch.dedup.length then (true, (s0.cntR d 12 1).raise 27)
  else (true, s0.rschSet fun r => { r with dedup := nset r.dedup k (s.now + 250000) })

/-- Deliver a container: a signal is consumed, a frame enters the FIFO. -/
def State.deliverCon (s : State) (d t : Nat) (h : ConHead) (l : Frame) : State :=
  let s1 := s.cntR d 8 1
  if h.scheduled && (s1.signalWindow h.window).isSome then s1.signalRx h l else s1.ringIngress d t l

/- ## Transit (R404, R405) -/

/-- When a port can begin what follows its transit and its local container. -/
def RingPort.freeAt (r : RingPort) (t : Nat) : Nat := r.transit.foldl (fun m e => max m e.1) (max t r.busyUntil)

/-- Transit still in the buffer at `t`. -/
def RingPort.stillHeld (r : RingPort) (t : Nat) : List (Nat × Frame) := r.transit.filter fun e => t < e.1

/-- Repeat a container out of a port, behind what it holds. -/
def State.transitOut (s : State) (o from' t : Nat) (h : ConHead) (data : Frame) : State :=
  let r := s.ring o
  let n := conBlocks h.length
  let l := { h with hops := h.hops + 1 }.bytes ++ data
  let start := r.freeAt (t + s.rd (RI.RING_DLY.RES_NS from'))
  let leave := start + s.runNs o start n
  let s1 := s.setRing o { r with transit := r.stillHeld t ++ [(leave, l)] }
  ((((s1.cntR o 9 1).count 3 0x101 1).progress 3).count 3 0x102 n).sendBlocks o l

/-- Where a repeated container leaves: the other port, or this one while the other is disabled. -/
def State.repeatCon (s : State) (d t : Nat) (h : ConHead) (data : Frame) : State :=
  let o := 1 - d
  if h.src = s.node ∨ (!h.scheduled && h.dst == s.node) ∨ 31 < h.hops + 1 then s.cntR d 13 1
  else if s.isSet (RI.RING_CTL.EN o) then s.transitOut o d t h data
  else if s.isSet (RI.RING_CTL.EN d) && s.streams d then (s.transitOut d d t h data).cntR d 14 1
  else s

/-- What a head that has been received does: delivery, and repetition. -/
def State.containerRx (s : State) (d t : Nat) (head data : Frame) : State :=
  if !s.islRuns 3 || !s.locked d then s
  else if (head.getD 0 0).toNat ≠ 0xA7 ∧ (head.getD 0 0).toNat ≠ 0xA8 then s
  else
    match conHeadOf head with
    | none => (s.cntR d 5 1).raise 27
    | some h =>
      let blocks := (conData (padTo h.length data)).take (8 * (conBlocks h.length - 2))
      let l := blocks.take h.length
      let s1 :=
        if h.dst = s.node ∨ h.dst = 0x3F then
          let (ok, s2) := if h.scheduled then s.firstCopy d h else (true, s)
          if ok then s2.deliverCon d t h l else s2
        else s
      s1.repeatCon d t h blocks

/-- RING_CONTAINER_RX (R402 to R404, R407): two blocks of a head, or of filler, and the data blocks behind them; `bad` lists
the blocks whose sync header is bad, the head's from 0, and they read as zeros (R389). -/
def execRingContainerRx (d : Nat) (head data : Frame) (bad : Blocks) (t : Nat) (s : State) :
    Host.Outcome State Fault Refusal :=
  .next (let s0 := s.begin t
         let inData := (bad.filter (2 ≤ ·)).map (· - 2)
         if d < 2 then
           (s0.hear d (conBlocks data.length) bad).containerRx d s0.time (zeroBlocks head (bad.filter (· < 2)))
             (zeroBlocks data inData)
         else s0)

/-- DEDUP_EXPIRE (R407): 250 µs after an entry was made. -/
def execDedupExpire (node cycle window index t : Nat) (s : State) : Host.Outcome State Fault Refusal :=
  .next (let s0 := s.begin t
         let k := dedupKey node cycle window index
         s0.rschSet fun r => { r with dedup := r.dedup.filter fun e => e.1 != k || s0.now < e.2 })

/- ## Insertion (R405, R406, R419 to R421) -/

/-- Whether a node inserts on a port at all (R149, R406, R431), and whether it may start a container at `t` (R405). -/
def State.inserts (s : State) (d : Nat) : Bool :=
  s.mode == 2 && s.islRuns 3 && s.isSet MI.MODE_COND.JOIN_OK && !s.isSet RI.SCHED_STAT.MISMATCH && s.isSet (RI.RING_CTL.EN d)
def State.mayInsert (s : State) (d t : Nat) : Bool :=
  s.inserts d && (s.ring d).busyUntil ≤ t && ((s.ring d).stillHeld t).isEmpty

/-- Send a local container. -/
def State.sendLocal (s : State) (d t : Nat) (h : ConHead) (l : Frame) (pos : Nat) : State :=
  let n := conBlocks l.length
  let s1 := s.setRing d { s.ring d with busyUntil := t + blockNs (endBlock pos n - pos) }
  ((((s1.cntR d 10 1).count 3 0x101 1).progress 3).count 3 0x103 n).sendBlocks d (h.bytes ++ conData l)

/-- A destination the device chooses: the spec names none for what a node inserts. -/
def freeDst (v : Nat) : Nat := if v % 33 < 32 then v % 33 else 0x3F

/-- Whether a container begun at a position ends before a limit. -/
def fitsBefore (pos len limit : Nat) : Bool := endBlock pos (conBlocks len) ≤ limit

/-- The frame a descriptor puts on the wire of port `d`. -/
def State.ringWire (s : State) (d t pos : Nat) (x : Desc) (len : Nat) : State :=
  s.setMac (96 + d) { s.mac (96 + d) with wire := some ⟨x, t, t + blockNs (endBlock pos (conBlocks len) - pos)⟩ }

/-- Insert the head of the scheduled queue as container `index` of a window occurrence; its copy waits for the other
port (R406). -/
def State.insertSched (s : State) (d t pos c w index : Nat) (x : Desc) (rest : List Desc) : State :=
  let y := s.stampTx (96 + d) t (padFrame x.bytes)
  let l := y.2
  let h : ConHead := { scheduled := true, cls := 7, src := s.node, dst := freeDst s.freeVal, cycle := c, index, window := w,
                       hops := 0, length := l.length }
  let s1 := (y.1.tookFree.sendLocal d t h l pos).ringWire d t pos x l.length
  let o := s1.ring (1 - d)
  let s2 := if s1.isSet (RI.RING_CTL.EN (1 - d)) then s1.setRing (1 - d) { o with copies := o.copies ++ [(h, l)] } else s1
  s2.rschSet fun r => { r with queue := rest, occ := some (c, w), occIndex := index + 1,
                               occDeferred := r.occDeferred && r.occ == some (c, w) }

/-- Insert a best-effort frame on the port that BI chose; a PTP event message takes its stamp (R382). -/
def State.insertBest (s : State) (d t pos : Nat) (x : Desc) (rest : List Desc) : State :=
  let y := s.stampTx (96 + d) t (padFrame x.bytes)
  let l := y.2
  let h : ConHead := { scheduled := false, cls := x.cls, src := s.node, dst := freeDst s.freeVal, cycle := 0, index := 0,
                       window := 0, hops := 0, length := l.length }
  let s1 := (y.1.tookFree.sendLocal d t h l pos).ringWire d t pos x l.length
  s1.setMac (96 + d) { s1.mac (96 + d) with ordin := rest }

/-- Count the head of the scheduled queue as carried to a later window, once in a window occurrence. -/
def State.deferSched (s : State) (c w : Nat) : State :=
  match s.rsch.queue with
  | x :: _ =>
    if s.rsch.occ == some (c, w) && s.rsch.occDeferred then s
    else
      (s.countDefer x.port).rschSet fun r =>
        { r with occ := some (c, w), occIndex := if r.occ = some (c, w) then r.occIndex else 0, occDeferred := true }
  | [] => s

/-- Whether a window occurrence is the one frames were last inserted in, or a later one. -/
def State.occNow (s : State) (c : Nat) (w : RingWindow) : Bool :=
  match s.rsch.occ with
  | some (c0, w0) =>
    let start := (s.runWindows.find? fun x => x.index == w0).elim 0 fun x => x.start
    if c = c0 then start ≤ w.start else (c + 64 - c0) % 64 < 32
  | none => true

/-- The next INDEX in an occurrence. -/
def State.nextIndex (s : State) (c w : Nat) : Nat := if s.rsch.occ = some (c, w) then s.rsch.occIndex else 0

/-- A copy of what the other port sent in the same occurrence goes out here too; a copy that no longer fits is dropped. -/
def State.insertCopy (s : State) (d t pos limit : Nat) (h : ConHead) (l : Frame) : State :=
  let r := s.ring d
  let s1 := s.setRing d { r with copies := r.copies.erase (h, l) }
  if fitsBefore pos l.length limit then s1.sendLocal d t h l pos else s1

/-- An exclusive frame window of this node (R420): frames back to back from START. -/
def State.insertFrameWin (s : State) (d t pos c : Nat) (w : RingWindow) : State :=
  let limit := w.start + w.length
  match (s.ring d).copies.find? fun e => e.1.cycle == c && e.1.window == w.index with
  | some (h, l) => s.insertCopy d t pos limit h l
  | none =>
    match s.rsch.queue with
    | x :: rest =>
      let i := s.nextIndex c w.index
      if !s.occNow c w then s
      else if i < 8 && (s.mac (96 + d)).wire.isNone && fitsBefore pos (padFrame x.bytes).length limit then
        s.insertSched d t pos c w.index i x rest
      else s.deferSched c w.index
    | [] => s

/-- A slot of an arbitrating window (R420), at its first block and with both transit buffers empty. -/
def State.insertSlot (s : State) (d t pos c : Nat) (w : RingWindow) : State :=
  let len := w.length / max 1 w.slots
  let k := (pos - w.start) / max 1 len
  let limit := w.start + (k + 1) * len
  if pos ≠ w.start + k * len ∨ w.slots ≤ k then s
  else if !((s.ring (1 - d)).stillHeld t).isEmpty then (if k + 1 = w.slots then s.deferSched c w.index else s)
  else
    match (s.ring d).copies.find? fun e => e.1.cycle == c && e.1.window == w.index && e.1.index == k with
    | some (h, l) => s.insertCopy d t pos limit h l
    | none =>
      match s.rsch.queue with
      | x :: rest =>
        if (s.mac (96 + d)).wire.isNone && fitsBefore pos (padFrame x.bytes).length limit then
          s.insertSched d t pos c w.index k x rest
        else if k + 1 = w.slots then s.deferSched c w.index
        else s
      | [] =>
        match (s.mac (96 + d)).ordin with
        | x :: rest =>
          if x.cls == 6 && (s.mac (96 + d)).wire.isNone && fitsBefore pos (padFrame x.bytes).length limit then
            s.insertBest d t pos x rest
          else s
        | [] => s

/-- The signal container of a window of this node (R421), which SIGNAL_SNAPSHOT has made. -/
def State.insertSignal (s : State) (d t pos c : Nat) (w : RingWindow) : State :=
  match (s.ring d).copies.find? fun e => e.1.cycle == c && e.1.window == w.index with
  | some (h, l) =>
    let s1 := s.insertCopy d t pos (w.start + w.length) h l
    if fitsBefore pos l.length (w.start + w.length) then s1.wr (RI.SIG_STAT.SNAP_SEQ w.index) (beNat (sliceAt l 4 2)) else s1
  | none => s

/-- Whether a container that ends at a block keeps clear of every ring window from a position on (R419). -/
def State.clearOfWindows (s : State) (pos c fin : Nat) : Bool :=
  s.runWindows.all fun w =>
    (!bitOf w.mask c || w.start + w.length ≤ pos || fin ≤ w.start)
      && (!bitOf w.mask ((c + 1) % 64) || fin ≤ 78125 || fin - 78125 ≤ w.start)

/-- Outside ring windows: the head best-effort frame of the port (R419). -/
def State.insertOutside (s : State) (d t pos c : Nat) : State :=
  match (s.mac (96 + d)).ordin with
  | x :: rest =>
    if (s.mac (96 + d)).wire.isNone && s.clearOfWindows pos c (endBlock pos (conBlocks (padFrame x.bytes).length)) then
      s.insertBest d t pos x rest
    else s
  | [] => s

/-- Whether what a port sends at `t` leaves no room for a frame of `len` bytes in the rest of a window occurrence. -/
def State.noRoom (s : State) (d t c : Nat) (w : RingWindow) (len : Nat) : Bool :=
  !s.inserts d || (match s.streamPos d ((s.ring d).freeAt t) with
    | some (pos, c') => c' != c || !fitsBefore (max pos w.start) len (w.start + w.length)
    | none => true)

/-- A port that sends cannot begin a container: where no port has room left in the occurrence, the head of the scheduled
queue finds no place in it (R420). -/
def State.insertBlocked (s : State) (d t pos c : Nat) (w : RingWindow) : State :=
  match s.rsch.queue with
  | x :: _ =>
    let len := (padFrame x.bytes).length
    let last := w.start + (w.slots - 1) * (w.length / max 1 w.slots)
    let transit := !((s.ring 0).stillHeld t).isEmpty || !((s.ring 1).stillHeld t).isEmpty
    if (w.kind == 0 && w.owner == s.node && s.occNow c w && s.noRoom d t c w len && s.noRoom (1 - d) t c w len)
        || (w.kind == 2 && pos == last && transit) then s.deferSched c w.index
    else s
  | [] => s

/-- Drop copies whose window occurrence has passed in a port's stream. -/
def State.purgeCopies (s : State) (d pos c : Nat) : State :=
  let r := s.ring d
  s.setRing d { r with copies := r.copies.filter fun e =>
    if e.1.cycle = c then
      match s.runWindows.find? fun w => w.index == e.1.window with
      | some w => pos < w.start + w.length
      | none => false
    else 32 < (c + 64 - e.1.cycle) % 64 }

/-- RING_CONTAINER_INSERT (R405, R406, R419 to R421): a local container may begin on a port now. -/
def State.insertCon (s : State) (d t : Nat) : State :=
  match s.streamPos d t with
  | some (pos, c) =>
    if s.inserts d && 7 ≤ pos then
      let s1 := s.purgeCopies d pos c
      match s1.runWindows.find? fun w => bitOf w.mask c && w.start ≤ pos && pos < w.start + w.length with
      | some w =>
        if !s.mayInsert d t then s1.insertBlocked d t pos c w
        else if w.kind = 2 then s1.insertSlot d t pos c w
        else if w.owner ≠ s1.node then s1
        else if w.kind = 0 then s1.insertFrameWin d t pos c w
        else s1.insertSignal d t pos c w
      | none => if s.mayInsert d t then s1.insertOutside d t pos c else s1
    else s
  | none => s

def execRingContainerInsert (d t : Nat) (s : State) : Host.Outcome State Fault Refusal :=
  .next (let s0 := s.begin t; if d < 2 then s0.insertCon d s0.time else s0)

end Sys2Proof.Machine
end

