-- ==== Sys2Proof/Machine/Ring.lean ====
section
/-!
DEFINITION. The ring schedule (14_gwevik_schedule.md): basic cycles and matrix boundaries (R133, R415, R430, R433, R435,
R436, R438), coldstart (R426), mode-change requests (R432), and signal publications and snapshots (R421 to R424).
-/
namespace Sys2Proof.Machine

/-- BASIC_CYCLE_START (R415, R427): triggers of kind 4 fire (R450). -/
def State.basicCycle (s : State) (t : Nat) : State :=
  if t % basicNs != 0 then s
  else
    let s1 := s.yieldRole
    let s2 := if s1.ringUsed && s1.islUp 3 then s1.wr RI.SCHED_STAT.CYCLE (cycleAt t) else s1
    s2.fireTriggers 4 0 (trigRecord 4 0 t 0)

def execBasicCycleStart (t : Nat) (s : State) : Host.Outcome State Fault Refusal :=
  .next (let s0 := s.begin t; s0.basicCycle s0.time)

/- ## The matrix boundary -/

/-- JOIN_OK sets at the boundary that ends a full valid matrix cycle (R430), which the boundary uses up. -/
def State.boundaryJoin (s : State) : State :=
  if s.rsch.runOk && s.rsch.runSeen == 64 then
    (if s.isSet RI.SCHED_STAT.SCALE_CONFLICT then s else s.setJoin true).breakRun
  else s

/-- The Ringmaster's request at a boundary (R433, R435): an agreed one becomes the running mode, another ages. -/
def State.boundaryRequest (s : State) : State :=
  if !s.isMaster then s
  else
    let s1 := (s.wr RI.MCHG_STAT.TALLY 0).rschSet fun r => { r with membersMax := 0, announced := false }
    match s.rsch.request with
    | some (m, n, age) =>
      if s.rsch.announced then
        (s1.rschSet fun r => { r with request := none }).setRunning m ((s1.ownMatrix m).getD (s1.rd RI.SCHED_STAT.MATRIX_ID))
      else s1.rschSet fun r => { r with request := if 4 ≤ age + 1 then none else some (m, n, age + 1) }
    | none => s1

/-- The node's own request waits at most four boundaries (R432). -/
def State.boundaryWait (s : State) : State :=
  if s.rd RI.MCHG_STAT.STATUS = 1 then
    let s1 := s.rschSet fun r => { r with waited := r.waited + 1 }
    if 4 ≤ s1.rsch.waited then s1.setReqStatus 5 else s1
  else s

/-- Port windows at a boundary: those of an agreed mode (R436), or of BI.SCH_LOCAL.MODE without a ring (R438). -/
def State.boundaryWindows (s : State) : State :=
  if s.ringUsed then
    match s.rsch.agreed with
    | some m => s.applyPortMode m
    | none => s
  else if s.rd BI.SCH_LOCAL.RUNNING = s.rd BI.SCH_LOCAL.MODE then s
  else s.shutWindows.wr BI.SCH_LOCAL.RUNNING (s.rd BI.SCH_LOCAL.MODE)

/-- A wall-time step that is pending in Performance is applied (R379). -/
def State.boundaryStep (s : State) : State :=
  if s.mode = 2 ∧ s.islRuns 2 then s.applyStep.checkSwitch else s

/-- MATRIX_BOUNDARY (R133). -/
def State.matrixBoundary (s : State) (t : Nat) : State :=
  if t % matrixNs != 0 then s
  else
    let s1 := s.boundaryWindows.boundaryStep
    if s1.ringUsed && s1.islRuns 3 then s1.boundaryJoin.boundaryRequest.boundaryWait else s1

/- ## Coldstart (R426) -/

/-- COLD_MS plus 4 ms for each rank, in ns. -/
def State.coldNs (s : State) : Nat := (max 1 (s.rd RI.SCHED_CFG.COLD_MS) + 4 * s.csRank) * 1000000

/-- COLDSTART: the node becomes Ringmaster, and schedule time is valid (R363). -/
def State.coldstart (s : State) : State :=
  match s.rsch.quietSince, s.ownMatrix (s.rd RI.SCHED_CFG.CS_MODE) with
  | some a, some matrix =>
    if s.ringQuiet && s.csEligible && !s.isMaster && a + s.coldNs ≤ s.now then
      let m := s.rd RI.SCHED_CFG.CS_MODE
      let s0 := s.rschSet fun r =>
        { r with request := none, announced := false, membersMax := 0, yield := false, agreed := none }
      let s1 := ((s0.wr RI.SCHED_STAT.AGREED_PENDING 0).clearCounts).setCsState 2
      ((((s1.setRm s1.node).setRunning m matrix).applyPortMode m).validate).breakRun
    else s
  | _, _ => s

def execColdstart (t : Nat) (s : State) : Host.Outcome State Fault Refusal := .next ((s.begin t).coldstart)

/- ## Requests (R432) -/

/-- Whether the node has an open request. -/
def State.requestOpen (s : State) : Bool :=
  let v := s.rd RI.MCHG_STAT.STATUS
  v == 1 || v == 2 || v == 3

/-- MCHG_GO. -/
def State.requestMode (s : State) (m : Nat) : State :=
  let m := m % 4
  let refused := !s.isSet RI.SCHED_CFG.REQ_EN || m == s.rd RI.SCHED_STAT.MODE || (s.modeBody m).isNone || s.requestOpen
  let s1 := (s.wrs [(RI.MCHG_REQ.MODE, m), (RI.MCHG_STAT.LAST_MODE, m)]).rschSet fun r => { r with waited := 0 }
  if refused then s1.setReqStatus 6 else s1.setReqStatus 1

def execMchgGo (src : Src) (mode : Nat) (s : State) : Host.Outcome State Fault Refusal :=
  .next (s.quiet.regCmd src 3 0x410 false fun s => s.requestMode mode)

/-- MCHG_CANCEL withdraws a waiting request. -/
def execMchgCancel (src : Src) (s : State) : Host.Outcome State Fault Refusal :=
  .next (s.quiet.regCmd src 3 0x410 false fun s => if s.rd RI.MCHG_STAT.STATUS = 1 then s.setReqStatus 0 else s)

/- ## Signals (R421 to R424) -/

/-- SIG_PUB: publish the windows of a mask. -/
def execSigPub (src : Src) (mask : Nat) (s : State) : Host.Outcome State Fault Refusal :=
  .next (s.quiet.regCmd src 3 0x420 false fun s =>
    (List.range 32).foldl (fun s w => if bitOf mask w then s.publish w else s) s)

/-- The signal frame of a window (R423). -/
def State.signalFrame (s : State) (w : RingWindow) : Frame :=
  let n := max 64 (12 + w.payloadLen)
  let l := beBytes 1 0x10 ++ beBytes 1 s.node ++ beBytes 1 w.index ++ beBytes 1 0
    ++ beBytes 2 (s.rd (RI.SIG_STAT.PUB_SEQ w.index)) ++ beBytes 2 w.payloadLen ++ (s.published w.index).take w.payloadLen
  withFcs (padTo (n - 4) l)

/-- The basic cycle in which a port's stream stands at START of a window, if it does. -/
def State.atStart (s : State) (t : Nat) (w : RingWindow) : Option Nat :=
  [0, 1].findSome? fun d =>
    match s.streamPos d t with
    | some (pos, c) => if pos = w.start ∧ bitOf w.mask c then some c else none
    | none => none

/-- SIGNAL_SNAPSHOT (R421, R422): at START of an own signal window, the first port to reach it fixes the content of the
container that both ports send. -/
def State.snapshot (s : State) (w t : Nat) : State :=
  match s.signalWindow w with
  | some x =>
    match s.atStart t x with
    | some c =>
      let made := fun (r : RingPort) => r.copies.any fun e => e.1.cycle == c && e.1.window == w
      if x.owner = s.node ∧ s.mode = 2 ∧ s.isSet MI.MODE_COND.JOIN_OK ∧ !s.isSet RI.SCHED_STAT.MISMATCH ∧ !made s.ringE
          ∧ !made s.ringW then
        let l := s.signalFrame x
        let h : ConHead := { scheduled := true, cls := s.freeVal % 8, src := s.node, dst := freeDst (s.freeVal / 8), cycle := c,
                             index := 0, window := w, hops := 0, length := l.length }
        [0, 1].foldl (fun s d =>
          if s.isSet (RI.RING_CTL.EN d) then s.setRing d { s.ring d with copies := (s.ring d).copies ++ [(h, l)] } else s)
          s.tookFree
      else s
    | none => s
  | none => s

def execSignalSnapshot (w t : Nat) (s : State) : Host.Outcome State Fault Refusal :=
  .next (let s0 := s.begin t; s0.snapshot w s0.time)

/-- SIGNAL_MISSED (R424): 250 µs after START of another owner's window, nothing was delivered in that occurrence. -/
def State.signalMissed (s : State) (w t : Nat) : State :=
  match s.signalWindow w with
  | some x =>
    let late := blockNs x.start + 250000
    let b := cycleStart (t - late)
    if late ≤ t && x.owner != s.node && s.islRuns 3 && (s.anyLock || s.isMaster) && bitOf x.mask (cycleAt b)
        && nget s.rsch.sigSeen w != some b then
      s.wr (RI.SIG_STAT.MISSED w) 1
    else s
  | none => s

def execSignalMissed (w t : Nat) (s : State) : Host.Outcome State Fault Refusal :=
  .next (let s0 := s.begin t; s0.signalMissed w s0.time)

end Sys2Proof.Machine
end

