-- ==== Sys2Proof/Machine/Persist.lean ====
section
/-!
DEFINITION. The flash store (18_persistence.md): journal commands (R518 to R524), the fuse block (R113 to R115, R537, R538),
the end of journal programs, POWER_FAIL_N (R516, R517, R576), and finding the journal head (R519).
-/
namespace Sys2Proof.Machine

/- ## Journal commands (R518 to R524) -/

/-- Record the outcome of a journal command in ERROR, with ERR on a failure. -/
def State.jnlError (s : State) (c : Nat) : State :=
  let s1 := s.wr MI.JNL_STAT.ERROR c
  if c = 0 then s1 else (s1.wr MI.JNL_STAT.ERR 1).raiseIf (!s.isSet MI.JNL_STAT.ERR) 14

/-- The record in MI.JNL_REC. -/
def State.jnlRec (s : State) : Frame := (List.range 8).flatMap fun w => leBytes 8 (s.rd (MI.JNL_REC.DATA w))

/-- JNL_APPEND (R518 to R521): only the core in machine mode. -/
def State.jnlAppendCmd (s : State) (src : Src) : State :=
  s.regCmd src 0 0x9240 false fun s =>
    if src = .coreU then s
    else if s.fl.head.isNone then s.jnlError 6
    else if !recTypeOk (recType s.jnlRec) then s.jnlError 3
    else
      match s.jnlRefusal with
      | some c => s.jnlError c
      | none => (s.jnlAppend s.jnlRec false).jnlError 0

def execJnlAppend (src : Src) (t : Nat) (s : State) : Host.Outcome State Fault Refusal := .next ((s.begin t).jnlAppendCmd src)

/-- JNL_COPY (R524): byte for byte, with COPY set and a new CRC; refused while PF = 1 as a controller command is (R517). -/
def State.jnlCopyCmd (s : State) (src : Src) : State :=
  s.regCmd src 0 0x9240 false fun s =>
    let r := s.jnlSlot (s.rd MI.JNL_COPY.OFS / 64)
    if src = .coreU then s
    else if s.fl.head.isNone then s.jnlError 6
    else if s.pfRefuses then s.flashRefuse 2
    else if recErased r || !recGood r then s.jnlError 4
    else
      match s.jnlRefusal with
      | some c => s.jnlError c
      | none =>
        (s.jnlQueue ⟨recSeq r, recSeal (patchAt r 6 [(r.getD 6 0) ||| 1]), true⟩).jnlError 0

def execJnlCopy (src : Src) (t : Nat) (s : State) : Host.Outcome State Fault Refusal := .next ((s.begin t).jnlCopyCmd src)

/-- JNL_ERASE_OLDEST (R523): refused with HEAD_BLOCK when the oldest block in use holds the head, the block of the last
record written. -/
def State.jnlEraseCmd (s : State) (src : Src) : State :=
  s.regCmd src 0 0x9240 false fun s =>
    match s.fl.head with
    | none => if src = .coreU then s else s.jnlError 6
    | some h =>
      if src = .coreU then s
      else if s.pfRefuses then s.flashRefuse 2
      else if s.fl.inUse = 0 ∨ (h + jnlSlots - 1) % jnlSlots / 1024 = s.fl.oldest then s.jnlError 5
      else (({ s with fl := { s.fl with wantOldest := true } }).jnlError 0).flashPump

def execJnlEraseOldest (src : Src) (t : Nat) (s : State) : Host.Outcome State Fault Refusal :=
  .next ((s.begin t).jnlEraseCmd src)

/- ## Fuses (R113 to R115, R537, R538) -/

def fuseProg (k : Nat) : Field := if k = 0 then AO.FUSE_STAT.KEY0_PROG else AO.FUSE_STAT.KEY1_PROG
def fuseRevoked (k : Nat) : Field := if k = 0 then AO.FUSE_STAT.KEY0_REVOKED else AO.FUSE_STAT.KEY1_REVOKED
def fusePartial (k : Nat) : Field := if k = 0 then AO.FUSE_STAT.KEY0_PARTIAL else AO.FUSE_STAT.KEY1_PARTIAL

/-- A key slot is blank: no hash bit blown and not programmed. -/
def State.slotBlank (s : State) (k : Nat) : Bool :=
  !s.isSet (fuseProg k) && !s.isSet (fusePartial k) && (List.range 4).all fun i => s.rd (AO.KEYHASH.HASH k i) == 0

/-- A key slot is programmed and not revoked. -/
def State.slotLive (s : State) (k : Nat) : Bool := s.isSet (fuseProg k) && !s.isSet (fuseRevoked k)

/-- Start a fuse operation. -/
def State.fuseStart (s : State) (o : FuseOp) : State := { s with fl := { s.fl with fuses := s.fl.fuses ++ [o] } }

/-- A GO on AO.FUSE_PROG (R113 to R115): ignored while BUSY, else refused or deferred with FAIL, or started. -/
def State.fuseGo (s : State) (src : Src) (slot : Nat) (revoke : Bool) : State :=
  s.regCmd src 1 0x180 false fun s =>
    let k := slot % 2
    let s0 := s.wrs [(AO.FUSE_PROG.SLOT, k), (AO.FUSE_PROG.OP, if revoke then 2 else 1)]
    if s.isSet AO.FUSE_PROG.BUSY then s0
    else
      let sealed_ := s.isSet AO.FUSE_STAT.FIELD_SEAL
      let bad := if revoke then sealed_ && s.slotLive k && !s.slotLive (1 - k) else sealed_ || !s.slotBlank k
      if s.pfRefuses || bad then s0.wr AO.FUSE_PROG.FAIL 1
      else
        let (ok, s1) := s0.holdup .fuse
        if ok then
          (s1.wr AO.FUSE_PROG.BUSY 1).fuseStart
            (if revoke then .revoke k else .keyHash k ((List.range 4).map fun i => s.rd (AO.FUSE_DATA.DATA i)))
        else s1.wr AO.FUSE_PROG.FAIL 1

def execFuseProgramKeyHash (src : Src) (slot t : Nat) (s : State) : Host.Outcome State Fault Refusal :=
  .next ((s.begin t).fuseGo src slot false)
def execFuseRevoke (src : Src) (slot t : Nat) (s : State) : Host.Outcome State Fault Refusal :=
  .next ((s.begin t).fuseGo src slot true)

/-- ROLLBACK_ADV (R537): VALUE above COUNT, at most MI.IMG_ROLLBACK, advances left; gated as a fuse operation. -/
def State.rollbackGo (s : State) (src : Src) : State :=
  s.regCmd src 1 0x198 false fun s =>
    if s.isSet AO.ROLLBACK_CTL.BUSY then s
    else
      let v := s.rd AO.ROLLBACK_ADV.VALUE
      if src = .coreU || s.pfRefuses || v ≤ s.rd AO.ROLLBACK_CNT.COUNT || s.rd MI.IMG_ROLLBACK.VER < v
          || s.rd AO.ROLLBACK_CTL.ADV_LEFT = 0 then s.wr AO.ROLLBACK_CTL.FAIL 1
      else
        let (ok, s1) := s.holdup .fuse
        if ok then (s1.wr AO.ROLLBACK_CTL.BUSY 1).fuseStart (.advance v) else s1.wr AO.ROLLBACK_CTL.FAIL 1

def execRollbackAdv (src : Src) (t : Nat) (s : State) : Host.Outcome State Fault Refusal := .next ((s.begin t).rollbackGo src)

/-- A seal fails at a step (AO.SEAL_CMD.FAIL_AT). -/
def State.sealFail (s : State) (step : Nat) : State :=
  { s.wrs [(AO.SEAL_CMD.FAIL, 1), (AO.SEAL_CMD.FAIL_AT, step), (AO.SEAL_CMD.BUSY, 0)] with
    fl := { s.fl with sealWait := none } }

/-- SEAL_GO (R538): the preconditions, then the SEAL record. -/
def State.sealGo (s : State) (src : Src) (key : Nat) : State :=
  s.regCmd src 1 0x1A0 false fun s =>
    if s.isSet AO.SEAL_CMD.BUSY then s
    else if key ≠ 0x5A ∨ src = .coreU ∨ s.pfRefuses = true ∨ (s.slotLive 0 || s.slotLive 1) = false
        ∨ 1 < s.rd MI.IMG_STAT.KEY_USED then s.sealFail 1
    else
      let seq := s.fl.nextSeq
      let keys := (List.range 4).map fun i => (([AO.FUSE_STAT.KEY0_PROG, AO.FUSE_STAT.KEY1_PROG, AO.FUSE_STAT.KEY0_REVOKED,
        AO.FUSE_STAT.KEY1_REVOKED].map s.rd).getD i 0) * 2 ^ i
      let ok := s.jnlTakes
      let s1 := s.jnlDevice 6 (leBytes 8 (s.rd AO.TAG_UID.UID) ++ leBytes 1 keys.sum)
      if ok then { s1.wr AO.SEAL_CMD.BUSY 1 with fl := { s1.fl with sealWait := some (seq, s.now) } } else s1.sealFail 2

def execSealGo (src : Src) (key t : Nat) (s : State) : Host.Outcome State Fault Refusal := .next ((s.begin t).sealGo src key)

/-- SEAL_RECORD_TIMEOUT (R538): the record has not become durable within 100 ms. -/
def State.sealTimeout (s : State) : State :=
  match s.fl.sealWait with
  | some (_, a) => if a + 100000000 ≤ s.now then s.sealFail 2 else s
  | none => s

def execSealRecordTimeout (t : Nat) (s : State) : Host.Outcome State Fault Refusal := .next ((s.begin t).sealTimeout)

/-- Whether DURABLE_SEQ has reached a sequence number. -/
def State.durable (s : State) (q : Nat) : Bool := !serialNewer q (s.rd MI.JNL_SEQ.DURABLE_SEQ)

/-- Once the SEAL record is durable, the hold-up check and the blow follow (R538). -/
def State.sealNext (s : State) : State :=
  match s.fl.sealWait with
  | some (q, a) =>
    if s.durable q && s.now ≤ a + 100000000 then
      let (ok, s1) := s.holdup .fuse
      if ok then ({ s1 with fl := { s1.fl with sealWait := none } }).fuseStart .seal else s1.sealFail 3
    else s
  | none => s

/-- The effect of a fuse operation that ends; `ok` says whether its read-back is good. A key-hash program that reads back
wrong leaves a partial slot with free hash bits (R115). -/
def State.fuseEnd (s : State) (o : FuseOp) (ok : Bool) : State :=
  match o with
  | .keyHash k h =>
    if ok then
      ((List.range 4).foldl (fun s i => s.wr (AO.KEYHASH.HASH k i) (h.getD i 0)) s).wrs
        [(fuseProg k, 1), (AO.FUSE_PROG.BUSY, 0), (AO.FUSE_PROG.FAIL, 0)]
    else
      (((List.range 4).foldl (fun s i => s.wr (AO.KEYHASH.HASH k i) (s.freeVal / 2 ^ (64 * i))) s).tookFree).wrs
        [(fusePartial k, 1), (AO.FUSE_PROG.BUSY, 0), (AO.FUSE_PROG.FAIL, 1)]
  | .revoke k =>
    let s1 := s.wr AO.FUSE_PROG.BUSY 0
    if ok then s1.wrs [(fuseRevoked k, 1), (AO.FUSE_PROG.FAIL, 0)] else s1.wr AO.FUSE_PROG.FAIL 1
  | .advance v =>
    let s1 := s.wr AO.ROLLBACK_CTL.BUSY 0
    if ok then s1.wrs [(AO.ROLLBACK_CNT.COUNT, v), (AO.ROLLBACK_CTL.ADV_LEFT, s.rd AO.ROLLBACK_CTL.ADV_LEFT - 1)]
    else s1.wr AO.ROLLBACK_CTL.FAIL 1
  | .seal => if ok then s.wrs [(AO.FUSE_STAT.FIELD_SEAL, 1), (AO.SEAL_CMD.BUSY, 0)] else s.sealFail 0

/-- FUSE_OP_DONE: the oldest fuse operation in progress ends. -/
def State.fuseDone (s : State) (ok : Bool) : State :=
  match s.fl.fuses with
  | o :: r => ({ s with fl := { s.fl with fuses := r } }).fuseEnd o ok
  | [] => s

def execFuseOpDone (ok : Bool) (t : Nat) (s : State) : Host.Outcome State Fault Refusal := .next ((s.begin t).fuseDone ok)

/- ## Journal programs complete (R519, R520) -/

/-- A torn slot is counted. -/
def State.jnlTorn (s : State) (n : Nat) : State := s.addOvf MI.JNL_STAT.TORN MI.JNL_STAT.OVF 1 n

/-- The head moves past programmed slots; a block whose first slot is among them is in use from now on. -/
def State.jnlAdvance (s : State) (h n : Nat) : State :=
  let opened := if h % 1024 = 0 then 1 else 0
  let oldest := if s.fl.inUse = 0 then h / 1024 else s.fl.oldest
  { s with fl := { s.fl with head := some ((h + n) % jnlSlots), inUse := s.fl.inUse + opened, oldest := oldest } }

/-- A journal program ends: slots in `bad` read back wrong, stay torn with free content, and their records wait for the
next slots; the others are durable. -/
def State.jnlProgrammed (s : State) (bad : Blocks) : State :=
  match s.fl.op with
  | some (.journal h recs) =>
    let n := recs.length
    let put := fun (s : State) (i : Nat) =>
      let a := s.jnlBase + (h + i) % jnlSlots * 64
      if bad.contains i then ((s.flashProgram a (freeBytes s.freeVal 64)).tookFree).jnlTorn 1
      else s.flashProgram a (recs.getD i [])
    let s1 := (List.range n).foldl put s
    let again := ((s.fl.queue.take n).zipIdx.filter fun e => bad.contains e.2).map (·.1)
    let s2 := { s1 with fl := { s1.fl with op := none, queue := again ++ s1.fl.queue.drop n },
                        mg := { s1.mg with icache := false } }
    let s3 := (s2.jnlAdvance h n).jnlSpace.jnlCounts
    if s3.isSet MI.HU_STAT.PF && s3.fl.queue.isEmpty then s3.wr MI.HU_STAT.FLUSH_DONE 1 else s3
  | _ => s

/- ## POWER_FAIL_N (R516, R517, R522, R576) -/

/-- PF_ASSERT: two low samples. The flush starts. -/
def State.pfAssert (s : State) : State :=
  if s.isSet MI.HU_STAT.PF then s
  else
    let s1 := s.wrs [(MI.HU_STAT.PF, 1), (AO.PIN_STAT.PF, 1), (AO.PIN_STAT.POWER_FAIL_N, 0), (MI.HU_STAT.PF_SEEN, 1)]
    let s2 := ({ s1 with fl := { s1.fl with pfHold := true, jWait := false } }).raise 12
    (if s2.fl.queue.isEmpty && s2.fl.head.isSome then s2.wr MI.HU_STAT.FLUSH_DONE 1 else s2).flashPump

def execPfAssert (t : Nat) (s : State) : Host.Outcome State Fault Refusal := .next ((s.begin t).pfAssert)

/-- PF_DEASSERT: two high samples. Stores are accepted again from the next 1 ms step. -/
def State.pfDeassert (s : State) : State := s.wrs [(MI.HU_STAT.PF, 0), (AO.PIN_STAT.PF, 0), (AO.PIN_STAT.POWER_FAIL_N, 1)]

def execPfDeassert (t : Nat) (s : State) : Host.Outcome State Fault Refusal := .next ((s.begin t).pfDeassert)

/-- JNL_RETRY_TICK (R515): a 1 ms step. -/
def State.jnlTick (s : State) : State :=
  ({ s with fl := { s.fl with jWait := false, pfHold := s.isSet MI.HU_STAT.PF } }).flashPump

def execJnlRetryTick (t : Nat) (s : State) : Host.Outcome State Fault Refusal := .next ((s.begin t).jnlTick)

/- ## Finding the journal head (R519) -/

/-- Whether a slot holds anything: some listed byte of flash lies in it. -/
def State.slotUsed (s : State) (i : Nat) : Bool :=
  let a := s.jnlBase + i * 64
  s.flash.any fun c => a ≤ c.1 && c.1 < a + 64

/-- The used slots of a block, in order. -/
def State.blockSlots (s : State) (b : Nat) : List Nat :=
  ((List.range 1024).map fun i => b * 1024 + i).filter s.slotUsed

/-- The blocks in use: their first slot is not erased. -/
def State.blocksUsed (s : State) : List Nat :=
  if s.flash.any (fun c => s.jnlBase ≤ c.1 && c.1 < s.jnlBase + 0x400000) then
    (List.range 64).filter fun b => s.slotUsed (b * 1024)
  else []

/-- The SEQ of a block's first good record. -/
def State.blockKey (s : State) (b : Nat) : Option Nat :=
  ((s.blockSlots b).find? fun i => recGood (s.jnlSlot i)).map fun i => recSeq (s.jnlSlot i)

/-- The block whose first record has the newest SEQ. -/
def State.headBlock (s : State) (bs : List Nat) : Option Nat :=
  match serialNewest (bs.filterMap s.blockKey) with
  | some k => bs.find? fun b => s.blockKey b == some k
  | none => bs.getLast?

/-- How many blocks run back from the head block without a gap. -/
def runBack (bs : List Nat) : Nat → Nat → Nat
  | 0, _ => 0
  | f + 1, b => if bs.contains b then 1 + runBack bs f ((b + 63) % 64) else 0

/-- Locate the journal head (R519): the next SEQ is one above the newest found, 1 in an empty journal. -/
def State.locateHead (s : State) : State :=
  let bs := s.blocksUsed
  match s.headBlock bs with
  | none => { s with fl := { s.fl with head := some 0, oldest := 0, inUse := 0, nextSeq := 1 } }.jnlSpace.jnlCounts
  | some b =>
    let n := runBack bs 64 b
    let slots := bs.flatMap s.blockSlots
    let torn := (slots.filter fun i => !recGood (s.jnlSlot i)).length
    let newest := (serialNewest ((slots.filter fun i => recGood (s.jnlSlot i)).map fun i => recSeq (s.jnlSlot i))).getD 0
    let last := ((s.blockSlots b).getLast?).getD (b * 1024)
    let s1 := { s with fl := { s.fl with
      head := some ((last + 1) % jnlSlots), oldest := (b + 65 - n) % 64, inUse := n, nextSeq := (newest + 1) % 2 ^ 32 } }
    (((s1.wr MI.JNL_SEQ.LAST_SEQ newest).jnlTorn torn).jnlSpace).jnlCounts

/-- Insert by a rising key, after entries of equal key; and sort so. -/
def insertBy {α : Type} (key : α → Nat) (x : α) : List α → List α
  | [] => [x]
  | y :: r => if key y ≤ key x then y :: insertBy key x r else x :: y :: r
def sortBy {α : Type} (key : α → Nat) (l : List α) : List α := l.foldl (fun a x => insertBy key x a) []

/-- Every good record of the journal, oldest first in SEQ order; records of equal SEQ are one (R527). -/
def State.jnlRecords (s : State) : List Frame :=
  let all := (s.blocksUsed.flatMap s.blockSlots).filterMap fun i => let r := s.jnlSlot i; if recGood r then some r else none
  let key := fun r => (recSeq r + 2 ^ 32 - s.fl.nextSeq) % 2 ^ 32
  let sorted := sortBy key all
  sorted.foldl (fun l r => if l.any (fun x => recSeq x == recSeq r) then l else l ++ [r]) []

end Sys2Proof.Machine
end

