-- ==== Sys2Proof/Machine/Gateway.lean ====
section
/-!
DEFINITION. The signal gateway (15_gateway.md): the operations GXLT, GOUT, GEMIT and GPUB of Jugglers 14 and 15 (R452 to
R456), and the fire-alarm wire with its emergency bursts (R458, R459).
-/
namespace Sys2Proof.Machine

/- ## Bit fields of maps and templates (R447a) -/

/-- Read `w` bits from bit `pos`, bit 0 being the first byte's most significant; little-endian fields are whole bytes. -/
def bitRead (l : Frame) (pos w : Nat) (le : Bool) : Nat :=
  if le then leNat (sliceAt l (pos / 8) (w / 8)) else getField l (pos / 8) (pos % 8) w

/-- Write `w` bits. -/
def bitWrite (l : Frame) (pos w v : Nat) (le : Bool) : Frame :=
  if le then patchAt l (pos / 8) (leBytes (w / 8) v) else putField l (pos / 8) (pos % 8) w v

/-- A field's value as a number. -/
def bitInt (w v : Nat) (signed : Bool) : Int := if signed then signedOf w v else (v : Int)

/-- The bounds of a destination (R452). -/
def boundLo (w : Nat) (signed : Bool) : Int := if signed then -(2 ^ (w - 1) : Int) else 0
def boundHi (w : Nat) (signed : Bool) : Int := if signed then (2 ^ (w - 1) : Int) - 1 else (2 ^ w : Int) - 1

/-- R452: y = floor((x × SCALE + OFFSET + 32768) / 65536), in exact arithmetic. -/
def mapValue (x scale offset : Int) : Int := (x * scale + offset + 32768) / 65536

/- ## Templates and maps (R461) -/

/-- The template record, if the body holds it. -/
def Bank.template? (b : Bank) (t : Nat) : Option Frame :=
  let body := ngetD b.templates 0 []
  if t < bodyLe body 0 1 then some (sliceAt body (64 + 512 * t) 512) else none

/-- The map record, if the body holds it: SRC, DST, SCALE, OFFSET. -/
def Bank.map? (b : Bank) (m : Nat) : Option Frame :=
  let body := ngetD b.maps 0 []
  if 16 * m + 16 ≤ body.length then some (sliceAt body (16 * m) 16) else none

/-- Bit position, width and order of a template's field. -/
def tplField (r : Frame) (f : Nat) : Nat × Nat × Nat :=
  (bodyLe r (0x20 + 4 * f) 2, bodyLe r (0x22 + 4 * f) 1, bodyLe r (0x23 + 4 * f) 1)

/-- The ports a template names. -/
def tplPorts (r : Frame) : List Nat := indicesOf 101 (bitOf (bodyLe r 4 16))

/- ## GXLT (R452, R454, R455) -/

/-- A map's source value, unless the source fails (R455). -/
def State.mapSource (s : State) (c : Ctx) (src : Nat) : Option Nat :=
  let w := bitsOf src 23 5 + 1
  let pos := bitsOf src 0 12
  let le := bitOf src 29
  match bitsOf src 30 2 with
  | 0 => some (bitRead (s.sigBank RI.SIG_RX.DATA (bitsOf src 18 5)) pos w le)
  | 1 =>
    match c.packet with
    | some p =>
      let l7 := c.byte (phvResult + 11)
      let first := 8 * l7 + pos
      if l7 = 0xFF ∨ 8 * min 128 (p.bytes.length - 4) < first + w then none else some (bitRead (c.phv.take 160) first w le)
    | none => none
  | 2 => some (bitRead c.phv pos w le)
  | _ => some 0

/-- Where a map writes: the position, width, signedness and order, or nothing when it is skipped (R454). -/
def Bank.mapDest (b : Bank) (c : Ctx) (dst : Nat) : Option (Nat × Nat × Bool × Bool) :=
  match bitsOf dst 30 2 with
  | 0 =>
    match c.gw with
    | some g =>
      if g.template = some (bitsOf dst 11 7) then
        (b.template? (bitsOf dst 11 7)).bind fun r =>
          let f := tplField r (bitsOf dst 0 4)
          if f.2.1 = 0 then none else some (f.1, f.2.1, bitOf f.2.2 1, bitOf f.2.2 0)
      else none
    | none => none
  | 3 => none
  | _ => some (bitsOf dst 0 11, bitsOf dst 23 5 + 1, bitOf dst 28, bitOf dst 29)

/-- Put a map's value into its destination. -/
def State.mapStore (s : State) (c : Ctx) (dst pos w v : Nat) (le : Bool) : State × Ctx :=
  match bitsOf dst 30 2 with
  | 0 => (s, { c with gw := c.gw.map fun g => { g with buffer := bitWrite g.buffer pos w v le } })
  | 1 =>
    let win := bitsOf dst 18 5
    (s.setSigBank RI.SIG_TX.DATA win (bitWrite (s.sigBank RI.SIG_TX.DATA win) pos w v le), c)
  | _ => (s, { c with phv := patchAt c.phv phvScratch (bitWrite (sliceAt c.phv phvScratch 64) pos w v le) })

/-- A gateway operation fails (R455): the routine ends, the output buffer is lost, TPL_ERR counts, and a frame goes to
the Sideshow. -/
def State.gwFail (s : State) (x : CtxId) (c : Ctx) (ruleIndex : Nat) : State :=
  let s1 := ((s.addOvf RI.GW_STAT.TPL_ERR RI.GW_STAT.CNT_OVF 1 1).wr RI.GW_STAT.TPL_ERR_SEEN 1).raiseIf
    (!s.isSet RI.GW_STAT.TPL_ERR_SEEN) 31
  match c.packet with
  | some p => (s1.fragFail p).finishCtx x c [s1.delivery p 0x10 ruleIndex (s1.provisional x.pipe p.epoch c.routine)]
  | none => s1.finishCtx x c []

/-- A map is held by a context from its first GXLT (R454). -/
def State.holdMap (s : State) (c : Ctx) (m : Nat) : State × Ctx :=
  (s.wr (RI.GW_MAP_STAT.HELD m) 1,
    { c with gw := c.gw.map fun g => { g with held := if g.held.contains m then g.held else m :: g.held } })

/-- Whether a context holds a map. -/
def Ctx.holdsMap (c : Ctx) (m : Nat) : Bool :=
  match c.gw with
  | some g => g.held.contains m
  | none => false

def effGxlt (s : State) (x : CtxId) (c : Ctx) (m : Micro) : Retire :=
  let n := m.imm % 4096
  let b := s.epochBank c.epoch
  let skip := fun (s : State) (c : Ctx) => Retire.next s { c with hit := false }.stepPc
  match b.map? n with
  | none => skip s c
  | some r =>
    if !s.isSet (RI.GW_MAP_CTL.EN n) && !c.holdsMap n then skip s c
    else
      let src := bodyLe r 0 4
      let dst := bodyLe r 4 4
      match b.mapDest c dst with
      | none => let h := s.holdMap c n; skip h.1 h.2
      | some (pos, w, signed, le) =>
        match s.mapSource c src with
        | none => .ended fun s => s.gwFail x c n
        | some v =>
          let xv := bitInt (bitsOf src 23 5 + 1) v (bitOf src 28)
          let y := mapValue xv (signedOf 32 (bodyLe r 8 4)) (signedOf 32 (bodyLe r 12 4))
          let z := clampInt (boundLo w signed) (boundHi w signed) y
          let h := s.holdMap c n
          let s1 := if z = y then h.1 else h.1.wr (RI.GW_MAP_STAT.SAT_SEEN n) 1
          let o := s1.mapStore h.2 dst pos w (unsignedOf w z) le
          .next o.1 { o.2 with hit := true, c := z ≠ y }.stepPc

/- ## GOUT and GPUB (R453) -/

/-- GOUT: load a template's BODY and select it; a template the body does not hold selects nothing. -/
def effGout (s : State) (_ : CtxId) (c : Ctx) (m : Micro) : Retire :=
  let t := m.imm % 128
  let g := match (s.epochBank c.epoch).template? t with
    | some r => c.gw.map fun g => { g with template := some t, buffer := sliceAt r 0x60 416 }
    | none => c.gw.map fun g => { g with template := none }
  .next s { c with gw := g }.stepPc

def effGpub (s : State) (_ : CtxId) (c : Ctx) (m : Micro) : Retire := .next (s.publish (m.imm % 32)) c.stepPc

/- ## GEMIT (R456) -/

/-- The Internet checksum of a 20-byte header whose checksum bytes are 0. -/
def ipChecksum (h : Frame) : Nat :=
  65535 - (List.range 10).foldl (fun a i => onesAdd a (beNat (sliceAt h (2 * i) 2))) 0

/-- Complete an IPv4 UDP datagram. -/
def completeUdp (l : Frame) (len l3 : Nat) : Frame :=
  let a := patchAt (patchAt l (l3 + 2) (beBytes 2 (len - l3))) (l3 + 10) [0, 0]
  let b := patchAt a (l3 + 10) (beBytes 2 (ipChecksum (sliceAt a l3 20)))
  patchAt b (l3 + 24) (beBytes 2 (len - l3 - 20) ++ [0, 0])

/-- ACT_TIME of a Poran frame. -/
def State.actTime (s : State) (c : Ctx) (mode lead : Nat) : Nat :=
  let base := match mode with
    | 0 => s.time
    | 1 => beNat (sliceAt c.phv phvScratch 8)
    | _ => beNat (sliceAt c.phv 0x0C8 8)
  (base + lead) % 2 ^ 64

/-- Complete the output buffer of a template: the frame's bytes without FCS, and the state with SEQ taken. -/
def State.completeOut (s : State) (c : Ctx) (r buf : Frame) : Frame × State :=
  let len := bodyLe r 0 2
  let off := bodyLe r 0x14 1
  if bodyLe r 2 1 = 0 then
    let group := beNat (sliceAt buf (off + 4) 2)
    let (seq, s1) := s.takeSeq group
    ((patchAt (patchAt buf (off + 2) (beBytes 2 seq)) (off + 16)
      (beBytes 8 (s.actTime c (bodyLe r 0x15 1) (bodyLe r 0x18 4)))).take len, s1)
  else ((completeUdp buf len off).take len, s)

/-- The copies of a completed frame. -/
def outCopies (r l : Frame) (epoch handle now : Nat) : List Desc :=
  let f := withFcs (l ++ List.replicate (60 - l.length) 0)
  let cls := bodyLe r 3 1 % 8
  (tplPorts r).map fun p => plainDesc p cls cls 0 101 epoch handle now true f

/-- A Poran command's journal record: TPL, PORTS and the payload (R518). -/
def poranRecord (t : Nat) (r l : Frame) : Frame :=
  leBytes 1 t ++ leBytes 1 0 ++ sliceAt r 4 13 ++ sliceAt l (bodyLe r 0x14 1) 24

/-- GEMIT. Outside Performance the gateway does not run: nothing is sent and no SEQ taken (R133, R137, R464); and of a trial
frame nothing reaches a luminaire (R208). -/
def effGemit (s : State) (x : CtxId) (c : Ctx) (_ : Micro) : Retire :=
  match c.gw with
  | none => .ended fun s => s.gwFail x c 0xFFFF
  | some g =>
    match g.template.bind (s.epochBank c.epoch).template? with
    | none => .ended fun s => s.gwFail x c 0xFFFF
    | some r =>
      if s.mode ≠ 2 ∨ c.trial = true then .next s { c with gw := some { g with template := none } }.stepPc
      else
        let (l, s1) := s.completeOut c r g.buffer
        let outs := outCopies r l c.epoch c.handle s.time
        let s2 := s1.passToBi x.pipe outs
        let s3 := if bodyLe r 2 1 = 0 ∧ bitOf (bodyLe r 0x16 1) 0 then s2.jnlDevice 2 (poranRecord (g.template.getD 0) r l)
          else s2
        .next s3 { c with gw := some { g with template := none, copying := outs.length } }.stepPc

/-- A gateway operation runs on Jugglers 14 and 15 with GW_EN only (R222). -/
def rowGw (x : CtxId) (op : Nat) : State → Ctx → Micro → Bool := fun s c m => m.op == op && 14 ≤ x.jug && s.ctxGwEn x c

def execGxlt (x : CtxId) (ecc : Ecc) (t : Nat) (s : State) : Host.Outcome State Fault Refusal :=
  .next ((s.begin t).issue x ecc false (rowGw x 0x18) effGxlt)
def execGout (x : CtxId) (ecc : Ecc) (t : Nat) (s : State) : Host.Outcome State Fault Refusal :=
  .next ((s.begin t).issue x ecc false (rowGw x 0x19) effGout)
def execGemit (x : CtxId) (ecc : Ecc) (t : Nat) (s : State) : Host.Outcome State Fault Refusal :=
  .next ((s.begin t).issue x ecc false (rowGw x 0x1A) effGemit)
def execGpub (x : CtxId) (ecc : Ecc) (t : Nat) (s : State) : Host.Outcome State Fault Refusal :=
  .next ((s.begin t).issue x ecc false (rowGw x 0x1B) effGpub)

/- ## The side-band wires (R458 to R460) -/

/-- FA_OUT_N: one net with FA_IN_N, joined by package metal, whatever else happens in the device (R31, R460). -/
def State.faOut (s : State) : Nat := s.rd AO.SIDEBAND.FA_PIN

/-- SB_OUT[3:0]: each one net with its SB_IN (R31, R460). -/
def State.sbOut (s : State) : Nat := s.rd AO.SIDEBAND.SB


/-- Set a flag of AO.SIDEBAND and its copy in RI.GW_EVT. -/
def State.faFlag (s : State) (f g : Field) : State :=
  let s1 := s.wr f 1
  if s.isl? 3 = 0 then s1 else (s1.wr g 1).raiseIf (!s.isSet g) 30

/-- The pin has held a level throughout the last DEB_MS (0 acts as 1 ms), at the soonest since the debounced state last
changed (R458). -/
def State.debounced (s : State) : Bool := s.gw.faSince + max 1 (s.rd AO.SIDEBAND.DEB_MS) * 1000000 ≤ s.now

/-- The debounced state changes, and FA_OUT_N, one net with FA_IN_N (R460), is at the level of FA_PIN. -/
def State.faTo (s : State) (b : Bool) : State :=
  let s1 := (s.flag AO.SIDEBAND.FA b).flag AO.SIDEBAND.FA_PIN (!b)
  { s1 with gw := { s1.gw with faSince := s1.now } }

/-- FA_ASSERT: FA_IN_N has read low throughout the last DEB_MS. -/
def State.faAssert (s : State) : State :=
  if s.isSet AO.SIDEBAND.FA || !s.debounced then s
  else
    let s1 := (s.faTo true).faFlag AO.SIDEBAND.FA_ASSERT RI.GW_EVT.FA_ASSERT
    (s1.fireTriggers 3 0 (trigRecord 3 1 s1.time 0)).emergencyBurst

def execFaAssert (t : Nat) (s : State) : Host.Outcome State Fault Refusal := .next ((s.begin t).faAssert)

/-- FA_RELEASE: FA_IN_N has read high throughout the last DEB_MS. It sends nothing. -/
def State.faRelease (s : State) : State :=
  if !s.isSet AO.SIDEBAND.FA || !s.debounced then s
  else
    let s1 := (s.faTo false).faFlag AO.SIDEBAND.FA_RELEASE RI.GW_EVT.FA_RELEASE
    s1.fireTriggers 3 0 (trigRecord 3 0 s1.time 0)

def execFaRelease (t : Nat) (s : State) : Host.Outcome State Fault Refusal := .next ((s.begin t).faRelease)

/-- EMERGENCY_REPEAT (R459): REPEAT_S after the last burst while FA stays asserted. -/
def State.emergencyRepeat (s : State) : State :=
  if s.isSet AO.SIDEBAND.FA && s.gw.burstAt + max 1 (s.rd RI.GW_EMERG.REPEAT_S) * 1000000000 ≤ s.now then s.emergencyBurst else s

def execEmergencyRepeat (t : Nat) (s : State) : Host.Outcome State Fault Refusal := .next ((s.begin t).emergencyRepeat)

end Sys2Proof.Machine
end

