-- ==== Sys2Proof/Machine/Dma.lean ====
section
/-!
DEFINITION. The DMA channels (R470, R481, R482): descriptors, which lie in SRAM, their local side in SRAM or, by requests of
MI, in DRAM (R339), and how they end.
-/
namespace Sys2Proof.Machine

def State.mgSet (s : State) (f : Mgmt → Mgmt) : State := { s with mg := f s.mg }

/-- Set a flag of DMA_STAT that raises interrupt 4. -/
def State.dmaNote (s : State) (f : Field) : State := (s.wr f 1).raiseIf (!s.isSet f) 4

/-- The address of the descriptor CONS names. -/
def State.dmaDesc (s : State) (c : Nat) : Nat :=
  let k := s.rd (MI.DMA_CTL.SIZE_LOG2 c)
  s.rd (MI.DMA_BASE.ADDR c) / 32 * 32 + s.rd (MI.DMA_STAT.CONS c) % 2 ^ (if 4 ≤ k ∧ k ≤ 10 then k else 4) * 32

/-- Write the STATUS of the descriptor CONS names; a ring that is not in SRAM has none (notes/assumptions/82.md). -/
def State.dmaStatus (s : State) (c v : Nat) : State :=
  if inSram (s.dmaDesc c) 32 then s.busWrite (.dma c) (s.dmaDesc c + 20) (leBytes 4 v) else s

/-- A descriptor fails: STATUS and ERR_CODE, ERR, HALTED. CONS stays until the channel runs again. -/
def State.dmaFail (s : State) (c code : Nat) : State :=
  let s1 := ((s.busDrop (.dma c)).dmaStatus c (2 * code)).mgSet fun m => { m with dma := nerase m.dma c }
  (s1.wrs [(MI.DMA_STAT.ERR_CODE c, code), (MI.DMA_STAT.HALTED c, 1)]).dmaNote (MI.DMA_STAT.ERR c)

/-- DMA_DESCRIPTOR_START: a transfer to the host asks DRAM for its bytes, one from the host the host. -/
def State.dmaStart (s : State) (c : Nat) : State :=
  if 4 ≤ c || !s.isSet (MI.DMA_CTL.EN c) || s.isSet (MI.DMA_STAT.HALTED c) || (nget s.mg.dma c).isSome
      || s.busWaits (.dma c) || s.rd (MI.DMA_STAT.CONS c) == s.rd (MI.DMA_PROD.PROD c) then s
  else
    let d := if inSram (s.dmaDesc c) 32 then s.coreRead (s.dmaDesc c) 32 else []
    let f := fun (o n : Nat) => leNat (sliceAt d o n)
    let len := f 12 4 % 2 ^ 21
    let loc := f 8 4
    if len = 0 ∨ 1048576 < len ∨ (inSram loc len || s.inFixed loc len) = false then s.dmaFail c 4
    else if !s.isSet MI.PCIE_STAT.LINK_UP || !s.isSet MI.PCIE_STAT.BME then s.dmaFail c 5
    else
      let o : DmaOp := ⟨f 0 8, loc, len, bitOf (f 16 4) 0, bitOf (f 16 4) 1, s.now⟩
      let s1 := s.mgSet fun m => { m with dma := nset m.dma c o }
      if o.toHost then if inSram loc len then s1 else s1.dramAsk (.dma c) false (loc - 0x80000000) len []
      else
        let ps := hostPieces (min 512 s.mg.mrrs) (len + 1) o.hostAddr len
        ps.foldl (fun s p => s.emit (.dmaRead c p.1 p.2)) (s1.count 0 0x103 ps.length)

def execDmaDescriptorStart (ch t : Nat) (s : State) : Host.Outcome State Fault Refusal := .next ((s.begin t).dmaStart ch)

/-- The bytes a transfer to the host sends: SRAM's, or what DRAM has delivered. -/
def State.dmaBytes (s : State) (c : Nat) (o : DmaOp) : Frame :=
  if inSram o.localAddr o.len then s.coreRead o.localAddr o.len
  else s.gotBytes (.dma c) (o.localAddr - 0x80000000) o.len

/-- A descriptor ends well: the data moves, then STATUS is written; CONS advances. -/
def State.dmaOk (s : State) (c : Nat) (o : DmaOp) : State :=
  let s1 := if o.toHost then s.hostPost o.hostAddr (s.dmaBytes c o)
    else s.busWrite (.dma c) o.localAddr (s.hostRead o.hostAddr o.len)
  let s2 := (((s1.busDrop (.dma c)).dmaStatus c 1).mgSet fun m => { m with dma := nerase m.dma c }).addF (MI.DMA_STAT.CONS c) 1
  if o.irq then s2.dmaNote (MI.DMA_STAT.DESC_DONE c) else s2

/-- DMA_DESC_DONE. A transfer whose bytes DRAM has not delivered yet has not ended. SRAM's check code acts on the read of a
transfer to the host (R470). -/
def State.dmaDone (s : State) (c : Nat) (e : DmaEnd) : State :=
  match nget s.mg.dma c with
  | none => s
  | some o =>
    let sram := o.toHost && inSram o.localAddr o.len
    match e with
    | .cplError => s.dmaFail c 2
    | .poisoned => s.dmaFail c 3
    | .linkDown => s.dmaFail c 5
    | .localEcc => (if sram then s.sramCheck .uncorrectable else s).dmaFail c 6
    | .corrected => if s.busWaits (.dma c) then s else (if sram then s.sramCheck .corrected else s).dmaOk c o
    | .ok => if s.busWaits (.dma c) then s else s.dmaOk c o

def execDmaDescDone (ch : Nat) (outcome : DmaEnd) (t : Nat) (s : State) : Host.Outcome State Fault Refusal :=
  .next ((s.begin t).dmaDone ch outcome)

/-- A read of DRAM for a channel has been served: an uncorrectable one ends its descriptor with LOCAL_ECC (R482). -/
def State.dmaLanded (s : State) (c : Nat) : State := if s.gotBad (.dma c) then s.dmaFail c 6 else s

/-- DMA_CPL_TIMEOUT: 50 ms without a completion; only a host read waits for one. -/
def State.dmaTimeout (s : State) (c : Nat) : State :=
  match nget s.mg.dma c with
  | some o =>
    if !o.toHost && o.since + 50000000 ≤ s.now then
      ((s.dmaFail c 1).wr MI.PCIE_EVT.CPL_TIMEOUT 1).raiseIf (!s.isSet MI.PCIE_EVT.CPL_TIMEOUT) 7
    else s
  | none => s

def execDmaCplTimeout (ch t : Nat) (s : State) : Host.Outcome State Fault Refusal := .next ((s.begin t).dmaTimeout ch)

end Sys2Proof.Machine
end

