-- ==== Sys2Proof/Machine/Dram.lean ====
section
/-!
DEFINITION. The DRAM controller (11_dram.md): the service of requests with their page hints (R339 to R341), the check code
(R343 to R347), refresh and row-disturbance counting (R342, R356 to R358), initialisation and mode registers (R351, R352),
the training helpers (R348 to R350) and periodic retraining (R354).
-/
namespace Sys2Proof.Machine

def State.diSet (s : State) (f : Dram → Dram) : State := { s with di := f s.di }

/- ## Check code (R343, R344) -/

/-- H(i): the 8-bit values with exactly three bits set, in ascending order. -/
def hsiao : List Nat :=
  [0x07, 0x0B, 0x0D, 0x0E, 0x13, 0x15, 0x16, 0x19, 0x1A, 0x1C, 0x23, 0x25, 0x26, 0x29, 0x2A, 0x2C, 0x31, 0x32, 0x34, 0x38,
   0x43, 0x45, 0x46, 0x49, 0x4A, 0x4C, 0x51, 0x52, 0x54, 0x58, 0x61, 0x62]

/-- The column of a lane: data 0 to 31, check 32 to 39. -/
def column (i : Nat) : Nat := if i < 32 then hsiao.getD i 0 else 2 ^ (i - 32)

/-- The XOR of the columns of the set bits of a 40-bit word. -/
def syndrome (m : Nat) : Nat := (List.range 40).foldl (fun a i => if bitOf m i then a ^^^ column i else a) 0

/-- The check bits of a beat. -/
def checkBits (d : Nat) : Nat := syndrome (d % 2 ^ 32)

/-- What a read of a beat finds: no error, the lane to invert, or an uncorrectable error. -/
inductive BeatErr where
  | good | lane (i : Nat) | bad
deriving DecidableEq, Repr

def beatErr (sy : Nat) : BeatErr :=
  if sy = 0 then .good
  else match (List.range 40).find? fun i => column i == sy with
    | some i => .lane i
    | none => .bad

/- ## Row-disturbance counting (R356, R357) -/

/-- The requester with the most activations in a bank, the lower number on a tie; never SRCH_OVF. -/
def State.mostActive (s : State) (bank : Nat) : Option Nat :=
  let n := fun r => ngetD s.di.reqActs (8 * bank + r) 0
  ([1, 2, 3, 4, 5].filter fun r => 0 < n r).foldl (fun b r => match b with
    | some q => if n q < n r then some r else some q
    | none => some r) none

/-- A group count has reached the threshold. -/
def State.crossing (s : State) (bank group : Nat) : State :=
  let s1 := (s.diSet fun d => { d with crossed := (2048 * bank + group) :: d.crossed }).wrs
    [(DI.RH_STAT.LAST_BANK, bank % 16), (DI.RH_STAT.LAST_RANK, bank / 16), (DI.RH_STAT.LAST_GROUP, group)]
  let s2 := match s.mostActive bank with
    | some r => (s1.orF DI.RH_STAT.THROTTLED (2 ^ r)).wr DI.RH_STAT.LAST_REQ r
    | none => s1.wr DI.RH_STAT.UNTHROTTLED 1
  ((s2.addOvf DI.RH_STAT.EVENTS DI.RH_STAT.EVENTS_OVF 1 1).raise 75).logEvent 0x100 9

/-- Count an activation of a row for its group, and for a requester where one caused it. -/
def State.countActivation (s : State) (bank row : Nat) (who : Option Nat) : State :=
  let g := row / 1024
  let k := 2048 * bank + g
  let n := ngetD s.di.groupActs k 0 + 1
  let s1 := (s.diSet fun d => { d with groupActs := nset d.groupActs k n }).count 9 0x100 1
  let s2 := match who with
    | some r => s1.diSet fun d => { d with
        reqActs := nset d.reqActs (8 * bank + r) (ngetD d.reqActs (8 * bank + r) 0 + 1),
        recent := (d.recent.filter fun e => s.now < e.2 + 1000) ++ [(r, s.now)] }
    | none => s1
  if s.rd DI.RH_CFG.THRESHOLD ≤ n ∧ ¬ s.di.crossed.contains k then s2.crossing bank g else s2

/-- Open the row of a request, if it is not open (R341). -/
def State.openRow (s : State) (r : DramReq) : State :=
  let b := s.dramBank r.addr
  let row := s.dramRow r.addr
  if nget s.di.rows b = some row then s
  else (s.diSet fun d => { d with rows := nset d.rows b row }).countActivation b row (some r.who.num)

/-- The page hint of a requester: 0 OPEN, 1 CLOSE, else AUTO. SRCH_OVF always closes. -/
def State.hint (s : State) (r : Nat) : Nat := if r = 0 then 1 else s.rd (DI.REQ_CFG.HINT r)

/-- After the last column command: leave the row open or close it (R340). -/
def State.closeRow (s : State) (r : DramReq) : State :=
  let b := s.dramBank r.addr
  let same := s.di.queue.any fun q => s.dramBank q.addr == b && s.dramRow q.addr == s.dramRow r.addr
  match s.hint r.who.num with
  | 0 => s
  | 1 => s.diSet fun d => { d with rows := nerase d.rows b }
  | _ => if same then s else s.diSet fun d => { d with rows := nerase d.rows b }

/- ## Reading and writing beats (R344 to R347) -/

/-- Log and count an error (R347). -/
def State.logEcc (s : State) (who sy beat : Nat) (bad : Bool) : State :=
  let e := 2 ^ 63 + who * 2 ^ 60 + bad.toNat * 2 ^ 59 + sy % 256 * 2 ^ 51 + beat % 2 ^ 32
  let s1 :=
    if s.di.eccLog.length < 32 then
      (s.diSet fun d => { d with eccLog := d.eccLog ++ [e] }).raiseIf s.di.eccLog.isEmpty 74
    else s.addF DI.ECC_STAT.LOG_LOST 1
  let s2 :=
    if bad then ((s1.addOvf DI.ECC_STAT.UNCORR DI.ECC_STAT.UNCORR_OVF 1 1).wr DI.ECC_STAT.UNCORR_SEEN 1).raise 73
    else (s1.addOvf DI.ECC_STAT.CORR DI.ECC_STAT.CORR_OVF 1 1).wr DI.ECC_STAT.CORR_SEEN 1
  s2.logEvent 0x101 9

/-- The beat as it is stored: data, without the lanes stored inverted. -/
def State.beatData (s : State) (beat : Nat) : Nat := leNat (s.dramRead (4 * beat) 4)

/-- Store a whole beat, with lanes inverted. -/
def State.storeBeat (s : State) (beat w flip : Nat) : State :=
  (s.dramWrite (4 * beat) (leBytes 4 w)).diSet fun d => { d with flips := nput 0 d.flips beat flip }

/-- Read a beat through the check code: its data, and whether it is uncorrectable. A corrected beat that MI or SRCH_OVF
reads is written back unless a write to it is queued (R346). -/
def State.readBeat (s : State) (who beat : Nat) (errs : Errs) : Nat × Bool × State :=
  let m := (ngetD s.di.flips beat 0) ^^^ (((errs.find? fun e => e.1 == beat).map (·.2)).getD 0)
  let raw := s.beatData beat ^^^ (m % 2 ^ 32)
  let sy := syndrome m
  match beatErr sy with
  | .good => (raw, false, s)
  | .lane i =>
    let fixed := if i < 32 then raw ^^^ 2 ^ i else raw
    let queued := s.di.queue.any fun q => q.wr && q.addr / 4 ≤ beat && beat ≤ (q.addr + q.len - 1) / 4
    let s1 := s.logEcc who sy beat false
    (fixed, false, if (who = 0 ∨ who = 3) ∧ queued = false then s1.storeBeat beat fixed 0 else s1)
  | .bad => (raw, true, s.logEcc who sy beat true)

/-- The beats of a transfer. -/
def DramReq.beats (r : DramReq) : List Nat :=
  if r.len = 0 then [] else (List.range ((r.addr + r.len - 1) / 4 + 1 - r.addr / 4)).map fun i => r.addr / 4 + i

/-- Read a transfer: its bytes, whether any beat was uncorrectable, and the state. -/
def State.readReq (s : State) (r : DramReq) (errs : Errs) : Frame × Bool × State :=
  let step := fun (a : Frame × Bool × State) (b : Nat) =>
    let (w, bad, s1) := a.2.2.readBeat r.who.num b errs
    (a.1 ++ leBytes 4 w, a.2.1 || bad, s1)
  let x := r.beats.foldl step ([], false, s)
  ((x.1.drop (r.addr % 4)).take r.len, x.2.1, x.2.2)

/-- The lanes an MI write beat is stored inverted in: DI.ECC_INJ, once. -/
def State.injectFlip (s : State) (who : Nat) : Nat × State :=
  if who = 3 ∧ s.isSet DI.ECC_INJ.ARM = true then (s.rd DI.ECC_INJ.FLIP, s.wr DI.ECC_INJ.ARM 0) else (0, s)

/-- Write one beat of a transfer: a part of a beat is a read-modify-write, not performed on an uncorrectable read. -/
def State.writeBeat (s : State) (r : DramReq) (beat : Nat) (errs : Errs) : Bool × State :=
  let lo := max r.addr (4 * beat)
  let hi := min (r.addr + r.len) (4 * beat + 4)
  let part := sliceAt r.data (lo - r.addr) (hi - lo)
  let put := fun (s : State) (w : Nat) => let f := s.injectFlip r.who.num; f.2.storeBeat beat w f.1
  if hi - lo = 4 then (false, put s (leNat part))
  else
    let (w, bad, s1) := s.readBeat r.who.num beat errs
    if bad then (true, s1) else (false, put s1 (leNat (patchAt (leBytes 4 w) (lo - 4 * beat) part)))

/-- Write a transfer: whether some beat was not written, and the state. -/
def State.writeReq (s : State) (r : DramReq) (errs : Errs) : Bool × State :=
  r.beats.foldl (fun a b => let x := a.2.writeBeat r b errs; (a.1 || x.1, x.2)) (false, s)

/- ## Serving requests (R339) -/

/-- The request to serve next: SRCH_OVF first, then the oldest that has waited 2 µs, then by priority; a held request is
not ready. While a retraining slice runs only SRCH_OVF is served (R355). -/
def State.dramPick (s : State) : Option DramReq :=
  let ready := s.di.queue.filter fun r => !s.dramHeld r && (r.who.num == 0 || s.di.sliceEnd ≤ s.now)
  match ready.find? fun r => r.who.num == 0 with
  | some r => some r
  | none =>
    match ready.find? fun r => r.at_ + 2000 ≤ s.now with
    | some r => some r
    | none => ready.foldl (fun b r => match b with
      | some q => if r.who.num < q.who.num then some r else some q
      | none => some r) none

/-- Keep what a read for MI's own use delivers. -/
def State.keepGot (s : State) (r : DramReq) (l : Frame) (bad : Bool) : State :=
  s.diSet fun d => { d with got := d.got ++ [⟨r.who, r.addr, l, bad⟩] }

/-- What a served read gives its requester (R345). -/
def State.readDone (s : State) (r : DramReq) (l : Frame) (bad : Bool) : State :=
  match r.who with
  | .ovf id =>
    if bad then (s.diSet fun d => { d with queue := d.queue.filter fun q => q.who != .ovf id }).overflowRead id false
    else if s.di.queue.any fun q => q.who == .ovf id then s
    else s.overflowRead id true
  | .spillRd i => if bad then s.diSet fun d => { d with spillBad := if d.spillBad.contains i then d.spillBad else i :: d.spillBad } else s
  | .core k a => if bad then s.emit (.coreFault (faultCauseOf k) a) else s.answer (leNat l)
  | .host => s.emit (if bad then .poisoned l else .completion 0 l)
  | .dma c => (s.keepGot r l bad).dmaLanded c
  | .inject i => (s.keepGot r l bad).injectLanded i
  | _ => s

/-- What follows from a served write: an entry of a receive ring may have landed; a core's store that was not performed
takes its exception (R346). -/
def State.writeDone (s : State) (r : DramReq) (bad : Bool) : State :=
  match r.who with
  | .core k a => if bad then s.emit (.coreFault (faultCauseOf k) a) else s
  | .entry i => s.sideLanded i
  | _ => s

/-- The effect of a served request on the array and its requester. -/
def State.dramTransfer (s : State) (r : DramReq) (errs : Errs) : State :=
  let bursts := (r.addr + r.len - 1) / 32 + 1 - r.addr / 32
  if r.wr then
    let (bad, s1) := (s.count 9 0x102 bursts).writeReq r errs
    s1.writeDone r bad
  else
    let (l, bad, s1) := (s.count 9 0x101 bursts).readReq r errs
    s1.readDone r l bad

/-- DRAM_REQUEST_SERVE: one request, with its page hint and check code. Nothing is served in TRAIN_MODE (R348). -/
def State.dramServe (s : State) (errs : Errs) : State :=
  if !s.islRuns 9 || s.isSet DI.CTL.TRAIN_MODE then s
  else
    match s.dramPick with
    | some r =>
      let s1 := (s.diSet fun d => { d with queue := d.queue.erase r }).openRow r
      ((s1.dramTransfer r errs).closeRow r).progress 9
    | none => s

def execDramRequestServe (errs : Errs) (t : Nat) (s : State) : Host.Outcome State Fault Refusal :=
  .next ((s.begin t).dramServe errs)

/- ## Refresh (R342, R356, R361) -/

/-- A refresh window ends: every count restarts and the throttles lift. -/
def State.windowEnd (s : State) : State :=
  (s.diSet fun d => { d with groupActs := [], reqActs := [], crossed := [], refreshes := 0 }).wr DI.RH_STAT.THROTTLED 0

/-- The refresh interval in ns. -/
def State.refreshNs (s : State) : Nat := if s.isSet DI.CTL.REF_2X then 3900 else 7800

/-- Whether a rank's refresh is due: the first, or an interval behind the one before. -/
def State.refreshDue (s : State) (rank : Nat) : Bool :=
  match nget s.di.refreshAt rank with
  | some a => a + s.refreshNs ≤ s.now
  | none => true

/-- DRAM_REFRESH: the open rows of the rank are precharged; every 8,192nd refresh of rank 0 ends the window. -/
def State.dramRefresh (s : State) (rank : Nat) : State :=
  if !s.islRuns 9 || s.rd DI.CFG.RANKS_M1 < rank || !s.refreshDue rank then s
  else
    let s1 := ((s.diSet fun d => { d with
      rows := d.rows.filter fun e => e.1 / 16 != rank, refreshAt := nset d.refreshAt rank s.now }).count 9 0x103 1).emit
      (.dram "REFRESH" rank 0)
    if rank ≠ 0 then s1
    else if s.di.refreshes + 1 = 8192 then s1.windowEnd
    else s1.diSet fun d => { d with refreshes := d.refreshes + 1 }

def execDramRefresh (rank t : Nat) (s : State) : Host.Outcome State Fault Refusal := .next ((s.begin t).dramRefresh rank)

/- ## Training mode, INIT and mode registers (R348, R351, R352) -/

/-- TRAIN_MODE_WRITE: set only in Rigging. -/
def State.trainMode (s : State) (src : Src) (v : Bool) : State :=
  s.regCmd src 9 8 false fun s =>
    if !v then s.wr DI.CTL.TRAIN_MODE 0
    else if s.mode ≠ 0 then s.wr DI.TRN_STAT.MODE_REFUSED 1
    else s.wrs [(DI.CTL.TRAIN_MODE, 1), (MI.MODE_COND.DRAM_READY, 0)]

def execTrainModeWrite (src : Src) (v : Bool) (t : Nat) (s : State) : Host.Outcome State Fault Refusal :=
  .next ((s.begin t).trainMode src v)

/-- INIT: the DDR4 reset sequence, with DDR_RESET_N low until it ends, after which the content is undefined; or a
self-refresh exit that keeps it (R352). -/
def State.dramInit (s : State) (src : Src) : State :=
  s.regCmd src 9 8 false fun s =>
    let s1 := (s.wr DI.TRN_STAT.INIT_DONE 0).diSet fun d => { d with initRun := true, rows := [] }
    if s.isSet DI.TRN_STAT.SR_RETAINED then s1.emit (.dram "SELF_REFRESH_EXIT" 0 0)
    else ({ s1 with dram := [] }.diSet fun d => { d with
      flips := [], inits := d.inits + 1, resetN := false, cke := false }).emit (.dram "RESET" 0 0)

def execInitDram (src : Src) (t : Nat) (s : State) : Host.Outcome State Fault Refusal := .next ((s.begin t).dramInit src)

/-- Put out a command to every rank. -/
def State.eachRank (s : State) (name : String) : State :=
  (List.range (s.rd DI.CFG.RANKS_M1 + 1)).foldl (fun s r => s.emit (.dram name r 0)) s

/-- INIT_DONE: DDR_RESET_N and CKE are high, the mode registers hold DRAM_CFG's values, both ranks, and ZQCL has run. -/
def State.dramInitDone (s : State) : State :=
  if s.di.initRun then
    ((s.wrs [(DI.TRN_STAT.INIT_DONE, 1), (DI.TRN_STAT.SR_RETAINED, 0)]).diSet fun d => { d with
      initRun := false, selfRefresh := false, resetN := true, cke := true,
      mr := (List.range 14).map fun k => (8 * (k / 7) + k % 7, d.mrInit.getD (k % 7) 0) }).eachRank "ZQCL"
  else s

def execInitDone (t : Nat) (s : State) : Host.Outcome State Fault Refusal := .next ((s.begin t).dramInitDone)

/-- MRS_GO: write a mode register of a rank. -/
def State.mrsGo (s : State) (src : Src) (value mr rank : Nat) : State :=
  s.regCmd src 9 0x200 false fun s =>
    (s.wrs [(DI.MRS.VALUE, value), (DI.MRS.MR, mr), (DI.MRS.RANK, rank), (DI.MRS.DONE, 1)]).diSet fun d => { d with
      mr := nset d.mr (8 * (rank % 2) + mr % 8) (value % 2 ^ 18) }

def execMrsGo (src : Src) (value mr rank t : Nat) (s : State) : Host.Outcome State Fault Refusal :=
  .next ((s.begin t).mrsGo src value mr rank)

/- ## Training helpers (R349, R350) -/

/-- One step of PRBS7 (x^7 + x^6 + 1) or PRBS15 (x^15 + x^14 + 1) of `w` bits; the bit sent is the one shifted out. -/
def prbsStep (w st : Nat) : Nat := (2 * st + ((st / 2 ^ (w - 1)) ^^^ (st / 2 ^ (w - 2))) % 2) % 2 ^ w
def prbsSkip (w : Nat) : Nat → Nat → Nat
  | 0, st => st
  | n + 1, st => prbsSkip w n (prbsStep w st)

/-- The start state of a lane: what all ones reaches after 3 × lane steps. -/
def prbsStart (w lane : Nat) : Nat := prbsSkip w (3 * lane) (2 ^ w - 1)

/-- `n` beats of a PRBS pattern from lane states: 40-bit words. -/
def prbsBeats (w : Nat) : Nat → List Nat → List Nat
  | 0, _ => []
  | n + 1, l => maskOf (indicesOf 40 fun i => bitOf (l.getD i 0) (w - 1)) :: prbsBeats w n (l.map (prbsStep w))

/-- `n` beats of a pattern: 0 PRBS7, 1 PRBS15, else USER (the 64 bytes of DI.TRN_USER, check lanes by the code). -/
def State.trainPattern (s : State) (p n : Nat) : List Nat :=
  if p < 2 then
    let w := if p = 0 then 7 else 15
    prbsBeats w n ((List.range 40).map (prbsStart w))
  else
    (List.range n).map fun i =>
      let d := s.rd (DI.TRN_USER.DATA (i % 16 / 2)) / 2 ^ (32 * (i % 2)) % 2 ^ 32
      d + checkBits d * 2 ^ 32

/-- The first beat of a training area's burst: the last 64 KiB of each rank, 32 bytes a burst (R338). -/
def State.trainBeat (s : State) (rank burst : Nat) : Nat :=
  let size := s.dramSize / (s.rd DI.CFG.RANKS_M1 + 1)
  ((rank + 1) * size - 65536 + 32 * burst) / 4

/-- The helpers open the row of each beat they touch (R356): each activation counts toward its group, and is no
requester's. -/
def State.helperRows (s : State) (beat n : Nat) : State :=
  ((List.range ((4 * (beat + n) - 1) / 4096 + 1 - 4 * beat / 4096)).foldl (fun s i =>
    let a := (4 * beat / 4096 + i) * 4096
    s.countActivation (s.dramBank a) (s.dramRow a) none) s).diSet fun d => { d with rows := [] }

/-- Write raw lanes: data, and check lanes as they differ from the code. -/
def State.rawStore (s : State) (beat w : Nat) : State :=
  let d := w % 2 ^ 32
  s.storeBeat beat d (((w / 2 ^ 32) ^^^ checkBits d) * 2 ^ 32)

/-- Read raw lanes. -/
def State.rawRead (s : State) (beat : Nat) (errs : Errs) : Nat :=
  let d := s.beatData beat
  (d + checkBits d * 2 ^ 32) ^^^ ngetD s.di.flips beat 0 ^^^ (((errs.find? fun e => e.1 == beat).map (·.2)).getD 0)

def laneErr (l : Nat) : Field := match l % 4 with
  | 0 => DI.TRN_ERR.E0 (l / 4)
  | 1 => DI.TRN_ERR.E1 (l / 4)
  | 2 => DI.TRN_ERR.E2 (l / 4)
  | _ => DI.TRN_ERR.E3 (l / 4)
def laneOvf (l : Nat) : Field := match l % 4 with
  | 0 => DI.TRN_ERR.OVF0 (l / 4)
  | 1 => DI.TRN_ERR.OVF1 (l / 4)
  | 2 => DI.TRN_ERR.OVF2 (l / 4)
  | _ => DI.TRN_ERR.OVF3 (l / 4)

/-- Count the lanes of a mask as mismatches (R350). -/
def State.mismatch (s : State) (m : Nat) : State :=
  (indicesOf 40 (bitOf m)).foldl (fun s l => (s.addOvf (laneErr l) (laneOvf l) 1 1).addF DI.TRN_STAT.TOTAL 1) s

/-- The operands of a helper operation, as MI writes them into DI.TRN_CFG. -/
structure TrainOp where
  op : Nat
  pattern : Nat
  rank : Nat
  burst : Nat
  len : Nat

def TrainOp.bursts (o : TrainOp) : Nat := max 1 (o.len % 512)

/-- Start a helper operation: only in TRAIN_MODE, and not while one runs. -/
def State.helper (s : State) (src : Src) (o : TrainOp) (k : State → State) : State :=
  s.regCmd src 9 0x300 false fun s =>
    let s1 := s.wrs [(DI.TRN_CFG.OP, o.op), (DI.TRN_CFG.PATTERN, o.pattern), (DI.TRN_CFG.RANK, o.rank),
      (DI.TRN_CFG.BURST, o.burst), (DI.TRN_CFG.LEN, o.len)]
    if s.isSet DI.CTL.TRAIN_MODE && !s.isSet DI.TRN_STAT.BUSY then k (s1.wr DI.TRN_STAT.BUSY 1) else s1

/-- Write the pattern. -/
def State.helperWrite (s : State) (o : TrainOp) : State :=
  let b := s.trainBeat (o.rank % 2) (o.burst % 512)
  (s.trainPattern (o.pattern % 4) (8 * o.bursts)).zipIdx.foldl (fun s e => s.rawStore (b + e.2) e.1)
    (s.helperRows b (8 * o.bursts))

/-- Read back and count mismatches. -/
def State.helperRead (s : State) (o : TrainOp) (errs : Errs) : State :=
  let b := s.trainBeat (o.rank % 2) (o.burst % 512)
  (s.trainPattern (o.pattern % 4) (8 * o.bursts)).zipIdx.foldl
    (fun s' e => s'.mismatch (s.rawRead (b + e.2) errs ^^^ e.1)) (s.helperRows b (8 * o.bursts))

def execTrnWrite (src : Src) (pattern rank burst len t : Nat) (s : State) : Host.Outcome State Fault Refusal :=
  .next ((s.begin t).helper src ⟨1, pattern, rank, burst, len⟩ fun s => s.helperWrite ⟨1, pattern, rank, burst, len⟩)
def execTrnReadCmp (src : Src) (pattern rank burst len : Nat) (errs : Errs) (t : Nat) (s : State) :
    Host.Outcome State Fault Refusal :=
  .next ((s.begin t).helper src ⟨2, pattern, rank, burst, len⟩ fun s => s.helperRead ⟨2, pattern, rank, burst, len⟩ errs)
def execTrnWrcmp (src : Src) (pattern rank burst len : Nat) (errs : Errs) (t : Nat) (s : State) :
    Host.Outcome State Fault Refusal :=
  .next ((s.begin t).helper src ⟨3, pattern, rank, burst, len⟩ fun s =>
    (s.helperWrite ⟨3, pattern, rank, burst, len⟩).helperRead ⟨3, pattern, rank, burst, len⟩ errs)
def execTrnWlvl (src : Src) (rank seen t : Nat) (s : State) : Host.Outcome State Fault Refusal :=
  .next ((s.begin t).helper src ⟨4, s.rd DI.TRN_CFG.PATTERN, rank, s.rd DI.TRN_CFG.BURST, s.rd DI.TRN_CFG.LEN⟩ fun s =>
    s.wr DI.TRN_STAT.WL_SEEN seen)
def execTrnCaPar (src : Src) (rank errors t : Nat) (s : State) : Host.Outcome State Fault Refusal :=
  .next ((s.begin t).helper src ⟨5, s.rd DI.TRN_CFG.PATTERN, rank, s.rd DI.TRN_CFG.BURST, s.rd DI.TRN_CFG.LEN⟩ fun s =>
    s.addF DI.TRN_STAT.TOTAL errors)

/-- WRITE_CLR: every lane counter, its overflow bit and TOTAL. -/
def State.helperClear (s : State) : State :=
  (List.range 40).foldl (fun s l => s.wrs [(laneErr l, 0), (laneOvf l, 0)]) (s.wr DI.TRN_STAT.TOTAL 0)

def execTrnWriteClr (src : Src) (t : Nat) (s : State) : Host.Outcome State Fault Refusal :=
  .next ((s.begin t).helper src ⟨6, s.rd DI.TRN_CFG.PATTERN, s.rd DI.TRN_CFG.RANK, s.rd DI.TRN_CFG.BURST,
    s.rd DI.TRN_CFG.LEN⟩ fun s => s.helperClear)

/-- TRAIN_OP_DONE. -/
def State.trainDone (s : State) : State :=
  if s.isSet DI.TRN_STAT.BUSY then
    (s.wrs [(DI.TRN_STAT.BUSY, 0), (DI.TRN_STAT.DONE, 1)]).raiseIf (!s.isSet DI.TRN_STAT.DONE) 76
  else s

def execTrainOpDone (t : Nat) (s : State) : Host.Outcome State Fault Refusal := .next ((s.begin t).trainDone)

/- ## Periodic retraining (R354, R355) -/

/-- Move a byte's read delays by one unit, within their range. -/
def State.moveByte (s : State) (y : Nat) (up : Bool) : State :=
  (List.range 8).foldl (fun s k =>
    let f := DI.DQ_DLY.RD (8 * y + k)
    s.wr f (if up then min 127 (s.rd f + 1) else s.rd f - 1)) s

/-- Whether the 16 bursts of PRBS15 at the start of a rank's training area read wrong on a byte's lanes; `errs` says what
the moved read delay gets wrong. -/
def State.sideFails (s : State) (rank y : Nat) (errs : Errs) : Bool :=
  (s.trainPattern 1 128).zipIdx.any fun e =>
    bitsOf (s.rawRead (s.trainBeat rank 0 + e.2) errs ^^^ e.1) (8 * y) 8 != 0

/-- RETRAIN_SLICE: due, and not in TRAIN_MODE; `low` and `high` say what the reads at the read delay minus and plus 3 units
get wrong, `ns` how long the slice takes, at most 20 µs. -/
def State.retrain (s : State) (low high : Errs) (ns : Nat) : State :=
  if !s.islRuns 9 || !s.isSet DI.CTL.PERIODIC_EN || s.isSet DI.CTL.TRAIN_MODE || 20000 < ns
      || s.now < s.di.sliceAt + max 1 (s.rd DI.CTL.PERIOD_MS) * 1000000 then s
  else
    let k := s.di.sliceNo
    let rank := k / 5 % (s.rd DI.CFG.RANKS_M1 + 1)
    let a := 4 * s.trainBeat rank 0
    let lo := s.sideFails rank (k % 5) low
    let hi := s.sideFails rank (k % 5) high
    let s1 := ((s.diSet fun d => { d with rows := [], sliceAt := s.now, sliceNo := k + 1, sliceEnd := s.now + ns }).eachRank
      "ZQCS").countActivation (s.dramBank a) (s.dramRow a) none
    let s2 := ((s1.addF DI.RTR_STAT.SLICES 1).wr DI.RTR_STAT.LAST_NS ns).count 9 0x105 (cyclesTo 9 ns)
    if lo && hi then (s2.wr DI.RTR_STAT.DRIFT_FAIL 1).raiseIf (!s.isSet DI.RTR_STAT.DRIFT_FAIL) 77
    else if lo || hi then s2.moveByte (k % 5) lo
    else s2

def execRetrainSlice (low high : Errs) (ns t : Nat) (s : State) : Host.Outcome State Fault Refusal :=
  .next ((s.begin t).retrain low high ns)

/- ## Accesses by the core and the host (R32, R35, R36, R475) -/

/-- CORE_DRAM_ACCESS: the paged range adds the page (R32); the fixed range starts at DRAM offset 0. Beyond the installed
capacity a read is 0 and a write ignored (R36). A misaligned access takes an exception, and so do LR, SC and the AMOs,
which are for SRAM only (R466). -/
def State.coreDram (s : State) (src : Src) (k : AccKind) (a n data : Nat) : State :=
  let off := if 0xC0000000 ≤ a then s.rd MI.DRAM_WIN.PAGE * 0x40000000 + (a - 0xC0000000) else a - 0x80000000
  if a < 0x80000000 ∨ 0x100000000 < a + n ∨ src = .host then s
  else if accMisaligned k a n then s.emit (.coreFault (misCauseOf k) a)
  else if !s.pmpAllows src k a n || isAtomic k then s.emit (.coreFault (faultCauseOf k) a)
  else if !s.dramHas off || !s.dramHas (off + n - 1) then (s.wr MI.DRAM_WIN.OOR 1).answer 0
  else s.dramAsk (.core k a) (k == .store) off n (if k = .store then leBytes n data else [])

def execCoreDramAccess (src : Src) (kind : AccKind) (addr size data t : Nat) (s : State) : Host.Outcome State Fault Refusal :=
  .next ((s.begin t).coreDram src kind addr size data)

/-- A bit of SECURITY's POLICY byte (R474). -/
def State.policy (s : State) (b : Nat) : Bool := bitOf ((s.mg.security.getD 0x28 0).toNat) b

/-- HOST_BAR4_ACCESS: subject to HOST_BAR4 (R475). -/
def State.hostBar4 (s : State) (off n : Nat) (wr : Bool) (data : Frame) : State :=
  let a := s.rd MI.BAR4_WIN.BASE * 0x10000000 + off
  let zero := fun (s : State) => if wr then s else s.emit (.completion 0 (List.replicate n 0))
  if !s.policy 2 then zero (s.unmapped .host 0 off)
  else if !s.dramHas a || !s.dramHas (a + n - 1) then zero (s.wr MI.BAR4_WIN.OOR 1)
  else s.dramAsk .host wr a n (if wr then (data ++ List.replicate n 0).take n else [])

def execHostBar4Access (off size : Nat) (wr : Bool) (data : Frame) (t : Nat) (s : State) :
    Host.Outcome State Fault Refusal :=
  .next ((s.begin t).hostBar4 off size wr data)

end Sys2Proof.Machine
end

