-- ==== Sys2Proof/Machine/Mgmt.lean ====
section
/-!
DEFINITION. The management island (16_management_core.md): the interrupt controller (R476 to R478), the machine timer
(R467), mcycle and minstret, doorbells (R483, R484), the sensor hub (R485), the watchdog (R486 to R490), the debug
module's halts, and core accesses that leave the memory map.
-/
namespace Sys2Proof.Machine

/- ## Interrupts (R476 to R478) -/

/-- INTERRUPT_EDGE: a source line rises. -/
def execInterruptEdge (n t : Nat) (s : State) : Host.Outcome State Fault Refusal :=
  .next (let s0 := s.begin t; if n < 128 then s0.raise n else s0)

/-- Lines that stand while a condition holds, rather than rise at an event: the doorbells, the time-stamp window, the
fault windows, the receive rings and the ECC log. -/
def State.lineActive (s : State) (n : Nat) : Bool :=
  (n == 1 && s.isSet MI.MBX_H2C_BELL.BELL) || (n == 2 && s.isSet MI.MBX_C2H_BELL.BELL)
    || (n == 19 && !s.ti.txts.isEmpty)
    || (n == 68 && (List.range 8).any fun r => s.isSet (BI.SS_RING_CFG.EN r) && s.ringFill r != 0)
    || (n == 41 && !s.pa.faults.isEmpty) || (n == 49 && !s.pb.faults.isEmpty) || (n == 74 && !s.di.eccLog.isEmpty)

/-- A source leaves service: it pends again while its line is active, and is delivered if it pends. -/
def State.leaveService (s : State) (n : Nat) : State :=
  if s.isSet (MI.IC_CFG.INSVC n) then
    let s1 := s.wr (MI.IC_CFG.INSVC n) 0
    (if s.lineActive n && s.islUp (n / 8) then s1.setPend n true else s1).deliver n
  else s

/-- Whether a source can be claimed (R477). -/
def State.claimable (s : State) (n : Nat) : Bool :=
  s.pend n && !s.isSet (MI.IC_CFG.INSVC n) && !s.isSet (MI.IC_CFG.TARGET n)
    && s.rd MI.IC_THRESH.THRESH < s.rd (MI.IC_CFG.PRIO n)

/-- The claimable source of the highest priority, the lowest number on a tie (R52). -/
def State.claimNext (s : State) : Option Nat :=
  ((List.range 128).filter s.claimable).foldl (fun b n => match b with
    | some m => if s.rd (MI.IC_CFG.PRIO m) < s.rd (MI.IC_CFG.PRIO n) then some n else some m
    | none => some n) none

/-- The core's machine external interrupt is pending (R477). -/
def State.meip (s : State) : Bool := s.claimNext.isSome

/-- IC_CLAIM: a 64-bit read of the pop window. -/
def State.icClaim (s0 : State) : State :=
  let s := s0.counted 0
  match s.claimNext with
  | some n =>
    ((s.setPend n false).wr (MI.IC_CFG.INSVC n) 1).answer (2 ^ 63 + s.rd (MI.IC_CFG.PRIO n) * 2 ^ 8 + n)
  | none => s.answer 0

def execIcClaim (t : Nat) (s : State) : Host.Outcome State Fault Refusal := .next ((s.begin t).icClaim)

/-- IC_COMPLETE: a source leaves service. -/
def execIcComplete (src : Src) (n t : Nat) (s : State) : Host.Outcome State Fault Refusal :=
  .next ((s.begin t).regCmd src 0 0x1420 false fun s => s.leaveService (n % 128))

/-- IC_HEOI: for the host only (R478). -/
def State.icHeoi (s : State) (src : Src) (mask : Nat) : State :=
  s.guarded src .store 0 0x1428 fun s =>
  if src ≠ .host then s.unmapped src 0 0x1428
  else (List.range 128).foldl (fun s n =>
    if s.isSet (MI.IC_CFG.TARGET n) && bitOf mask (s.rd (MI.IC_CFG.VEC n)) then s.leaveService n else s) (s.counted 0)

def execIcHeoi (src : Src) (mask t : Nat) (s : State) : Host.Outcome State Fault Refusal := .next ((s.begin t).icHeoi src mask)

/-- Send the held messages that may leave. -/
def State.msixRelease (s : State) : State :=
  (List.range 32).foldl (fun s v =>
    if bitOf (s.rd MI.MSIX_PBA.PBA) v && s.msixOpen v then (s.andNotF MI.MSIX_PBA.PBA (2 ^ v)).msix v else s) s

/-- MSIX_UNMASK: the host changes its MSI-X settings. -/
def State.msixChange (s : State) (c : MsixChange) : State :=
  if !s.isSet MI.PCIE_STAT.LINK_UP then s
  else
    (match c with
     | .control bme en fm =>
       s.wrs [(MI.PCIE_STAT.BME, bme.toNat), (MI.PCIE_STAT.MSIX_EN, en.toNat), (MI.PCIE_STAT.FUNC_MASK, fm.toNat)]
     | .vector v m =>
       let w := s.rd (MI.MSIX_TABLE.DATA (v % 32) 1)
       s.wr (MI.MSIX_TABLE.DATA (v % 32) 1) (w - bitsOf w 32 1 * 2 ^ 32 + m.toNat * 2 ^ 32)
     | .device p r => s.mgSet fun g => { g with mps := max 128 (min 256 p), mrrs := max 128 r }).msixRelease

def execMsixUnmask (change : MsixChange) (t : Nat) (s : State) : Host.Outcome State Fault Refusal :=
  .next ((s.begin t).msixChange change)

/- ## The machine timer (R467) -/

/-- Bring MI.MTIME up to the present: one more every 40 ns. -/
def State.mtimeSync (s : State) : State :=
  let n := (s.now - s.mg.mtimeAt) / 40
  { s.addF MI.MTIME.TIME n with mg := { s.mg with mtimeAt := s.mg.mtimeAt + 40 * n } }

/-- The machine timer interrupt is pending while MTIME has reached MTIMECMP. -/
def State.timerCheck (s : State) : State :=
  let s1 := s.mtimeSync
  s1.mgSet fun m => { m with mtip := s1.rd MI.MTIMECMP.TIME ≤ s1.rd MI.MTIME.TIME }

def execMachineTimer (t : Nat) (s : State) : Host.Outcome State Fault Refusal := .next ((s.begin t).timerCheck)

/-- mcycle and minstret (R466): the core's cycles at 250 MHz since the device reset, and the instructions it has retired in
them. No command reads them: they are CSRs of the core. -/
def State.mcycle (s : State) : Nat := (cyclesTo 0 s.now - cyclesTo 0 s.mg.cycleAt) % 2 ^ 64
def State.minstret (s : State) : Nat := (Config.retired s.now - Config.retired s.mg.cycleAt) % 2 ^ 64

/- ## Doorbells (R483, R484) -/

/-- Set bits of a doorbell: its line rises as it leaves 0. -/
def State.ring! (s : State) (f : Field) (n mask : Nat) : State :=
  (s.orF f (mask % 2 ^ 32)).raiseIf (!s.isSet f && mask % 2 ^ 32 != 0) n

/-- C2H_SET: for the core. -/
def execC2hSet (src : Src) (mask t : Nat) (s : State) : Host.Outcome State Fault Refusal :=
  .next ((s.begin t).regCmd src 0 0x7F10 false fun s => s.ring! MI.MBX_C2H_BELL.BELL 2 mask)

/- ## Sensors (R485, R514) -/

/-- Whether a channel's values are signed. -/
def sensSigned (ch : Nat) : Bool := ch ≤ 5 || ch == 12

/-- A channel's value as a number. -/
def sensInt (ch v : Nat) : Int := if sensSigned ch then signedOf 16 v else (v % 65536 : Nat)

/-- Set a limit flag; interrupt 5. -/
def State.sensNote (s : State) (f : Field) : State := (s.wr f 1).raiseIf (!s.isSet f) 5

/-- SENSOR_CONVERSION: HOLDUP_SENSE reads at most 3,000 mV (R580). -/
def State.convert (s : State) (ch value : Nat) : State :=
  if 12 < ch then s
  else
    let v := if ch = 11 then min value 3000 else value % 65536
    let again := !s.isSet (MI.SENS.VALID ch) || s.mg.restart.contains ch
    let lo := if again || sensInt ch v < sensInt ch (s.rd (MI.SENS.MIN ch)) then v else s.rd (MI.SENS.MIN ch)
    let hi := if again || sensInt ch (s.rd (MI.SENS.MAX ch)) < sensInt ch v then v else s.rd (MI.SENS.MAX ch)
    let s1 := (s.wrs [(MI.SENS.VALUE ch, v), (MI.SENS.MIN ch, lo), (MI.SENS.MAX ch, hi), (MI.SENS.VALID ch, 1)]).mgSet fun m =>
      { m with restart := m.restart.filter (· != ch), sense := if ch = 11 then (v :: m.sense).take 2 else m.sense }
    if !s.isSet (MI.SENS_LIM.EN ch) then s1
    else
      let s2 := if sensInt ch (s.rd (MI.SENS_LIM.HI ch)) < sensInt ch v then s1.sensNote (MI.SENS.HI_SEEN ch) else s1
      if sensInt ch v < sensInt ch (s.rd (MI.SENS_LIM.LO ch)) then s2.sensNote (MI.SENS.LO_SEEN ch) else s2

def execSensorConversion (ch value t : Nat) (s : State) : Host.Outcome State Fault Refusal := .next ((s.begin t).convert ch value)

/-- MINMAX_CLR: the next conversion of each channel starts its minimum and maximum afresh. -/
def execMinmaxClr (src : Src) (mask t : Nat) (s : State) : Host.Outcome State Fault Refusal :=
  .next ((s.begin t).regCmd src 0 0x5100 false fun s =>
    s.mgSet fun m => { m with restart := indicesOf 13 fun c => bitOf mask c || m.restart.contains c })

/- ## The watchdog (R487 to R490) -/

/-- A refused write: counted, and logged (R487). -/
def State.wdtRefuse (s : State) : State :=
  ((s.addOvf MI.WDT_STAT.REFUSED MI.WDT_STAT.OVF 1 1).wr MI.WDT_STAT.REFUSED_SEEN 1).logEvent 0x102 0

/-- Reload REMAIN; a TIMEOUT_MS below 100 acts as 100. -/
def State.wdtReload (s : State) : State :=
  (s.wr MI.WDT_STAT.REMAIN (max 100 (s.rd MI.WDT_CFG.TIMEOUT_MS))).mgSet fun m => { m with wdtAt := s.now, warned := false }

/-- WDT_SERVICE: a 64-bit write of KEY by the core in machine mode; a write of PCI Express is ignored as well as refused. -/
def State.wdtService (s : State) (src : Src) (size key : Nat) : State :=
  s.guarded src .store 0 0x4008 fun s =>
  if src = .host then (s.unmapped src 0 0x4008).wdtRefuse
  else if src = .coreM ∧ size = 8 ∧ key = 0xC3 then
    (s.counted 0).wdtReload.wr MI.WDT_LAST_SVC.WALL_NS (unsignedOf 64 ((s.time : Int) + s.wallOfs))
  else (s.counted 0).wdtRefuse

def execWdtService (src : Src) (size key t : Nat) (s : State) : Host.Outcome State Fault Refusal :=
  .next ((s.begin t).wdtService src size key)

/-- WDT_CFG_WRITE (R488). -/
def State.wdtConfig (s : State) (src : Src) (timeout warn grace : Nat) (en : Bool) : State :=
  s.guarded src .store 0 0x4000 fun s =>
  if src = .host then (s.unmapped src 0 0x4000).wdtRefuse
  else if src = .coreM ∧ (en || s.policy 3) = true then
    (((s.counted 0).wdtSync.wrs [(MI.WDT_CFG.TIMEOUT_MS, timeout), (MI.WDT_CFG.WARN_MS, warn), (MI.WDT_CFG.GRACE_MS, grace)]).flag
      MI.WDT_CFG.EN en).wdtReload
  else (s.counted 0).wdtRefuse

def execWdtCfgWrite (src : Src) (timeout warn grace : Nat) (en : Bool) (t : Nat) (s : State) :
    Host.Outcome State Fault Refusal :=
  .next ((s.begin t).wdtConfig src timeout warn grace en)

/-- WDT_WARNING (R490): REMAIN reaches WARN_MS. -/
def State.wdtWarning (s : State) : State :=
  let s1 := s.wdtSync
  if s1.rd MI.WDT_STAT.REMAIN ≤ s1.rd MI.WDT_CFG.WARN_MS ∧ s1.mg.warned = false ∧ s1.isSet MI.WDT_CFG.EN = true then
    ((s1.wr MI.WDT_STAT.WARNED 1).mgSet fun m => { m with warned := true }).raise 0
  else s1

def execWdtWarning (t : Nat) (s : State) : Host.Outcome State Fault Refusal := .next ((s.begin t).wdtWarning)

/-- ERASE_GUARD_RUNOUT (R489): one erase has held the suspension for 2 s. -/
def State.guardOut (s : State) : State :=
  if s.isSet MI.WDT_STAT.ERASE_SUSP && s.fl.opSince + 2000000000 ≤ s.now then
    ((s.wdtSync.wr MI.WDT_STAT.ERASE_SUSP 0).wr MI.WDT_STAT.GUARD_OUT 1).wdtResume
  else s

def execEraseGuardRunout (t : Nat) (s : State) : Host.Outcome State Fault Refusal := .next ((s.begin t).guardOut)

/- ## The debug module (R473, R489) -/

/-- Whether JTAG reaches the debug module (R473). -/
def State.debugOpen (s : State) : Bool := !s.policy 4 && !s.isSet AO.FUSE_STAT.FIELD_SEAL

def State.debugHalt (s : State) : State :=
  if s.debugOpen && !s.mg.halted then (s.wdtSync.wr MI.WDT_STAT.DEBUG_FROZEN 1).mgSet fun m => { m with halted := true } else s

def State.debugResume (s : State) : State :=
  if s.mg.halted then ((s.wdtSync.wr MI.WDT_STAT.DEBUG_FROZEN 0).mgSet fun m => { m with halted := false }).wdtResume else s

def execDebugHalt (t : Nat) (s : State) : Host.Outcome State Fault Refusal := .next ((s.begin t).debugHalt)
def execDebugResume (t : Nat) (s : State) : Host.Outcome State Fault Refusal := .next ((s.begin t).debugResume)

/- ## Core accesses outside the map (R33, R472) -/

/-- The ranges of the table "Core address map". -/
def coreMapped (a : Nat) : Bool :=
  a < 0x10000 || (0x10000000 ≤ a && a < 0x10040000) || (0x20000000 ≤ a && a < 0x28000000)
    || (0x40000000 ≤ a && a < 0x41000000) || (0x80000000 ≤ a && a < 0x100000000)

/-- CORE_ACCESS_FAULT: an access outside every range; to the boot ROM in user mode, or by anything but a load or a fetch; to
the flash window but by a load or a fetch; LR, SC or an AMO that is not to SRAM; or one that PMP refuses (R466, R472, R473).
A fetch from the flash window that is let through fills the instruction cache (R468). -/
def State.coreFaults (s : State) (a : Nat) (k : AccKind) (user : Bool) : State :=
  let src : Src := if user then .coreU else .coreM
  let reads := k == .load || k == .fetch
  if !coreMapped a then (s.unmapped src 0 (a % 0x100000)).emit (.coreFault (faultCauseOf k) a)
  else if a < 0x10000 ∧ (user || !reads) = true then s.emit (.coreFault (faultCauseOf k) a)
  else if 0x20000000 ≤ a ∧ a < 0x28000000 ∧ reads = false then s.emit (.coreFault (faultCauseOf k) a)
  else if isAtomic k && !inSram a 4 then s.emit (.coreFault (faultCauseOf k) a)
  else if !s.pmpAllows src k a 1 then s.emit (.coreFault (faultCauseOf k) a)
  else if k = .fetch ∧ 0x20000000 ≤ a ∧ a < 0x28000000 then s.mgSet fun m => { m with icache := true }
  else s

def execCoreAccessFault (addr : Nat) (kind : AccKind) (user : Bool) (t : Nat) (s : State) : Host.Outcome State Fault Refusal :=
  .next ((s.begin t).coreFaults addr kind user)

end Sys2Proof.Machine
end

