-- ==== Sys2Proof/Machine/Sign.lean ====
section
/-!
DEFINITION. SHA-256 and SHA-512 (FIPS 180-4) and the verification of Ed25519 (RFC 8032, section 5.1), which R96 and
R505 use. The constants are computed as FIPS 180-4 defines them: from square and cube roots of the first primes.
-/
namespace Sys2Proof.Machine

/- ## SHA-2 -/

/-- The first 80 primes. -/
def shaPrimes : List Nat := (List.range 410).filter fun n => 2 ≤ n && (List.range n).all fun d => d < 2 || n % d != 0

/-- The integer cube root, by bisection between two bounds. -/
def cbrtBetween (n : Nat) : Nat → Nat → Nat → Nat
  | 0, lo, _ => lo
  | f + 1, lo, hi =>
    let m := (lo + hi + 1) / 2
    if m * m * m ≤ n then cbrtBetween n f m hi else cbrtBetween n f lo (m - 1)

/-- 64 bits of the fractional parts of the cube roots, and of the square roots. -/
def shaK : List Nat := shaPrimes.map fun p => cbrtBetween (p * 2 ^ 192) 72 0 (2 ^ 68) % 2 ^ 64
def shaH : List Nat := (shaPrimes.take 8).map fun p => Nat.sqrt (p * 2 ^ 128) % 2 ^ 64

/-- What differs between SHA-256 and SHA-512: word size in bits, rounds, and the rotations. -/
structure Sha (w : Nat) where
  rounds : Nat
  a1 : Nat
  a2 : Nat
  a3 : Nat
  e1 : Nat
  e2 : Nat
  e3 : Nat
  s1 : Nat
  s2 : Nat
  s3 : Nat
  t1 : Nat
  t2 : Nat
  t3 : Nat

def sha256p : Sha 32 := ⟨64, 2, 13, 22, 6, 11, 25, 7, 18, 3, 17, 19, 10⟩
def sha512p : Sha 64 := ⟨80, 28, 34, 39, 14, 18, 41, 1, 8, 7, 19, 61, 6⟩

/-- The message schedule, youngest word first. -/
def shaSchedule {w : Nat} (p : Sha w) : Nat → List (BitVec w) → List (BitVec w)
  | 0, l => l
  | f + 1, l =>
    let x := l.getD 1 0
    let y := l.getD 14 0
    let a := x.rotateRight p.t1 ^^^ x.rotateRight p.t2 ^^^ (x >>> p.t3)
    let b := y.rotateRight p.s1 ^^^ y.rotateRight p.s2 ^^^ (y >>> p.s3)
    shaSchedule p f ((a + l.getD 6 0 + b + l.getD 15 0) :: l)

/-- One round on the eight working variables. -/
def shaRound {w : Nat} (p : Sha w) (v : List (BitVec w)) (kw : BitVec w) : List (BitVec w) :=
  match v with
  | [a, b, c, d, e, f, g, h] =>
    let t1 := h + (e.rotateRight p.e1 ^^^ e.rotateRight p.e2 ^^^ e.rotateRight p.e3) + ((e &&& f) ^^^ (~~~e &&& g)) + kw
    let t2 := (a.rotateRight p.a1 ^^^ a.rotateRight p.a2 ^^^ a.rotateRight p.a3) + ((a &&& b) ^^^ (a &&& c) ^^^ (b &&& c))
    [t1 + t2, a, b, c, d + t1, e, f, g]
  | _ => v

/-- One block of 16 words. -/
def shaBlock {w : Nat} (p : Sha w) (k : List (BitVec w)) (h : List (BitVec w)) (block : List Byte) : List (BitVec w) :=
  let ws := (List.range 16).map fun i => BitVec.ofNat w (beNat (sliceAt block (i * (w / 8)) (w / 8)))
  let sched := (shaSchedule p (p.rounds - 16) ws.reverse).reverse
  let r := (List.zipWith (· + ·) k sched).foldl (shaRound p) h
  List.zipWith (· + ·) h r

/-- The blocks of a padded message, hashed in order. -/
def shaBlocks {w : Nat} (p : Sha w) (k : List (BitVec w)) : Nat → List (BitVec w) → List Byte → List (BitVec w)
  | 0, h, _ => h
  | f + 1, h, l => if l.isEmpty then h else shaBlocks p k f (shaBlock p k h (l.take (2 * w))) (l.drop (2 * w))

/-- Padding to a whole number of blocks of `2 w` bytes: 0x80, zeros, and the length in bits in `w / 4` bytes. -/
def shaPad (w : Nat) (m : List Byte) : List Byte :=
  let n := m.length + 1 + w / 4
  m ++ [0x80] ++ List.replicate ((2 * w - n % (2 * w)) % (2 * w)) 0 ++ beBytes (w / 4) (8 * m.length)

def shaOf {w : Nat} (p : Sha w) (m : List Byte) : List Byte :=
  let cut := fun (v : Nat) => BitVec.ofNat w (v / 2 ^ (64 - w))
  let l := shaPad w m
  ((shaBlocks p ((shaK.take p.rounds).map cut) (l.length / (2 * w) + 1) (shaH.map cut) l)).flatMap fun v => beBytes (w / 8) v.toNat

def sha256 (m : List Byte) : List Byte := shaOf sha256p m
def sha512 (m : List Byte) : List Byte := shaOf sha512p m

/- ## Ed25519 -/

def edP : Nat := 2 ^ 255 - 19
def edL : Nat := 2 ^ 252 + 27742317777372353535851937790883648493

/-- `a ^ e mod p` by squaring, over the low `n` bits of `e`. -/
def edPow (a e : Nat) : Nat → Nat
  | 0 => 1
  | n + 1 =>
    let h := edPow (a * a % edP) (e / 2) n
    if e % 2 = 1 then h * a % edP else h

def edInv (a : Nat) : Nat := edPow a (edP - 2) 255

/-- The curve constant d = −121665 / 121666. -/
def edD : Nat := (edP - 121665) * edInv 121666 % edP

/-- A point in extended coordinates (X, Y, Z, T). -/
structure EdPoint where
  x : Nat
  y : Nat
  z : Nat
  t : Nat
deriving DecidableEq, Repr

def EdPoint.zero : EdPoint := ⟨0, 1, 1, 0⟩

/-- Addition (RFC 8032, section 5.1.4). -/
def EdPoint.add (p q : EdPoint) : EdPoint :=
  let a := (p.y + edP - p.x) * (q.y + edP - q.x) % edP
  let b := (p.y + p.x) * (q.y + q.x) % edP
  let c := p.t * 2 % edP * edD % edP * q.t % edP
  let d := p.z * 2 * q.z % edP
  let e := b + edP - a
  let f := d + edP - c
  let g := d + c
  let h := b + a
  ⟨e * f % edP, g * h % edP, f * g % edP, e * h % edP⟩

/-- A multiple of a point, over the low `n` bits of the scalar. -/
def EdPoint.mul (p : EdPoint) (k : Nat) : Nat → EdPoint
  | 0 => .zero
  | n + 1 =>
    let h := EdPoint.mul (p.add p) (k / 2) n
    if k % 2 = 1 then h.add p else h

/-- Equality of points. -/
def EdPoint.same (p q : EdPoint) : Bool := p.x * q.z % edP == q.x * p.z % edP && p.y * q.z % edP == q.y * p.z % edP

/-- Recover x from y and its sign (RFC 8032, section 5.1.3). -/
def edX (y sign : Nat) : Option Nat :=
  let u := (y * y + edP - 1) % edP
  let v := (edD * (y * y % edP) + 1) % edP
  let v3 := v * v % edP * v % edP
  let v7 := v3 * v3 % edP * v % edP
  let x := u * v3 % edP * edPow (u * v7 % edP) ((edP - 5) / 8) 255 % edP
  let vxx := v * (x * x % edP) % edP
  let x := if vxx = u then some x
    else if vxx = (edP - u) % edP then some (x * edPow 2 ((edP - 1) / 4) 255 % edP)
    else none
  match x with
  | some x => if x = 0 ∧ sign = 1 then none else if x % 2 = sign then some x else some (edP - x)
  | none => none

/-- Decode a point. -/
def edDecode (b : List Byte) : Option EdPoint :=
  let n := leNat b
  let y := n % 2 ^ 255
  if edP ≤ y then none
  else (edX y (n / 2 ^ 255)).map fun x => ⟨x, y, 1, x * y % edP⟩

/-- The base point: y = 4/5, x even. -/
def edBase : EdPoint :=
  let y := 4 * edInv 5 % edP
  let x := (edX y 0).getD 0
  ⟨x, y, 1, x * y % edP⟩

/-- Verify a signature (RFC 8032, section 5.1.7), with the equation [8][S]B = [8]R + [8][k]A. -/
def edVerify (key msg sig : List Byte) : Bool :=
  let r := sig.take 32
  let s := leNat (sliceAt sig 32 32)
  match edDecode key, edDecode r with
  | some a, some r' =>
    let k := leNat (sha512 (r ++ key ++ msg)) % edL
    s < edL && ((edBase.mul s 253).mul 8 4).same ((r'.add (a.mul k 253)).mul 8 4)
  | _, _ => false

end Sys2Proof.Machine
end

