-- ==== Sys2Proof/Machine/Tag.lean ====
section
/-!
DEFINITION. The commissioning tag (17_commissioning_tag.md): the air interface (R494, R497), claims and commits (R496,
R498 to R506), the wired side (R499 to R501, R504, R505), and the end of a journal program, after which seals and
imports go on (R507, R538).
-/
namespace Sys2Proof.Machine

/- ## Pages -/

def tagPageSize : Nat := 256

/-- The committed copy of a page: zeros while it is blank (R495). -/
def State.tagPage (s : State) (p : Nat) : Frame := (nget s.tag.pages p).getD (List.replicate tagPageSize 0)

/-- A block of 32 bytes. -/
def State.tagBlock (s : State) (b : Nat) : Frame := sliceAt (s.tagPage (b / 8)) (b % 8 * 32) 32

/-- The CRC check of R495. -/
def pageGood (d : Frame) : Bool := leNat (sliceAt d 252 4) == crc32c (d.take 252)

def State.tagSet (s : State) (f : Tag → Tag) : State := { s with tag := f s.tag }

/-- BUSY: a commit or a pending-mask write runs. -/
def State.tagBusy (s : State) : State := s.flag AO.TAG_STAT.BUSY !s.tag.ops.isEmpty

/-- Raise an AO tag flag with its interrupt, 9 to 11. -/
def State.tagNote (s : State) (f : Field) (n : Nat) : State := (s.wr f 1).raiseIf (!s.isSet f) n

def State.fieldHolds (s : State) (p : Nat) : Bool := bitOf (s.rd AO.TAG_OWN.FIELD) p
def State.wiredHolds (s : State) (p : Nat) : Bool := bitOf (s.rd AO.TAG_OWN.WIRED) p

/-- End field claims of a mask of pages: their shadows go (R498). -/
def State.fieldDrop (s : State) (m : Nat) : State :=
  let own := s.rd AO.TAG_OWN.FIELD - (s.rd AO.TAG_OWN.FIELD &&& m)
  ((s.wr AO.TAG_OWN.FIELD own).flag AO.TAG_STAT.SESSION (own != 0)).tagSet fun g =>
    { g with shadows := g.shadows.filter fun e => !bitOf m e.1 }

/-- Count a wired operation that is refused (R501, R504). -/
def State.wiredRefuse (s : State) (code : Nat) : State :=
  (((s.addOvf AO.TAG_STAT.WIRED_REFUSED AO.TAG_STAT.CNT_OVF 1 1).wr AO.TAG_STAT.LAST_ERR code).tagNote
    AO.TAG_STAT.WIRED_DONE 11)

/-- A wired operation ends with an outcome. -/
def State.wiredEnd (s : State) (code : Nat) : State := (s.wr AO.TAG_STAT.LAST_ERR code).tagNote AO.TAG_STAT.WIRED_DONE 11

/-- The AO clock cycle that runs. -/
def State.aoCycle (s : State) : Nat := cyclesTo 1 s.now

/-- Whether the wired side holds a page against the field: not a claim made in this AO clock cycle (R502). -/
def State.wiredKeeps (s : State) (p : Nat) : Bool := s.wiredHolds p && nget s.tag.claimedAt p != some s.aoCycle

/-- Security pages after FIELD_SEAL (R504). -/
def State.tagSealed (s : State) (p : Nat) : Bool := p < 4 && s.isSet AO.FUSE_STAT.FIELD_SEAL

/-- FIELD_PAGE4_LOCK of page 3. -/
def State.page4Locked (s : State) : Bool := bitOf ((s.tagPage 3).getD 0 0).toNat 0

/-- Give a page that no other side keeps to the field; a wired claim of the same AO cycle is refused (R502). -/
def State.fieldClaim (s : State) (p : Nat) (shadow : State → Frame × State) : State :=
  if s.fieldHolds p then s
  else
    let s1 := if s.wiredHolds p then (s.andNotF AO.TAG_OWN.WIRED (2 ^ p)).wiredRefuse 1 else s
    let (d, s2) := shadow s1
    ((s2.orF AO.TAG_OWN.FIELD (2 ^ p)).wr AO.TAG_STAT.SESSION 1).tagSet fun g => { g with shadows := nset g.shadows p d }

/- ## The air interface -/

/-- Whether the tag takes a request (ISO/IEC 15693-3; notes/assumptions/93.md). -/
def State.tagHears (s : State) (who : TagWho) : Bool :=
  s.isSet AO.TAG_STAT.FIELD && (match who with
    | .any => s.tag.mode != .quiet
    | .uid u => u == s.rd AO.TAG_UID.UID
    | .selected => s.tag.mode == .selected)

/-- A response without an error, and one with an error code. -/
def State.tagSay (s : State) (l : Frame) : State := s.emit (.tag 0 (0 :: l))
def State.tagErr (s : State) (code : Nat) : State := s.emit (.tag 0 [1, BitVec.ofNat 8 code])

/-- Take a supported command: it is counted (R541), and keeps the session alive (R498). -/
def State.tagCommand (s : State) (who : TagWho) (k : State → State) : State :=
  if s.tagHears who then k ((s.count 1 0x100 1).tagSet fun g => { g with heardAt := s.now }) else s

/-- The 8 bytes of the UID, byte 0 first. -/
def State.tagUid (s : State) : Frame := leBytes 8 (s.rd AO.TAG_UID.UID)

/-- INVENTORY: AFI absent or 0x00, a UID that agrees with the mask; the slot of a 16-slot round is the next four bits. -/
def State.tagInventory (s : State) (oneSlot : Bool) (afi : Option Nat) (maskLen mask : Nat) : State :=
  let uid := s.rd AO.TAG_UID.UID
  if s.isSet AO.TAG_STAT.FIELD && s.tag.mode != .quiet && (afi == none || afi == some 0)
      && uid % 2 ^ maskLen == mask % 2 ^ maskLen then
    ((s.count 1 0x100 1).tagSet fun g => { g with heardAt := s.now }).emit
      (.tag (if oneSlot then 0 else bitsOf uid maskLen 4) ([0, 0] ++ s.tagUid))
  else s

def execInventory (oneSlot : Bool) (afi : Option Nat) (maskLen mask t : Nat) (s : State) : Host.Outcome State Fault Refusal :=
  .next ((s.begin t).tagInventory oneSlot afi maskLen mask)

/-- STAY_QUIET: addressed only; no response. -/
def State.tagQuiet (s : State) (who : TagWho) : State :=
  match who with
  | .uid _ => s.tagCommand who fun s => s.tagSet fun g => { g with mode := .quiet }
  | _ => s

def execStayQuiet (who : TagWho) (t : Nat) (s : State) : Host.Outcome State Fault Refusal := .next ((s.begin t).tagQuiet who)

/-- SELECT: addressed only; another tag's UID returns a selected tag to ready. -/
def State.tagSelect (s : State) (who : TagWho) : State :=
  match who with
  | .uid u =>
    if u = s.rd AO.TAG_UID.UID then s.tagCommand who fun s => (s.tagSet fun g => { g with mode := .selected }).tagSay []
    else if s.tag.mode = .selected then s.tagSet fun g => { g with mode := .ready }
    else s
  | _ => s

def execSelect (who : TagWho) (t : Nat) (s : State) : Host.Outcome State Fault Refusal := .next ((s.begin t).tagSelect who)

/-- RESET_TO_READY. -/
def execResetToReady (who : TagWho) (t : Nat) (s : State) : Host.Outcome State Fault Refusal :=
  .next ((s.begin t).tagCommand who fun s => (s.tagSet fun g => { g with mode := .ready }).tagSay [])

/-- Blocks as a read returns them, each behind its security status where the request asks for it. -/
def State.tagBlocks (s : State) (security : Bool) (first n : Nat) : Frame :=
  (List.range n).flatMap fun i => (if security then [0] else []) ++ s.tagBlock (first + i)

/-- READ_SINGLE_BLOCK: the committed copy (R496). -/
def execReadSingleBlock (who : TagWho) (security : Bool) (block t : Nat) (s : State) : Host.Outcome State Fault Refusal :=
  .next ((s.begin t).tagCommand who fun s => if 256 ≤ block then s.tagErr 0x10 else s.tagSay (s.tagBlocks security block 1))

/-- READ_MULTIPLE_BLOCKS: up to 8 blocks. -/
def execReadMultipleBlocks (who : TagWho) (security : Bool) (first countM1 t : Nat) (s : State) :
    Host.Outcome State Fault Refusal :=
  .next ((s.begin t).tagCommand who fun s =>
    if 256 < first + countM1 + 1 then s.tagErr 0x10
    else if 8 < countM1 + 1 then s.tagErr 0x0F
    else s.tagSay (s.tagBlocks security first (countM1 + 1)))

/-- WRITE_SINGLE_BLOCK (R498, R501, R504): claims the page if needed, and writes its field shadow. -/
def State.tagWrite (s : State) (b : Nat) (data : Frame) : State :=
  let p := b / 8
  if 256 ≤ b then s.tagErr 0x10
  else if data.length ≠ 32 then s.tagErr 0x0F
  else if s.tagSealed p || (4 ≤ p && s.page4Locked) then s.tagErr 0xA2
  else if s.wiredKeeps p then s.tagErr 0x12
  else
    let s1 := s.fieldClaim p fun s => (s.tagPage p, s)
    (s1.tagSet fun g => { g with shadows := nmodify g.shadows p fun d => patchAt d (b % 8 * 32) data }).tagSay []

def execWriteSingleBlock (who : TagWho) (block : Nat) (data : Frame) (t : Nat) (s : State) :
    Host.Outcome State Fault Refusal :=
  .next ((s.begin t).tagCommand who fun s => s.tagWrite block data)

/-- GET_SYSTEM_INFORMATION: DSFID 0x00, AFI 0x00, 256 blocks of 32 bytes, IC reference 0x96. -/
def execGetSystemInformation (who : TagWho) (t : Nat) (s : State) : Host.Outcome State Fault Refusal :=
  .next ((s.begin t).tagCommand who fun s => s.tagSay ([0x0F] ++ s.tagUid ++ [0x00, 0x00, 0xFF, 0x1F, 0x96]))

/-- TAG_UNSUPPORTED_COMMAND: error 0x01 to an addressed or selected request, silence to another; no valid command. -/
def State.tagUnsupported (s : State) (who : TagWho) : State := if s.tagHears who && who != .any then s.tagErr 0x01 else s

def execTagUnsupportedCommand (who : TagWho) (t : Nat) (s : State) : Host.Outcome State Fault Refusal :=
  .next ((s.begin t).tagUnsupported who)

/-- A Keldom custom command carries Keldom's manufacturer code, byte 6 of the UID (R497). -/
def State.tagCustom (s : State) (who : TagWho) (mfg : Nat) (k : State → State) : State :=
  if mfg = bitsOf (s.rd AO.TAG_UID.UID) 48 8 then s.tagCommand who k else s.tagUnsupported who

/-- CLAIM (R498, R501, R504): a page claimed without a write starts its shadow with free content. -/
def State.tagClaim (s : State) (pages : Nat) : State :=
  let want := (List.range 32).filter fun p => bitOf pages p
  let free := want.filter fun p => !s.wiredKeeps p
  if want.any s.tagSealed then s.tagErr 0xA2
  else if !want.isEmpty && free.isEmpty then s.tagErr 0x12
  else
    let s1 := free.foldl (fun s p => s.fieldClaim p fun s => (freeBytes s.freeVal tagPageSize, s.tookFree)) s
    s1.tagSay (leBytes 4 (s1.rd AO.TAG_OWN.FIELD))

def execClaim (who : TagWho) (mfg pages t : Nat) (s : State) : Host.Outcome State Fault Refusal :=
  .next ((s.begin t).tagCustom who mfg fun s => s.tagClaim pages)

/-- Check a page's field shadow and queue its commit; a bad one is discarded and noted (R496). -/
def State.fieldCommit (s : State) (p : Nat) : State :=
  let d := (nget s.tag.shadows p).getD []
  if pageGood d then s.tagSet fun g => { g with ops := g.ops ++ [.field p d] }
  else (s.fieldDrop (2 ^ p)).tagSet fun g => { g with err := if g.err = 0 then 0xA1 else g.err }

/-- The answer to RELEASE, once no commit stands before it. -/
def State.releaseAnswer (s : State) : State :=
  match s.tag.ops with
  | .fieldEnd :: r =>
    ((s.tagSet fun g => { g with ops := r }).tagSay (leBytes 4 s.tag.committed ++ leBytes 1 s.tag.err)).tagBusy
  | _ => s

/-- RELEASE (R497): MODE 0x00 discards, MODE 0x01 commits the named held pages in ascending order. -/
def State.tagRelease (s : State) (pages mode : Nat) : State :=
  let held := (List.range 32).filter fun p => bitOf pages p && s.fieldHolds p
  if mode = 0 then (s.fieldDrop pages).tagSay (leBytes 4 0 ++ leBytes 1 0)
  else if mode = 1 then
    let s1 := held.foldl (fun s p => s.fieldCommit p) (s.tagSet fun g => { g with committed := 0, err := 0 })
    ((s1.tagSet fun g => { g with ops := g.ops ++ [.fieldEnd] }).tagBusy).releaseAnswer
  else s.tagErr 0x0F

def execRelease (who : TagWho) (mfg pages mode t : Nat) (s : State) : Host.Outcome State Fault Refusal :=
  .next ((s.begin t).tagCustom who mfg fun s => s.tagRelease pages mode)

/-- GET_SESSION. -/
def execGetSession (who : TagWho) (mfg t : Nat) (s : State) : Host.Outcome State Fault Refusal :=
  .next ((s.begin t).tagCustom who mfg fun s => s.tagSay (leBytes 4 (s.rd AO.TAG_OWN.FIELD)
    ++ leBytes 4 (s.rd AO.TAG_OWN.WIRED) ++ leBytes 4 (s.rd AO.TAG_PEND.PEND) ++ leBytes 1 (s.rd AO.FUSE_STAT.FIELD_SEAL)))

/- ## Commits end (R496, R503, R506) -/

/-- A page's new copy becomes the committed copy, under the next generation. -/
def State.tagCommitted (s : State) (p : Nat) (d : Frame) : State :=
  (s.andNotF AO.TAG_BLANK.BLANK (2 ^ p)).tagSet fun g =>
    { g with pages := nset g.pages p d, gens := nset g.gens p ((ngetD g.gens p 0 + 1) % 256) }

/-- TAG_COMMIT_DONE: the running commit ends, its generation byte written or, where programming failed, not. -/
def State.tagCommitDone (s : State) (ok : Bool) : State :=
  match s.tag.ops with
  | .wired p d :: r =>
    let s0 := s.tagSet fun g => { g with ops := r }
    (if ok then (s0.tagCommitted p d).wiredEnd 0 else s0.wiredEnd 6).tagBusy.releaseAnswer
  | .field p d :: r =>
    let s0 := (s.fieldDrop (2 ^ p)).tagSet fun g => { g with ops := r }
    let s1 :=
      if ok then
        let s2 := ((s0.tagCommitted p d).orF AO.TAG_PEND.PEND (2 ^ p)).addOvf AO.TAG_STAT.FIELD_COMMITS AO.TAG_STAT.CNT_OVF 1 1
        (s2.tagSet fun g => { g with pendRom := g.pendRom ||| 2 ^ p, committed := g.committed ||| 2 ^ p }).tagNote
          AO.TAG_STAT.FIELD_COMMIT 10
      else s0.tagSet fun g => { g with err := if g.err = 0 then 0x13 else g.err }
    s1.tagBusy.releaseAnswer
  | _ => s

def execTagCommitDone (ok : Bool) (t : Nat) (s : State) : Host.Outcome State Fault Refusal := .next ((s.begin t).tagCommitDone ok)

/-- TAG_FIELD_PRESENT. -/
def State.fieldOn (s : State) : State :=
  if s.isSet AO.TAG_STAT.FIELD then s
  else ((s.wr AO.TAG_STAT.FIELD 1).tagNote AO.TAG_STAT.FIELD_CHG 9).tagSet fun g => { g with mode := .ready, heardAt := s.now }

def execTagFieldPresent (t : Nat) (s : State) : Host.Outcome State Fault Refusal := .next ((s.begin t).fieldOn)

/-- Commits of the field side that have not written their generation byte are lost, with the answer (R503). -/
def State.fieldAbandon (s : State) : State :=
  (s.tagSet fun g => { g with ops := g.ops.filter fun o => match o with
    | .field _ _ => false
    | .fieldEnd => false
    | _ => true }).tagBusy

/-- TAG_FIELD_LOSS: the session's claims end, and their shadows go (R498, R503). -/
def State.fieldOff (s : State) : State :=
  if !s.isSet AO.TAG_STAT.FIELD then s
  else ((((s.fieldDrop (2 ^ 32 - 1)).fieldAbandon).wr AO.TAG_STAT.FIELD 0).tagNote AO.TAG_STAT.FIELD_CHG 9).tagSet fun g =>
    { g with mode := .ready }

def execTagFieldLoss (t : Nat) (s : State) : Host.Outcome State Fault Refusal := .next ((s.begin t).fieldOff)

/-- TAG_SESSION_TIMEOUT: 2 s without a valid command. -/
def State.sessionTimeout (s : State) : State :=
  if s.isSet AO.TAG_STAT.SESSION && s.tag.heardAt + 2000000000 ≤ s.now then (s.fieldDrop (2 ^ 32 - 1)).fieldAbandon else s

def execTagSessionTimeout (t : Nat) (s : State) : Host.Outcome State Fault Refusal := .next ((s.begin t).sessionTimeout)

/- ## The wired side (R499 to R501, R504, R505) -/

/-- A GO on AO.TAG_CMD: the host's write is ignored (R500); a GO while BUSY = 1 only sets LAST_ERR. -/
def State.tagCmd (s : State) (src : Src) (op page : Nat) (token : Bool) (k : State → State) : State :=
  s.regCmd src 1 0x418 false fun s =>
    let s0 := (s.wrs [(AO.TAG_CMD.PAGE, page), (AO.TAG_CMD.OP, op)]).flag AO.TAG_CMD.TOKEN token
    if s.isSet AO.TAG_STAT.BUSY then s0.wr AO.TAG_STAT.LAST_ERR 5 else k s0

/-- TAG_CMD_CLAIM. -/
def State.wiredClaim (s : State) (p : Nat) : State :=
  if s.fieldHolds p then s.wiredRefuse 1
  else if s.wiredHolds p then s.wiredEnd 0
  else ((s.orF AO.TAG_OWN.WIRED (2 ^ p)).tagSet fun g => { g with claimedAt := nset g.claimedAt p s.aoCycle }).wiredEnd 0

def execTagCmdClaim (src : Src) (page : Nat) (token : Bool) (t : Nat) (s : State) : Host.Outcome State Fault Refusal :=
  .next ((s.begin t).tagCmd src 1 (page % 32) token fun s => s.wiredClaim (page % 32))

/-- TAG_CMD_RELEASE: of a page the wired side does not hold, NOT_CLAIMED. -/
def State.wiredRelease (s : State) (p : Nat) : State :=
  if s.wiredHolds p then (s.andNotF AO.TAG_OWN.WIRED (2 ^ p)).wiredEnd 0 else s.wiredEnd 2

def execTagCmdRelease (src : Src) (page : Nat) (token : Bool) (t : Nat) (s : State) : Host.Outcome State Fault Refusal :=
  .next ((s.begin t).tagCmd src 2 (page % 32) token fun s => s.wiredRelease (page % 32))

/-- TAG_CMD_READ: starts; it ends within 1 ms at TAG_READ_DONE. -/
def execTagCmdRead (src : Src) (page : Nat) (token : Bool) (t : Nat) (s : State) : Host.Outcome State Fault Refusal :=
  .next ((s.begin t).tagCmd src 3 (page % 32) token fun s => s.tagSet fun g => { g with reads := g.reads ++ [page % 32] })

/-- The bytes of AO.TAG_BUF, and writing them. -/
def State.tagBuf (s : State) : Frame := (List.range 32).flatMap fun k => leBytes 8 (s.rd (AO.TAG_BUF.DATA k))
def State.setTagBuf (s : State) (d : Frame) : State :=
  (List.range 32).foldl (fun s k => s.wr (AO.TAG_BUF.DATA k) (leNat (sliceAt d (8 * k) 8))) s

/-- TAG_READ_DONE. -/
def State.tagReadDone (s : State) : State :=
  match s.tag.reads with
  | p :: r =>
    (((s.setTagBuf (s.tagPage p)).flag AO.TAG_STAT.OWNED_FLAG (s.fieldHolds p)).tagSet fun g => { g with reads := r }).wiredEnd 0
  | [] => s

def execTagReadDone (t : Nat) (s : State) : Host.Outcome State Fault Refusal := .next ((s.begin t).tagReadDone)

/-- A slot of AO.KEYHASH as bytes. -/
def State.keyHash (s : State) (k : Nat) : Frame := (List.range 4).flatMap fun i => leBytes 8 (s.rd (AO.KEYHASH.HASH k i))

/-- Whether a public key's hash is that of a slot that is programmed and not revoked (R96). -/
def State.keyPinned (s : State) (key : Frame) (k : Nat) : Bool := s.slotLive k && sha256 key == s.keyHash k

/-- The token check of R505. -/
def State.tokenGood (s : State) (p : Nat) : Bool :=
  let tok := (List.range 12).flatMap fun k => leBytes 8 (s.rd (AO.TAG_TOKEN.DATA k))
  let key := tok.take 32
  (s.keyPinned key 0 || s.keyPinned key 1)
    && edVerify key (sha256 (s.tagUid ++ leBytes 1 p ++ s.tagBuf)) (sliceAt tok 32 64)

/-- TAG_CMD_COMMIT: refused OWNED_BY_FIELD, NOT_CLAIMED or SEALED, or ended BAD_CRC, or started. -/
def State.wiredCommit (s : State) (p : Nat) : State :=
  if !s.wiredHolds p then s.wiredRefuse (if s.fieldHolds p then 1 else 2)
  else if s.tagSealed p && !(s.isSet AO.TAG_CMD.TOKEN && s.tokenGood p) then s.wiredRefuse 4
  else if !pageGood s.tagBuf then s.wiredEnd 3
  else (s.tagSet fun g => { g with ops := g.ops ++ [.wired p s.tagBuf] }).tagBusy

def execTagCmdCommit (src : Src) (page : Nat) (token : Bool) (t : Nat) (s : State) : Host.Outcome State Fault Refusal :=
  .next ((s.begin t).tagCmd src 4 (page % 32) token fun s => s.wiredCommit (page % 32))

/-- Clear pending bits and program the mask. -/
def State.pendClear (s : State) (mask : Nat) : State :=
  if s.rd AO.TAG_PEND.PEND &&& mask = 0 then s
  else ((s.andNotF AO.TAG_PEND.PEND mask).tagSet fun g => { g with ops := g.ops ++ [.pendWrite] }).tagBusy

/-- TAG_PEND_CLEAR: a W1C write of AO.TAG_PEND; the host's is ignored (R500). -/
def execTagPendClear (src : Src) (mask t : Nat) (s : State) : Host.Outcome State Fault Refusal :=
  .next ((s.begin t).regCmd src 1 0x410 false fun s => s.pendClear mask)

/-- TAG_PEND_WRITE_DONE: EEPROM holds the mask as it now stands. -/
def State.pendWritten (s : State) : State :=
  match s.tag.ops with
  | .pendWrite :: r => (s.tagSet fun g => { g with ops := r, pendRom := s.rd AO.TAG_PEND.PEND }).tagBusy.releaseAnswer
  | _ => s

def execTagPendWriteDone (t : Nat) (s : State) : Host.Outcome State Fault Refusal := .next ((s.begin t).pendWritten)

/- ## Import by the replay engine (R507, R509) -/

/-- Offsets of the configuration store at which an object of `n` bytes finds erased flash. -/
def State.storeRoom (s : State) (n : Nat) : List Nat :=
  let used := s.flash.filterMap fun c => if s.storeBase ≤ c.1 ∧ c.1 < s.storeBase + s.storeSize then some (c.1 - s.storeBase) else none
  ((List.range (s.storeSize / 64)).map (· * 64)).filter fun o => o + n ≤ s.storeSize && used.all fun a => a < o || o + n ≤ a

/-- A tag-page object (R525): KIND 2; OBJ_ID is a free value, the rest of the header stays unprogrammed. -/
def tagObject (id : Nat) (d : Frame) : Frame :=
  let h := leBytes 4 0x4F43534B ++ leBytes 1 2 ++ leBytes 4 d.length ++ leBytes 4 (crc32c d) ++ leBytes 8 id
  h ++ leBytes 4 (crc32c h) ++ List.replicate 39 0xFF ++ d

/-- Import one pending page: store it where the store has room (a free choice), and append its record. A page whose
store or record is turned away keeps its pending bit. -/
def State.importPage (s : State) (p : Nat) : State :=
  let d := s.tagPage p
  let room := s.storeRoom 320
  if !pageGood d || room.isEmpty || s.pfRefuses || !s.jnlTakes then s
  else
    let (ok, s1) := s.holdup .program
    if !ok then s1
    else
      let o := room.getD (s1.freeVal % room.length) 0
      let s2 := (s1.tookFree.flashProgram (s.storeBase + o) (tagObject (Config.freeValue (s1.free + 1) % 2 ^ 64) d)).tookFree
      let gen := ngetD s.tag.gens p 0
      let q := s2.fl.nextSeq
      let s3 := s2.jnlDevice 4 (leBytes 1 p ++ leBytes 1 gen ++ leBytes 2 0 ++ leBytes 4 (leNat (sliceAt d 252 4)) ++ leBytes 4 o)
      { s3 with fl := { s3.fl with imports := s3.fl.imports ++ [(p, q, gen)] } }

/-- Every pending page, in ascending order. -/
def State.importAll (s : State) : State :=
  ((List.range 32).filter fun p => bitOf (s.rd AO.TAG_PEND.PEND) p).foldl (fun s p => s.importPage p) s

/-- Imports whose record has become durable clear their pending bit, unless a newer commit has come (R509). -/
def State.importsDone (s : State) : State :=
  let (dn, wait) := s.fl.imports.partition fun e => s.durable e.2.1
  let keep := dn.filter fun e => ngetD s.tag.gens e.1 0 == e.2.2
  let s1 := { s with fl := { s.fl with imports := wait } }
  if dn.isEmpty then s1 else (s1.wr MI.BOOT_STAT.TAG_IMPORTED 1).pendClear (maskOf (keep.map (·.1)))

/-- JNL_PROGRAM_DONE: a journal program ends; a waiting seal and waiting imports go on, and the next operation starts. -/
def execJnlProgramDone (bad : Blocks) (t : Nat) (s : State) : Host.Outcome State Fault Refusal :=
  .next (((((s.begin t).jnlProgrammed bad).sealNext).importsDone).flashPump)

end Sys2Proof.Machine
end

