-- ==== Sys2Proof/Machine/Access.lean ====
section
/-!
DEFINITION. Accesses to register windows (R6 to R22, R45 to R48): reads with their live values and snapshot views (R550),
writes by access code with the conditions the chapters put on them, pop windows, unoccupied offsets and islands that are
down; and the two ends of a handshake channel (R55).
-/
namespace Sys2Proof.Machine

/- ## Reading (R9, R11, R20) -/

/-- The bits of a field within its register. -/
def Field.mask (f : Field) : Nat := (2 ^ f.width - 1) * 2 ^ f.lo

/-- Whether an offset of an island holds an event counter, a statistics counter or an overflow bit of either (R544,
R547). -/
def isCounter (isl off : Nat) : Bool :=
  (0xF0100 ≤ off && off ≤ 0xF0200)
    || (isl == 3 && 0x100 ≤ off && off < 0x210)
    || ((isl == 4 || 10 ≤ isl) && 0x2000 ≤ off && off < 0x2880)
    || ((isl == 5 || isl == 6) && ((0x508 ≤ off && off < 0x528) || (0x690 ≤ off && off < 0x6C0)))
    || (isl == 8 && ((0x10 ≤ off && off < 0x30) || (0x80000 ≤ off && off < 0x92330)))

/-- Whether a reader sees the snapshot copy of an island's counters (R550). -/
def State.viewed (s : State) (src : Src) (isl : Nat) : Bool :=
  s.isSet (if src = .host then C.CNT_CTL.VIEW_HOST isl else C.CNT_CTL.VIEW_CORE isl)

/-- TX_DISABLE as it drives an uplink's or a ring port's cage: forced in Rigging and while EN = 0. RI powers the optics
on entry to Rehearsal (R139). -/
def State.txDisabled (s : State) (p : Nat) : Bool := s.mode == 0 || !s.portOn p

/-- The value a field reads as: the stored one, or what the device shows in its place. -/
def State.live (s : State) (f : Field) : Nat :=
  let at_ := f.off
  if f.isl = 0 ∧ at_ = 0x520 then
    if f = MI.EPOCH_INFL.TRIAL then min (2 ^ 16 - 1) (s.inFlight s.stagedEpoch true)
    else if f = MI.EPOCH_INFL.RETIRING then
      if s.isSet MI.EPOCH_STAT.RETIRING_VALID then s.inFlightAll (s.rd MI.EPOCH_STAT.RETIRING) else 0
    else s.inFlightAll s.curEpoch
  else if (f.isl = 5 ∨ f.isl = 6) ∧ at_ = 0x688 then
    if f.lo = 32 then s.oldestNs (f.isl - 5) else if f.lo = 0 then (s.shedding (f.isl - 5)).toNat else s.rd f
  else if f = SI.CAS_STAT.STATE then (if s.casCount = 1 then 3 else s.rd f)
  else if f.isl = 1 ∧ at_ = 0x30 then
    if f = AO.PIN_STAT.HOLD_E then s.rd RI.BYP_STAT.DRIVE_E
    else if f = AO.PIN_STAT.HOLD_W then s.rd RI.BYP_STAT.DRIVE_W
    else if f = AO.PIN_STAT.FIELD_PRESENT then s.rd AO.TAG_STAT.FIELD
    else s.rd f
  else if f.isl = 8 ∧ 0x3C000 + 8 * 816 ≤ at_ ∧ at_ < 0x3C000 + 8 * 918 then 0
  else if f.isl = 8 ∧ 0x21000 ≤ at_ ∧ at_ < 0x229C0 ∧ f.lo = 0 ∧ 6 ≤ (at_ - 0x21000) / 8 % 8 then 0
  else if f.isl = 4 ∧ (at_ = 0x1100 ∨ at_ = 0x1108) ∧ f.lo = 4 then
    if s.txDisabled (98 + (at_ - 0x1100) / 8) then 1 else s.rd f
  else if f.isl = 3 ∧ (at_ = 0x80 ∨ at_ = 0x88) ∧ f.lo = 4 then if s.txDisabled (96 + (at_ - 0x80) / 8) then 1 else s.rd f
  else s.rd f

/-- A field as a side reads it: live, or from the snapshot copy its view shows. -/
def State.seen (s : State) (src : Src) (isl off : Nat) (f : Field) : Nat :=
  if isCounter isl off && s.viewed src isl then ngetD (ngetD s.cnt.copies isl []) f.key 0 else s.live f

/-- What a 64-bit read of an ordinary register returns: WO and W1P fields read 0. -/
def State.fieldsRead (s : State) (src : Src) (isl off : Nat) (l : List (Field × Acc)) : Nat :=
  l.foldl (fun a e => match e.2 with
    | .wo => a
    | .w1p => a
    | _ => a ||| s.seen src isl off e.1 * 2 ^ e.1.lo) 0

/-- Registers that a side may not read: the control-store data, for the host after FIELD_SEAL (07_jugglers.md). -/
def State.hidden (s : State) (src : Src) (isl off : Nat) : Bool :=
  src == .host && (isl == 5 || isl == 6) && (off == 0x608 || off == 0x610) && s.isSet AO.FUSE_STAT.FIELD_SEAL

/-- A read in the 64-bit register at a multiple of 8 that is no pop, by an access at `at_`: of an island that is down 0
(R47), of an unoccupied offset 0 with UNMAPPED, which names the access (R10, R17). -/
def State.regReadAt (s : State) (src : Src) (isl off at_ : Nat) : Nat × State :=
  if !s.islUp isl then (0, s)
  else
    match regAt isl off with
    | none => (0, s.unmapped src isl at_)
    | some r =>
      if s.hidden src isl off then (0, s)
      else
        let s1 := (s.wdtSync.mtimeSync).counted isl
        (s1.fieldsRead src isl off r.fields, s1)

/-- A read of the whole register at a multiple of 8. -/
def State.regRead (s : State) (src : Src) (isl off : Nat) : Nat × State := s.regReadAt src isl off off

/- ## Pop windows (R12 to R15) -/

/-- The entries of a pop window, and the state without the oldest. -/
def State.popEntries (s : State) (isl off : Nat) : List Nat × State :=
  if isl = 2 ∧ off = 0x800 then (s.ti.txts, { s with ti := { s.ti with txts := s.ti.txts.drop 1 } })
  else if isl = 5 ∧ off = 0x540 then (s.pa.faults, { s with pa := { s.pa with faults := s.pa.faults.drop 1 } })
  else if isl = 6 ∧ off = 0x540 then (s.pb.faults, { s with pb := { s.pb with faults := s.pb.faults.drop 1 } })
  else if isl = 9 ∧ off = 0x808 then (s.di.eccLog, { s with di := { s.di with eccLog := s.di.eccLog.drop 1 } })
  else if isl = 0 ∧ off = 0x9310 then (s.fl.late, { s with fl := { s.fl with late := s.fl.late.drop 1 } })
  else ([], s)

/-- Whether an offset is a pop window. -/
def isPop (isl off : Nat) : Bool := ((regAt isl off).map (·.pop)).getD false

/-- An aligned 64-bit read of a pop window: the oldest entry leaves, or VALID = 0. MI.IC_CLAIM claims (R477). -/
def State.popOne (s : State) (isl off : Nat) : State :=
  if !s.islUp isl then s.answer 0
  else if isl = 0 ∧ off = 0x1418 then s.icClaim
  else
    let (l, s1) := (s.counted isl).popEntries isl off
    match l with
    | e :: _ => s1.answer e
    | [] => s1.answer 0

/-- An access to a register by the core takes an exception where it is misaligned (R466) or PMP refuses it (R473); else it
does what it does. -/
def State.regAccess (s : State) (src : Src) (k : AccKind) (isl off size : Nat) (f : State → State) : State :=
  if src ≠ .host ∧ off % max 1 size ≠ 0 then s.emit (.coreFault (misCauseOf k) (regAddr isl off))
  else s.guarded src k isl off f

/-- POP_WINDOW_READ: a narrow or misaligned read returns 0 and sets NARROW_POP (R15); of an island that is down, VALID = 0
and nothing is set (R22). -/
def State.popRead (s : State) (src : Src) (isl off size : Nat) : State :=
  let w := off / 8 * 8
  if 16 ≤ isl ∨ isPop isl w = false then s
  else s.regAccess src .load isl off size fun s =>
    if !s.islUp isl then s.answer 0
    else if size = 8 ∧ off % 8 = 0 then s.popOne isl off
    else (s.narrowPop src isl off).answer 0

def execPopWindowRead (src : Src) (isl off size : Nat) (s : State) : Host.Outcome State Fault Refusal :=
  .next (s.quiet.popRead src isl off size)

/-- UNMAPPED_ACCESS: an access to an offset that no register occupies (R10); of an island that is down, R47 answers. -/
def State.unmappedAccess (s : State) (src : Src) (isl off : Nat) : State :=
  if 16 ≤ isl then s.answer 0
  else s.guarded src .load isl off fun s =>
    if s.islUp isl = false then s.answer 0
    else if (regAt isl (off / 8 * 8)).isSome then s
    else (s.unmapped src isl off).answer 0

def execUnmappedAccess (src : Src) (isl off : Nat) (s : State) : Host.Outcome State Fault Refusal :=
  .next (s.quiet.unmappedAccess src isl off)

/-- ISLAND_DOWN_ACCESS (R22, R47): a read returns 0, a write is ignored, and no bit is set. -/
def execIslandDownAccess (src : Src) (isl off : Nat) (wr : Bool) (s : State) : Host.Outcome State Fault Refusal :=
  .next (s.quiet.guarded src (if wr then .store else .load) isl off fun s =>
    if s.islUp isl then s else if wr then s else s.answer 0)

/- ## Writing: who may -/

/-- Whether the host may write a register now. -/
def State.hostWrites (s : State) (r : RegAt) (isl : Nat) : Bool :=
  if isl = 0 ∧ 0x9000 ≤ r.off ∧ r.off ≤ 0x9018 then s.inRecovery
  else if isl = 0 ∧ r.off = 0x9100 then s.inRecovery && !s.isSet MI.MODE_COND.IMAGE_OK
  else if isl = 7 ∧ (r.off = 0x400 ∨ r.off = 0x428) then r.ix.head? == some 1
  else if isl = 8 ∧ r.off = 0x50110 then r.ix.head? == some 9
  else if isl = 8 ∧ r.off = 0x50118 then s.isSet (BI.SS_RING_CFG.TARGET (r.ix.getD 0 0)) && r.ix.getD 0 0 < 8
  else if (isl = 5 ∨ isl = 6) ∧ 0x600 ≤ r.off ∧ r.off ≤ 0x618 then !s.isSet AO.FUSE_STAT.FIELD_SEAL
  else r.hostWrites

/-- Whether the core may write a register now; a refused write sets UNMAPPED. -/
def State.coreWrites (s : State) (r : RegAt) (isl : Nat) : Bool :=
  if isl = 0 ∧ (r.off = 0x7000 ∨ r.off = 0x7F00 ∨ r.off = 0x7F18) then false
  else if isl = 7 ∧ (r.off = 0x400 ∨ r.off = 0x428) then r.ix.head? != some 1
  else if isl = 8 ∧ r.off = 0x50110 then r.ix.head? != some 9
  else if isl = 8 ∧ r.off = 0x50118 then 8 ≤ r.ix.getD 0 0 || !s.isSet (BI.SS_RING_CFG.TARGET (r.ix.getD 0 0))
  else true

/- ## Writing: what -/

/-- The bits of a register that a command of their own writes, and that a plain write passes over: EN of the functions
of R76, ALLOC and budgets, shaper rates and bursts, selector seeds, the watchdog's registers, FORCE_BYP, TRAIN_MODE,
TAG_PEND, PTP_MEAS as 64 bits, and the start of precise sampling (notes/assumptions/10.md). -/
def State.ownStep (s : State) (isl : Nat) (r : RegAt) (size data : Nat) : Nat :=
  let whole := 2 ^ 64 - 1
  let o := r.off
  match isl with
  | 0 => if o = 0x4000 ∨ o = 0x4008 then whole else if o = 0x3000 then 1 else 0
  | 1 => if o = 0x410 then whole else 0
  | 2 => if o = 0xC0 ∧ size = 8 then whole else 0
  | 3 => if o = 0x10 then (RI.RING_CTL.EN 0).mask + (RI.RING_CTL.FORCE_BYP 0).mask else if o = 0x30000 then 1 else 0
  | 8 =>
    if o = 0xF008 ∨ o = 0xF100 ∨ o = 0x36000 ∨ o = 0x38000 ∨ o = 0x3A000 ∨ o = 0x3C000 ∨ o = 0x40080 ∨ o = 0x40500
      ∨ o = 0x50110 then whole
    else if o = 0x14000 then (BI.SPILL_CTL.EN 0).mask
    else if o = 0x30000 then (BI.SHP_CTL.EN 0).mask
    else 0
  | 9 => if o = 0x8 then DI.CTL.TRAIN_MODE.mask else 0
  | _ =>
    if isl = 5 ∨ isl = 6 then
      if o = 0x708 then whole
      else if o = 0x700 ∧ data % 2 = 1 ∧ s.isSet (P.PS_CFG.EN (isl - 5)) = false then whole
      else if o = 0x400 then 1
      else 0
    else if o = 0x1000 then (PI.PORT_CTL.EN 0 0).mask
    else 0

/-- The bits of a register that the conditions of its chapter keep from being written. -/
def State.heldBits (s : State) (src : Src) (isl : Nat) (r : RegAt) (m data : Nat) : Nat :=
  let whole := 2 ^ 64 - 1
  let o := r.off
  let i := r.ix.getLast?.getD 0
  let new := fun (f : Field) => (s.rd f &&& (2 ^ f.width - 1 - bitsOf m f.lo f.width)) ||| (bitsOf data f.lo f.width &&& bitsOf m f.lo f.width)
  if isl = 0 then
    if o = 0x9100 ∧ (s.isSet MI.MODE_COND.IMAGE_OK || src == .coreU) = true then whole
    else if o = 0x528 then maskOf (s.epoch.stagedTables ++ s.epoch.batch.map (·.table))
    else 0
  else if isl = 2 then if o = 0x8 ∧ new TI.QUAL_CFG.HARD_PPB ≤ new TI.QUAL_CFG.SOFT_PPB then whole else 0
  else if isl = 3 then if o = 0 ∧ s.mode ≠ 0 then RI.NODE_CFG.NODE.mask else 0
  else if isl = 4 then if o = 0x1000 ∧ i = 2 then (UI.PORT_CTL.PAUSE_HONOUR 2).mask else 0
  else if isl = 8 then
    if o = 0x14000 ∧ new (BI.SPILL_CTL.ON i) ≤ new (BI.SPILL_CTL.OFF i) then whole
    else if o = 0x21000 ∧ 6 ≤ i % 8 then whole
    else if o = 0x50100 ∧ s.isSet (BI.SS_RING_CFG.EN i) = true then whole - (BI.SS_RING_CFG.EN i).mask
    else if o = 0x50000 then 0x8888888888888888
    else if o = 0x50118 ∧ 8 ≤ i then whole
    else 0
  else if isl = 9 then if o = 0x100 ∧ i = 0 then whole else 0
  else 0

/-- The side's own view bit of CNT_CTL: VIEW_HOST is the host's, the rest the core's (19_counters.md). -/
def State.viewBits (src : Src) (o : Nat) : Nat :=
  if o = 0xF0208 then if src = .host then (2 ^ 64 - 1) - (C.CNT_CTL.VIEW_HOST 0).mask else (C.CNT_CTL.VIEW_HOST 0).mask else 0

/-- Write one field by its access code. -/
def State.writeField (s : State) (m data : Nat) (e : Field × Acc) : State :=
  let f := e.1
  let fm := bitsOf m f.lo f.width
  let fd := bitsOf data f.lo f.width &&& fm
  if fm = 0 then s
  else
    match e.2 with
    | .rw => s.wr f ((s.rd f &&& (2 ^ f.width - 1 - fm)) ||| fd)
    | .w1c => s.andNotF f fd
    | _ => s

/- ## Writing: what follows -/

/-- What follows from a write to a register of MI. -/
def State.afterMi (s : State) (src : Src) (r : RegAt) (m data : Nat) : State :=
  let d := data &&& m
  let o := r.off
  if o = 0x10 then (s.andNotF MI.ACC_STAT.NARROW_POP (bitsOf d 1 1)).andNotF MI.ACC_STAT.UNMAPPED (bitsOf d 0 1)
  else if o = 0x408 then
    if m ≠ 0 ∧ (1 < ((List.range 5).filter fun i => bitOf d i).length ∨ s.isSet MI.IMG_STAT.BUSY = true) then s.wr MI.IMG_STAT.CMD_DROPPED 1 else s
  else if o = 0x598 then
    let op := s.rd MI.TUPD_ADDR.OP
    if bitOf d MI.TUPD_CMD.GO.lo && (op == 0 || op == 3) then
      s.tupdEnd (if s.isSet MI.TUPD_STAT.PAUSE_RUNNING then 0x0D else 0x08)
    else s
  else if o = 0x510 then
    if bitOf d MI.EPOCH_CMD.COMMIT.lo && bitOf d MI.EPOCH_CMD.ABORT.lo then s.wr MI.EPOCH_STAT.ERROR 5 else s
  else if o = 0x58 then
    let ok := bitsOf d MI.RST_CMD.KEY.lo 8 == 0xA5 &&
      (if src = .host then bitOf d MI.RST_CMD.HOST_RESET.lo && s.policy 0 else bitOf d MI.RST_CMD.FW_RESET.lo)
    if ok then s else s.unmapped src 0 0x58
  else if o = 0xC00 ∨ o = 0xC08 then s.timerCheck
  else if o = 0x1000 then s.deliver (r.ix.getD 0 0)
  else if o = 0x6000 then s.msixRelease
  else s

/-- What follows from a write to a register of another island. -/
def State.afterWrite (s : State) (src : Src) (isl : Nat) (r : RegAt) (m data : Nat) : State :=
  let d := data &&& m
  let o := r.off
  let i := r.ix.getLast?.getD 0
  match isl with
  | 0 => s.afterMi src r m data
  | 1 =>
    if o = 0x200 then (s.andNotF RI.GW_EVT.FA_ASSERT (bitsOf d AO.SIDEBAND.FA_ASSERT.lo 1)).andNotF RI.GW_EVT.FA_RELEASE
      (bitsOf d AO.SIDEBAND.FA_RELEASE.lo 1)
    else s
  | 2 =>
    if o = 0x20 then
      if s.isSet (TI.REF_CFG.EN i) then s else (s.setRef i { s.ref i with before := false }).disqualify i 1
    else s
  | 3 =>
    if o = 0 ∨ o = 0x400 ∨ o = 0x500 then s.refreshCs
    else if o = 0x8 then s.setUsed
    else if o = 0x718 then (s.andNotF AO.SIDEBAND.FA_ASSERT (bitsOf d RI.GW_EVT.FA_ASSERT.lo 1)).andNotF AO.SIDEBAND.FA_RELEASE
      (bitsOf d RI.GW_EVT.FA_RELEASE.lo 1)
    else s
  | 8 =>
    if o = 0x40000 ∧ bitOf d 0 = true then
      let x := (s.mirrorSel i).reload (s.rd (BI.MIR_CFG.N i)) (s.isSet (BI.MIR_CFG.MODE i))
      { s with bi := { s.bi with mirrors := nset s.bi.mirrors i x } }
    else if o = 0x40100 ∧ bitOf d 0 = true then
      let x := (s.samplerSel i).reload (s.rd (BI.SMP_CFG.N i)) (s.isSet (BI.SMP_CFG.MODE i))
      { s with bi := { s.bi with samplers := nset s.bi.samplers i x } }
    else if o = 0x50100 ∧ bitOf d (BI.SS_RING_CFG.EN i).lo = true then
      s.wrs [(BI.SS_RING_PROD.INDEX i, 0), (BI.SS_RING_CONS.INDEX i, 0)]
    else s
  | _ => s

/-- Counters of an island that the access itself makes wrap: their overflow bits stand although the same write clears
them (R19, R546). -/
def State.wraps (s : State) (isl : Nat) : Nat :=
  ((s.wr (C.CNT_OVF.OVF isl) 0).counted isl).rd (C.CNT_OVF.OVF isl)

/-- A write whose bits are `m` of the register at a multiple of 8. -/
def State.regWrite (s : State) (src : Src) (isl off size m data : Nat) : State :=
  if !s.islUp isl then s
  else
    let at_ := if size = 4 ∧ 2 ^ 32 ≤ m then off + 4 else off
    match regAt isl off with
    | none => s.unmapped src isl at_
    | some r =>
      if (if src = .host then s.hostWrites r isl else s.coreWrites r isl) = false then s.unmapped src isl at_
      else if r.pop then s
      else
        let s0 := s.wdtSync.mtimeSync
        let s1 := s0.counted isl
        let held := s1.ownStep isl r size (data &&& m) ||| s1.heldBits src isl r m data ||| State.viewBits src r.off
        let m' := m - (m &&& held)
        ((r.fields.foldl (fun s e => s.writeField m' data e) s1).orF (C.CNT_OVF.OVF isl) (s0.wraps isl)).afterWrite src isl r m' data

/-- REGISTER_WRITE: an aligned write of 64 or 32 bits (R7); another size writes nothing (notes/assumptions/11.md). -/
def State.registerWrite (s : State) (src : Src) (isl off size data : Nat) : State :=
  if 16 ≤ isl ∨ 0x100000 ≤ off then s
  else s.regAccess src .store isl off size fun s =>
  if size = 8 ∧ off % 8 = 0 then s.regWrite src isl off 8 (2 ^ 64 - 1) (data % 2 ^ 64)
  else if size = 4 ∧ off % 4 = 0 then
    let sh := off % 8 * 8
    s.regWrite src isl (off / 8 * 8) 4 ((2 ^ 32 - 1) * 2 ^ sh) (data % 2 ^ 32 * 2 ^ sh)
  else if s.islUp isl && (regAt isl (off / 8 * 8)).isNone then s.unmapped src isl off
  else s

def execRegisterWrite (src : Src) (isl off size data : Nat) (s : State) : Host.Outcome State Fault Refusal :=
  .next (s.quiet.registerWrite src isl off size data)

/- ## The two ends of a channel (R55, R56) -/

/-- CHANNEL_ITEM_ARRIVAL: the oldest item under way reaches the receiver. Cells go into the egress FIFO they are for (the
scheduled lane takes class 7, and on a ring port the scheduled insertion queue), and their credit starts back; a spill
write joins DI's requests. An island held in reset receives nothing (R62). -/
def State.itemArrives (s : State) (c : Chan) : State :=
  let v := s.chan c
  match v.inFlight with
  | [] => s
  | i :: r =>
    if s.isl? c.dst = 2 then s
    else
    let s0 := s.count c.dst 0x003 1
    match i with
    | .spill k d => (s0.setChan c { v with inFlight := r, arrived := v.arrived ++ [i] }).spillAsk k true d
    | .cells d =>
      let s1 := s0.setChan c { v with inFlight := r, returning := v.returning + 1 }
      if (d.port = 96 ∨ d.port = 97) ∧ d.cls = 7 then s1.rschSet fun q => { q with queue := q.queue ++ [d] }
      else
        let m := s1.mac d.port
        s1.setMac d.port (if d.cls = 7 then { m with sched := m.sched ++ [d] } else { m with ordin := m.ordin ++ [d] })
    | _ => s0.setChan c { v with inFlight := r, arrived := v.arrived ++ [i] }

def execChannelItemArrival (ch : Chan) (s : State) : Host.Outcome State Fault Refusal := .next (s.quiet.itemArrives ch)

/-- The sources whose headers cross a channel. -/
def sourcesOf (c : Chan) : List Nat := (List.range 112).filter fun p => decide (ingressChan p = c)

/-- What a credit that has come back lets its sender do: send the next header, pass a frame to BI, or write a spilled one. -/
def State.useCredit (s : State) (c : Chan) : State :=
  if c.rank = 1 then
    (sourcesOf c).foldl (fun (s : State) p => if (nget s.ports p).isSome then s.sendHeader p else s) s
  else if c.rank = 4 ∧ (c.src = 5 ∨ c.src = 6) then s.pumpAdmit (c.src - 5) (s.pipe (c.src - 5)).toBi.length
  else if c = spillChan then s.spillPump
  else s

/-- CREDIT_RETURN: a credit on its way back reaches the sender. -/
def State.creditReturns (s : State) (c : Chan) : State :=
  let v := s.chan c
  if v.returning = 0 then s
  else (s.setChan c { v with returning := v.returning - 1, credits := v.credits + 1 }).useCredit c

def execCreditReturn (ch : Chan) (s : State) : Host.Outcome State Fault Refusal := .next (s.quiet.creditReturns ch)

end Sys2Proof.Machine
end

