-- ==== Sys2Proof/Machine/Counters.lean ====
section
/-!
DEFINITION. Snapshots of the counters and precise sampling (19_counters.md): CLEAR_ALL (R542), SNAP_GO and its captures
(R547 to R551), the start of precise sampling (R554); and the JTAG port (R473, R574).
-/
namespace Sys2Proof.Machine

/-- CLEAR_ALL: every event counter of the island and its overflow bits to 0. -/
def State.clearAll (s : State) (isl : Nat) : State :=
  (List.range 32).foldl (fun s k => s.wr (C.CNT.COUNT isl k) 0) (s.wr (C.CNT_OVF.OVF isl) 0)

def execClearAll (src : Src) (isl : Nat) (s : State) : Host.Outcome State Fault Refusal :=
  .next (if isl < 16 then s.quiet.regCmd src isl 0xF0208 false fun s => s.clearAll isl else s.quiet)

/-- SNAP_GO (R547, R551): T is SNAP_AT when AT_EN = 1 and that is at least 1 µs ahead, else 2 µs after the write. -/
def State.snapGo (s : State) (atEn : Bool) : State :=
  let s0 := s.flag MI.SNAP_CMD.AT_EN atEn
  if s.isSet MI.SNAP_STAT.BUSY then s0
  else
    let a := s.rd MI.SNAP_AT.TIME
    let at_ := if atEn && s.time + 1000 ≤ a then a else s.time + 2000
    let s1 := (s0.addF MI.SNAP_STAT.SNAP_SEQ 1).wrs
      [(MI.SNAP_STAT.BUSY, 1), (MI.SNAP_STAT.MISSED_MASK, 0), (MI.SNAP_TIME.TIME, at_)]
    { s1 with cnt := { s1.cnt with waiting := List.range 16 } }

def execSnapGo (src : Src) (atEn : Bool) (t : Nat) (s : State) : Host.Outcome State Fault Refusal :=
  .next ((s.begin t).regCmd src 0 0xA000 false fun s => s.snapGo atEn)

/-- The island's counters that are not 0, by key (R547). -/
def State.counterCopy (s : State) (isl : Nat) : List (Nat × Nat) :=
  s.regs.filter fun e => let a := e.1 / 64; a / 0x100000 == isl && isCounter isl (a % 0x100000)

/-- An island that runs takes its copy; another keeps its previous one and misses (R549). -/
def State.captureOne (s : State) (isl : Nat) : State :=
  if s.islRuns isl then
    let s1 := s.wrs [(C.CNT_SNAP_STAT.SEQ isl, s.rd MI.SNAP_STAT.SNAP_SEQ), (C.CNT_SNAP_STAT.HELD isl, 1),
      (C.CNT_SNAP_STAT.T_LO isl, s.rd MI.SNAP_TIME.TIME)]
    { s1 with cnt := { s1.cnt with copies := nset s1.cnt.copies isl (s.counterCopy isl) } }
  else (s.wr MI.SNAP_STAT.MISSED 1).orF MI.SNAP_STAT.MISSED_MASK (2 ^ isl)

/-- SNAPSHOT_CAPTURE: the first cycle of the island at or after T. The last capture ends the snapshot (R551). -/
def State.capture (s : State) (isl : Nat) : State :=
  if s.cnt.waiting.contains isl && s.rd MI.SNAP_TIME.TIME ≤ s.time then
    let s1 := s.captureOne isl
    let rest := s.cnt.waiting.filter (· != isl)
    let s2 := { s1 with cnt := { s1.cnt with waiting := rest } }
    if rest.isEmpty then s2.wrs [(MI.SNAP_STAT.BUSY, 0), (MI.SNAP_STAT.DONE, 1)] else s2
  else s

def execSnapshotCapture (isl t : Nat) (s : State) : Host.Outcome State Fault Refusal := .next ((s.begin t).capture isl)

/-- The fields of PS_CFG. -/
def psFields (k : Nat) : List (Field × Acc) :=
  [(P.PS_CFG.N k, .rw), (P.PS_CFG.MODE k, .rw), (P.PS_CFG.STOP k, .rw), (P.PS_CFG.JMASK k, .rw), (P.PS_CFG.EPOCH_EN k, .rw),
   (P.PS_CFG.EPOCH k, .rw), (P.PS_CFG.FREEZE k, .rw), (P.PS_CFG.EN k, .rw)]

/-- PS_ENABLE (R554): a write of PS_CFG with EN = 1. While EN = 0 it resets WR_IDX and FULL and reloads the selector from
the seed. -/
def State.psEnable (s : State) (k data : Nat) : State :=
  let was := s.isSet (P.PS_CFG.EN k)
  let s1 := (psFields k).foldl (fun s e => s.writeField (2 ^ 64 - 1) data e) s
  if was || data % 2 = 0 then s1
  else
    let x := Selector.seed (s1.rd (P.PS_CFG.N k)) (s1.isSet (P.PS_CFG.MODE k)) (s1.rd (P.PS_SEED.SEED k))
    ((s1.wrs [(P.PS_STAT.WR_IDX k, 0), (P.PS_STAT.FULL k, 0)])).setPipe k { s1.pipe k with sampler := x, sampledSinceEn := 0 }

def execPsEnable (src : Src) (pipe data : Nat) (s : State) : Host.Outcome State Fault Refusal :=
  .next (if pipe < 2 then s.quiet.regCmd src (5 + pipe) 0x700 false fun s => s.psEnable pipe data else s.quiet)

/- ## JTAG (R473, R574) -/

/-- The instruction that takes effect: after FIELD_SEAL only BYPASS and IDCODE; EXTEST, CLAMP and HIGHZ only while RESET_N
is low. BYPASS stands in for one that is not accepted. -/
def State.tapTakes (s : State) (i : TapInstr) : TapInstr :=
  if i = .idcode then .idcode
  else if s.isSet AO.FUSE_STAT.FIELD_SEAL then .bypass
  else
    match i with
    | .extest => if s.isSet AO.PIN_STAT.RESET_N then .bypass else i
    | .clamp => if s.isSet AO.PIN_STAT.RESET_N then .bypass else i
    | .highz => if s.isSet AO.PIN_STAT.RESET_N then .bypass else i
    | _ => i

/-- IDCODE. -/
def idcodeValue : Nat := 0x2 * 2 ^ 28 + 0x0F96 * 2 ^ 12 + Config.jepId % 2 ^ 11 * 2 + 1

/-- TAP_INSTRUCTION_LOAD. -/
def State.tapLoad (s : State) (i : TapInstr) : State :=
  let j := s.tapTakes i
  let s1 := s.mgSet fun m => { m with tap := j }
  if j = .idcode then s1.emit (.tdo idcodeValue) else s1

def execTapInstructionLoad (instr : TapInstr) (t : Nat) (s : State) : Host.Outcome State Fault Refusal :=
  .next ((s.begin t).tapLoad instr)

/-- DMI_ACCESS: a closed debug module reads 0 and takes no write (R473). An open one halts and resumes the hart through
dmcontrol (notes/assumptions/110.md); what else it reads as is free. -/
def State.dmi (s : State) (wr : Bool) (addr data : Nat) : State :=
  if !s.debugOpen then (if wr then s else s.answer 0)
  else if !wr then (s.answer (s.freeVal % 2 ^ 32)).tookFree
  else if addr = 0x10 ∧ bitOf data 0 = true then
    let s1 := if bitOf data 31 then s.debugHalt else s
    if bitOf data 30 && !bitOf data 31 then s1.debugResume else s1
  else s

def execDmiAccess (wr : Bool) (addr data t : Nat) (s : State) : Host.Outcome State Fault Refusal :=
  .next ((s.begin t).dmi wr addr data)

end Sys2Proof.Machine
end

