-- ==== Sys2Proof/Machine/Pcie.lean ====
section
/-!
DEFINITION. The PCI Express bridge (16_management_core.md): inbound requests to the BARs (R34, R475, R480, R483), the
link (R124), and the check code of SRAM (R470).
-/
namespace Sys2Proof.Machine

/-- Set a flag of MI.PCIE_EVT; interrupt 7. -/
def State.pcieNote (s : State) (f : Field) : State := (s.wr f 1).raiseIf (!s.isSet f) 7

/- ## Splitting a request (R480) -/

/-- The registers a request of `n` bytes at an offset touches: the multiples of 8. -/
def beatsOf (off n : Nat) : List Nat := (List.range ((off + n + 7) / 8 - off / 8)).map fun i => (off / 8 + i) * 8

/-- Which bytes of the beat at a multiple of 8 a request enables, as a mask of 8 bits. -/
def reqEnables (r : PcieReq) (beat : Nat) : Nat :=
  maskOf (indicesOf 8 fun k => r.off ≤ beat + k && r.enable.getD (beat + k - r.off) false)

/-- The data of a beat, byte k in bits [8k + 7 : 8k]. -/
def reqBeat (r : PcieReq) (beat : Nat) : Nat :=
  leNat ((List.range 8).map fun k => if r.off ≤ beat + k then r.data.getD (beat + k - r.off) 0 else 0)

/-- The size and offset of the aligned unit that enabled bytes form, if they form one. -/
def unitOf (m : Nat) : Option (Nat × Nat) :=
  if m = 0xFF then some (8, 0) else if m = 0x0F then some (4, 0) else if m = 0xF0 then some (4, 4) else none

/-- The bytes of a value that a mask enables, the others 0. -/
def enabledBytes (m v : Nat) : Frame := (leBytes 8 v).zipIdx.map fun e => if bitOf m e.2 then e.1 else 0

/-- Where in its beat a request accesses a register: the unit its bytes form, or its first byte (R17). -/
def unitAt (r : PcieReq) (beat m : Nat) : Nat :=
  match unitOf m with
  | some (_, o) => o
  | none => if r.off / 8 * 8 = beat then r.off % 8 else 0

/-- A read of one beat of the register space: a pop window pops only on a request of exactly its 8 bytes (R15). `at_` is
the place in the beat that MI.ACC_STAT would name. -/
def State.beatRead (s : State) (r : PcieReq) (isl off m at_ : Nat) : Frame × State :=
  if isPop isl off && s.islUp isl then
    if m = 0xFF ∧ r.enable.length = 8 then let s1 := s.popOne isl off; (leBytes 8 s1.resp, s1)
    else (List.replicate 8 0, s.narrowPop .host isl (off + at_))
  else let (v, s1) := s.regReadAt .host isl off (off + at_); (enabledBytes m v, s1)

/-- Read beats in order. -/
def State.beatsRead (s : State) (r : PcieReq) (isl base : Nat) : List Nat → Frame × State
  | [] => ([], s)
  | b :: bs =>
    let a := base + b
    let (l, s1) := s.beatRead r (isl + a / 0x100000) (a % 0x100000) (reqEnables r b) (unitAt r b (reqEnables r b))
    let (l', s2) := s1.beatsRead r isl base bs
    (l ++ l', s2)

/-- Write beats in order. -/
def State.beatsWrite (s : State) (r : PcieReq) (isl base : Nat) (bs : List Nat) : State :=
  bs.foldl (fun s b =>
    let a := base + b
    match unitOf (reqEnables r b) with
    | some (n, o) => s.registerWrite .host (isl + a / 0x100000) (a % 0x100000 + o) n (reqBeat r b / 2 ^ (8 * o))
    | none => s) s

/-- Answer a read. -/
def State.complete (s : State) (r : PcieReq) (l : Frame) : State :=
  s.emit (.completion 0 ((l.drop (r.off % 8)).take r.enable.length))

/-- A request to register space, from an island's window base on. -/
def State.barRegs (s : State) (r : PcieReq) (isl base : Nat) : State :=
  let bs := beatsOf r.off r.enable.length
  if r.wr then
    if bs.all fun b => (unitOf (reqEnables r b)).isSome then s.beatsWrite r isl base bs
    else (s.addF MI.PCIE_EVT.BAD_BE_CNT 1).pcieNote MI.PCIE_EVT.BAD_BE
  else let (l, s1) := s.beatsRead r isl base bs; s1.complete r l

/-- A request to SRAM through BAR2 (R470, R475): only the enabled bytes are written, and a part of a word is not where
its word reads uncorrectable. -/
def State.barSram (s : State) (r : PcieReq) (ecc : Ecc) : State :=
  let n := r.enable.length
  if r.wr then
    if !s.policy 1 then s.unmapped .host 0 r.off
    else
      let part := r.off % 4 ≠ 0 ∨ n % 4 ≠ 0 ∨ r.enable.all (fun b => b) = false
      let put := fun (s : State) => (List.range n).foldl (fun s i =>
        if r.enable.getD i false then (s.sramWrite (r.off + i) [r.data.getD i 0]).breaks (0x10000000 + r.off + i) 1 else s) s
      if part then
        let s1 := s.sramCheck ecc
        if ecc = .uncorrectable then s1.addOvf MI.SRAM_ECC.HOST_DROP MI.SRAM_ECC.OVF 1 1 else put s1
      else put s
  else
    let l := (s.sramRead r.off n).zipIdx.map fun e => if r.enable.getD e.2 false then e.1 else 0
    let s1 := s.sramCheck ecc
    if ecc = .uncorrectable then s1.emit (.poisoned l) else s1.emit (.completion 0 l)

/-- A request to BAR2: SRAM, the mailboxes, or nothing (R34). -/
def State.bar2 (s : State) (r : PcieReq) (ecc : Ecc) : State :=
  let n := r.enable.length
  if r.off + n ≤ 0x40000 then s.barSram r ecc
  else if 0x80000 ≤ r.off ∧ r.off + n ≤ 0x81000 then
    ({ r with off := r.off - 0x80000 } : PcieReq) |> fun q => s.barRegs q 0 0x7000
  else
    let s1 := s.unmapped .host 0 r.off
    if r.wr then s1 else s1.emit (.completion 0 (List.replicate n 0))

/-- A request to BAR4: runs of enabled bytes of a write; a read whole. -/
def State.bar4 (s : State) (r : PcieReq) : State :=
  let n := r.enable.length
  if !r.wr then s.hostBar4 r.off n false []
  else if r.enable.all (fun b => b) then s.hostBar4 r.off n true r.data
  else (List.range n).foldl (fun s i =>
    if r.enable.getD i false then s.hostBar4 (r.off + i) 1 true [r.data.getD i 0] else s) s

/-- PCIE_INBOUND_REQUEST (R480). Without a link no request comes. -/
def State.inbound (s : State) (r : PcieReq) (ecc : Ecc) : State :=
  let n := r.enable.length
  let size := if r.bar = 0 then 0x1000000 else if r.bar = 2 then 0x100000 else if r.bar = 4 then 0x10000000 else 0
  if !s.isSet MI.PCIE_STAT.LINK_UP then s
  else
    let s0 := s.count 0 0x102 1
    if size < r.off + n then
      let s1 := s0.pcieNote MI.PCIE_EVT.UR_SENT
      if r.wr then s1 else s1.emit (.completion 1 [])
    else if r.wr && r.poisoned then s0.pcieNote MI.PCIE_EVT.POISON_IN
    else if r.bar = 0 then s0.barRegs r 0 0
    else if r.bar = 2 then s0.bar2 r ecc
    else s0.bar4 r

def execPcieInboundRequest (req : PcieReq) (ecc : Ecc) (t : Nat) (s : State) : Host.Outcome State Fault Refusal :=
  .next ((s.begin t).inbound req ecc)

/- ## The link (R124) -/

/-- PCIE_LINK_RESET: PERST_N, hot reset or link down. The bridge and its configuration space are reset; descriptors in
progress end with LINK. -/
def State.linkReset (s : State) (perst : Bool) : State :=
  let was := s.isSet MI.PCIE_STAT.LINK_UP
  let s1 := s.wrs [(MI.PCIE_STAT.LINK_UP, 0), (MI.PCIE_STAT.SPEED, 0), (MI.PCIE_STAT.WIDTH, 0), (MI.PCIE_STAT.BME, 0),
    (MI.PCIE_STAT.MSIX_EN, 0), (MI.PCIE_STAT.FUNC_MASK, 0)]
  let s2 := (s.mg.dma.map (·.1)).foldl (fun s c => s.dmaFail c 5) s1
  let s3 := s2.mgSet fun m => { m with mps := 128, mrrs := 512 }
  let s4 := if was then s3.pcieNote MI.PCIE_EVT.LINK_CHG else s3
  if perst then s4.pcieNote MI.PCIE_EVT.PERST_SEEN else s4

def execPcieLinkReset (perst : Bool) (t : Nat) (s : State) : Host.Outcome State Fault Refusal := .next ((s.begin t).linkReset perst)

/-- The class code and the Subsystem ID of configuration space (R479); Device and Revision ID stand in MI.PCIE_ID. -/
def pcieClass : Nat := 0x028000
def pcieSubId : Nat := 0x0F96

/-- PCIE_LINK_UP: the host finds what configuration space reports (R479). The Subsystem Vendor ID is the Vendor ID. -/
def State.pcieUp (s : State) (speed width : Nat) : State :=
  let v := s.rd MI.PCIE_ID.VENDOR
  ((s.wrs [(MI.PCIE_STAT.LINK_UP, 1), (MI.PCIE_STAT.SPEED, speed), (MI.PCIE_STAT.WIDTH, width)]).pcieNote
    MI.PCIE_EVT.LINK_CHG).emit (.config v (s.rd MI.PCIE_ID.DEVICE) (s.rd MI.PCIE_ID.REVISION) pcieClass v pcieSubId)

def execPcieLinkUp (speed width t : Nat) (s : State) : Host.Outcome State Fault Refusal := .next ((s.begin t).pcieUp speed width)

end Sys2Proof.Machine
end

