-- ==== Sys2Proof/Machine/IslandOps.lean ====
section
/-!
DEFINITION. What an island reset takes and what its replay gives back (02_islands_and_handshakes.md, R62 to R72 and the
table "What an island reset keeps and loses"). Registers are kept, but for those that show state the reset takes.
-/
namespace Sys2Proof.Machine

/- ## Channels and registers -/

/-- Flush every channel to or from an island; credits return to their initial values (R62 step 2). -/
def State.flushIsland (s : State) (i : Nat) : State :=
  { s with chans := s.chans.filter fun e => e.1 / 16 % 16 != i && e.1 % 16 != i }

/-- Put registers of an island back to their reset values: those whose offset and lowest bit a test admits. -/
def State.dropRegs (s : State) (isl : Nat) (p : Nat → Nat → Bool) : State :=
  { s with regs := s.regs.filter fun e => !(e.1 / 64 / 0x100000 == isl && p (e.1 / 64 % 0x100000) (e.1 % 64)) }

/-- The ports of a MAC island. -/
def islandPorts (i : Nat) : List Nat :=
  if i = 3 then [96, 97] else if i = 4 then [98, 99, 100] else if 10 ≤ i then (List.range 16).map fun k => 16 * (i - 10) + k else []

/-- The sources whose headers go to a pipeline, those of re-injection included. -/
def pipeSources (k : Nat) : List Nat := ((List.range 101) ++ [110, 111]).filter fun p => pipeOf p == k

/-- Every source of headers. -/
def allSources : List Nat := (List.range 101) ++ [110, 111]

/-- Change every copy of a list of sources. -/
def State.mapCopies (s : State) (ps : List Nat) (f : Copy → Copy) : State :=
  ps.foldl (fun s p => if (s.mac p).copies.isEmpty then s else s.setMac p { s.mac p with copies := (s.mac p).copies.map f }) s

/-- Put a copy back into its FIFO: its packet is gone. -/
def Copy.recall (c : Copy) : Copy := { c with stage := 0, passed := false }

/- ## MAC islands: PI0 to PI5, UI and RI -/

/-- Frames BI has lost (R66). -/
def State.biLost (s : State) (n : Nat) : State := s.addOvf MI.BI_LOST.COUNT MI.BI_LOST.OVF 1 n

/-- A port's MAC is reset: the frame on its wire ends with an error, and counts as possibly sent twice when its last bit had
left (R71); what is unconfirmed stays in its lanes until it is re-issued. A frame whose cells BI has lost goes with it. -/
def State.resetPort (s : State) (p : Nat) : State :=
  let m := s.mac p
  if m == PortMac.empty && (s.cellsFor p).isEmpty then s
  else
    let i := portIsl p
    let wired := match m.wire with
      | some w => [w.desc]
      | none => []
    let lanes := wired ++ m.sched ++ m.ordin ++ s.cellsFor p
    let kept := lanes.filter fun d => d.charged
    let s1 := match m.wire with
      | some w =>
        if w.endAt ≤ s.now then s.replayCnt (MI.REPLAY_STAT.DUP_SENT i) (MI.REPLAY_STAT.DUP_SENT_OVF i) 1
        else if isEthPort p then (s.cntPort p 10 1).emit (.frameAborted p)
        else s
      | none => s
    let held := if isEthPort p then s1.endHold p s1.time else s1
    (held.biLost (lanes.length - kept.length)).setMac p { m with
      wire := none, hold := none, owesFrame := false, sched := kept.filter fun d => d.cls == 7,
      ordin := kept.filter fun d => d.cls != 7 }

/-- Put the unconfirmed frames of a port back at the heads of their queues, in their order (R70). A frame that its
queue no longer takes is discarded as an admission would be. -/
def State.reissuePort (s : State) (p : Nat) : State :=
  let m := s.mac p
  let l := m.sched ++ m.ordin
  if l.isEmpty then s
  else
    let i := portIsl p
    let s1 := (s.setMac p { m with sched := [], ordin := [] }).replayCnt (MI.REPLAY_STAT.EGR_REISSUED i)
      (MI.REPLAY_STAT.EGR_REISSUED_OVF i) l.length
    l.foldr (fun d s =>
      if s.portClosed d then (s.noteFlushed d).discardDesc d else s.setBq d.q { s.bq d.q with head := d :: (s.bq d.q).head }) s1

/-- Re-present the held copies of sources in receive order (R69): committed ones are suppressed, and the rest go out again. -/
def State.representCopies (s : State) (i : Nat) (ps : List Nat) : State :=
  ps.foldl (fun s p =>
    let m := s.mac p
    if m.copies.isEmpty then s
    else
      let gone := m.copies.filter fun c => decide (c.seq < m.committed)
      let live := m.copies.filter fun c => !decide (c.seq < m.committed)
      let s1 := (s.setMac p { m with copies := live.map fun c => { c with stage := 0 } }).suppressed i gone.length
      (s1.replayCnt (MI.REPLAY_STAT.ING_REPLAYED i) (MI.REPLAY_STAT.ING_REPLAYED_OVF i) live.length).sendHeader p) s

/-- RI is reset: the node leaves the ring (R68, R149); transit, trains and the deduplication table are lost, and window
tables and signal buffers kept. -/
def State.riReset (s : State) : State :=
  let s1 := ([0, 1].foldl (fun s d => (s.loseBlockLock d).unlock d) s).setJoin false
  let q := s1.rsch.queue
  let s2 := q.foldr (fun d s => s.setMac d.port { s.mac d.port with sched := d :: (s.mac d.port).sched }) s1
  let fresh := { RingPort.empty with sampleAt := s2.now }
  let s3 := { s2 with ringE := fresh, ringW := fresh }
  let s4 := (s3.rschSet fun r => { RingSched.fresh with
    portMode := r.portMode, graceSince := r.graceSince, sigPub := r.sigPub, sigBack := r.sigBack, sigSeen := r.sigSeen,
    hitE := r.hitE, hitW := r.hitW, opticsAt := r.opticsAt, heldEAt := r.heldEAt, releasedWAt := r.releasedWAt }).setCsState 0
  s4.wrs [(RI.SCHED_STAT.AGREED_PENDING, 0), (RI.SCHED_STAT.MEMBERS, 0)]

/- ## PA, PB, SI -/

/-- Abandon every packet a pipeline island holds: waiting heads, contexts, and packets that have ended and wait for
earlier ones. Its searches are lost with it. -/
def State.abandonPipe (s : State) (k : Nat) : State :=
  let p := s.pipe k
  let maps := p.ctxs.flatMap fun c => match c.2.gw with
    | some g => g.held
    | none => []
  let s1 := s.setPipe k { p with heads := [], ctxs := [], ended := [], heldSince := some (p.heldSince.getD s.time) }
  let s2 := (List.range 16).foldl (fun s j => s.wr (P.JUG_STAT.BUSY k j) 0) s1
  let s3 := maps.foldl (fun s m => s.wr (RI.GW_MAP_STAT.HELD m) (if s.mapHeld m then 1 else 0)) s2
  { s3 with si := { s3.si with reqs := s3.si.reqs.filter fun r => r.ctx.pipe != k } }

/-- PA or PB is reset: every packet it holds, what it was passing to BI, and its waiting triggers. -/
def State.pipeReset (s : State) (k : Nat) : State :=
  let s1 := s.abandonPipe k
  let s2 := (s1.setPipe k { s1.pipe k with toBi := [], grants := 0, rrAny := 0, rrRes := 0, rrShed := 0, gwGrants := 0, gwRrAny := 0, gwRrRes := 0 }).setTrigQueue k []
  s2.mapCopies (pipeSources k) Copy.recall

/-- Ages of learned entries restart (08_search.md, "SI is reset"). -/
def HashTable.touch (h : HashTable) (now : Nat) : HashTable :=
  { h with entries := h.entries.map fun e => if e.learned then { e with hitAt := now } else e }
def Bank.touch (b : Bank) (now : Nat) : Bank := { b with bridge := b.bridge.touch now, flow := b.flow.touch now }

/-- SI is reset (R67): both pipeline islands abandon their packets; the fragment table and searches are lost; a cascade
member becomes DOWN. Table contents are kept. -/
def State.siReset (s : State) : State :=
  let s1 := (s.abandonPipe 0).abandonPipe 1
  let s2 := s1.mapCopies allSources fun c => if c.passed then c else { c with stage := 0 }
  let s3 := (s2.casDown false).setFrags []
  { s3 with
    si := { s3.si with reqs := [], casc := [], incompleteRun := 0, ready := 0, helloAt := 0, lastExec := 0, probe0 := none, probe1 := none },
    bank0 := s3.bank0.touch s.now, bank1 := s3.bank1.touch s.now }

/- ## BI, DI -/

/-- The packets with a frame in the channels to BI. -/
def State.lostKeys (s : State) : List (Nat × Nat) :=
  [0, 1].flatMap fun k =>
    let v := s.chan (admitChan k)
    (v.inFlight ++ v.arrived).filterMap fun i => match i with
      | .admission d => d.commits
      | _ => none

/-- Frames the shared buffer holds: queued, in DRAM, at the ring writer, and on their way to a port. -/
def State.bufferFrames (s : State) : Nat :=
  (s.bi.queues.map fun e => e.2.head.length + e.2.dram.length + e.2.tail.length).sum + s.bi.ringWriter.length
    + (s.chans.map fun e => (e.2.inFlight.filter fun i => match i with
        | .cells _ => true
        | _ => false).length).sum

/-- A port's frames no longer have cells in BI; those of an island that is itself held in reset are lost (R66). -/
def State.unchargePort (s : State) (p : Nat) : State :=
  let m := s.mac p
  let l := m.sched ++ m.ordin
  if s.isl? (portIsl p) = 2 then (s.setMac p { m with sched := [], ordin := [] }).biLost l.length
  else
    let f := fun (d : Desc) => { d with charged := false }
    s.setMac p { m with sched := m.sched.map f, ordin := m.ordin.map f, wire := m.wire.map fun w => { w with desc := f w.desc } }

/-- BI is reset (R66, R304): every frame in the shared buffer is lost and counted; configuration is kept. -/
def State.biReset (s : State) : State :=
  let keys := s.lostKeys
  let lost := fun (d : Desc) => d.commits.any fun k => keys.contains k
  let s1 := (s.ports.foldl (fun s e => s.unchargePort e.1) s).biLost s.bufferFrames
  let sched := s1.rsch.queue.map fun d => { d with charged := false }
  let asks := s1.di.queue.filter fun r => r.who.num != 1 && r.who.num != 2
  let toA := s1.pa.toBi.filter fun d => !lost d
  let toB := s1.pb.toBi.filter fun d => !lost d
  let s2 := { s1 with
    bi := { Buffer.fresh with
      shapers := s1.bi.shapers, mirrors := s1.bi.mirrors, samplers := s1.bi.samplers, ringSeq := s1.bi.ringSeq,
      spillBase := s1.bi.spillBase, spillMib := s1.bi.spillMib },
    rsch := { s1.rsch with queue := sched },
    di := { s1.di with queue := asks, spillPut := [], spillGot := [], spillBad := [] },
    pa := { s1.pa with toBi := toA }, pb := { s1.pb with toBi := toB } }
  let s3 := s2.dropRegs 8 fun off lo =>
    (0x12000 ≤ off && off < 0x14000) || (0x14100 ≤ off && off < 0x141C0 && lo != 0) || (0x20000 ≤ off && off < 0x21000 && lo == 40)
      || (0x21000 ≤ off && off < 0x22980 && lo == 32) || off == 0
  let s4 := s3.wr BI.BUF_STAT.FREE_SHARED (s3.rd BI.BUF_CFG.SHARED_TOTAL)
  keys.foldl (fun s k => s.setMac k.1 ((s.mac k.1).setCopy k.2 fun c => { c with passed := false })) s4

/-- Cells of frames of a spill queue that a test admits. -/
def State.spillCellsOf (s : State) (i : Nat) (p : Spilled → Bool) : Nat :=
  (((s.bq (spillQueue i)).dram.filter p).map fun e => e.desc.cells).sum

/-- Move a spill queue's places in its region back by what is asked for again: the writes that had reached DI, and the
read-back. -/
def State.spillRewind (s : State) (i : Nat) : State :=
  let n := max 1 (s.spillCells i)
  let back := fun (m : List (Nat × Nat)) (k : Nat) => if k = 0 then m else nset m i ((ngetD m i 0 + n - k % n) % n)
  let put := back s.di.spillPut (s.spillCellsOf i (fun e => e.asked && !e.acked) - s.spillsUnderWay i)
  let got := back s.di.spillGot (s.spillCellsOf i fun e => e.reading)
  let q := spillQueue i
  let b := s.bq q
  ({ s with di := { s.di with spillPut := put, spillGot := got } }).setBq q
    { b with dram := b.dram.map fun (e : Spilled) => if e.acked then e else { e with asked := false } }

/-- DI is reset: requests in flight are lost; DRAM content and training results are kept. A search that waited for its
overflow table finds nothing there. Requests of MI's DMA channels and rings wait for the island (notes/assumptions/82.md). -/
def State.diReset (s : State) : State :=
  let ids := s.di.queue.filterMap fun r => match r.who with
    | .ovf id => some id
    | _ => none
  let s1 := (List.range 24).foldl (fun s i => s.spillRewind i) s
  let s2 := { s1 with di := { s1.di with
    queue := s1.di.queue.filter fun r => r.who.waits, rows := [], groupActs := [], reqActs := [], crossed := [], recent := [], refreshes := 0, spillBad := [],
    initRun := false, sliceEnd := 0 } }
  let s3 := s2.wrs [(DI.TRN_STAT.BUSY, 0), (DI.RH_STAT.THROTTLED, 0)]
  ids.foldl (fun s id => s.overflowRead id false) s3

/-- Spill writes and read-backs not acknowledged are asked for again. -/
def State.diReplay (s : State) : State :=
  ((List.range 24).foldl (fun s i =>
    (s.bq (spillQueue i)).dram.foldl (fun s e => if e.reading then s.spillAsk i false e.desc else s) s) s).spillPump

/- ## Reset and replay of one island -/

/-- A loader STAGE that runs stops when PA, PB, SI or RI is reset (R121). -/
def State.stageHit (s : State) (i : Nat) : State :=
  if (i = 3 ∨ i = 5 ∨ i = 6 ∨ i = 7) ∧ s.isSet MI.IMG_STAT.BUSY = true ∧ s.rd MI.IMG_STAT.LAST_CMD = 3 ∧ s.img.error = 0 then
    { s with img := { s.img with error := 0x18, detail := 0xFF } }
  else s

/-- What an island's reset takes. -/
def State.islandLoses (s : State) (i : Nat) : State :=
  match i with
  | 2 => s.tiReset
  | 3 => s.riReset
  | 5 => s.pipeReset 0
  | 6 => s.pipeReset 1
  | 7 => s.siReset
  | 8 => s.biReset
  | 9 => s.diReset
  | _ => s

/-- R62 steps 1 and 2. -/
def State.resetIsland (s : State) (i : Nat) : State :=
  let s1 := ((s.setIsl i 2).pauseIslandReset i).stageHit i
  let s2 := (islandPorts i).foldl (fun s p => s.resetPort p) (s1.islandLoses i)
  s2.flushIsland i

/-- What an island's replay gives back (R62 step 4). -/
def State.replayIsland (s : State) (i : Nat) : State :=
  match i with
  | 5 => s.representCopies 5 (pipeSources 0)
  | 6 => s.representCopies 6 (pipeSources 1)
  | 8 => ((s.representCopies 8 allSources).pumpAdmit 0 s.pa.toBi.length).pumpAdmit 1 s.pb.toBi.length
  | 9 => s.diReplay
  | _ => ((islandPorts i).foldl (fun s p => s.reissuePort p) s).representCopies i (islandPorts i)

/-- Dispatch goes on where no hold is left: time held does not count as waiting (R288). -/
def State.endHolds (s : State) : State :=
  [0, 1].foldl (fun s k =>
    match (s.pipe k).heldSince with
    | some a =>
      if s.dispatchHeld k then s
      else
        let free := s.shiftHeads a s.time fun p => pipeOf p == k && !(s.mac p).paused
        let at_ := s.epoch.pauseAt
        let s1 := free.shiftHeads (min at_ a) at_ fun p => pipeOf p == k && (s.mac p).paused
        s1.setPipe k { s1.pipe k with heldSince := none }
    | none => s) s

/-- What follows when an island runs again: after SI's reset the abandoned packets are replayed (R67), and a cascade
member says DOWN; after RI's the coldstart timer may start. -/
def State.islandBack (s : State) (i : Nat) : State :=
  let s1 :=
    if i = 7 then
      let n := allSources.map fun p => ((s.mac p).copies.filter fun c => c.stage == 0 && c.epoch.isSome).length
      let s0 := (allSources.foldl (fun s p => s.sendHeader p) s).replayCnt (MI.REPLAY_STAT.ING_REPLAYED 7)
        (MI.REPLAY_STAT.ING_REPLAYED_OVF 7) n.sum
      if 1 < s0.casCount then s0.casSend 7 (2 ^ s0.casPos) else s0
    else if i = 3 then s.setUsed.noteQuiet
    else s
  s1.endHolds

end Sys2Proof.Machine
end

