-- ==== Sys2Proof/Machine/Reset.lean ====
section
/-!
DEFINITION. Device reset (04_start_and_modes.md, the tables "Device reset sources" and "What a device reset clears"): one
operation for every source, and the reset sources that the board and software raise (R122 to R126, R144, R145, R491, R564,
R571, R588).
-/
namespace Sys2Proof.Machine

/-- Sources 1 AO_POR, 2 CORE_LOSS and 7 FATAL lose DRAM and the fields kept across the others. -/
def hardSource (code : Nat) : Bool := code == 1 || code == 2 || code == 7

/- ## What was under way -/

/-- The area of flash an operation changes, and what it leaves there when it completes. -/
def State.flashLeaves (s : State) (o : FlashOp) : State :=
  match o with
  | .program _ a l => s.flashProgram a l
  | .erase _ a n => s.flashErase a n
  | .journal h recs => recs.zipIdx.foldl (fun s e => s.flashProgram (s.jnlBase + (h + e.2) % jnlSlots * 64) e.1) s

/-- The content of an area becomes undefined. -/
def State.flashUndefined (s : State) (a n : Nat) : State := (s.flashWrite a (freeBytes s.freeVal n)).tookFree

/-- A flash operation in progress at a device reset: the loss of a rail cuts it and leaves its area undefined (R588); the
flash completes it under any other source. -/
def State.flashAtReset (s : State) (code : Nat) : State :=
  match s.fl.op with
  | none => s
  | some o =>
    if 2 < code then s.flashLeaves o
    else match o with
      | .program _ a l => s.flashUndefined a l.length
      | .erase _ a n => s.flashUndefined a n
      | .journal h recs => recs.zipIdx.foldl (fun s e => s.flashUndefined (s.jnlBase + (h + e.2) % jnlSlots * 64) 64) s

/-- Fuse operations that AO_POR cuts: whether each took is not stated. -/
def State.fusesAtReset (s : State) (code : Nat) : State :=
  if code = 1 then s.fl.fuses.foldl (fun s o => (s.fuseEnd o (s.freeVal % 2 == 1)).tookFree) s else s

/-- A SEAL record still queued is lost, and the seal with it (R538). -/
def State.sealAtReset (s : State) : State := if s.fl.sealWait.isSome then s.sealFail 2 else s

/-- The sources a command of this instant could still raise by a condition of its own: the watchdog, the host, a loss of
lock of MI's PLL, the debugger. -/
def State.resetSources (s : State) : List Nat :=
  [(4, s.isSet MI.WDT_CFG.EN && s.wdtSync.rd MI.WDT_STAT.REMAIN == 0), (6, s.policy 0), (7, bitOf (s.rd MI.PLL_STAT.LOCK) 0),
    (8, s.debugOpen)].filterMap fun e => if e.2 then some e.1 else none

/-- Whether the latest device reset began at this very instant, and source `code` could have been raised then (R145). -/
def State.resetNow (s : State) (code : Nat) : Bool :=
  (match s.boot.resetAt with
    | some (_, n) => n == s.now
    | none => false) && s.boot.sources.contains code

/- ## What is kept -/

/-- Whether a register field outlives a device reset: by its island, offset and lowest bit. -/
def keepsField (code isl off lo : Nat) : Bool :=
  if isl = 1 then
    if code = 1 then
      off < 0x150 && 0x100 ≤ off || off == 0x30 || off == 0x420 || off == 0x428 || (off == 0x198 && lo == 8)
        || (off == 0x200 && (lo == 0 || lo == 4)) || (off == 0x400 && lo == 0)
    else !(0xF0100 ≤ off && off < 0xF0208) && !(off == 0x408 && lo == 32) && !(0x440 ≤ off && off < 0x540)
  else isl == 0 && !hardSource code && (off == 0x4018 || off == 0x4020 || (off == 0x4010 && lo == 48))

/-- The tag at a device reset: its EEPROM is kept; wired claims and their shadow are dropped (R499), and an AO_POR ends the
field session too. -/
def Tag.atReset (g : Tag) (code : Nat) : Tag :=
  if code = 1 then { Tag.fresh with pages := g.pages, gens := g.gens, pendRom := g.pendRom }
  else { g with reads := [], claimedAt := [] }

/-- Every field that a device reset leaves or sets, but for the reset cause. -/
def State.afterReset (s : State) (code : Nat) : State :=
  let keep := s.regs.filter fun e => keepsField code (e.1 / 64 / 0x100000) (e.1 / 64 % 0x100000) (e.1 % 64)
  let retain := !hardSource code && (s.isSet DI.TRN_STAT.INIT_DONE || s.di.selfRefresh)
  let pf := s.isSet AO.PIN_STAT.PF
  let fresh := { RingPort.empty with sampleAt := s.now }
  let s1 : State := { State.reset with
    ringE := fresh, ringW := fresh, regs := keep, now := s.now, resp := s.resp, out := s.out, free := s.free, flash := s.flash, host := s.host,
    pending := s.pending, dram := if retain then s.dram else [],
    di := { Dram.fresh with
      selfRefresh := retain, flips := if retain then s.di.flips else [],
      inits := if retain then s.di.inits else s.di.inits + 1, resetN := retain },
    gw := { State.reset.gw with faSince := if code = 1 then s.now else s.gw.faSince },
    boot := { Boot.fresh true (code == 1) with resetAt := some (s.time, s.now), sources := s.resetSources },
    mg := { Mgmt.fresh s.now (s.mg.resets + 1) with tap := if code = 1 then .idcode else s.mg.tap },
    fl := { Persist.fresh s.fl.density with fuses := if code = 1 then [] else s.fl.fuses, pfHold := pf },
    tag := s.tag.atReset code }
  let s2 := (s1.flag DI.TRN_STAT.SR_RETAINED retain).flag MI.HU_STAT.PF pf
  (if code = 1 then s2.wr AO.TAG_PEND.PEND s.tag.pendRom else s2).wdtReload

/-- The outputs of a device reset: both bypass coils are de-energised (R127) and PHY_RST_N is low (R561). -/
def State.resetPins (s was : State) : State :=
  let low := fun (s : State) (c : Nat) => if was.isSet (coilDrive c) then s.emit (.pin (coilPin c) 0) else s
  (low (low s 0) 1).emit (.pin "PHY_RST_N" 0)

/-- Clear the device for a source. -/
def State.clearDevice (s : State) (code : Nat) : State :=
  let s1 := ((s.flashAtReset code).sealAtReset).fusesAtReset code
  (s1.afterReset code).resetPins s

/-- MI's PLL is enabled once nothing holds the device in reset (R53, R123, R571): RESET_N high, VDD_CORE within
tolerance, and the always-on island out of its own reset. -/
def State.tryStart (s : State) : State :=
  if s.boot.held && !s.boot.aoPor && s.isSet AO.PIN_STAT.RESET_N && s.isSet AO.PIN_STAT.VDD_CORE_OK then
    { s with boot := { s.boot with held := false }, isl := { s.isl with relock := [0] } }
  else s

/-- Whether a source joins the latest device reset: the device is still held in it, or it began at this very instant. -/
def State.joinsReset (s : State) : Bool :=
  s.boot.held || match s.boot.resetAt with
    | some (_, n) => n == s.now
    | none => false

/-- A device reset with source `code` (R125, R145). A source that joins a reset already under way is recorded with the
others, and clears what it clears; AO_POR leaves AO.RST_CAUSE at its reset value. -/
def State.deviceReset (s : State) (code : Nat) : State :=
  if code = 1 then s.clearDevice 1
  else
    let seen := s.orF AO.RST_CAUSE.SEEN (2 ^ (code - 1))
    if s.joinsReset then
      let s1 := seen.wr AO.RST_CAUSE.LAST (min code (s.rd AO.RST_CAUSE.LAST))
      if hardSource code then { s1.clearDevice code with boot := s.boot, isl := s.isl } else s1
    else (((seen.addF AO.RST_CAUSE.RST_CNT 1).wr AO.RST_CAUSE.LAST code).clearDevice code).tryStart

/- ## Sources outside the device (R122, R123, R564, R571) -/

/-- AO_POR: VDD_AO rises, or falls below its monitor threshold. -/
def execAoPor (t : Nat) (s : State) : Host.Outcome State Fault Refusal := .next ((s.begin t).deviceReset 1)

/-- AO_POR_RELEASE: the always-on island leaves its reset. -/
def State.aoRelease (s : State) : State := ({ s with boot := { s.boot with aoPor := false } }).tryStart

def execAoPorRelease (t : Nat) (s : State) : Host.Outcome State Fault Refusal := .next ((s.begin t).aoRelease)

/-- CORE_LOSS: VDD_CORE falls below its monitor threshold, whatever the state of RESET_N. -/
def execCoreLoss (t : Nat) (s : State) : Host.Outcome State Fault Refusal :=
  .next (((s.begin t).wr AO.PIN_STAT.VDD_CORE_OK 0).deviceReset 2)

/-- VDD_CORE_MONITOR_RELEASE: VDD_CORE rises above its release threshold. -/
def execVddCoreMonitorRelease (t : Nat) (s : State) : Host.Outcome State Fault Refusal :=
  .next (((s.begin t).wr AO.PIN_STAT.VDD_CORE_OK 1).tryStart)

/-- PIN_RESET: RESET_N has been low for 10 µs. -/
def execPinReset (t : Nat) (s : State) : Host.Outcome State Fault Refusal :=
  .next (((s.begin t).wr AO.PIN_STAT.RESET_N 0).deviceReset 3)

/-- RESET_RELEASE: RESET_N rises with the rails valid. -/
def execResetRelease (t : Nat) (s : State) : Host.Outcome State Fault Refusal :=
  .next (((s.begin t).wrs [(AO.PIN_STAT.RESET_N, 1), (AO.PIN_STAT.VDD_CORE_OK, 1)]).tryStart)

/- ## Software and debug sources (R144, R473) -/

/-- FW_RESET: only the core's write with KEY = 0xA5. -/
def State.fwReset (s : State) (src : Src) (key : Nat) : State :=
  s.guarded src .store 0 0x58 fun s => if src != .host && key == 0xA5 then s.deviceReset 5 else s.unmapped src 0 0x58

def execFwReset (src : Src) (key t : Nat) (s : State) : Host.Outcome State Fault Refusal := .next ((s.begin t).fwReset src key)

/-- HOST_RESET: only PCI Express's write with KEY = 0xA5, where the SECURITY section permits it. -/
def State.hostReset (s : State) (src : Src) (key : Nat) : State :=
  s.guarded src .store 0 0x58 fun s =>
    if src == .host && key == 0xA5 && (s.policy 0 || s.resetNow 6) then s.deviceReset 6 else s.unmapped src 0 0x58

def execHostReset (src : Src) (key t : Nat) (s : State) : Host.Outcome State Fault Refusal :=
  .next ((s.begin t).hostReset src key)

/-- DEBUG_RESET: a non-debug-module reset, which the debug module gives only while it is reachable (R473). -/
def execDebugReset (t : Nat) (s : State) : Host.Outcome State Fault Refusal :=
  .next (let s0 := s.begin t; if s0.debugOpen || s0.resetNow 8 then s0.deviceReset 8 else s0)

/- ## The watchdog (R491, R492) -/

/-- WATCHDOG_EXPIRY: REMAIN has reached 0. The program counter is evidence, with the privilege mode and DEBUG_HALTED. -/
def State.wdtExpire (s0 : State) (pc : Nat) (machine : Bool) : State :=
  let s := s0.wdtSync
  if (s.isSet MI.WDT_CFG.EN && s.rd MI.WDT_STAT.REMAIN == 0 && !s.boot.held) || s.resetNow 4 then
    let s1 := s.wrs [(MI.WDT_EVID_PC.PC, pc), (MI.WDT_EVID_PC.PRIV, machine.toNat),
      (MI.WDT_EVID_PC.DEBUG_HALTED, s.mg.halted.toNat), (MI.WDT_EVID_PC.VALID, 1)]
    (s1.addF MI.WDT_STAT.EXPIRED_CNT 1).deviceReset 4
  else s

def execWatchdogExpiry (pc : Nat) (machine : Bool) (t : Nat) (s : State) : Host.Outcome State Fault Refusal :=
  .next ((s.begin t).wdtExpire pc machine)

end Sys2Proof.Machine
end

