-- ==== Sys2Proof/Machine/Islands.lean ====
section
/-!
DEFINITION. Islands (02_islands_and_handshakes.md): trips and forced resets (R54, R60, R61, R80, R81, R136, R143), the end of
the reset hold and of replay (R62, R79), disabling and enabling functions (R76, R77, R82, R172, R244, R299), and power-down at
run time (R73, R75).
-/
namespace Sys2Proof.Machine

/-- A body of the full image in force, by section type; empty before a LOAD has passed. -/
def State.body (s : State) (ty : Nat) : Frame := ngetD s.img.bodies ty []

/- ## Trips (R61, R136, R143) -/

/-- Whether an island is on its way back from a trip or forced reset. -/
def State.tripped (s : State) (i : Nat) : Bool := (nget s.isl.tripAt i).isSome

/-- Begin the reset of an island, from where its outage is counted (R62). -/
def State.beginReset (s : State) (i : Nat) : State :=
  (s.resetIsland i).islSet fun l => { l with tripAt := nset l.tripAt i s.now, holdDone := l.holdDone.filter (· != i) }

/-- TRIP_WINDOW in ns, 0 acting as 1 s. -/
def State.tripWindow (s : State) : Nat := max 1 (s.rd MI.SN_CFG.TRIP_WINDOW) * 1000000000

/-- Record the time of a trip: the last 15 of each island are kept. -/
def State.noteTrip (s : State) (i : Nat) : State :=
  s.islSet fun l => { l with tripTimes := nset l.tripTimes i ((s.now :: ngetD l.tripTimes i []).take 15) }

/-- The trips of an island within the preceding TRIP_WINDOW. -/
def State.tripsInWindow (s : State) (i : Nat) : Nat :=
  ((ngetD s.isl.tripTimes i []).filter fun a => decide (s.now < a + s.tripWindow)).length

/-- The two limits on an island's trips: FATAL_LIMIT resets the device (R125), TRIP_LIMIT fires TRIPS. -/
def State.tripLimits (s : State) (i : Nat) : State :=
  let n := s.tripsInWindow i
  let fatal := s.rd MI.SN_CFG.FATAL_LIMIT
  let limit := s.rd MI.SN_CFG.TRIP_LIMIT
  if fatal ≠ 0 ∧ fatal ≤ n then s.deviceReset 7
  else if limit ≠ 0 ∧ limit ≤ n then (s.wr MI.MODE_COND.TRIP_ISLAND i).trigger MI.MODE_COND.TRIG_TRIPS MI.SN_CFG.TRIPS_EN 4
  else s

/-- A trip: recorded, its status source raised, and, where `reset` is set, the island reset. One that a trip holds in reset
already is held afresh from this trip (R62 step 3, R64); a monitor that only reports starts to count again. -/
def State.trip (s : State) (i cause : Nat) (reset : Bool) : State :=
  let s1 := ((s.addOvf (MI.PMON_STAT.TRIP_CNT i) (MI.PMON_STAT.TRIP_OVF i) 1 1).wrs [(MI.PMON_STAT.TRIPPED i, 1),
    (MI.PMON_STAT.LAST_CAUSE i, cause)]).raise (8 * i)
  let s2 :=
    if !reset then s1.islSet fun l => { l with stall := nerase l.stall i }
    else if s.isl? i != 2 then s1.beginReset i
    else if s.tripped i then s1.islSet fun l => { l with tripAt := nset l.tripAt i s.now, holdDone := l.holdDone.filter (· != i) }
    else s1
  (s2.noteTrip i).tripLimits i

/-- TIMEOUT of a progress monitor in ns; 0 acts as 1 µs. -/
def State.monitorNs (s : State) (i : Nat) : Nat := max 1 (s.rd (MI.PMON_CFG.TIMEOUT i)) * 1000

/-- Whether an island's monitor finds it stuck (R60): it holds an item, and its token has not advanced for TIMEOUT. -/
def State.stuck (s : State) (i : Nat) : Bool := (s.items i).1 && s.monitorNs i ≤ ngetD s.isl.stall i 0

/-- PROGRESS_MONITOR_TRIP (R60, R61): an enabled monitor trips for a stuck island that runs or replays, or for one that a
RESET pulse has taken at the same time (R81), whose items the pulse has taken too. -/
def State.monitorTrip (s : State) (i : Nat) : State :=
  if 2 ≤ i ∧ i < 16 ∧ s.isSet (MI.PMON_CFG.EN i) = true
      ∧ ((s.islUp i = true ∧ s.stuck i = true) ∨ (s.isl? i = 2 ∧ nget s.isl.tripAt i = some s.now ∧ s.monitorNs i ≤ ngetD s.isl.stall i 0)) then
    s.trip i 1 (s.isSet (MI.PMON_CFG.ACTION i))
  else s

def execProgressMonitorTrip (isl t : Nat) (s : State) : Host.Outcome State Fault Refusal := .next ((s.begin t).monitorTrip isl)

/-- PLL_UNLOCK (R54, R125): an unlock resets the island whatever its monitor's settings, and MI's resets the device. -/
def State.pllUnlock (s : State) (i : Nat) : State :=
  if i = 0 && s.resetNow 7 then s.deviceReset 7
  else if 16 ≤ i ∨ i = 1 ∨ bitOf (s.rd MI.PLL_STAT.LOCK) i = false then s
  else
    let s1 := (s.orF MI.PLL_STAT.UNLOCK (2 ^ i)).andNotF MI.PLL_STAT.LOCK (2 ^ i)
    if i = 0 then s1.deviceReset 7
    else (s1.islSet fun l => { l with relock := i :: l.relock.erase i }).trip i 2 true

def execPllUnlock (isl t : Nat) (s : State) : Host.Outcome State Fault Refusal := .next ((s.begin t).pllUnlock isl)

/-- A RESET pulse for one island (R62, R81): one that runs or replays is reset; one held in reset is so already. -/
def State.forceReset (s : State) (i : Nat) : State :=
  if s.islUp i then ((s.wr (MI.PMON_STAT.LAST_CAUSE i) 3).raise (8 * i)).beginReset i else s

/-- ISL_CMD_RESET (R78): bit i of the mask is island i, 2 to 15. -/
def execIslCmdReset (src : Src) (mask t : Nat) (s : State) : Host.Outcome State Fault Refusal :=
  .next ((s.begin t).regCmd src 0 0x280 false fun s =>
    (List.range 14).foldl (fun s k => if bitOf mask (k + 2) then s.forceReset (k + 2) else s) s)

/- ## Functions (R76, table "Disabling with work in flight") -/

def funcValid : Func → Bool
  | .port n => isEthPort n
  | .ringPort d => d < 2
  | .juggler k j => k < 2 && j < 16
  | .shaper h => h < 918
  | .spill i => i < 24
  | .gwMap m => m < 4096
  | .dma c => c < 4

/-- The island a function belongs to, and the offset of its control register. -/
def funcIsl : Func → Nat
  | .port n => portIsl n
  | .ringPort _ => 3
  | .juggler k _ => 5 + k
  | .shaper _ => 8
  | .spill _ => 8
  | .gwMap _ => 3
  | .dma _ => 0

def funcEn : Func → Field
  | .port n => portEn n
  | .ringPort d => RI.RING_CTL.EN d
  | .juggler k j => P.JUG_CTL.EN k j
  | .shaper h => BI.SHP_CTL.EN h
  | .spill i => BI.SPILL_CTL.EN i
  | .gwMap m => RI.GW_MAP_CTL.EN m
  | .dma c => MI.DMA_CTL.EN c

def funcDone : Func → Field
  | .port n => portDone n
  | .ringPort d => RI.RING_STAT.DONE d
  | .juggler k j => P.JUG_STAT.DONE k j
  | .shaper h => BI.SHP_STAT.DONE h
  | .spill i => BI.SPILL_STAT.DONE i
  | .gwMap m => RI.GW_MAP_STAT.DONE m
  | .dma c => MI.DMA_STAT.DONE c

/-- Discard what is queued for a port of RI: its queues and lanes, and its places in the scheduled insertion queue and
among the copies for the other direction. -/
def State.dropRing (s : State) (d : Nat) : State :=
  let p := 96 + d
  let s1 := s.flushPort p
  let mine := s1.rsch.queue.filter fun x => x.port == p
  let s2 := (s.ring d).copies.foldl (fun s e =>
    s.countDrop (plainDesc p 7 7 0 101 s.curEpoch 0 0 true e.2) .portDisabled) (s1.discardAll mine)
  (s2.rschSet fun r => { r with queue := r.queue.filter fun x => x.port != p }).setRing d { s2.ring d with copies := [] }

/-- What a function's row discards when it is disabled. -/
def State.discardFor (s : State) (f : Func) : State :=
  match f with
  | .port n => (s.flushPort n).setMac n { (s.flushPort n).mac n with offAt := s.now + 1 }
  | .ringPort d => s.dropRing d
  | .shaper h => s.setShaper h (s.shaper h)
  | _ => s

/-- R244: a disable that would leave no enabled Juggler for ordinary routines, or none for gateway routines while GW_EN = 1. -/
def State.lastJuggler (s : State) (k j : Nat) : Bool :=
  let left := (List.range 16).filter fun i => i != j && s.isSet (P.JUG_CTL.EN k i)
  !(left.any fun i => s.roleAdmits k i false) || (s.gwEn k && !(left.any fun i => s.roleAdmits k i true))

/-- Disable an enabled function: new work stops, and what its row discards is discarded. -/
def State.stopFunc (s : State) (f : Func) : State :=
  if s.isSet (funcEn f) then
    ((s.wr (funcEn f) 0).islSet fun l => { l with draining := f :: l.draining.erase f, heldEnable := l.heldEnable.erase f, deferred := l.deferred.erase f }).discardFor f
  else s.islSet fun l => { l with heldEnable := l.heldEnable.erase f, deferred := l.deferred.erase f }

/-- A write of EN = 0. -/
def State.disable (s : State) (f : Func) : State :=
  match f with
  | .juggler k j => if s.lastJuggler k j then s.wr (P.JUG_CNT_STAT.EN_REFUSED k) 1 else s.stopFunc f
  | _ => s.stopFunc f

/-- FUNCTION_DISABLE. While the function's island is held in reset after a trip, the disable waits for replay (R82). -/
def State.functionDisable (s : State) (src : Src) (f : Func) : State :=
  if !(funcValid f) then s
  else if !s.reaches src .store (funcIsl f) (funcEn f).off then s.emit (.coreFault 7 (regAddr (funcIsl f) (funcEn f).off))
  else if s.isl? (funcIsl f) = 2 ∧ s.tripped (funcIsl f) = true ∧ src ≠ .host then
    s.islSet fun l => { l with deferred := f :: l.deferred.erase f }
  else s.regCmd src (funcIsl f) (funcEn f).off false fun s => s.disable f

def execFunctionDisable (src : Src) (fn : Func) (s : State) : Host.Outcome State Fault Refusal :=
  .next (s.quiet.functionDisable src fn)

/-- Whether a disabled function has nothing left in flight. -/
def State.drained (s : State) (f : Func) : Bool :=
  match f with
  | .port n => (s.mac n).wire.isNone && (s.mac n).copies.isEmpty && s.queuedFor n == 0
  | .ringPort d => (s.mac (96 + d)).wire.isNone && s.queuedFor (96 + d) == 0 && (s.ring d).busyUntil ≤ s.time
      && ((s.ring d).stillHeld s.time).isEmpty
  | .juggler k j => s.busyOf k j == 0
  | .shaper h => !(s.shaper h).active
  | .spill i => (s.bq (spillQueue i)).dram.isEmpty
  | .gwMap m => !s.mapHeld m
  | .dma c => (nget s.mg.dma c).isNone && !s.busWaits (.dma c)

/-- Start a function: EN sets and DONE clears. A DMA channel that halted goes on behind the descriptor it failed on. -/
def State.startFunc (s : State) (f : Func) : State :=
  let s1 := (s.wr (funcEn f) 1).wr (funcDone f) 0
  match f with
  | .shaper h => s1.setShaper h (s1.shaper h)
  | .port n => s1.setMac n { s1.mac n with offAt := 0 }
  | .dma c => if s1.isSet (MI.DMA_STAT.HALTED c) then (s1.wr (MI.DMA_STAT.HALTED c) 0).addF (MI.DMA_STAT.CONS c) 1 else s1
  | _ => s1

/-- Whether PORT_MAP marks a port used. -/
def State.portUsed (s : State) (p : Nat) : Bool :=
  let b := fun i => ((s.body 1).getD i 0).toNat
  if p < 96 then bitOf (b (4 * p)) 0
  else if p < 98 then bitOf (b 0x18C) (p - 96)
  else if p < 100 then bitOf (b (0x180 + 4 * (p - 98))) 0
  else if p = 100 then bitOf (b 0x188) 0
  else false

/-- Whether a write of EN = 1 counts: not to a port PORT_MAP marks unused (R172), nor to a spill queue without a region
(R299). -/
def State.mayEnable (s : State) (f : Func) : Bool :=
  match f with
  | .port n => s.portUsed n
  | .ringPort d => s.portUsed (96 + d)
  | .spill i => ngetD s.bi.spillMib i 0 != 0
  | _ => true

/-- FUNCTION_ENABLE: held while a disable has not completed (R77). -/
def State.functionEnable (s : State) (f : Func) : State :=
  if !(funcValid f) || !s.mayEnable f then s
  else if s.isl.draining.contains f || s.isl.deferred.contains f then
    s.islSet fun l => { l with heldEnable := f :: l.heldEnable.erase f }
  else if s.isSet (funcEn f) then s
  else s.startFunc f

def execFunctionEnable (src : Src) (fn : Func) (s : State) : Host.Outcome State Fault Refusal :=
  .next (s.quiet.regCmd src (funcIsl fn) (funcEn fn).off false fun s => s.functionEnable fn)

/- ## Power-down at run time (R73, R75) -/

/-- The condition of R73, on the PORT_MAP in force and the present island states. -/
def State.mayPowerDown (s : State) (i : Nat) : Bool :=
  let unused := fun l => l.all fun p => !s.portUsed p
  if i = 6 then [13, 14, 15].all (fun j => s.isl? j == 0) && unused [97, 99, 100]
  else (i == 3 || i == 4 || 10 ≤ i) && unused (islandPorts i)

/-- The functions of an island that can be powered down. -/
def State.islandFuncs (s : State) (i : Nat) : List Func :=
  if i = 3 then [.ringPort 0, .ringPort 1] ++ ((List.range 4096).filter fun m => s.isSet (RI.GW_MAP_CTL.EN m)).map .gwMap
  else if i = 6 then (List.range 16).map (.juggler 1)
  else (islandPorts i).map .port

/-- Power down the islands that wait for it and whose functions are all done. -/
def State.settleOff (s : State) : State :=
  s.isl.wantOff.foldl (fun s i =>
    if s.isl? i = 1 ∧ (s.isl.draining ++ s.isl.deferred).all (fun f => (funcIsl f) != i) = true then
      (((s.setIsl i 0).andNotF MI.PLL_STAT.LOCK (2 ^ i)).flushIsland i).islSet fun l => { l with wantOff := l.wantOff.erase i }
    else s) s

/-- Disable a function for an island that powers down: a signal map that no routine holds is done at once. -/
def State.offFunc (s : State) (f : Func) : State :=
  match f with
  | .gwMap m => if s.mapHeld m then s.stopFunc f else (s.wr (RI.GW_MAP_CTL.EN m) 0).wr (RI.GW_MAP_STAT.DONE m) 1
  | _ => s.stopFunc f

/-- OFF for one island: every function of it is disabled by its own row. -/
def State.islandOff (s : State) (i : Nat) : State :=
  if s.mode = 1 ∧ s.mayPowerDown i = true ∧ (s.islUp i || s.tripped i) = true then
    let s1 := (s.islandFuncs i).foldl (fun s f =>
      if s.isl? i = 2 then s.islSet fun l => { l with deferred := f :: l.deferred.erase f } else s.offFunc f) s
    (s1.islSet fun l => { l with wantOff := i :: l.wantOff.erase i }).settleOff
  else s

/-- ISL_CMD_OFF (R75, R78): bit i of the mask is island i, 2 to 15. -/
def execIslCmdOff (src : Src) (mask : Nat) (s : State) : Host.Outcome State Fault Refusal :=
  .next (s.quiet.regCmd src 0 0x280 false fun s =>
    (List.range 14).foldl (fun s k => if bitOf mask (k + 2) then s.islandOff (k + 2) else s) s)

/-- FUNCTION_DISABLE_DONE (R76, R77, R82): the island runs and nothing is left; a held EN = 1 then restarts the function. -/
def State.functionDone (s : State) (f : Func) : State :=
  if s.isl.draining.contains f && s.islRuns (funcIsl f) && s.drained f then
    let s1 := (s.wr (funcDone f) 1).islSet fun l => { l with draining := l.draining.erase f }
    if s1.isl.heldEnable.contains f then
      (s1.islSet fun l => { l with heldEnable := l.heldEnable.erase f }).startFunc f
    else s1.settleOff
  else s

def execFunctionDisableDone (fn : Func) (s : State) : Host.Outcome State Fault Refusal := .next (s.quiet.functionDone fn)

/- ## The end of the hold and of replay (R62, R79, R82) -/

/-- 128 cycles of an island's clock in ns, rounded up (R62 step 3). -/
def holdNs (i : Nat) : Nat := (128 * 1000000000 + islandHz i - 1) / islandHz i

/-- R79: whether an island that tripped within the same 1 µs keeps another's replay back. -/
def State.keepsBack (s : State) (i j : Nat) : Bool :=
  match nget s.isl.tripAt i, nget s.isl.tripAt j with
  | some a, some b =>
    i != j && a < b + 1000 && b < a + 1000
      && ((s.isl? j == 2 && !s.isl.holdDone.contains j) || (j == 7 && (s.isl? 7 == 2 || s.isl? 7 == 3)))
  | _, _ => false

/-- Replay begins in an island (R62 step 4): disables that waited take effect first (R82). -/
def State.beginReplay (s : State) (i : Nat) : State :=
  let s1 := (s.setIsl i 3).islSet fun l => { l with holdDone := l.holdDone.erase i }
  let s2 := (s1.isl.deferred.filter fun f => (funcIsl f) == i).foldl (fun s f => s.disable f) s1
  s2.replayIsland i

/-- Begin every replay that nothing keeps back. -/
def State.tryReplays (s : State) : State :=
  (List.range 16).foldl (fun s i =>
    if s.isl.holdDone.contains i && !s.isl.relock.contains i && !((List.range 16).any fun j => s.keepsBack i j) then s.beginReplay i else s) s

/-- ISLAND_RESET_HOLD_END (R62 step 3): 128 cycles have passed, and the PLL is locked. -/
def State.holdEnd (s : State) (i : Nat) : State :=
  match nget s.isl.tripAt i with
  | some a =>
    if s.isl? i = 2 ∧ a + holdNs i ≤ s.now ∧ s.isl.relock.contains i = false then
      (s.islSet fun l => { l with holdDone := i :: l.holdDone.erase i }).tryReplays
    else s
  | none => s

def execIslandResetHoldEnd (isl t : Nat) (s : State) : Host.Outcome State Fault Refusal := .next ((s.begin t).holdEnd isl)

/-- ISLAND_REPLAY_DONE (R62 step 5): the island runs, its outage is recorded, and its status source is raised again. -/
def State.replayDone (s : State) (i : Nat) : State :=
  match nget s.isl.tripAt i with
  | some a =>
    if s.isl? i = 3 then
      let s1 := ((s.setIsl i 1).wr (MI.PMON_STAT.LAST_OUTAGE i) (min 0xFFFFFFFF (s.now - a))).islSet fun l =>
        { l with tripAt := nerase l.tripAt i }
      let s2 := ((s1.raise (8 * i)).islandBack i).tryReplays
      (if i = 8 then s2.sendScene else s2).settleOff
    else s
  | none => s

def execIslandReplayDone (isl t : Nat) (s : State) : Host.Outcome State Fault Refusal := .next ((s.begin t).replayDone isl)

end Sys2Proof.Machine
end

