-- ==== Sys2Proof/Machine/Bodies.lean ====
section
/-!
DEFINITION. Section bodies of a Drulet image: what they hold as data, and the content checks of their chapters (R73, R74,
R94, R171, R179 to R181, R241 to R243, R254, R255, R276, R297, R298, R359, R416, R417, R461, R462, R469, R474). The checks
read other bodies of the same image, or of the running configuration, from the state they are given.
-/
namespace Sys2Proof.Machine

/-- `n` bytes from `off` on are 0. -/
def zeroAt (b : Frame) (off n : Nat) : Bool := (sliceAt b off n).all (· == 0)

/- ## Epochal bodies as data -/

/-- A node of a PARSE_GRAPH body. -/
def parseNode (r : Frame) : GraphNode :=
  let f := bodyLe r 3 1
  { fieldOffset := bodyLe r 0 1, fieldWidth := bodyLe r 1 1, fieldShift := bodyLe r 2 1,
    markLayer := if bitOf f 0 then some (bitsOf f 1 3) else none, tagKind := bitsOf f 4 2, fragKind := bitsOf f 6 2,
    advMode := bodyLe r 4 1, advScale := bodyLe r 5 1, advConst := bodyLe r 6 1, dflt := bodyLe r 8 1,
    trans := (List.range (bodyLe r 7 1)).map fun t =>
      (bodyLe r (0x10 + 12 * t) 4, bodyLe r (0x14 + 12 * t) 4, bodyLe r (0x18 + 12 * t) 1) }

/-- A PARSE_GRAPH body (R179). -/
def parseGraph (b : Frame) : Graph :=
  ⟨bodyLe b 1 1, (List.range (bodyLe b 0 1)).map fun i => parseNode (sliceAt b (64 + 208 * i) 208)⟩

/-- The non-zero words of a CONTROL_STORE body (R243). -/
def parseStore (b : Frame) : List (Nat × Nat) :=
  ((List.range (b.length / 16)).map fun w => (w, bodyLe b (16 * w) 16)).filter fun e => e.2 != 0

/-- The valid entries of a ROUTINE_TABLE body (R241). -/
def parseRoutines (b : Frame) : RoutineTable :=
  ⟨bodyLe b 0 1 != 0, (List.range 144).filterMap fun e =>
    let o := 0x40 + 16 * e
    let f := bodyLe b (o + 4) 1
    if bitOf f 0 then some (e, ⟨bitsOf (bodyLe b o 2) 0 13, bodyLe b (o + 2) 2, bitOf f 1, bodyLe b (o + 8) 8⟩) else none⟩

/-- The size of a table-update row in a TCAM_CONTENT body, in bytes (R253). -/
def tcamRowBytes (w : Nat) : Nat := if w = 80 then 32 else 64

/-- The rows of a TCAM_CONTENT body; zero records are unlisted. -/
def parseTcam (w : Nat) (b : Frame) : List (Nat × Nat) :=
  let n := tcamRowBytes w
  ((List.range (b.length / n)).map fun i => (i, bodyLe b (n * i) n)).filter fun e => e.2 != 0

/-- The records of a HASH_CONTENT body. -/
def hashRecords (bridge : Bool) (b : Frame) : List Nat :=
  let n := if bridge then 32 else 64
  (List.range (b.length / n)).map fun i => bodyLe b (n * i) n

/-- The hash table that a HASH_CONTENT body builds, unless a record finds no room (R256, R257). -/
def State.buildHash (s : State) (bridge : Bool) (b : Frame) : Option HashTable :=
  (hashRecords bridge b).foldl (fun o r => o.bind fun t =>
    let (k, a, v) := hashRecord bridge r
    if v then t.insert bridge (s.isSet SI.HASH_CFG.OVF_EN) k a s.now else some t) (some ⟨[], []⟩)

/-- Put an epochal section into a bank. -/
def State.putSection (s : State) (b : Bank) (ty inst : Nat) (body : Frame) : Bank :=
  let k := inst - 5
  let p := b.pipe k
  match ty with
  | 0x10 => b.setPipe k { p with graph := parseGraph body }
  | 0x11 => b.setPipe k { p with store := parseStore body, words := body.length / 16 }
  | 0x12 => b.setPipe k { p with routines := parseRoutines body }
  | 0x13 => b.setRows inst (parseTcam (s.sliceWidth inst) body)
  | 0x14 => b.setHash (inst == 0) ((s.buildHash (inst == 0) body).getD ⟨[], []⟩)
  | 0x15 => { b with templates := nset b.templates 0 body }
  | 0x16 => { b with maps := nset b.maps 0 body }
  | 0x17 => { b with modes := nset b.modes inst body }
  | _ => b

/- ## Structural bodies -/

/-- Whether ISLAND_POWER powers an island. -/
def State.powers (s : State) (i : Nat) : Bool := bitOf (bodyLe (s.body 2) 0 2) i

/-- Whether a port lies on islands that ISLAND_POWER powers: its own and its pipeline's. -/
def State.portPowered (s : State) (p : Nat) : Bool := s.powers (portIsl p) && s.powers (5 + pipeOf p)

def allPorts : List Nat := List.range 101

/-- One luminaire port's bytes of PORT_MAP. -/
def lpOk (b : Frame) (k : Nat) : Bool :=
  let dom := bodyLe b (4 * k + 1) 1 % 16
  (dom < 8 || dom == 15) && bodyLe b (4 * k + 2) 1 ≤ 200 && bodyLe b (4 * k + 3) 1 ≤ bodyLe b (4 * k + 2) 1

/-- The ALLOC sum of a domain in PORT_MAP, in 0.1 W. -/
def lpSum (b : Frame) (d : Nat) : Nat :=
  ((List.range 96).map fun k => if bodyLe b (4 * k + 1) 1 % 16 = d then 5 * bodyLe b (4 * k + 2) 1 else 0).sum

/-- PORT_MAP (R171). -/
def State.portMapOk (s : State) (b : Frame) : Bool :=
  b.length == 448 && (List.range 96).all (lpOk b) && (List.range 2).all (fun u => decide (bodyLe b (0x181 + 4 * u) 1 ≤ 2))
    && (List.range 8).all (fun d => decide (lpSum b d ≤ bodyLe b (0x190 + 4 * d) 2))
    && 100 ≤ bodyLe b 0x1B0 2 && 1 ≤ bodyLe b 0x1B2 1 && allPorts.all fun p => !s.portUsed p || s.portPowered p

/-- COUNT of CASCADE_ROLE. -/
def State.roleCount (s : State) : Nat := bodyLe (s.body 5) 1 1

/-- R73: whether an island may be powered down under the PORT_MAP and CASCADE_ROLE of the image. -/
def State.powerDownOk (s : State) (i : Nat) : Bool :=
  let unused := fun l => l.all fun p => !s.portUsed p
  let cx := s.roleCount ≤ 1
  if i = 3 then unused [96, 97]
  else if i = 4 then unused [98, 99, 100] && cx
  else if i = 6 then [13, 14, 15].all (fun j => !s.powers j) && unused [97, 99, 100] && cx
  else 10 ≤ i && unused (islandPorts i)

/-- ISLAND_POWER (R74). -/
def State.islandPowerOk (s : State) (b : Frame) : Bool :=
  b.length == 64 && bitOf (bodyLe b 0 2) 0 && bitOf (bodyLe b 0 2) 1 && zeroAt b 2 62
    && (List.range 14).all fun k => bitOf (bodyLe b 0 2) (k + 2) || s.powerDownOk (k + 2)

/-- A range of DRAM offsets lies within the installed DRAM and outside the training areas (R298, R338). -/
def State.regionOk (s : State) (lo hi : Nat) : Bool :=
  let rank := s.dramSize / (s.rd DI.CFG.RANKS_M1 + 1)
  hi ≤ s.dramSize
    && (List.range (s.rd DI.CFG.RANKS_M1 + 1)).all fun r => hi + 65536 ≤ (r + 1) * rank || (r + 1) * rank ≤ lo

/-- The value that stands for no region. -/
def noRegion : Nat := 0xFFFFFFFFFFFFFFFF

def bpSize (b : Frame) (i : Nat) : Nat := bodyLe b (0x19C0 + 8 * i) 2
def bpMin (b : Frame) (q : Nat) : Nat := bodyLe b (0x40 + 8 * q) 2
def bpShared (b : Frame) : Nat := 65536 - 512 - ((List.range 816).map (bpMin b)).sum

/-- One queue of BUFFER_PART. -/
def State.bpQueueOk (s : State) (b : Frame) (q : Nat) : Bool :=
  let o := 0x40 + 8 * q
  bodyLe b (o + 2) 1 ≤ 9 && bodyLe b (o + 3) 1 ≤ 8 && bodyLe b (o + 4) 1 ≤ 8 && zeroAt b (o + 5) 3
    && (bpMin b q == 0 || q / 8 == 101 || s.portUsed (q / 8))

/-- One spill queue of BUFFER_PART; the Sideshow's port 101 has no PORT_MAP entry and counts as used. -/
def State.bpSpillOk (s : State) (b : Frame) (i : Nat) : Bool :=
  let o := 0x19C0 + 8 * i
  let on := bodyLe b (o + 2) 2
  bpSize b i ≤ 256 && 1 ≤ on && on ≤ 32768 && bodyLe b (o + 4) 2 < on && zeroAt b (o + 6) 2
    && (bpSize b i == 0 || (i != 7 && i != 15 && (16 ≤ i || s.portUsed (98 + i / 8))))

/-- BUFFER_PART (R297, R298). -/
def State.bufferPartOk (s : State) (b : Frame) : Bool :=
  let base := bodyLe b 0 8
  let total := ((List.range 24).map (bpSize b)).sum
  let top := base + total * 0x100000
  b.length == 6784 && zeroAt b 0xA 54 && (base == noRegion || base % 0x100000 == 0) && bodyLe b 8 2 ≤ 4096
    && (List.range 816).all (s.bpQueueOk b) && (List.range 24).all (s.bpSpillOk b)
    && bodyLe b 8 2 + 4096 ≤ bpShared b && total ≤ 256
    && (total == 0 || (base != noRegion && s.regionOk base top
      && (s.di.ovfBase == noRegion || top ≤ s.di.ovfBase || s.di.ovfBase + 0x200000 ≤ base)))

/-- One slice of TCAM_GEOM. -/
def State.sliceOk (s : State) (b : Frame) (n : Nat) : Bool :=
  let o := 0x10 + 16 * n
  let w := bodyLe b o 1
  let cap := [4096, 2048, 1024].getD w 0
  let mode := bodyLe b (o + 2) 1
  w ≤ 2 && bodyLe b (o + 1) 1 ≤ 1 && mode ≤ 1 && bodyLe b (o + 3) 1 ≤ 1 && 1 ≤ bodyLe b (o + 4) 2
    && bodyLe b (o + 4) 2 ≤ cap
    && (mode == 0 || (bodyLe b (o + 6) 2 ≤ bodyLe b (o + 8) 2 && s.roleCount != 1
      && (bodyLe b (o + 1) 1 == 0 || bodyLe b (o + 8) 2 ≤ [80, 160, 320].getD w 0)))

/-- TCAM_GEOM (R276). -/
def State.tcamGeomOk (s : State) (b : Frame) : Bool :=
  let ovf := bodyLe b 0 8
  0x90 ≤ b.length && (List.range 8).all (s.sliceOk b) && (ovf == noRegion || (ovf % 0x200000 == 0 && s.regionOk ovf (ovf + 0x200000)))

/-- CASCADE_ROLE (table "TCAM_GEOM body", what follows R276). -/
def State.cascadeRoleOk (s : State) (b : Frame) : Bool :=
  let n := bodyLe b 1 1
  1 ≤ n && n ≤ 4 && bodyLe b 0 1 < n && (n == 1 || s.portUsed 100)

/-- BOARD (R94). -/
def boardOk (b : Frame) : Bool :=
  let m := bodyLe b 1 1
  b.length == 64 && bodyLe b 0 1 ≤ 1 && (m == 32 || m == 64 || m == 128) && 1 ≤ bodyLe b 2 2 && zeroAt b 8 56

/-- The least CL, CWL, tRCD and tRP of a speed grade in clocks, from JESD79-4 (PRESUMED, notes/assumptions/50.md): its
fastest speed bin. -/
def jedecMin (speed : Nat) : List Nat :=
  [[15, 12, 15, 15], [17, 14, 17, 17], [19, 16, 19, 19], [20, 16, 20, 20]].getD speed []

/-- Rank capacity in KiB (R335). -/
def rankKib (width density : Nat) : Nat := 4 * 2 ^ density * 0x100000 / (if width = 0 then 2 else 4)

/-- DRAM_CFG (R335, R359). -/
def dramCfgOk (b : Frame) : Bool :=
  let w := bodyLe b 0 1
  let r := bodyLe b 1 1
  let d := bodyLe b 2 1
  let sp := bodyLe b 3 1
  let h := bodyLe b 0x16 1
  let cap := rankKib w d * r
  b.length == 64 && w ≤ 1 && (r == 1 || r == 2) && d ≤ 2 && sp ≤ 3 && !(w == 1 && d == 0) && 2 * 0x100000 ≤ cap
    && cap ≤ 16 * 0x100000 && (List.zip [4, 5, 6, 7] (jedecMin sp)).all (fun e => decide (e.2 ≤ bodyLe b e.1 1))
    && [0, 2, 4].all (fun i => bitsOf h i 2 != 3) && 1 ≤ bodyLe b 0x17 1 && bodyLe b 0x18 4 != 0

/-- SECURITY (R474). -/
def securityOk (b : Frame) : Bool :=
  let t := bodyLe b 0x2A 2
  b.length == 64 && bodyLe b 0x28 1 < 32 && zeroAt b 0x29 1 && zeroAt b 0x30 16
    && (List.range 8).all (fun i => !(bitOf (bodyLe b i 1) 1) || bitOf (bodyLe b i 1) 0)
    && 100 ≤ t && bodyLe b 0x2C 2 < t && bodyLe b 0x2E 2 != 0

/- ## Checks of epochal bodies -/

/-- A next value of a node (R180, R181). -/
def nextOk (n v : Nat) : Bool := if 0x80 ≤ v then v != 0xFF else v < n

/-- A node record (R179 to R181). -/
def nodeOk (n : Nat) (r : Frame) : Bool :=
  let w := bodyLe r 1 1
  let sh := bodyLe r 2 1
  let nt := bodyLe r 7 1
  bodyLe r 0 1 ≤ 127 && 1 ≤ w && w ≤ 32 && sh ≤ 31 && w + sh ≤ 32 && bitsOf (bodyLe r 3 1) 4 2 != 3 && bodyLe r 4 1 ≤ 1
    && nt ≤ 16 && zeroAt r 9 7 && nextOk n (bodyLe r 8 1)
    && (List.range 16).all fun t =>
      if t < nt then nextOk n (bodyLe r (0x18 + 12 * t) 1) && zeroAt r (0x19 + 12 * t) 3 else zeroAt r (0x10 + 12 * t) 12

/-- PARSE_GRAPH (R179 to R181). -/
def parseGraphOk (b : Frame) : Bool :=
  let n := bodyLe b 0 1
  1 ≤ n && n ≤ 64 && bodyLe b 1 1 < n && zeroAt b 2 62 && b.length == 64 + 208 * n
    && (List.range n).all fun i => nodeOk n (sliceAt b (64 + 208 * i) 208)

/-- An entry of ROUTINE_TABLE (R242). -/
def routineOk (gw words : Nat) (b : Frame) (e : Nat) : Bool :=
  let o := 0x40 + 16 * e
  let f := bodyLe b (o + 4) 1
  let bud := bodyLe b (o + 2) 2
  let a := bodyLe b (o + 8) 8
  (!bitOf f 1 || (gw == 1 && 129 ≤ e))
    && (!bitOf f 0 || (1 ≤ bud && bud ≤ 256 && bitsOf (bodyLe b o 2) 0 13 < words && actDisposition a != 0 && !actBad a))

/-- ROUTINE_TABLE (R241, R242), beside the CONTROL_STORE it runs with. -/
def routinesOk (words : Nat) (b : Frame) : Bool :=
  let gw := bodyLe b 0 1
  b.length == 2368 && gw ≤ 1 && (List.range 144).all (routineOk gw words b)

/-- TCAM_CONTENT (R253, R254): whole records, within DEPTH, each of which the table-update port would take. -/
def State.tcamContentOk (s : State) (n : Nat) (b : Frame) : Bool :=
  let w := s.sliceWidth n
  let rows := parseTcam w b
  let rec_ := if w = 320 then 128 else tcamRowBytes w
  b.length % rec_ == 0 && b.length / rec_ ≤ s.rd (SI.SLICE_CFG.DEPTH n)
    && rows.all fun e => (s.tcamCheck n e.1 e.2 rows).isNone

/-- HASH_CONTENT (R255 to R257). -/
def State.hashContentOk (s : State) (inst : Nat) (b : Frame) : Bool :=
  let br := inst == 0
  b.length % (if br then 32 else 64) == 0 && (hashRecords br b).all (fun r => (hashReject br r).isNone) && (s.buildHash br b).isSome

/-- R447a: a little-endian field is whole bytes at a byte boundary. -/
def orderOk (le : Bool) (pos w : Nat) : Bool := !le || (w % 8 == 0 && pos % 8 == 0)

/-- A template record (R461, R462). -/
def State.templateOk (s : State) (r : Frame) : Bool :=
  let len := bodyLe r 0 2
  let ports := bodyLe r 4 16
  14 ≤ len && len ≤ 416 && bodyLe r 2 1 ≤ 1 && bodyLe r 3 1 < 8 && ports < 2 ^ 101
    && allPorts.all (fun p => !bitOf ports p || s.portUsed p)
    && bodyLe r 0x14 1 + (if bodyLe r 2 1 = 0 then 24 else 28) ≤ len && bodyLe r 0x15 1 ≤ 2 && bodyLe r 0x16 1 ≤ 1
    && zeroAt r 0x17 1 && zeroAt r 0x1C 4
    && (List.range 16).all fun f =>
      let t := tplField r f
      t.2.1 ≤ 32 && t.2.2 ≤ 3 && (t.2.1 == 0 || (t.1 + t.2.1 ≤ 8 * len && orderOk (bitOf t.2.2 0) t.1 t.2.1))

/-- Whether a pipeline's entry has VALID and GATEWAY. -/
def Bank.gatewayEntry (b : Bank) (k e : Nat) : Bool :=
  match nget (b.pipe k).routines.entries e with
  | some r => r.gateway
  | none => false

/-- A trigger entry of GW_TEMPLATES: a frame trigger names its entry in every pipeline that is powered, and its PIPE is
ignored; the other kinds name theirs in the pipelines of PIPE. -/
def State.triggerOk (s : State) (bk : Bank) (b : Frame) (i : Nat) : Bool :=
  let o := 4 + 4 * i
  let kind := bodyLe b o 1
  let arg := bodyLe b (o + 1) 1
  let pipes := bodyLe b (o + 2) 1
  kind ≤ 4 && (kind == 1 || pipes ≤ 3) && zeroAt b (o + 3) 1 && (kind != 1 || arg < 128) && (kind != 2 || arg < 32)
    && (kind != 1 || (List.range i).all fun j => !(bodyLe b (4 + 4 * j) 1 == 1 && bodyLe b (5 + 4 * j) 1 == arg))
    && (List.range 2).all fun k =>
      !(if kind = 1 then s.powers (5 + k) else kind != 0 && bitOf pipes k) || bk.gatewayEntry k (129 + i)

/-- GW_TEMPLATES (R461, R462). -/
def State.templatesOk (s : State) (bk : Bank) (b : Frame) : Bool :=
  let n := bodyLe b 0 1
  1 ≤ n && n ≤ 127 && b.length == 64 + 512 * n && zeroAt b 1 3 && (List.range 15).all (s.triggerOk bk b)
    && (List.range n).all fun t => s.templateOk (sliceAt b (64 + 512 * t) 512)

/-- A map record (R461, R462). -/
def mapOk (bk : Bank) (r : Frame) : Bool :=
  let src := bodyLe r 0 4
  let dst := bodyLe r 4 4
  let sw := bitsOf src 23 5 + 1
  let sp := bitsOf src 0 12
  let dw := bitsOf dst 23 5 + 1
  let dp := bitsOf dst 0 11
  let sk := bitsOf src 30 2
  let dk := bitsOf dst 30 2
  sk != 3 && dk != 3 && bitsOf src 12 6 == 0 && (sk != 0 || sp + sw ≤ 2048) && (sk != 2 || sp + sw ≤ 3072)
    && orderOk (bitOf src 29) sp sw
    && (if dk = 0 then
        match bk.template? (bitsOf dst 11 7) with
        | some t => (tplField t (bitsOf dst 0 4)).2.1 != 0
        | none => false
      else dp + dw ≤ (if dk = 1 then 2048 else 512) && orderOk (bitOf dst 29) dp dw)

/-- GW_MAPS (R461, R462). -/
def mapsOk (bk : Bank) (b : Frame) : Bool :=
  b.length % 16 == 0 && (List.range (b.length / 16)).all fun m => mapOk bk (sliceAt b (16 * m) 16)

/-- A ring window by itself (R416, R417). -/
def ringWindowOk (b : Frame) (w : RingWindow) : Bool :=
  let o := 0x40 + 32 * w.index
  7 ≤ w.start && w.start ≤ 78124 && w.start + w.length ≤ 78125 && w.kind ≤ 2 && (w.kind == 2 || w.owner ≤ 31)
    && (if w.kind = 2 then 1 ≤ w.slots && w.slots ≤ 8 && 10 ≤ w.length / w.slots else w.slots == 0)
    && (if w.kind = 1 then 1 ≤ w.payloadLen && w.payloadLen ≤ 256 && 2 + (max 64 (12 + w.payloadLen) + 7) / 8 ≤ w.length
      else w.payloadLen == 0)
    && (w.kind != 0 || 10 ≤ w.length) && zeroAt b (o + 0xB) 1 && zeroAt b (o + 0xE) 2 && zeroAt b (o + 0x18) 8

/-- Two half-open ranges meet. -/
def meet (a n b m : Nat) : Bool := a < b + m && b < a + n

/-- Whether no two members of a list are related. -/
def pairwiseFree {α : Type} (r : α → α → Bool) : List α → Bool
  | [] => true
  | x :: l => l.all (fun y => !r x y) && pairwiseFree r l

/-- A port window by itself (R417). -/
def State.portWindowOk (s : State) (w : PortWindow) : Bool :=
  w.ports < 2 ^ 101 && allPorts.all (fun p => !bitOf w.ports p || (s.portUsed p && p != 96 && p != 97))
    && 1000 ≤ w.lengthNs && w.startNs + w.lengthNs ≤ 500000

/-- SCHED_MODE (R416, R417). -/
def State.schedModeOk (s : State) (b : Frame) : Bool :=
  let rn := bodyLe b 1 1
  let pn := bodyLe b 2 1
  b.length == 3136 && rn ≤ 32 && pn ≤ 64 && zeroAt b 3 61 && zeroAt b (0x40 + 32 * rn) (32 * (32 - rn))
    && zeroAt b (0x440 + 32 * pn) (32 * (64 - pn)) && (ringWindows b).all (ringWindowOk b) && (portWindows b).all s.portWindowOk
    && pairwiseFree (fun x y => x.mask &&& y.mask != 0 && meet x.start x.length y.start y.length) (ringWindows b)
    && pairwiseFree (fun x y => x.ports &&& y.ports != 0 && x.mask &&& y.mask != 0
        && meet x.startNs x.lengthNs y.startNs y.lengthNs) (portWindows b)

/-- The content check of one body (row 0x16), with the bank its epochal sections make. -/
def State.contentOk (s : State) (bk : Bank) (ty inst : Nat) (b : Frame) : Bool :=
  match ty with
  | 1 => s.portMapOk b
  | 2 => s.islandPowerOk b
  | 3 => s.bufferPartOk b
  | 4 => s.tcamGeomOk b
  | 5 => s.cascadeRoleOk b
  | 6 => boardOk b
  | 7 => dramCfgOk b
  | 8 => securityOk b
  | 9 => 4 ≤ b.length && b.length % 4 == 0
  | 0x10 => parseGraphOk b
  | 0x11 => b.length % 16 == 0
  | 0x12 => routinesOk (bk.pipe (inst - 5)).words b
  | 0x13 => s.tcamContentOk inst b
  | 0x14 => s.hashContentOk inst b
  | 0x15 => s.templatesOk bk b
  | 0x16 => mapsOk bk b
  | 0x17 => s.schedModeOk b
  | _ => true

end Sys2Proof.Machine
end

