-- ==== Sys2Proof/Machine/ImageForm.lean ====
section
/-!
DEFINITION. The Drulet container (R85 to R99) and the loader's checks in row order (R109): header, directory, section types,
signature block, key and rollback, section CRCs and contents.
-/
namespace Sys2Proof.Machine

/-- Why a check fails: the code of the table "Loader checks and error codes", and the directory index. -/
structure LoadError where
  code : Nat
  detail : Nat
deriving DecidableEq, Repr

/-- The first failure of a list of rows; each row is its code and the entry it names, if it fails. -/
def firstRow : List (Nat × Option Nat) → Option LoadError
  | [] => none
  | (c, some d) :: _ => some ⟨c, d⟩
  | (_, none) :: l => firstRow l

/-- A row that names no entry. -/
def rowOf (bad : Bool) : Option Nat := if bad then some 0xFF else none

/- ## Header and directory (R88, R89) -/

def hdrKind (h : Frame) : Nat := bodyLe h 0xB 1
def hdrCount (h : Frame) : Nat := bodyLe h 0xC 2
def hdrId (h : Frame) : Nat := bodyLe h 0x10 8
def hdrBase (h : Frame) : Nat := bodyLe h 0x18 8
def hdrRollback (h : Frame) : Nat := bodyLe h 0x20 8
def hdrTotal (h : Frame) : Nat := bodyLe h 0x28 4
def hdrSig (h : Frame) : Nat := bodyLe h 0x2C 4

/-- A directory entry with its body. -/
structure Section where
  ty : Nat
  inst : Nat
  off : Nat
  len : Nat
  crc : Nat
  ver : Nat
  body : Frame
deriving DecidableEq, Repr

/-- The sections of an image in directory order. -/
def sectionsOf (img : Frame) : List Section :=
  (List.range (min 64 (hdrCount img))).map fun k =>
    let o := 0x80 + 32 * k
    let off := bodyLe img (o + 4) 4
    let len := bodyLe img (o + 8) 4
    ⟨bodyLe img o 2, bodyLe img (o + 2) 2, off, len, bodyLe img (o + 0xC) 4, bodyLe img (o + 0x10) 2, sliceAt img off len⟩

/-- The body of a section type and INSTANCE in an image, if it is there. -/
def findSection (l : List Section) (ty inst : Nat) : Option Frame :=
  (l.find? fun e => e.ty == ty && e.inst == inst).map (·.body)

/-- The first entry of a list that a test rejects. -/
def firstBad {α : Type} (bad : Nat → α → Bool) (l : List α) : Option Nat := (l.zipIdx.find? fun e => bad e.2 e.1).map (·.2)

/-- Whether an entry breaks R90: its body's place, the order of the directory, or a repeated type and INSTANCE. -/
def dirBad (img : Frame) (l : List Section) (k : Nat) (e : Section) : Bool :=
  e.off < 0x80 + 32 * hdrCount img || hdrSig img < e.off + e.len
    || (l.take k).any fun x => e.off < x.off + x.len || e.off ≤ x.off || (x.ty == e.ty && x.inst == e.inst)

/- ## Section types (R91 to R93) -/

/-- Permitted INSTANCE values and greatest LENGTH of a section type; none for a type the table does not list. -/
def sectionType (ty : Nat) : Option (List Nat × Nat) :=
  match ty with
  | 1 => some ([0], 0x1000)
  | 2 => some ([0], 64)
  | 3 => some ([0], 0x10000)
  | 4 => some ([0], 0x400)
  | 5 => some ([0], 64)
  | 6 => some ([0], 64)
  | 7 => some ([0], 256)
  | 8 => some ([0], 0x400)
  | 9 => some ([0], 15 * 0x100000)
  | 0x10 => some ([5, 6], 0x4000)
  | 0x11 => some ([5, 6], 0x20000)
  | 0x12 => some ([5, 6], 0x2000)
  | 0x13 => some ([0, 1, 2, 3, 4, 5, 6, 7], 0x20000)
  | 0x14 => some ([0, 1], 0x400000)
  | 0x15 => some ([0], 0x10000)
  | 0x16 => some ([0], 0x10000)
  | 0x17 => some ([0, 1, 2, 3], 0x1000)
  | _ => none

/-- Whether an entry's type, INSTANCE, BODY_VER or LENGTH is refused, or it is structural in a partial image. -/
def typeBad (part : Bool) (e : Section) : Bool :=
  e.ver != 1 || (e.ty < 0x8000 && match sectionType e.ty with
    | none => true
    | some (insts, len) => !insts.contains e.inst || len < e.len || (part && e.ty < 0x10))

/-- Whether the image's ISLAND_POWER powers PB down. -/
def pbDown (l : List Section) : Bool :=
  match findSection l 2 0 with
  | some b => !bitOf (bodyLe b 0 2) 6
  | none => false

/-- Whether a ROUTINE_TABLE of the image enables the gateway. -/
def gatewayOn (l : List Section) : Bool :=
  [5, 6].any fun k => match findSection l 0x12 k with
    | some b => bodyLe b 0 1 != 0
    | none => false

/-- Whether a section that a full image needs is missing. -/
def sectionMissing (l : List Section) : Bool :=
  let has := fun (ty inst : Nat) => (findSection l ty inst).isSome
  !((List.range 9).all fun k => has (k + 1) 0) || !([0x10, 0x11, 0x12].all fun ty => has ty 5 && (pbDown l || has ty 6))
    || (gatewayOn l && !(has 0x15 0 && has 0x16 0))

/-- Row 0x0D: an entry of a refused type; then a missing section; then a PB section while PB is powered down (R92). -/
def typeRow (part : Bool) (l : List Section) : Option Nat :=
  match firstBad (fun _ e => typeBad part e) l with
  | some k => some k
  | none =>
    if part then none
    else if sectionMissing l then some 0xFF
    else firstBad (fun _ e => pbDown l && e.inst == 6 && 0x10 ≤ e.ty && e.ty ≤ 0x12) l

/-- Schedule modes that R104 protects: the running one, and the agreed target of the next matrix boundary. -/
def State.modesBusy (s : State) : List Nat :=
  if s.ringUsed then s.runningMode :: s.rsch.agreed.toList else [s.runningMode, s.rd BI.SCH_LOCAL.MODE]

/-- Row 0x0E: a SCHED_MODE section of a protected mode in a partial image. -/
def State.modeRow (s : State) (part : Bool) (l : List Section) : Option Nat :=
  if part then firstBad (fun _ e => e.ty == 0x17 && s.modesBusy.contains e.inst) l else none

/- ## Signature block (R95 to R98) -/

def sigKey (g : Frame) : Frame := sliceAt g 8 32
def sigDigest (g : Frame) : Frame := sliceAt g 0x28 32
def sigBytes (g : Frame) : Frame := sliceAt g 0x48 64
def sigAlgo (g : Frame) : Nat := bodyLe g 4 2

def sealed' (s : State) : Bool := s.isSet AO.FUSE_STAT.FIELD_SEAL

/-- Neither key slot is programmed, nor partial, and FIELD_SEAL is not blown (R97, R115). -/
def State.unpinned (s : State) : Bool :=
  !sealed' s && (List.range 2).all fun k => !s.isSet (fuseProg k) && !s.isSet (fusePartial k)

/-- The key use of an image (MI.IMG_STAT.KEY_USED), unless its key is refused (row 0x12). -/
def State.keyUse (s : State) (g : Frame) : Option Nat :=
  if sigAlgo g = 0 then some 3
  else if s.keyPinned (sigKey g) 0 then some 0
  else if s.keyPinned (sigKey g) 1 then some 1
  else if s.unpinned then some 2
  else none

/- ## The checks -/

/-- The state as it would stand with an image's structural bodies in force; a partial image has none. -/
def State.withBodies (s : State) (l : List Section) : State :=
  let st := (l.filter fun e => e.ty < 9).map fun e => (e.ty, e.body)
  if st.isEmpty then s else { s with img := { s.img with bodies := st.foldl (fun m e => nset m e.1 e.2) [] } }

/-- The registers that TCAM_GEOM, CASCADE_ROLE and DRAM_CFG set (08_search.md, 11_dram.md), which other bodies' checks
read. -/
def State.setGeometry (s : State) : State :=
  let g := s.body 4
  let r := s.body 5
  let d := s.body 7
  let s1 := (List.range 8).foldl (fun s n =>
    let o := 0x10 + 16 * n
    s.wrs [(SI.SLICE_CFG.WIDTH n, bodyLe g o 1), (SI.SLICE_CFG.TYPE n, bodyLe g (o + 1) 1),
      (SI.SLICE_CFG.MODE n, bodyLe g (o + 2) 1), (SI.SLICE_CFG.LOST n, bodyLe g (o + 3) 1),
      (SI.SLICE_CFG.DEPTH n, bodyLe g (o + 4) 2), (SI.SLICE_CFG.RANGE_LO n, bodyLe g (o + 6) 2),
      (SI.SLICE_CFG.RANGE_HI n, bodyLe g (o + 8) 2)]) s
  let ovf := bodyLe g 0 8
  let s2 := s1.wrs [(SI.HASH_CFG.OVF_EN, if ovf = noRegion then 0 else 1), (SI.CAS_CFG.POSITION, bodyLe r 0 1),
    (SI.CAS_CFG.COUNT, bodyLe r 1 1), (DI.CFG.CAPACITY, rankKib (bodyLe d 0 1) (bodyLe d 2 1) * bodyLe d 1 1),
    (DI.CFG.SPEED, bodyLe d 3 1), (DI.CFG.DENSITY, bodyLe d 2 1), (DI.CFG.WIDTH, bodyLe d 0 1),
    (DI.CFG.RANKS_M1, bodyLe d 1 1 - 1)]
  s2.diSet fun x => { x with ovfBase := ovf }

/-- The state against which an image's contents are checked: a full image with its own structure, a partial image with the
running one (R102). -/
def State.checkState (s : State) (part : Bool) (l : List Section) : State := if part then s else (s.withBodies l).setGeometry

/-- The bank an image's epochal sections make: over an empty bank, or over the current one (R102). -/
def State.checkBank (s : State) (part : Bool) (l : List Section) : Bank :=
  let sc := s.checkState part l
  l.foldl (fun b e => sc.putSection b e.ty e.inst e.body) (if part then s.bank s.curBank else Bank.empty)

/-- The stepping of MI.CHIP_ID as MIN_STEP encodes it. -/
def State.stepping (s : State) : Nat := 16 * s.rd MI.CHIP_ID.STEP_LETTER + s.rd MI.CHIP_ID.STEP_NUMBER

/-- Whether a section's first byte breaks R469: FIRMWARE starts at a multiple of 4. The source is 64-byte aligned (row 0x04),
so that the flash address is a multiple of 4 just where OFFSET is. -/
def firmwareBad (e : Section) : Bool := e.ty == 9 && e.off % 4 != 0

/-- Rows 0x05 to 0x16 on the bytes available at the source; `part` says which kind of image the command takes. -/
def State.imageRows (s : State) (part : Bool) (avail : Nat) (img : Frame) : List (Nat × Option Nat) :=
  let l := sectionsOf img
  let sig := hdrSig img
  let g := sliceAt img sig 144
  let n := hdrCount img
  let sc := s.checkState part l
  let bk := s.checkBank part l
  [(0x05, rowOf (bodyLe img 0 4 != 0x544C5244)),
   (0x06, rowOf (bodyLe img 4 2 != 1 || bodyLe img 6 2 != 0x80)),
   (0x07, rowOf (crc32c (img.take 0x7C) != bodyLe img 0x7C 4)),
   (0x08, rowOf (bodyLe img 8 2 != s.rd MI.CHIP_ID.PART || s.stepping < bodyLe img 0xA 1)),
   (0x09, rowOf (avail < hdrTotal img || 0x1000000 < hdrTotal img || sig + 144 != hdrTotal img || sig % 64 != 0)),
   (0x0A, rowOf (hdrKind img != (if part then 2 else 1) || hdrId img == 0 || (part && hdrId img == hdrBase img))),
   (0x0B, rowOf (part && hdrBase img != s.rd MI.IMG_CONFIG_ID.ID)),
   (0x0C, if crc32c (sliceAt img 0x80 (32 * n)) ≠ bodyLe img 0x40 4 ∨ n = 0 ∨ 64 < n then some 0xFF
          else firstBad (dirBad img l) l),
   (0x0D, typeRow part l),
   (0x0E, s.modeRow part l),
   (0x0F, rowOf (bodyLe g 0 4 != 0x47495344 || crc32c (g.take 0x88) != bodyLe g 0x88 4 || 1 < sigAlgo g
      || (sigAlgo g == 0 && !zeroAt g 8 128))),
   (0x10, rowOf (sigAlgo g == 1 && sigDigest g != sha256 (img.take sig))),
   (0x11, rowOf (sigAlgo g == 0 && sealed' s)),
   (0x12, rowOf (s.keyUse g).isNone),
   (0x13, rowOf (sigAlgo g == 1 && !edVerify (sigKey g) (sigDigest g) (sigBytes g))),
   (0x14, rowOf (hdrRollback img < s.rd AO.ROLLBACK_CNT.COUNT)),
   (0x15, firstBad (fun _ e => crc32c e.body != e.crc) l),
   (0x16, firstBad (fun _ e => !sc.contentOk bk e.ty e.inst e.body || firmwareBad e) l)]

/-- The first failure of an image. -/
def State.imageError (s : State) (part : Bool) (avail : Nat) (img : Frame) : Option LoadError :=
  firstRow (s.imageRows part avail img)

/- ## The source (R109 row 0x04) -/

/-- The flash execute-in-place window. -/
def inFlash (a n : Nat) : Bool := 0x20000000 ≤ a && a + n ≤ 0x28000000

/-- Read source bytes. -/
def State.sourceRead (s : State) (a n : Nat) : Frame :=
  if inFlash a n then s.flashRead (a - 0x20000000) n else s.coreRead a n

/-- The bytes available at a source of length `len`: the image's TOTAL_LEN of them, at least a header; a source shorter than
the header ends in zeros. -/
def State.sourceImage (s : State) (a len : Nat) : Frame :=
  let h := s.sourceRead a (min len 128)
  let h' := h ++ List.replicate (128 - h.length) 0
  if len < hdrTotal h' ∨ 0x1000000 < hdrTotal h' ∨ hdrTotal h' < 128 then h' else s.sourceRead a (hdrTotal h')

end Sys2Proof.Machine
end

