-- ==== Sys2Proof/Machine/Image.lean ====
section
/-!
DEFINITION. The image loader (R100 to R110, R117, R118, R120): its commands, and what a LOAD and a STAGE apply.
-/
namespace Sys2Proof.Machine

def State.imgSet (s : State) (f : Loader → Loader) : State := { s with img := f s.img }

/- ## The command (R109, R117) -/

/-- Whether a command takes a partial image: STAGE does, and CHECK follows the header's KIND. -/
def takesPartial (cmd : Nat) (img : Frame) : Bool := cmd == 3 || (cmd == 1 && hdrKind img == 2)

/-- Row 0x01: the command in the current mode. -/
def State.modeBars (s : State) (cmd : Nat) : Bool :=
  s.mode == 3 || (cmd == 2 && s.mode != 0) || (3 ≤ cmd && s.mode == 0)

/-- Row 0x03: STAGE while the staged epoch holds changes; COMMIT or ABORT without a partial image that waits for it. -/
def State.stagedBars (s : State) (cmd : Nat) : Bool :=
  (cmd == 3 && s.somethingStaged) || (3 < cmd && !s.isSet MI.IMG_STAT.STAGED) || (cmd == 4 && s.isSet MI.EPOCH_STAT.PENDING)

/-- Row 0x04. -/
def sourceBars (cmd a len : Nat) : Bool :=
  a % 64 != 0 || !(inSram a len || inFlash a len || inFixedDram a len) || (cmd == 2 && !inFlash a len)

/-- The SCHED_MODE section of the staged image that R104 protects, by its directory index. -/
def State.stagedBusy (s : State) : Option Nat := (s.img.stagedModes.find? fun e => s.modesBusy.contains e.2).map (·.1)

/-- The checks of a command, on the bytes it finds at the source. -/
def State.commandError (s : State) (cmd : Nat) (img : Frame) : Option LoadError :=
  if s.modeBars cmd then some ⟨0x01, 0xFF⟩
  else if cmd = 3 ∧ s.isSet MI.EPOCH_STAT.RETIRING_VALID = true then some ⟨0x02, 0xFF⟩
  else if s.stagedBars cmd then some ⟨0x03, 0xFF⟩
  else if cmd = 4 then s.stagedBusy.map fun k => ⟨0x0E, k⟩
  else if cmd = 5 then none
  else if sourceBars cmd (s.rd MI.IMG_SRC.ADDR) (s.rd MI.IMG_SRC.LEN) then some ⟨0x04, 0xFF⟩
  else s.imageError (takesPartial cmd img) (s.rd MI.IMG_SRC.LEN) img

/-- The hand-over of COMMIT and ABORT to the epoch logic (R105). -/
def State.handOver (s : State) (cmd : Nat) : State :=
  if cmd = 4 then s.acceptCommit true else if cmd = 5 then s.abortStaged else s

/-- Start a command: its first pass, or its hand-over. -/
def State.imgStart (s : State) (cmd : Nat) : State :=
  let a := s.rd MI.IMG_SRC.ADDR
  let img := if cmd ≤ 3 then s.sourceImage a (s.rd MI.IMG_SRC.LEN) else []
  let e := s.commandError cmd img
  let s1 := (s.wrs [(MI.IMG_STAT.BUSY, 1), (MI.IMG_STAT.LAST_CMD, cmd)]).imgSet fun l =>
    { l with
      error := (e.map (·.code)).getD 0, detail := (e.map (·.detail)).getD 0xFF, addr := a, source := img,
      keyUsed := (s.keyUse (sliceAt img (hdrSig img) 144)).getD 0 }
  if e.isNone then s1.handOver cmd else s1

/-- A write of MI.IMG_CMD with one bit set (R117). -/
def State.imgCmd (s : State) (src : Src) (cmd : Nat) : State :=
  s.regCmd src 0 0x408 false fun s => if s.isSet MI.IMG_STAT.BUSY then s.wr MI.IMG_STAT.CMD_DROPPED 1 else s.imgStart cmd

def execImgCheck (src : Src) (t : Nat) (s : State) : Host.Outcome State Fault Refusal := .next ((s.begin t).imgCmd src 1)
def execImgLoad (src : Src) (t : Nat) (s : State) : Host.Outcome State Fault Refusal := .next ((s.begin t).imgCmd src 2)
def execImgStage (src : Src) (t : Nat) (s : State) : Host.Outcome State Fault Refusal := .next ((s.begin t).imgCmd src 3)
def execImgCommit (src : Src) (t : Nat) (s : State) : Host.Outcome State Fault Refusal := .next ((s.begin t).imgCmd src 4)
def execImgAbort (src : Src) (t : Nat) (s : State) : Host.Outcome State Fault Refusal := .next ((s.begin t).imgCmd src 5)

/- ## What a LOAD applies (R100, R107, R299, R359, R375, R510, R513) -/

/-- BUFFER_PART into the registers of BI (R280, R299). -/
def State.setPartition (s : State) : State :=
  let b := s.body 3
  let s1 := (List.range 816).foldl (fun s q =>
    let o := 0x40 + 8 * q
    s.wrs [(BI.Q_CFG.MIN_CELLS q, bodyLe b o 2), (BI.Q_CFG.ALPHA q, bodyLe b (o + 2) 1), (BI.Q_CFG.YEL q, bodyLe b (o + 3) 1),
      (BI.Q_CFG.RED q, bodyLe b (o + 4) 1)]) s
  let s2 := (List.range 24).foldl (fun s i =>
    let o := 0x19C0 + 8 * i
    s.wrs [(BI.SPILL_CTL.ON i, bodyLe b (o + 2) 2), (BI.SPILL_CTL.OFF i, bodyLe b (o + 4) 2),
      (BI.SPILL_CTL.EN i, if bodyLe b o 2 = 0 then 0 else 1)]) s1
  let used := ((List.range 816).map fun q => s2.sharedUse q (s2.rd (BI.Q_OCC.CELLS q))).sum + s2.rd BI.BUF_STAT.STAGE_USED
  let s3 := s2.wrs [(BI.BUF_CFG.STAGE_MAX, bodyLe b 8 2), (BI.BUF_CFG.SHARED_TOTAL, bpShared b),
    (BI.BUF_STAT.FREE_SHARED, bpShared b - used)]
  { s3 with bi := { s3.bi with spillBase := bodyLe b 0 8,
                               spillMib := ((List.range 24).map fun i => (i, bpSize b i)).filter fun e => e.2 != 0 } }

/-- DRAM_CFG into the registers of DI, beside its geometry (R359). -/
def State.setDramCfg (s : State) : State :=
  let d := s.body 7
  let h := bodyLe d 0x16 1
  (s.wrs [(DI.REQ_CFG.HINT 1, bitsOf h 0 2), (DI.REQ_CFG.HINT 2, bitsOf h 2 2), (DI.REQ_CFG.HINT 3, bitsOf h 4 2),
    (DI.RH_CFG.ACT_RATE, bodyLe d 0x17 1), (DI.RH_CFG.THRESHOLD, bodyLe d 0x18 4)]).diSet fun x =>
      { x with mrInit := (List.range 7).map fun k => bodyLe d (8 + 2 * k) 2 }

/-- BOARD: the holdover rates of its oscillator (R375), the hold-up figures (R513), the usable flash (R510). -/
def State.setBoard (s : State) : State :=
  let b := s.body 6
  let ocxo := bodyLe b 0 1 == 1
  let m := bodyLe b 1 1
  s.wrs [(TI.HOLD_CFG.RATE_PS, if ocxo then 0x45 else 0xADA), (TI.HOLD_CFG.SCHED_SPEC_NS, 0xFA),
    (TI.HOLD_CFG.WALL_SPEC_NS, if ocxo then 0x3E8 else 0x2710), (MI.HU_CFG.CAP_UF, bodyLe b 2 2),
    (MI.HU_CFG.VMIN_MV, bodyLe b 4 2), (MI.HU_CFG.SCALE, bodyLe b 6 2),
    (MI.FLASH_STAT.SIZE_MIB, min s.fl.density m), (MI.FLASH_STAT.SIZE_MISMATCH, if s.fl.density = m then 0 else 1)]

/-- Every structural body that stands in `img.bodies`, into its island. SECURITY's policy bits are in force from here on;
its PMP and watchdog values are loaded at the jump (R473). -/
def State.applyStructure (s : State) : State :=
  let s1 := s.setGeometry.setPartition.setDramCfg.setBoard
  ({ s1 with mg := { s1.mg with security := s1.body 8 } }).flag MI.MODE_COND.RING_USED (s1.powers 3)

/-- Power the islands that ISLAND_POWER powers and are not up, and power down the others (R53, R128 step 5). -/
def State.powerIslands (s : State) : State :=
  (List.range 14).foldl (fun s k =>
    let i := k + 2
    if s.powers i then
      if s.isl? i = 0 ∨ (s.isl? i = 2 ∧ s.tripped i = false ∧ bitOf (s.rd MI.PLL_STAT.LOCK) i = false) then
        (s.setIsl i 2).islSet fun l => { l with relock := i :: l.relock.erase i }
      else s
    else if s.isl? i = 0 then s
    else (((s.setIsl i 0).andNotF MI.PLL_STAT.LOCK (2 ^ i)).flushIsland i).islSet fun l =>
      { l with relock := l.relock.erase i, tripAt := nerase l.tripAt i, holdDone := l.holdDone.erase i }) s

/-- The epochal sections as epoch 0, in both banks (R100). -/
def State.applyEpoch0 (s : State) (b : Bank) : State :=
  let s1 := { s with bank0 := b, bank1 := b, epoch := EpochCtl.fresh }
  ((s1.wrs [(MI.EPOCH_STAT.CURRENT, 0), (MI.EPOCH_STAT.STAGED, 1), (MI.EPOCH_STAT.RETIRING, 0),
    (MI.EPOCH_STAT.RETIRING_VALID, 0), (MI.EPOCH_STAT.PENDING, 0), (MI.EPOCH_STAT.STAGED_DIRTY, 0),
    (MI.EPOCH_STAT.SWITCH_WAIT, 0)]).gatewayBits).recalcOcc

/-- A LOAD that has passed: structure first, then epoch 0, then the identifiers. -/
def State.applyFull (s : State) (img : Frame) : State :=
  let l := sectionsOf img
  let id := hdrId img
  let s1 := ((s.withBodies l).applyStructure).applyEpoch0 (s.checkBank false l)
  let s2 := s1.wrs [(MI.IMG_CONFIG_ID.ID, id), (MI.IMG_FULL_ID.ID, id), (MI.IMG_STAGED_ID.ID, 0),
    (MI.IMG_ROLLBACK.VER, hdrRollback img), (MI.IMG_STAT.KEY_USED, s.img.keyUsed), (MI.IMG_STAT.DRIFT, 0),
    (MI.IMG_STAT.STAGED, 0), (MI.MODE_COND.IMAGE_OK, 1)]
  { s2 with boot := { s2.boot with recovery := false }, img := { s2.img with stagedModes := [] } }

/-- A LOAD whose second pass has failed (R110): the structural state is undefined, and Rigging cannot be left until a LOAD
passes. -/
def State.structureLost (s : State) : State :=
  let sizes : List (Nat × Nat) := [(1, 448), (3, 6784), (4, 144), (5, 2), (6, 64), (7, 64), (8, 64)]
  let free : List (Nat × Frame) := sizes.zipIdx.map fun e => (e.1.1, freeBytes (Config.freeValue (s.free + e.2)) e.1.2)
  let bodies' := free.foldl (fun m e => nset m e.1 e.2) s.img.bodies
  let s1 := { s with free := s.free + 7, img := { s.img with bodies := bodies' } }
  s1.applyStructure.wr MI.MODE_COND.IMAGE_OK 0

/- ## What a STAGE applies (R102 to R104) -/

/-- The table number R212 compares, or 100 more than the schedule mode of a SCHED_MODE section. -/
def sectionTable (e : Section) : Option Nat :=
  if e.ty = 0x13 then some e.inst
  else if e.ty = 0x14 then some (8 + e.inst)
  else if e.ty = 0x17 then some (100 + e.inst)
  else none

/-- A STAGE that has passed: each section replaces its own in the staged bank. -/
def State.applyStage (s : State) (img : Frame) : State :=
  let l := sectionsOf img
  let s1 := (s.setBank (!s.curBank) (s.checkBank true l)).wrs [(MI.EPOCH_STAT.STAGED_DIRTY, 1), (MI.IMG_STAT.STAGED, 1),
    (MI.IMG_STAGED_ID.ID, hdrId img)]
  let s2 := s1.ectl fun c =>
    { c with imageTables := l.filterMap sectionTable, bridgeReplaced := l.any fun e => e.ty == 0x14 && e.inst == 0 }
  s2.imgSet fun x => { x with stagedModes := (l.zipIdx.filter fun e => e.1.ty == 0x17).map fun e => (e.2, e.1.inst) }

/- ## Completion (R110, R118) -/

/-- The second pass reads other bytes than the first. -/
def State.sourceChanged (s : State) : Bool := s.sourceRead s.img.addr s.img.source.length != s.img.source

/-- The row that refuses a STAGE now (R103): its mode, an epoch that retires, a staged epoch that holds changes. -/
def State.stageBars (s : State) : Nat :=
  if s.modeBars 3 then 0x01
  else if s.isSet MI.EPOCH_STAT.RETIRING_VALID then 0x02
  else if s.somethingStaged then 0x03
  else 0

/-- The second pass of LOAD or STAGE, and its outcome: the code of a failure, or 0. What R103 refuses and came in between
fails a STAGE too. -/
def State.secondPass (s : State) (cmd : Nat) : Nat × State :=
  if s.img.error ≠ 0 then (s.img.error, s)
  else if cmd = 2 then if s.sourceChanged then (0x17, s.structureLost) else (0, s.applyFull s.img.source)
  else if cmd = 3 then
    if s.sourceChanged then (0x17, s) else if s.stageBars ≠ 0 then (s.stageBars, s) else (0, s.applyStage s.img.source)
  else (0, s)

/-- A command completes: ERROR, DETAIL and PASS change and BUSY falls. -/
def State.imgFinish (s : State) : Nat × State :=
  let r := s.secondPass (s.rd MI.IMG_STAT.LAST_CMD)
  let s1 := r.2.wrs [(MI.IMG_STAT.ERROR, r.1), (MI.IMG_STAT.DETAIL, if s.img.error ≠ 0 then s.img.detail else 0xFF),
    (MI.IMG_STAT.PASS, if r.1 = 0 then 1 else 0), (MI.IMG_STAT.BUSY, 0)]
  (r.1, if r.1 = 0 then s1 else s1.wr MI.IMG_STAT.ERR 1)

end Sys2Proof.Machine
end

