-- ==== Sys2Proof/Machine/Boot.lean ====
section
/-!
DEFINITION. The boot ROM: start-up and slot choice (R53, R128 to R130, R473, R519, R533, R534), recovery (R484), the end of
a loader command (R118), the replay engine (R131, R527 to R531), and the core's accesses to SRAM (R470).
-/
namespace Sys2Proof.Machine

def State.bootSet (s : State) (f : Boot → Boot) : State := { s with boot := f s.boot }

def State.phase (s : State) : Nat := s.rd MI.BOOT_STAT.PHASE

/- ## Slot choice (R533, R534) -/

/-- The boot record of sector BR0 or BR1. -/
def State.bootRec (s : State) (k : Nat) : Frame := s.flashRead (s.bootBase + 0x1000 * k) 72

/-- A valid boot record. -/
def bootRecGood (r : Frame) : Bool := bodyLe r 0 4 == 0x5242534B && bodyLe r 0x3C 4 == crc32c (r.take 0x3C)

/-- The sector whose record governs: of two valid records the newer GEN. -/
def State.governing (s : State) : Option Nat :=
  match bootRecGood (s.bootRec 0), bootRecGood (s.bootRec 1) with
  | true, true => some (if serialNewer (bodyLe (s.bootRec 1) 4 4) (bodyLe (s.bootRec 0) 4 4) then 1 else 0)
  | true, false => some 0
  | false, true => some 1
  | false, false => none

/-- What the boot ROM loads first: the slot, the TRIES byte to program if that LOAD passes, and whether a trial is used up. -/
structure SlotChoice where
  slot : Nat
  tries : Option Nat
  exhausted : Bool
deriving DecidableEq, Repr

/-- The choice a boot record makes; `base` is its flash offset. -/
def recChoice (base : Nat) (r : Frame) : SlotChoice :=
  let pref := if bodyLe r 8 1 = 1 then 1 else 0
  let n := ((sliceAt r 0x40 8).filter (· == 0)).length
  if bodyLe r 9 1 ≠ 1 then ⟨pref, none, false⟩
  else if n < min 8 (bodyLe r 0xA 1) then ⟨pref, some (base + 0x40 + n), false⟩
  else ⟨1 - pref, none, true⟩

/-- The slot choice of R534; without a valid record slot A. -/
def State.slotChoice (s : State) : SlotChoice :=
  match s.governing with
  | none => ⟨0, none, false⟩
  | some k => recChoice (s.bootBase + 0x1000 * k) (s.bootRec k)

/-- Issue LOAD for a slot. -/
def State.bootLoad (s : State) (slot : Nat) (fallback : Bool) (tries : Option Nat) : State :=
  ((s.wrs [(MI.IMG_SRC.ADDR, 0x20000000 + slot * s.slotSize), (MI.IMG_SRC.LEN, s.slotSize),
    (MI.BOOT_STAT.PHASE, 2 + slot)]).bootSet fun b => { b with loading := true, fallback := fallback, tries := tries }).imgStart 2

/-- Both LOADs have failed, or there is no flash to load from (R130). -/
def State.enterRecovery (s : State) : State :=
  (s.wr MI.BOOT_STAT.PHASE 4).bootSet fun b => { b with recovery := true, loading := false }

/-- Step 3 of R128. A fitted flash below 32 MiB holds no layout of R511. -/
def State.bootSlots (s : State) : State :=
  if s.fl.density < 32 then s.enterRecovery
  else
    let c := s.slotChoice
    (if c.exhausted then s.wr MI.RPLY_STAT.TRIAL_EXHAUSTED 1 else s).bootLoad c.slot false c.tries

/-- Steps 1 and 2 of R128: fuses, flash discovery, the journal head. -/
def State.bootStart (s : State) : State :=
  (s.wrs [(MI.BOOT_STAT.PHASE, 1), (MI.FLASH_STAT.SIZE_MIB, min s.fl.density 128)]).locateHead.bootSlots

/- ## The jump (R128 step 6, R473, R486) -/

/-- Once every powered island's PLL has locked: SECURITY's PMP and watchdog values, and the jump to firmware. -/
def State.tryJump (s : State) : State :=
  if s.boot.jump && s.isl.relock.isEmpty then
    let b := s.body 8
    let s1 := s.wrs [(MI.WDT_CFG.TIMEOUT_MS, bodyLe b 0x2A 2), (MI.WDT_CFG.WARN_MS, bodyLe b 0x2C 2),
      (MI.WDT_CFG.GRACE_MS, bodyLe b 0x2E 2), (MI.BOOT_STAT.PHASE, 5)]
    let cfg := (List.range 8).map fun i => bodyLe b i 1
    let addr := (List.range 8).map fun i => bodyLe b (8 + 4 * i) 4
    (((s1.mgSet fun m => { m with pmpCfg := cfg, pmpAddr := addr, icache := true }).wdtReload).bootSet fun x => { x with jump := false }).emit
      (.pin "PHY_RST_N" 1)
  else s

/-- Steps 5 and 6 of R128. -/
def State.bootUp (s : State) : State := (s.powerIslands.bootSet fun b => { b with jump := true }).tryJump

/-- The slot the boot ROM has just loaded. -/
def State.bootSlot (s : State) : Nat := s.phase - 2

/-- The boot ROM's LOAD has passed. A trial is marked first; one that cannot be stored makes the other slot the preferred
one (R534). -/
def State.bootPassed (s : State) : State :=
  match s.boot.tries with
  | none => s.bootUp
  | some a =>
    let h := if s.pfRefuses then (false, s) else s.holdup .program
    if h.1 then
      (({ h.2 with fl := { h.2.fl with wantTries := some a } }).flashPump.wr MI.RPLY_STAT.IN_TRIAL 1).bootUp
    else (h.2.wr MI.RPLY_STAT.TRIES_DEFERRED 1).bootLoad (1 - s.bootSlot) true none

/-- The boot ROM's LOAD has ended with a code; it services the watchdog between passes. -/
def State.bootDone (s : State) (e : Nat) : State :=
  let s1 := (s.bootSet fun b => { b with loading := false }).wdtReload
  if e = 0 then s1.bootPassed
  else if s.boot.fallback then s1.enterRecovery
  else s1.bootLoad (1 - s.bootSlot) true none

/- ## PLL lock (R53) -/

/-- MI's PLL has locked: the core executes the boot ROM. -/
def State.miLocks (s : State) : State :=
  ((s.orF MI.PLL_STAT.LOCK 1).islSet fun l => { l with relock := l.relock.erase 0 }).bootStart

/-- Another island's PLL has locked: released on its way up; after an unlock R62 goes on. TI's schedule time starts at 0, and
is valid at once where no ring port is used (R363). -/
def State.islandLocks (s : State) (i : Nat) : State :=
  let s1 := (s.orF MI.PLL_STAT.LOCK (2 ^ i)).islSet fun l => { l with relock := l.relock.erase i }
  let s2 := if s1.isl? i = 2 ∧ s1.tripped i = false then (s1.setIsl i 1).wr (MI.PMON_CFG.EN i) 1 else s1
  let s3 := if i = 2 ∧ s1.tripped 2 = false then
      let s' := s2.wr TI.SCHED.TIME 0
      if s'.ringUsed then s' else s'.validate
    else s2
  s3.tryJump

def State.pllLock (s : State) (i : Nat) : State :=
  if s.boot.held || !s.isl.relock.contains i then s else if i = 0 then s.miLocks else s.islandLocks i

def execPllLock (isl t : Nat) (s : State) : Host.Outcome State Fault Refusal := .next ((s.begin t).pllLock isl)

/- ## The recovery doorbell (R130, R484) -/

/-- H2C_SET: for the host. Bit 31 has the boot ROM in recovery retry steps 3 to 6. -/
def State.h2c (s : State) (src : Src) (mask : Nat) : State :=
  if src ≠ .host then s.guarded src .store 0 0x7F00 fun s => s.unmapped src 0 0x7F00
  else
    let s1 := (s.counted 0).ring! MI.MBX_H2C_BELL.BELL 1 mask
    if bitOf mask 31 && s1.boot.recovery && s1.phase == 4 && !s1.isSet MI.IMG_STAT.BUSY then s1.bootSlots else s1

def execH2cSet (src : Src) (mask t : Nat) (s : State) : Host.Outcome State Fault Refusal := .next ((s.begin t).h2c src mask)

/- ## The replay engine (R131, R527 to R531) -/

def commitFullId (r : Frame) : Nat := bodyLe r 0x10 8
def commitPrev (r : Frame) : Nat := bodyLe r 0x20 4
def commitKind (r : Frame) : Nat := bodyLe r 0x24 1
def commitOff (r : Frame) : Nat := bodyLe r 0x28 4
def commitLen (r : Frame) : Nat := bodyLe r 0x2C 4
def commitCrc (r : Frame) : Nat := bodyLe r 0x30 4

/-- Follow PREV_SEQ back to a record with PREV_SEQ = 0; oldest first. None where the chain breaks (R528). -/
def chainBack (l : List Frame) : Nat → Frame → List Frame → Option (List Frame)
  | 0, _, _ => none
  | n + 1, r, acc =>
    if commitPrev r = 0 then some (r :: acc)
    else match l.find? fun x => recSeq x == commitPrev r with
      | some p => chainBack l n p (r :: acc)
      | none => none

/-- The chain of the running full image (R527): none where it breaks, empty where no record names the image. -/
def State.replayChain (s : State) : Option (List Frame) :=
  let l := s.jnlRecords.filter fun r => recType r == 1
  match (l.filter fun r => commitFullId r == s.rd MI.IMG_FULL_ID.ID).getLast? with
  | some r => chainBack l l.length r []
  | none => some []

/-- The end of epoch replay: the wait for schedule time begins (R529). -/
def State.replayWait (s : State) : State := s.bootSet fun b => { b with chain := [], staging := false, waitAt := some s.now }

/-- An object cannot be applied: nothing further is (R528). -/
def State.replayPartial (s : State) : State := (s.wr MI.RPLY_STAT.EPOCH_PARTIAL 1).replayWait

/-- One record of the chain has been applied. -/
def State.replayTook (s : State) : State :=
  (s.addF MI.RPLY_STAT.EPOCHS 1).bootSet fun b => { b with chain := b.chain.drop 1, staging := false }

/-- The commit the engine has made takes ALIGN 0. -/
def State.alignNow (s : State) : State :=
  if s.isSet MI.EPOCH_STAT.PENDING then s.ectl fun c => { c with align := 0, reached := true } else s

/-- The body of an object of the configuration store, if its header, its CRCs and its record agree (R525, R528). -/
def State.storeObject (s : State) (r : Frame) : Option Frame :=
  let a := s.storeBase + commitOff r
  let h := s.flashRead a 25
  let d := s.flashRead (a + 64) (commitLen r)
  if commitOff r % 64 = 0 ∧ commitOff r + 64 + commitLen r ≤ s.storeSize ∧ bodyLe h 0 4 = 0x4F43534B
      ∧ bodyLe h 21 4 = crc32c (h.take 21) ∧ bodyLe h 4 1 = commitKind r ∧ bodyLe h 5 4 = commitLen r
      ∧ bodyLe h 9 4 = commitCrc r ∧ crc32c d = commitCrc r then some d
  else none

/-- An operation of a table set (R525): the value of MI.TUPD_ADDR, then 64 bytes of MI.TUPD_DATA. -/
def setOp (d : Frame) (k : Nat) : Nat × BatchOp :=
  let a := bodyLe d (72 * k) 8
  let f := fun (g : Field) => bitsOf a g.lo g.width
  (f MI.TUPD_ADDR.OP, ⟨f MI.TUPD_ADDR.OP == 2, f MI.TUPD_ADDR.TABLE, f MI.TUPD_ADDR.INDEX, bodyLe d (72 * k + 8) 64⟩)

/-- Apply operations in order to a bank; none as soon as one is refused. -/
def State.applySet (s : State) (b : Bank) (l : List (Nat × BatchOp)) : Option Bank :=
  l.foldl (fun r e => r.bind fun b =>
    if (e.1 ≠ 1 ∧ e.1 ≠ 2) ∨ 9 < e.2.table ∨ s.tupdIndexOk e.2.table e.2.index = false then none
    else match s.applyEntry b e.2 with
      | .ok b' => some b'
      | .error _ => none) (some b)

/-- KIND 1: EPOCH-mode table updates and their commit. -/
def State.replaySet (s : State) (d : Frame) : State :=
  let l := (List.range (d.length / 72)).map (setOp d)
  if s.stageRefusal ≠ 0 ∨ s.somethingStaged = true ∨ d.length % 72 ≠ 0 ∨ l.isEmpty = true then s.replayPartial
  else
    match s.applySet (s.bank (!s.curBank)) l with
    | none => s.replayPartial
    | some b =>
      (((s.setBank (!s.curBank) b).wr MI.EPOCH_STAT.STAGED_DIRTY 1).acceptCommit false).alignNow.replayTook

/-- KIND 0: STAGE from the object's core address. -/
def State.replayImage (s : State) (r : Frame) : State :=
  ((s.wrs [(MI.IMG_SRC.ADDR, 0x20000000 + s.storeBase + commitOff r + 64), (MI.IMG_SRC.LEN, commitLen r)]).bootSet fun b =>
    { b with staging := true }).imgStart 3

/-- Whether the engine waits for the loader, for a switch or for a retirement. -/
def State.replayBusy (s : State) : Bool :=
  s.boot.staging || s.isSet MI.IMG_STAT.BUSY || s.isSet MI.EPOCH_STAT.PENDING || s.isSet MI.EPOCH_STAT.RETIRING_VALID

/-- The next thing the engine does about epochs. -/
def State.replayNext (s : State) : State :=
  if s.phase ≠ 6 ∨ s.boot.waitAt.isSome = true ∨ s.replayBusy = true then s
  else
    match s.boot.chain with
    | [] => s.replayWait
    | r :: _ =>
      match s.storeObject r with
      | none => s.replayPartial
      | some d => if commitKind r = 0 then s.replayImage r else if commitKind r = 1 then s.replaySet d else s.replayPartial

/-- The engine's loader command has ended: COMMIT follows STAGE. -/
def State.replayLoaded (s : State) (cmd e : Nat) : State :=
  if cmd = 3 ∧ e = 0 then (s.imgStart 4).alignNow
  else if cmd = 4 ∧ e = 0 then s.replayTook
  else (if cmd = 4 ∧ s.somethingStaged = true then s.abortStaged else s).replayPartial

/-- REPLAY_ENTRY (R131, R472, R531): only in machine mode; a0 is the answer. Every call counts as the first. -/
def State.replayCall (s : State) (user : Bool) : State :=
  if user || !s.pmpAllows .coreM .fetch 0x100 4 then s.emit (.coreFault 1 0x100)
  else
    let s1 := s.bootSet fun b => { b with called := true }
    if s.mode ≠ 1 then s1.answer 1
    else if s.boot.called then s1.answer 2
    else if s.fl.head.isNone then s1.answer 3
    else
      let s2 := (s1.wr MI.BOOT_STAT.PHASE 6).importAll
      match s2.replayChain with
      | some l => (s2.bootSet fun b => { b with chain := l }).replayNext
      | none => (s2.wr MI.RPLY_STAT.CHAIN_BROKEN 1).replayNext

def execReplayEntry (user : Bool) (t : Nat) (s : State) : Host.Outcome State Fault Refusal := .next ((s.begin t).replayCall user)

/-- The engine returns with success. -/
def State.replayEnd (s : State) : State :=
  ((s.wrs [(MI.MODE_COND.REPLAY_DONE, 1), (MI.BOOT_STAT.PHASE, 7)]).bootSet fun b => { b with waitAt := none }).answer 0

/- ## Poran replay (R529, R530) -/

def cmdTpl (r : Frame) : Nat := bodyLe r 0x10 1
def cmdPorts (r : Frame) : List Nat := indicesOf 101 (bitOf (bodyLe r 0x12 13))
def cmdPayload (r : Frame) : Frame := sliceAt r 0x1F 24
def cmdTime (r : Frame) : Nat := bodyLe r 8 8
def cmdAct (r : Frame) : Nat := beNat (sliceAt (cmdPayload r) 16 8)
def cmdGroup (r : Frame) : Nat := beNat (sliceAt (cmdPayload r) 4 2)

/-- A late command: counted, and pushed into MI.RPLY_LATE while that has room. -/
def State.replayLate (s : State) (r : Frame) : State :=
  let e := 2 ^ 63 + cmdGroup r * 2 ^ 47 + recSeq r
  let s1 := s.addF MI.RPLY_STAT.LATE 1
  { s1 with fl := { s1.fl with late := (s1.fl.late ++ [e]).take 64 } }

/-- The frame of a re-issued command: its template of the current epoch with the stored payload and REPLAY = 1. -/
def replayFrame (tpl r : Frame) : Frame :=
  let p := cmdPayload r
  let l := (patchAt (sliceAt tpl 0x60 416) (bodyLe tpl 0x14 1) (patchAt p 1 [(p.getD 1 0) ||| 1])).take (bodyLe tpl 0 2)
  withFcs (l ++ List.replicate (60 - l.length) 0)

/-- Re-issue a command (R530). -/
def State.reissueCmd (s : State) (r : Frame) : State :=
  match ((s.bank s.curBank).template? (cmdTpl r)).filter fun t => bodyLe t 2 1 == 0 with
  | some t =>
    let f := replayFrame t r
    ((cmdPorts r).foldl (fun s p => s.admitFrame (plainDesc p 6 6 0 101 s.curEpoch 0 s.time true f)) s).addF MI.RPLY_STAT.REISSUED 1
  | none => (s.addF MI.RPLY_STAT.TPL_MISSING 1).replayLate r

/-- Judge one journaled command against schedule time (R529). -/
def State.judgeCmd (s : State) (r : Frame) : State :=
  if s.time < cmdTime r then s.addF MI.RPLY_STAT.SCALE_SKIP 1
  else if s.rd MI.RPLY_CFG.LOOKBACK_S * 1000000000 < s.time - cmdTime r then s
  else if s.time < cmdAct r then s.reissueCmd r
  else s.replayLate r

/-- PORAN_REPLAY: SETTLE_MS after schedule time is valid. -/
def State.poranReplay (s : State) : State :=
  match s.boot.waitAt with
  | some a =>
    if s.phase = 6 ∧ s.isSet TI.SEL_STAT.SCHED_VALID = true
        ∧ max a s.ti.validAt + s.rd MI.RPLY_CFG.SETTLE_MS * 1000000 ≤ s.now then
      let l := if s.isSet MI.RPLY_CFG.PORAN_EN then s.jnlRecords.filter fun r => recType r == 2 else []
      (l.foldl (fun s r => s.judgeCmd r) s).replayEnd
    else s
  | none => s

def execPoranReplay (t : Nat) (s : State) : Host.Outcome State Fault Refusal := .next ((s.begin t).poranReplay)

/-- REPLAY_SCHED_TIMEOUT: SCHED_WAIT_S without valid schedule time. -/
def State.replayTimeout (s : State) : State :=
  match s.boot.waitAt with
  | some a =>
    if s.phase = 6 ∧ s.isSet TI.SEL_STAT.SCHED_VALID = false ∧ a + s.rd MI.RPLY_CFG.SCHED_WAIT_S * 1000000000 ≤ s.now then
      (s.wr MI.RPLY_STAT.SCHED_TIMEOUT 1).replayEnd
    else s
  | none => s

def execReplaySchedTimeout (t : Nat) (s : State) : Host.Outcome State Fault Refusal := .next ((s.begin t).replayTimeout)

/-- EPOCH_RETIRE: the replay engine waits for it before its next commit (R527). -/
def execEpochRetire (t : Nat) (s : State) : Host.Outcome State Fault Refusal := .next ((s.begin t).epochRetire.replayNext)

/- ## The end of a loader command (R101, R118, R128) -/

/-- The slot a flash address lies in. -/
def slotOf (a size : Nat) : Option Nat :=
  if a < 0x20000000 then none
  else if a < 0x20000000 + size then some 0
  else if a < 0x20000000 + 2 * size then some 1
  else none

/-- The outcome of a LOAD in MI.BOOT_STAT; `size` is the slot size it started with. -/
def State.noteSlot (s : State) (size e : Nat) : State :=
  let k := slotOf s.img.addr size
  let s1 := match k with
    | some 0 => s.wr MI.BOOT_STAT.SLOT_A_ERR e
    | some _ => s.wr MI.BOOT_STAT.SLOT_B_ERR e
    | none => s
  if e = 0 then s1.wr MI.BOOT_STAT.SLOT_LOADED (k.getD 3)
  else match k with
    | some 0 => s1.wr MI.BOOT_STAT.SLOT_A_FAIL 1
    | some _ => s1.wr MI.BOOT_STAT.SLOT_B_FAIL 1
    | none => s1

/-- What follows from the end of a loader command: the boot ROM or the replay engine goes on, or the islands that firmware's
LOAD powers come up. -/
def State.afterLoader (s : State) (cmd e : Nat) : State :=
  if s.boot.loading then s.bootDone e
  else if s.boot.staging then s.replayLoaded cmd e
  else if cmd = 2 ∧ e = 0 then s.powerIslands
  else s

/-- IMG_CMD_DONE. -/
def State.imgCmdDone (s : State) : State :=
  if !s.isSet MI.IMG_STAT.BUSY then s
  else
    let cmd := s.rd MI.IMG_STAT.LAST_CMD
    let r := s.imgFinish
    ((if cmd = 2 then r.2.noteSlot s.slotSize r.1 else r.2).afterLoader cmd r.1).replayNext

def execImgCmdDone (t : Nat) (s : State) : Host.Outcome State Fault Refusal := .next ((s.begin t).imgCmdDone)

/- ## Core accesses to SRAM (R470, R471, R473) -/

/-- What an uncorrectable word does to an access. -/
def State.sramFails (s : State) (k : AccKind) (a : Nat) : State :=
  if k = .fetch then (s.sramCheck .uncorrectable).deviceReset 7
  else (s.sramCheck .uncorrectable).emit (.coreFault (faultCauseOf k) a)

/-- What an AMO of a funct5 stores, from the word read and its operand: the RISC-V A extension; none for a funct5 that is
no AMO. -/
def amoResult (op old v : Nat) : Option Nat :=
  let x := signedOf 32 old
  let y := signedOf 32 v
  match op with
  | 0x00 => some ((old + v) % 2 ^ 32)
  | 0x01 => some v
  | 0x04 => some (old ^^^ v)
  | 0x08 => some (old ||| v)
  | 0x0C => some (old &&& v)
  | 0x10 => some (if x < y then old else v)
  | 0x14 => some (if x < y then v else old)
  | 0x18 => some (min old v)
  | 0x1C => some (max old v)
  | _ => none

/-- LR.W, SC.W and the AMOs on a word of SRAM, which answer what goes into rd (R466). SC stores, and answers 0, only while
the reservation stands; every SC ends it. -/
def State.sramAtomic (s : State) (k : AccKind) (a v : Nat) : State :=
  let old := leNat (s.sramRead (a - 0x10000000) 4)
  match k with
  | .lr => (s.mgSet fun m => { m with reservation := some a }).answer old
  | .sc =>
    let s1 := s.mgSet fun m => { m with reservation := none }
    if s.mg.reservation = some a then (s1.sramWrite (a - 0x10000000) (leBytes 4 v)).answer 0 else s1.answer 1
  | .amo op =>
    match amoResult op old (v % 2 ^ 32) with
    | some w => (s.sramWrite (a - 0x10000000) (leBytes 4 w)).answer old
    | none => s.emit (.coreFault 2 a)
  | _ => s

/-- CORE_SRAM_ACCESS: a misaligned access takes its exception; a store of whole words reads nothing; LR, SC and the AMOs are
of one word. -/
def State.coreSram (s : State) (src : Src) (k : AccKind) (a n data : Nat) (ecc : Ecc) : State :=
  if src = .host ∨ inSram a n = false then s
  else if accMisaligned k a n then s.emit (.coreFault (misCauseOf k) a)
  else if !s.pmpAllows src k a n then s.emit (.coreFault (faultCauseOf k) a)
  else if k = .store ∧ n % 4 = 0 then s.sramWrite (a - 0x10000000) (leBytes n data)
  else if ecc = .uncorrectable ∧ k ≠ .sc then s.sramFails k a
  else if isAtomic k then if n = 4 then (if k = .sc then s else s.sramCheck ecc).sramAtomic k a data else s.emit (.coreFault 2 a)
  else if k = .store then (s.sramCheck ecc).sramWrite (a - 0x10000000) (leBytes n data)
  else (s.sramCheck ecc).answer (leNat (s.sramRead (a - 0x10000000) n))

def execCoreSramAccess (src : Src) (kind : AccKind) (addr size data : Nat) (ecc : Ecc) (t : Nat) (s : State) :
    Host.Outcome State Fault Refusal :=
  .next ((s.begin t).coreSram src kind addr size data ecc)

end Sys2Proof.Machine
end

