-- ==== Sys2Proof/Machine/Modes.lean ====
section
/-!
DEFINITION. Operating modes (R40 to R43, R51, R132 to R135, R139 to R141, R146 to R148, R172): requests, completion points, the
effects of each transition, and the bypass sequence.
-/
namespace Sys2Proof.Machine

/- ## Conditions (table "Transition conditions and effects") -/

/-- Permitted transitions (R42). -/
def permitted (a b : Nat) : Bool := (a, b) ∈ [(0, 1), (1, 2), (1, 0), (2, 1), (2, 3), (3, 1)]

/-- The first code of a list of conditions that does not hold. -/
def firstUnmet (l : List (Nat × Bool)) : Option Nat := (l.find? fun e => !e.2).map (·.1)

/-- Why a permitted request is refused at once. -/
def State.unmetNow (s : State) (target : Nat) : Option Nat :=
  let idle := !s.isSet MI.IMG_STAT.BUSY
  if s.mode = 0 then
    firstUnmet [(3, s.isSet MI.MODE_COND.IMAGE_OK), (4, s.isSet MI.MODE_COND.DRAM_READY), (5, s.islandsOk), (0xA, idle)]
  else if s.mode = 1 ∧ target = 2 then
    firstUnmet [(6, s.isSet MI.MODE_COND.REPLAY_DONE), (4, s.isSet MI.MODE_COND.DRAM_READY), (9, !s.trigLatched)]
  else if s.mode = 1 then firstUnmet [(0xA, idle)]
  else none

/-- The conditions of Rehearsal to Performance that do not hold at its completion point. -/
def State.unmetAtBoundary (s : State) : List Nat :=
  ([(6, s.isSet MI.MODE_COND.REPLAY_DONE), (5, s.islandsOk), (8, s.isSet MI.MODE_COND.TIME_OK), (9, !s.trigLatched),
    (7, !s.ringUsed || s.isSet MI.MODE_COND.JOIN_OK)].filter fun e => !e.2).map (·.1)

/- ## Effects -/

/-- PORT_CTL, RING_CTL and the power coordinator as PORT_MAP gives them (R172). -/
def State.applyPortMap (s : State) : State :=
  let b := s.body 1
  let ports := (List.range 96) ++ [98, 99, 100]
  let s1 := ports.foldl (fun s p => if s.portUsed p then s.startFunc (.port p) else s.wr (portEn p) 0) s
  let s2 := [0, 1].foldl (fun s d => if s.portUsed (96 + d) then s.startFunc (.ringPort d) else s.wr (RI.RING_CTL.EN d) 0) s1
  let flags := fun (p : Nat) => if p < 96 then bodyLe b (4 * p) 1 else bodyLe b (0x180 + 4 * (p - 98)) 1
  let s3 := ((List.range 96) ++ [98, 99]).foldl (fun (s : State) p =>
    s.wrs [(portHonour p, bitsOf (flags p) 1 1), (portFlush p, bitsOf (flags p) 2 1)]) s2
  let s4 := (List.range 96).foldl (fun s k =>
    s.wrs [(BI.PWR_PORT.DOMAIN k, bodyLe b (4 * k + 1) 1), (BI.PWR_PORT.ALLOC k, 5 * bodyLe b (4 * k + 2) 1),
      (BI.PWR_PORT.P_FULL k, 5 * bodyLe b (4 * k + 3) 1)]) s3
  let sum := fun (d : Nat) => (((List.range 96).filter fun k => bodyLe b (4 * k + 1) 1 % 16 == d).map fun k =>
    5 * bodyLe b (4 * k + 2) 1).sum
  let s5 := (List.range 8).foldl (fun s d =>
    s.wrs [(BI.PWR_DOM.BUDGET d, bodyLe b (0x190 + 4 * d) 2), (BI.PWR_DOM.RISE_MAX d, bodyLe b (0x192 + 4 * d) 2),
      (BI.PWR_DOM.SUM_ALLOC d, sum d)]) s4
  s5.wrs [(BI.PWR_CFG.STEP, bodyLe b 0x1B0 2), (BI.PWR_CFG.HORIZON, bodyLe b 0x1B2 1)]

/-- The optics are powered and the opening sequence begins (R139). -/
def State.openRing (s : State) : State :=
  (if s.ringUsed then s.rschSet fun r => { r with opticsAt := some s.now } else s).noteQuiet

/-- The mode leaves Performance for Rehearsal: class-7 windows shut, insertion stops and the gateway halts. -/
def State.leavePerformance (s : State) : State := s.closeClass7.haltGateway

/-- MODE changes, and the effects of the transition follow. -/
def State.completeMode (s : State) (dest : Nat) : State :=
  let was := s.mode
  let s1 := s.endTransit.setMode dest 1
  if dest = 1 then
    if was = 3 then s.leaveNet
    else (if was = 0 then s1.applyPortMap.openRing.closeClass7 else s1.leavePerformance).burstOnEntry
  else if dest = 0 then
    (s1.rschSet fun r => { r with opticsAt := none, heldEAt := none, releasedWAt := none }).noteQuiet
  else s1

/-- The transition to Rigging starts: every port is disabled, and BYPASS_HOLD_W is de-energised (R140). -/
def State.startClosing (s : State) : State :=
  let ports := (List.range 96) ++ [98, 99, 100]
  let s1 := ports.foldl (fun s p => s.stopFunc (.port p)) s
  let s2 := [0, 1].foldl (fun s d => s.stopFunc (.ringPort d)) s1
  (s2.rschSet fun r => { r with opticsAt := none, heldEAt := none, releasedWAt := some s2.now }).setCoil 1 false

/- ## Requests (R132, R134, R141) -/

/-- Accept a request that waits. -/
def State.acceptMode (s : State) (target : Nat) : State :=
  let s1 := (s.wrs [(MI.MODE_STAT.IN_TRANSIT, 1), (MI.MODE_REQ_STAT.PENDING, 1)]).bootSet fun b =>
    { b with goal := target, reqAt := s.time, bounds := 0 }
  if target = 0 then s1.startClosing else s1

/-- Judge a request. -/
def State.judgeMode (s : State) (target : Nat) : State :=
  if s.isSet MI.MODE_STAT.IN_TRANSIT then s.refuseMode 2
  else if !permitted s.mode target then s.refuseMode 1
  else
    match s.unmetNow target with
    | some c => s.refuseMode c
    | none =>
      if target = 3 then s.enterSafetyNet 1
      else if s.mode = 0 ∨ s.mode = 3 then s.completeMode target
      else s.acceptMode target

/-- MODE_REQ_GO. -/
def State.modeReq (s : State) (src : Src) (target : Nat) : State :=
  s.regCmd src 0 0x30 false fun s =>
    (s.wrs [(MI.MODE_REQ.TARGET, target), (MI.MODE_REQ_STAT.LAST_TARGET, target)]).judgeMode (target % 4)

def execModeReqGo (src : Src) (target t : Nat) (s : State) : Host.Outcome State Fault Refusal := .next ((s.begin t).modeReq src target)

/- ## Completion (R43, R51, R133, R134) -/

/-- Whether every port is done and both coils are de-energised. -/
def State.riggingReady (s : State) : Bool :=
  s.isl.draining.all (fun f => match f with
    | .port _ => false
    | .ringPort _ => false
    | _ => true)
    && s.isl.deferred.all (fun f => match f with
      | .port _ => false
      | .ringPort _ => false
      | _ => true)
    && !s.isSet (coilDrive 0) && !s.isSet (coilDrive 1)

/-- A matrix boundary after the acceptance, at this instant. -/
def State.atBoundary (s : State) : Bool := s.time % matrixNs == 0 && 1 ≤ s.boot.bounds

/-- Whether the transition in transit is at its completion point. -/
def State.completes (s : State) : Bool :=
  if s.boot.goal = 0 then s.mode == 1 && s.riggingReady
  else if s.boot.goal = 1 then s.mode == 2 && s.atBoundary
  else s.mode == 1 && s.atBoundary && s.boot.bounds ≤ 4 && s.unmetAtBoundary.isEmpty

/-- MODE_TRANSITION_COMPLETE. -/
def State.transitDone (s : State) : State :=
  if s.isSet MI.MODE_STAT.IN_TRANSIT && s.completes then s.completeMode s.boot.goal else s

def execModeTransitionComplete (t : Nat) (s : State) : Host.Outcome State Fault Refusal := .next ((s.begin t).transitDone)

/-- MODE_REQ_TIMEOUT: the unmet code only when it is the only one (table "Refusal reasons"). -/
def State.modeTimeout (s : State) : State :=
  if s.isSet MI.MODE_STAT.IN_TRANSIT && s.boot.goal == 2 && 4 ≤ s.boot.bounds && !s.completes then
    s.endTransit.refuseMode (match s.unmetAtBoundary with
      | [c] => c
      | _ => 0xB)
  else s

def execModeReqTimeout (t : Nat) (s : State) : Host.Outcome State Fault Refusal := .next ((s.begin t).modeTimeout)

/-- A matrix boundary counts for a transition in transit, but not the one at the instant of acceptance. -/
def State.countBoundary (s : State) : State :=
  if s.isSet MI.MODE_STAT.IN_TRANSIT && s.time % matrixNs == 0 && s.time != s.boot.reqAt then
    s.bootSet fun b => { b with bounds := b.bounds + 1 }
  else s

/-- MATRIX_BOUNDARY (R133). -/
def execMatrixBoundary (t : Nat) (s : State) : Host.Outcome State Fault Refusal :=
  .next (let s0 := s.begin t; (s0.matrixBoundary s0.time).countBoundary)

/- ## The bypass sequence (R139, R140) -/

/-- BYPASS_E_ENERGISE: 10 ms after the optics. -/
def State.energiseE (s : State) : State :=
  match s.rsch.opticsAt with
  | some a =>
    if s.mode ≠ 0 ∧ a + 10000000 ≤ s.now then
      (s.rschSet fun r => { r with opticsAt := none, heldEAt := some s.now }).applyCoil 0
    else s
  | none => s

def execBypassEEnergise (t : Nat) (s : State) : Host.Outcome State Fault Refusal := .next ((s.begin t).energiseE)

/-- BYPASS_W_ENERGISE: after RING_E locks, or 100 ms after BYPASS_HOLD_E. -/
def State.energiseW (s : State) : State :=
  match s.rsch.heldEAt with
  | some a =>
    if s.locked 0 ∨ a + 100000000 ≤ s.now then (s.rschSet fun r => { r with heldEAt := none }).applyCoil 1 else s
  | none => s

def execBypassWEnergise (t : Nat) (s : State) : Host.Outcome State Fault Refusal := .next ((s.begin t).energiseW)

/-- BYPASS_E_DEENERGISE: 20 ms after BYPASS_HOLD_W. -/
def State.releaseE (s : State) : State :=
  match s.rsch.releasedWAt with
  | some a =>
    if a + 20000000 ≤ s.now then (s.rschSet fun r => { r with releasedWAt := none }).setCoil 0 false else s
  | none => s

def execBypassEDeenergise (t : Nat) (s : State) : Host.Outcome State Fault Refusal := .next ((s.begin t).releaseE)

end Sys2Proof.Machine
end

