-- ==== Sys2Proof/Machine/Dispatch.lean ====
section
/-!
DEFINITION. One arm per command: a direct call of its meaning.
-/
namespace Sys2Proof.Machine

/-- The effect of a command on everything but the queue. -/
def exec (i : Instr) (s : State) : Host.Outcome State Fault Refusal :=
  match i with
  | .registerWrite src isl off size data => Sys2Proof.Machine.execRegisterWrite src isl off size data s
  | .popWindowRead src isl off size => Sys2Proof.Machine.execPopWindowRead src isl off size s
  | .unmappedAccess src isl off => Sys2Proof.Machine.execUnmappedAccess src isl off s
  | .islandDownAccess src isl off wr => Sys2Proof.Machine.execIslandDownAccess src isl off wr s
  | .coreAccessFault addr kind user t => Sys2Proof.Machine.execCoreAccessFault addr kind user t s
  | .coreDramAccess src kind addr size data t => Sys2Proof.Machine.execCoreDramAccess src kind addr size data t s
  | .hostBar4Access off size wr data t => Sys2Proof.Machine.execHostBar4Access off size wr data t s
  | .pllLock isl t => Sys2Proof.Machine.execPllLock isl t s
  | .pllUnlock isl t => Sys2Proof.Machine.execPllUnlock isl t s
  | .channelItemArrival ch => Sys2Proof.Machine.execChannelItemArrival ch s
  | .creditReturn ch => Sys2Proof.Machine.execCreditReturn ch s
  | .progressMonitorTrip isl t => Sys2Proof.Machine.execProgressMonitorTrip isl t s
  | .islandResetHoldEnd isl t => Sys2Proof.Machine.execIslandResetHoldEnd isl t s
  | .islandReplayDone isl t => Sys2Proof.Machine.execIslandReplayDone isl t s
  | .islCmdReset src mask t => Sys2Proof.Machine.execIslCmdReset src mask t s
  | .islCmdOff src mask => Sys2Proof.Machine.execIslCmdOff src mask s
  | .functionDisable src fn => Sys2Proof.Machine.execFunctionDisable src fn s
  | .functionDisableDone fn => Sys2Proof.Machine.execFunctionDisableDone fn s
  | .functionEnable src fn => Sys2Proof.Machine.execFunctionEnable src fn s
  | .imgCheck src t => Sys2Proof.Machine.execImgCheck src t s
  | .imgLoad src t => Sys2Proof.Machine.execImgLoad src t s
  | .imgStage src t => Sys2Proof.Machine.execImgStage src t s
  | .imgCommit src t => Sys2Proof.Machine.execImgCommit src t s
  | .imgAbort src t => Sys2Proof.Machine.execImgAbort src t s
  | .imgCmdDone t => Sys2Proof.Machine.execImgCmdDone t s
  | .fuseProgramKeyHash src slot t => Sys2Proof.Machine.execFuseProgramKeyHash src slot t s
  | .fuseRevoke src slot t => Sys2Proof.Machine.execFuseRevoke src slot t s
  | .fuseOpDone ok t => Sys2Proof.Machine.execFuseOpDone ok t s
  | .aoPor t => Sys2Proof.Machine.execAoPor t s
  | .aoPorRelease t => Sys2Proof.Machine.execAoPorRelease t s
  | .coreLoss t => Sys2Proof.Machine.execCoreLoss t s
  | .pinReset t => Sys2Proof.Machine.execPinReset t s
  | .resetRelease t => Sys2Proof.Machine.execResetRelease t s
  | .fwReset src key t => Sys2Proof.Machine.execFwReset src key t s
  | .hostReset src key t => Sys2Proof.Machine.execHostReset src key t s
  | .debugReset t => Sys2Proof.Machine.execDebugReset t s
  | .replayEntry user t => Sys2Proof.Machine.execReplayEntry user t s
  | .poranReplay t => Sys2Proof.Machine.execPoranReplay t s
  | .replaySchedTimeout t => Sys2Proof.Machine.execReplaySchedTimeout t s
  | .modeReqGo src target t => Sys2Proof.Machine.execModeReqGo src target t s
  | .modeTransitionComplete t => Sys2Proof.Machine.execModeTransitionComplete t s
  | .modeReqTimeout t => Sys2Proof.Machine.execModeReqTimeout t s
  | .triggerRing t => Sys2Proof.Machine.execTriggerRing t s
  | .bypassEEnergise t => Sys2Proof.Machine.execBypassEEnergise t s
  | .bypassWEnergise t => Sys2Proof.Machine.execBypassWEnergise t s
  | .bypassEDeenergise t => Sys2Proof.Machine.execBypassEDeenergise t s
  | .rxFrame port bytes codeErr t => Sys2Proof.Machine.execRxFrame port bytes codeErr t s
  | .pauseRx port quanta t => Sys2Proof.Machine.execPauseRx port quanta t s
  | .pauseHoldEnd port t => Sys2Proof.Machine.execPauseHoldEnd port t s
  | .pauseHoldLimit port t => Sys2Proof.Machine.execPauseHoldLimit port t s
  | .linkDown port t => Sys2Proof.Machine.execLinkDown port t s
  | .linkUp port speed half t => Sys2Proof.Machine.execLinkUp port speed half t s
  | .i2cGo src bus addr rdLen wrLen => Sys2Proof.Machine.execI2cGo src bus addr rdLen wrLen s
  | .busClear src bus => Sys2Proof.Machine.execBusClear src bus s
  | .i2cDone bus outcome data => Sys2Proof.Machine.execI2cDone bus outcome data s
  | .i2cTimeout bus stall => Sys2Proof.Machine.execI2cTimeout bus stall s
  | .allocWrite src port alloc pFull => Sys2Proof.Machine.execAllocWrite src port alloc pFull s
  | .budgetWrite src dom budget riseMax => Sys2Proof.Machine.execBudgetWrite src dom budget riseMax s
  | .parseWalk source t => Sys2Proof.Machine.execParseWalk source t s
  | .fragEntryExpire key t => Sys2Proof.Machine.execFragEntryExpire key t s
  | .epochCommit src t => Sys2Proof.Machine.execEpochCommit src t s
  | .epochAbort src t => Sys2Proof.Machine.execEpochAbort src t s
  | .epochSwitch t => Sys2Proof.Machine.execEpochSwitch t s
  | .epochRetire t => Sys2Proof.Machine.execEpochRetire t s
  | .retireSlow t => Sys2Proof.Machine.execRetireSlow t s
  | .epochAbortDone t => Sys2Proof.Machine.execEpochAbortDone t s
  | .tupdWriteEntry src => Sys2Proof.Machine.execTupdWriteEntry src s
  | .tupdInvalidateEntry src => Sys2Proof.Machine.execTupdInvalidateEntry src s
  | .pauseGo src t => Sys2Proof.Machine.execPauseGo src t s
  | .pauseDiscard src => Sys2Proof.Machine.execPauseDiscard src s
  | .pauseApply t => Sys2Proof.Machine.execPauseApply t s
  | .pauseTimeout t => Sys2Proof.Machine.execPauseTimeout t s
  | .packetDispatch pipe gw t => Sys2Proof.Machine.execPacketDispatch pipe gw t s
  | .turnstileShed pipe t => Sys2Proof.Machine.execTurnstileShed pipe t s
  | .nop x ecc t => Sys2Proof.Machine.execNop x ecc t s
  | .ldf x ecc t => Sys2Proof.Machine.execLdf x ecc t s
  | .stf x ecc t => Sys2Proof.Machine.execStf x ecc t s
  | .ldi x ecc t => Sys2Proof.Machine.execLdi x ecc t s
  | .aluAdd x ecc t => Sys2Proof.Machine.execAluAdd x ecc t s
  | .aluSubtract x ecc t => Sys2Proof.Machine.execAluSubtract x ecc t s
  | .aluAnd x ecc t => Sys2Proof.Machine.execAluAnd x ecc t s
  | .aluOr x ecc t => Sys2Proof.Machine.execAluOr x ecc t s
  | .aluXor x ecc t => Sys2Proof.Machine.execAluXor x ecc t s
  | .aluShiftLeft x ecc t => Sys2Proof.Machine.execAluShiftLeft x ecc t s
  | .aluShiftRight x ecc t => Sys2Proof.Machine.execAluShiftRight x ecc t s
  | .aluMinimum x ecc t => Sys2Proof.Machine.execAluMinimum x ecc t s
  | .aluMaximum x ecc t => Sys2Proof.Machine.execAluMaximum x ecc t s
  | .cmp x ecc t => Sys2Proof.Machine.execCmp x ecc t s
  | .jmp x ecc t => Sys2Proof.Machine.execJmp x ecc t s
  | .call x ecc t => Sys2Proof.Machine.execCall x ecc t s
  | .ret x ecc t => Sys2Proof.Machine.execRet x ecc t s
  | .srch x ecc t => Sys2Proof.Machine.execSrch x ecc t s
  | .swait x ecc t => Sys2Proof.Machine.execSwait x ecc t s
  | .actFromSlot x ecc t => Sys2Proof.Machine.execActFromSlot x ecc t s
  | .actFromImm x ecc t => Sys2Proof.Machine.execActFromImm x ecc t s
  | .ins x ecc t => Sys2Proof.Machine.execIns x ecc t s
  | .del x ecc t => Sys2Proof.Machine.execDel x ecc t s
  | .csum x ecc t => Sys2Proof.Machine.execCsum x ecc t s
  | .time x ecc t => Sys2Proof.Machine.execTime x ecc t s
  | .csw x ecc t => Sys2Proof.Machine.execCsw x ecc t s
  | .fault x ecc t => Sys2Proof.Machine.execFault x ecc t s
  | .illegalOpcode x ecc t => Sys2Proof.Machine.execIllegalOpcode x ecc t s
  | .endRoutine x ecc t => Sys2Proof.Machine.execEndRoutine x ecc t s
  | .budgetStop x t => Sys2Proof.Machine.execBudgetStop x t s
  | .searchResponse id t => Sys2Proof.Machine.execSearchResponse id t s
  | .csRead src pipe => Sys2Proof.Machine.execCsRead src pipe s
  | .csWrite src pipe => Sys2Proof.Machine.execCsWrite src pipe s
  | .searchLookup id t => Sys2Proof.Machine.execSearchLookup id t s
  | .learnedAgeOut vidMac t => Sys2Proof.Machine.execLearnedAgeOut vidMac t s
  | .cascadeExecSlot origin tag matchIn t => Sys2Proof.Machine.execCascadeExecSlot origin tag matchIn t s
  | .cascadeSearchTimeout tag t => Sys2Proof.Machine.execCascadeSearchTimeout tag t s
  | .casReqRx lane w t => Sys2Proof.Machine.execCasReqRx lane w t s
  | .casResultRx lane w t => Sys2Proof.Machine.execCasResultRx lane w t s
  | .casMissRx lane w t => Sys2Proof.Machine.execCasMissRx lane w t s
  | .casHelloTimer t => Sys2Proof.Machine.execCasHelloTimer t s
  | .casHelloRx lane w t => Sys2Proof.Machine.execCasHelloRx lane w t s
  | .casTrainPulse t => Sys2Proof.Machine.execCasTrainPulse t s
  | .casReadyRx lane w t => Sys2Proof.Machine.execCasReadyRx lane w t s
  | .casUpRx lane w t => Sys2Proof.Machine.execCasUpRx lane w t s
  | .casDownRx lane w t => Sys2Proof.Machine.execCasDownRx lane w t s
  | .retrain src t => Sys2Proof.Machine.execRetrain src t s
  | .probeGo src probe seq bank table t => Sys2Proof.Machine.execProbeGo src probe seq bank table t s
  | .probeComplete probe t => Sys2Proof.Machine.execProbeComplete probe t s
  | .biAdmission pipe t => Sys2Proof.Machine.execBiAdmission pipe t s
  | .spillWriteAck spill t => Sys2Proof.Machine.execSpillWriteAck spill t s
  | .spillReadbackStart spill t => Sys2Proof.Machine.execSpillReadbackStart spill t s
  | .spillReadbackDone spill t => Sys2Proof.Machine.execSpillReadbackDone spill t s
  | .carouselSelect port t => Sys2Proof.Machine.execCarouselSelect port t s
  | .shaperRefillTick t => Sys2Proof.Machine.execShaperRefillTick t s
  | .shaperRateWrite src shaper excess rate forgive => Sys2Proof.Machine.execShaperRateWrite src shaper excess rate forgive s
  | .shaperBurstWrite src shaper excess burst => Sys2Proof.Machine.execShaperBurstWrite src shaper excess burst s
  | .class7ServiceStart port t => Sys2Proof.Machine.execClass7ServiceStart port t s
  | .guardStart port t => Sys2Proof.Machine.execGuardStart port t s
  | .portWindowOpen port t => Sys2Proof.Machine.execPortWindowOpen port t s
  | .portWindowClose port t => Sys2Proof.Machine.execPortWindowClose port t s
  | .egressTxStart port t => Sys2Proof.Machine.execEgressTxStart port t s
  | .transmitConfirm port t => Sys2Proof.Machine.execTransmitConfirm port t s
  | .selectorSeedWrite src sel seed => Sys2Proof.Machine.execSelectorSeedWrite src sel seed s
  | .sideshowRingWrite ring t => Sys2Proof.Machine.execSideshowRingWrite ring t s
  | .injectProdAdvance src ring prod => Sys2Proof.Machine.execInjectProdAdvance src ring prod s
  | .injectDescriptor ring t => Sys2Proof.Machine.execInjectDescriptor ring t s
  | .dramRequestServe errs t => Sys2Proof.Machine.execDramRequestServe errs t s
  | .dramRefresh rank t => Sys2Proof.Machine.execDramRefresh rank t s
  | .trainModeWrite src v t => Sys2Proof.Machine.execTrainModeWrite src v t s
  | .initDram src t => Sys2Proof.Machine.execInitDram src t s
  | .initDone t => Sys2Proof.Machine.execInitDone t s
  | .mrsGo src value mr rank t => Sys2Proof.Machine.execMrsGo src value mr rank t s
  | .trnWrite src pattern rank burst len t => Sys2Proof.Machine.execTrnWrite src pattern rank burst len t s
  | .trnReadCmp src pattern rank burst len errs t => Sys2Proof.Machine.execTrnReadCmp src pattern rank burst len errs t s
  | .trnWrcmp src pattern rank burst len errs t => Sys2Proof.Machine.execTrnWrcmp src pattern rank burst len errs t s
  | .trnWlvl src rank seen t => Sys2Proof.Machine.execTrnWlvl src rank seen t s
  | .trnCaPar src rank errors t => Sys2Proof.Machine.execTrnCaPar src rank errors t s
  | .trnWriteClr src t => Sys2Proof.Machine.execTrnWriteClr src t s
  | .trainOpDone t => Sys2Proof.Machine.execTrainOpDone t s
  | .retrainSlice low high ns t => Sys2Proof.Machine.execRetrainSlice low high ns t s
  | .timeStep1ms t => Sys2Proof.Machine.execTimeStep1ms t s
  | .timeUpdate1s t => Sys2Proof.Machine.execTimeUpdate1s t s
  | .ptpMeasSubmit src u offset t2lo t => Sys2Proof.Machine.execPtpMeasSubmit src u offset t2lo t s
  | .ppsInEdge rising t => Sys2Proof.Machine.execPpsInEdge rising t s
  | .ppsOutEdge t => Sys2Proof.Machine.execPpsOutEdge t s
  | .stepGo src t => Sys2Proof.Machine.execStepGo src t s
  | .stepCancel src t => Sys2Proof.Machine.execStepCancel src t s
  | .ringMarkerCandidate d run block res t => Sys2Proof.Machine.execRingMarkerCandidate d run block res t s
  | .ringTrainExpire d block t => Sys2Proof.Machine.execRingTrainExpire d block t s
  | .ringMarkerRx d run res t => Sys2Proof.Machine.execRingMarkerRx d run res t s
  | .ringMarkerMissing d t => Sys2Proof.Machine.execRingMarkerMissing d t s
  | .markerOriginate t => Sys2Proof.Machine.execMarkerOriginate t s
  | .ringBlockLockLoss d t => Sys2Proof.Machine.execRingBlockLockLoss d t s
  | .ringContainerRx d head data bad t => Sys2Proof.Machine.execRingContainerRx d head data bad t s
  | .ringContainerInsert d t => Sys2Proof.Machine.execRingContainerInsert d t s
  | .dedupExpire node cycle window index t => Sys2Proof.Machine.execDedupExpire node cycle window index t s
  | .linkServiceRx d run t => Sys2Proof.Machine.execLinkServiceRx d run t s
  | .lsStale d t => Sys2Proof.Machine.execLsStale d t s
  | .forceBypWrite src d v => Sys2Proof.Machine.execForceBypWrite src d v s
  | .bypassHitEnd coil t => Sys2Proof.Machine.execBypassHitEnd coil t s
  | .basicCycleStart t => Sys2Proof.Machine.execBasicCycleStart t s
  | .matrixBoundary t => Sys2Proof.Machine.execMatrixBoundary t s
  | .coldstart t => Sys2Proof.Machine.execColdstart t s
  | .mchgGo src mode => Sys2Proof.Machine.execMchgGo src mode s
  | .mchgCancel src => Sys2Proof.Machine.execMchgCancel src s
  | .sigPub src mask => Sys2Proof.Machine.execSigPub src mask s
  | .signalSnapshot w t => Sys2Proof.Machine.execSignalSnapshot w t s
  | .signalMissed w t => Sys2Proof.Machine.execSignalMissed w t s
  | .triggerDispatch pipe t => Sys2Proof.Machine.execTriggerDispatch pipe t s
  | .gxlt x ecc t => Sys2Proof.Machine.execGxlt x ecc t s
  | .gout x ecc t => Sys2Proof.Machine.execGout x ecc t s
  | .gemit x ecc t => Sys2Proof.Machine.execGemit x ecc t s
  | .gpub x ecc t => Sys2Proof.Machine.execGpub x ecc t s
  | .faAssert t => Sys2Proof.Machine.execFaAssert t s
  | .faRelease t => Sys2Proof.Machine.execFaRelease t s
  | .emergencyRepeat t => Sys2Proof.Machine.execEmergencyRepeat t s
  | .interruptEdge n t => Sys2Proof.Machine.execInterruptEdge n t s
  | .icClaim t => Sys2Proof.Machine.execIcClaim t s
  | .icComplete src n t => Sys2Proof.Machine.execIcComplete src n t s
  | .icHeoi src mask t => Sys2Proof.Machine.execIcHeoi src mask t s
  | .msixUnmask change t => Sys2Proof.Machine.execMsixUnmask change t s
  | .machineTimer t => Sys2Proof.Machine.execMachineTimer t s
  | .pcieInboundRequest req ecc t => Sys2Proof.Machine.execPcieInboundRequest req ecc t s
  | .pcieLinkReset perst t => Sys2Proof.Machine.execPcieLinkReset perst t s
  | .dmaDescriptorStart ch t => Sys2Proof.Machine.execDmaDescriptorStart ch t s
  | .dmaDescDone ch outcome t => Sys2Proof.Machine.execDmaDescDone ch outcome t s
  | .dmaCplTimeout ch t => Sys2Proof.Machine.execDmaCplTimeout ch t s
  | .h2cSet src mask t => Sys2Proof.Machine.execH2cSet src mask t s
  | .c2hSet src mask t => Sys2Proof.Machine.execC2hSet src mask t s
  | .sensorConversion ch value t => Sys2Proof.Machine.execSensorConversion ch value t s
  | .minmaxClr src mask t => Sys2Proof.Machine.execMinmaxClr src mask t s
  | .wdtService src size key t => Sys2Proof.Machine.execWdtService src size key t s
  | .wdtCfgWrite src timeout warn grace en t => Sys2Proof.Machine.execWdtCfgWrite src timeout warn grace en t s
  | .wdtWarning t => Sys2Proof.Machine.execWdtWarning t s
  | .watchdogExpiry pc machine t => Sys2Proof.Machine.execWatchdogExpiry pc machine t s
  | .eraseGuardRunout t => Sys2Proof.Machine.execEraseGuardRunout t s
  | .debugHalt t => Sys2Proof.Machine.execDebugHalt t s
  | .debugResume t => Sys2Proof.Machine.execDebugResume t s
  | .inventory oneSlot afi maskLen mask t => Sys2Proof.Machine.execInventory oneSlot afi maskLen mask t s
  | .stayQuiet who t => Sys2Proof.Machine.execStayQuiet who t s
  | .select who t => Sys2Proof.Machine.execSelect who t s
  | .resetToReady who t => Sys2Proof.Machine.execResetToReady who t s
  | .readSingleBlock who security block t => Sys2Proof.Machine.execReadSingleBlock who security block t s
  | .writeSingleBlock who block data t => Sys2Proof.Machine.execWriteSingleBlock who block data t s
  | .readMultipleBlocks who security first countM1 t => Sys2Proof.Machine.execReadMultipleBlocks who security first countM1 t s
  | .getSystemInformation who t => Sys2Proof.Machine.execGetSystemInformation who t s
  | .tagUnsupportedCommand who t => Sys2Proof.Machine.execTagUnsupportedCommand who t s
  | .claim who mfg pages t => Sys2Proof.Machine.execClaim who mfg pages t s
  | .release who mfg pages mode t => Sys2Proof.Machine.execRelease who mfg pages mode t s
  | .getSession who mfg t => Sys2Proof.Machine.execGetSession who mfg t s
  | .tagCommitDone ok t => Sys2Proof.Machine.execTagCommitDone ok t s
  | .tagFieldPresent t => Sys2Proof.Machine.execTagFieldPresent t s
  | .tagFieldLoss t => Sys2Proof.Machine.execTagFieldLoss t s
  | .tagSessionTimeout t => Sys2Proof.Machine.execTagSessionTimeout t s
  | .tagCmdClaim src page token t => Sys2Proof.Machine.execTagCmdClaim src page token t s
  | .tagCmdRelease src page token t => Sys2Proof.Machine.execTagCmdRelease src page token t s
  | .tagCmdRead src page token t => Sys2Proof.Machine.execTagCmdRead src page token t s
  | .tagCmdCommit src page token t => Sys2Proof.Machine.execTagCmdCommit src page token t s
  | .tagPendClear src mask t => Sys2Proof.Machine.execTagPendClear src mask t s
  | .flashProgram src lenM1 t => Sys2Proof.Machine.execFlashProgram src lenM1 t s
  | .flashErase4k src lenM1 t => Sys2Proof.Machine.execFlashErase4k src lenM1 t s
  | .flashErase64k src lenM1 t => Sys2Proof.Machine.execFlashErase64k src lenM1 t s
  | .flashOpDone t => Sys2Proof.Machine.execFlashOpDone t s
  | .pfAssert t => Sys2Proof.Machine.execPfAssert t s
  | .pfDeassert t => Sys2Proof.Machine.execPfDeassert t s
  | .jnlAppend src t => Sys2Proof.Machine.execJnlAppend src t s
  | .jnlCopy src t => Sys2Proof.Machine.execJnlCopy src t s
  | .jnlEraseOldest src t => Sys2Proof.Machine.execJnlEraseOldest src t s
  | .jnlProgramDone bad t => Sys2Proof.Machine.execJnlProgramDone bad t s
  | .jnlRetryTick t => Sys2Proof.Machine.execJnlRetryTick t s
  | .rollbackAdv src t => Sys2Proof.Machine.execRollbackAdv src t s
  | .sealGo src key t => Sys2Proof.Machine.execSealGo src key t s
  | .clearAll src isl => Sys2Proof.Machine.execClearAll src isl s
  | .snapGo src atEn t => Sys2Proof.Machine.execSnapGo src atEn t s
  | .snapshotCapture isl t => Sys2Proof.Machine.execSnapshotCapture isl t s
  | .psEnable src pipe data => Sys2Proof.Machine.execPsEnable src pipe data s
  | .vddCoreMonitorRelease t => Sys2Proof.Machine.execVddCoreMonitorRelease t s
  | .ringBlockLockAcquired d t => Sys2Proof.Machine.execRingBlockLockAcquired d t s
  | .pcieLinkUp speed width t => Sys2Proof.Machine.execPcieLinkUp speed width t s
  | .tapInstructionLoad instr t => Sys2Proof.Machine.execTapInstructionLoad instr t s
  | .dmiAccess wr addr data t => Sys2Proof.Machine.execDmiAccess wr addr data t s
  | .coreSramAccess src kind addr size data ecc t => Sys2Proof.Machine.execCoreSramAccess src kind addr size data ecc t s
  | .sealRecordTimeout t => Sys2Proof.Machine.execSealRecordTimeout t s
  | .tagReadDone t => Sys2Proof.Machine.execTagReadDone t s
  | .tagPendWriteDone t => Sys2Proof.Machine.execTagPendWriteDone t s

end Sys2Proof.Machine
end

