-- ==== Sys2Proof/Safety.lean ====
section
/-!
DEFINITION. What counts as a safe step, the form of the state that statements name, and how statements say that a command
completes and what it leaves as it was.
-/
namespace Sys2Proof.Machine

/-- A step that neither faults nor refuses. -/
def State.runs (s : State) : Prop := ∃ u, step s = .next u

/-- A command completes with a next state of which `P` holds. -/
def Completes (c : Instr) (s : State) (P : State → Prop) : Prop := ∃ u, exec c s = .next u ∧ P u

/-- The four memories are in canonical form: addresses strictly rise, and no byte is listed that reads as an unlisted one. -/
def State.memoriesOk (s : State) : Prop :=
  Memory.wf ramBlank s.sram = true ∧ Memory.wf ramBlank s.dram = true ∧ Memory.wf flashBlank s.flash = true
    ∧ Memory.wf ramBlank s.host = true

/-- The register file is in canonical form: keys strictly rise. -/
def State.registersOk (s : State) : Prop := nsorted s.regs = true

/-- What every step keeps. -/
def State.Inv (s : State) : Prop := s.memoriesOk ∧ s.registersOk

/-- The byte of a memory at an address, where unlisted bytes read as `d`. -/
def byteAt (d : Byte) (m : List (Nat × Byte)) (a : Nat) : Byte := ngetD m a d

/-- The memories hold what they held, and no initialisation has left their content open. -/
def State.memoriesKept (b u : State) : Prop :=
  u.sram = b.sram ∧ u.dram = b.dram ∧ u.flash = b.flash ∧ u.host = b.host ∧ u.di.inits = b.di.inits
    ∧ u.mg.resets = b.mg.resets

/-- The registers that counting and interrupts move on their own: event counters with their overflow bits (R541, R546), and
what the delivery of an interrupt changes (R476, R478). -/
def Field.moving (f : Field) : Bool :=
  let a := f.key / 64
  let o := a % 0x100000
  (0xF0100 ≤ o && o ≤ 0xF0200)
    || (a < 0x100000 && ((0x1000 ≤ o && o < 0x1400 && f.key % 64 == 3) || o == 0x1400 || o == 0x1408 || o == 0x6800))

/-- From `b` to `u` every register field reads as before, but for the listed ones. -/
def State.regsKept (b u : State) (ex : List Field) : Prop :=
  ∀ f : Field, (∀ g ∈ ex, f.key ≠ g.key) → u.rd f = b.rd f

/-- The same, but for what counting and interrupts move. -/
def State.restKept (b u : State) (ex : List Field) : Prop :=
  ∀ f : Field, f.moving = false → (∀ g ∈ ex, f.key ≠ g.key) → u.rd f = b.rd f

/-- A field that a device reset of source `code` keeps. -/
def Field.outlives (code : Nat) (f : Field) : Bool :=
  keepsField code (f.key / 64 / 0x100000) (f.key / 64 % 0x100000) (f.key % 64)

/-- What a device reset of source `code` leaves of registers and memories, but for the listed fields: the cause is
recorded, what it keeps stays, what it does not keep is at its reset value, and the content of SRAM is open again, that of
DRAM where it is not kept (notes/assumptions/4.md). -/
def State.wasReset (b u : State) (code : Nat) (ex : List Field) : Prop :=
  u.rd AO.RST_CAUSE.LAST = code ∧ bitOf (u.rd AO.RST_CAUSE.SEEN) (code - 1) = true
    ∧ (∀ f : Field, f.outlives code = false →
        (∀ g ∈ [DI.TRN_STAT.SR_RETAINED, MI.HU_STAT.PF, MI.WDT_STAT.REMAIN], f.key ≠ g.key) → u.rd f = f.reset)
    ∧ (∀ f : Field, f.outlives code = true →
        (∀ g ∈ [AO.RST_CAUSE.LAST, AO.RST_CAUSE.SEEN, AO.RST_CAUSE.RST_CNT, AO.SEAL_CMD.FAIL, AO.SEAL_CMD.FAIL_AT,
          AO.SEAL_CMD.BUSY] ++ ex, f.key ≠ g.key) → u.rd f = b.rd f)
    ∧ u.sram = [] ∧ u.host = b.host ∧ u.flash = (b.flashAtReset code).flash
    ∧ u.mg.resets = b.mg.resets + 1
    ∧ (if !hardSource code && (b.isSet DI.TRN_STAT.INIT_DONE || b.di.selfRefresh) then
        u.dram = b.dram ∧ u.di.inits = b.di.inits
      else u.dram = [] ∧ u.di.inits = b.di.inits + 1)

/-- The trips of an island within TRIP_WINDOW, one of this instant included (R61). -/
def State.tripsWith (b : State) (i : Nat) : Nat :=
  (((b.now :: ngetD b.isl.tripTimes i []).take 15).filter fun a => decide (b.now < a + b.tripWindow)).length

/-- Whether a trip of an island at this instant reaches FATAL_LIMIT (R125), or TRIP_LIMIT (R136). -/
def State.fatalTrip (b : State) (i : Nat) : Bool :=
  b.rd MI.SN_CFG.FATAL_LIMIT != 0 && b.rd MI.SN_CFG.FATAL_LIMIT ≤ b.tripsWith i
def State.limitTrip (b : State) (i : Nat) : Bool :=
  b.rd MI.SN_CFG.TRIP_LIMIT != 0 && b.rd MI.SN_CFG.TRIP_LIMIT ≤ b.tripsWith i

/-- A context's next micro-instruction is ready to take effect: it may issue, its word is not uncorrectable, its condition
is a listed one and holds (R217, R222, R232). -/
def State.issues (b : State) (x : CtxId) (c : Ctx) (ecc : Ecc) : Prop :=
  b.ctx? x = some c ∧ b.mayIssue x c = true ∧ ecc ≠ .uncorrectable ∧ (microOf (b.fetch x c)).condListed = true
    ∧ c.holds (microOf (b.fetch x c)).cond = true

/-- A context after an instruction that left it as `c` retired at `now`: one more issued, and the next one from the next
cycle. -/
def Ctx.retired (c : Ctx) (now : Nat) : Ctx :=
  { c with issued := c.issued + 1, readyAt := now + 2, stall := c.afterEmit, creditSince := none, sampled := false,
           gw := c.gw.map fun g => { g with copying := 0 } }

/-- From `b` to `u` the context `x` retired an instruction that left it as `c`; the other contexts, the other pipeline and
the memories are as they were, and so are the registers unless a fetch error or the sampler records something. -/
def State.retires (b u : State) (x : CtxId) (ecc : Ecc) (c : Ctx) : Prop :=
  u.ctx? x = some (c.retired b.time)
    ∧ (∀ k, k ≠ ctxKey x → nget (u.pipe x.pipe).ctxs k = nget (b.pipe x.pipe).ctxs k)
    ∧ u.pipe (1 - x.pipe) = b.pipe (1 - x.pipe) ∧ b.memoriesKept u
    ∧ (ecc = .clean → b.isSet (P.PS_CFG.EN x.pipe) = false → b.restKept u [])

/-- A context holds no work, and JUG_STAT shows it idle. -/
def State.freed (u : State) (x : CtxId) : Prop :=
  u.ctx? x = none ∧ bitOf (u.rd (P.JUG_STAT.BUSY x.pipe x.jug)) x.ctx = false

end Sys2Proof.Machine
end

