-- ==== Sys2Proof/Certificates/Slice0/Obligations.lean ====
section
/-!
DEFINITION. The statements about the block: what its commands do to its state, family by family, and the rules that hold
of every step. `Completes c s P` says that `exec c s` answers a next state of which `P` holds.
-/

open Sys2Proof Sys2Proof.Machine

/-- R10, R17, R22 and R47. -/
def Obligations.AccessesThatReachNoRegister : Prop :=
  (∀ (src : Src) (isl off : Nat) (s : State), isl < 16 → s.islUp isl = true → regAt isl (off / 8 * 8) = none →
    s.reaches src .load isl off = true →
    Completes (.unmappedAccess src isl off) s fun u =>
      u = { s with regs := u.regs, resp := 0, out := [] } ∧ u.rd MI.ACC_STAT.UNMAPPED = 1
      ∧ u.rd MI.ACC_STAT.LAST_ADDR = off % 2 ^ 20 ∧ u.rd MI.ACC_STAT.LAST_ISLAND = isl
      ∧ u.rd MI.ACC_STAT.LAST_SRC = (if src = .host then 1 else 0)
      ∧ s.regsKept u [MI.ACC_STAT.UNMAPPED, MI.ACC_STAT.LAST_ADDR, MI.ACC_STAT.LAST_ISLAND, MI.ACC_STAT.LAST_SRC])
  ∧ (∀ (src : Src) (isl off : Nat) (wr : Bool) (s : State), s.islUp isl = false →
    s.reaches src (if wr then .store else .load) isl off = true →
    Completes (.islandDownAccess src isl off wr) s fun u =>
      u = { s with resp := if wr then s.resp else 0, out := [] })
  ∧ (∀ (src : Src) (isl off size : Nat) (s : State), isl < 16 → s.islUp isl = false → isPop isl (off / 8 * 8) = true →
    (src = .host ∨ off % max 1 size = 0) → s.reaches src .load isl off = true →
    Completes (.popWindowRead src isl off size) s fun u => u = { s with resp := 0, out := [] })
  ∧ (∀ (src : Src) (isl off size : Nat) (wr : Bool) (s : State), isl < 16 →
    s.reaches src (if wr then .store else .load) isl off = false →
    (wr = false → isPop isl (off / 8 * 8) = true → off % max 1 size = 0 →
      Completes (.popWindowRead src isl off size) s fun u => u = { s with out := [.coreFault 5 (regAddr isl off)] })
    ∧ (wr = false → Completes (.unmappedAccess src isl off) s fun u =>
        u = { s with out := [.coreFault 5 (regAddr isl off)] })
    ∧ (Completes (.islandDownAccess src isl off wr) s fun u =>
        u = { s with out := [.coreFault (if wr then 7 else 5) (regAddr isl off)] }))

/-- R13 and R15. R7, on a register with both access codes and on one with fields in both halves. -/
def Obligations.RegisterReadsPopAndWritesReachTheirBits : Prop :=
  (∀ (src : Src) (isl off : Nat) (l : List Nat) (s : State),
    (isl, off, l) ∈ [(2, 0x800, s.ti.txts), (5, 0x540, s.pa.faults), (6, 0x540, s.pb.faults), (9, 0x808, s.di.eccLog),
      (0, 0x9310, s.fl.late)] → s.islUp isl = true → s.reaches src .load isl off = true →
    Completes (.popWindowRead src isl off 8) s fun u =>
      u.resp = l.headD 0
      ∧ (isl, off, l.drop 1) ∈ [(2, 0x800, u.ti.txts), (5, 0x540, u.pa.faults), (6, 0x540, u.pb.faults),
        (9, 0x808, u.di.eccLog), (0, 0x9310, u.fl.late)]
      ∧ s.restKept u [] ∧ u = { s with regs := u.regs, resp := u.resp, out := u.out, ti := u.ti, pa := u.pa, pb := u.pb, di := u.di, fl := u.fl })
  ∧ (∀ (src : Src) (isl off size : Nat) (s : State), isl < 16 → s.islUp isl = true → isPop isl (off / 8 * 8) = true →
    ¬ (size = 8 ∧ off % 8 = 0) → (src = .host ∨ off % max 1 size = 0) → s.reaches src .load isl off = true →
    Completes (.popWindowRead src isl off size) s fun u =>
      u = { s with regs := u.regs, resp := 0, out := [] } ∧ u.rd MI.ACC_STAT.NARROW_POP = 1
      ∧ u.rd MI.ACC_STAT.LAST_ADDR = off % 2 ^ 20 ∧ u.rd MI.ACC_STAT.LAST_ISLAND = isl
      ∧ u.rd MI.ACC_STAT.LAST_SRC = (if src = .host then 1 else 0)
      ∧ s.regsKept u [MI.ACC_STAT.NARROW_POP, MI.ACC_STAT.LAST_ADDR, MI.ACC_STAT.LAST_ISLAND, MI.ACC_STAT.LAST_SRC])
  ∧ (∀ (src : Src) (data : Nat) (s : State), src ≠ .host → s.islUp 0 = true →
    s.reaches src .store 0 0x40 = true →
    Completes (.registerWrite src 0 0x40 8 data) s fun u =>
      u.rd MI.DRAM_WIN.PAGE = data % 16
      ∧ u.rd MI.DRAM_WIN.OOR = (if bitOf data 8 then 0 else s.rd MI.DRAM_WIN.OOR % 2)
      ∧ s.restKept u [MI.DRAM_WIN.PAGE, MI.DRAM_WIN.OOR, MI.MTIME.TIME, MI.WDT_STAT.REMAIN]
      ∧ u = { s with regs := u.regs, mg := u.mg, out := u.out })
  ∧ (∀ (src : Src) (k data : Nat) (s : State), src ≠ .host → k < 32 → s.islUp 5 = true →
    s.reaches src .store 5 (0xF0004 + 8 * k) = true →
    Completes (.registerWrite src 5 (0xF0004 + 8 * k) 4 data) s fun u =>
      u.rd (C.CNT_SEL.THRESH 5 k) = data % 2 ^ 32
      ∧ s.restKept u [C.CNT_SEL.THRESH 5 k, MI.MTIME.TIME, MI.WDT_STAT.REMAIN]
      ∧ u = { s with regs := u.regs, mg := u.mg, out := u.out })
  ∧ (∀ (src : Src) (isl off size data : Nat) (s : State), isl < 16 → off < 0x100000 → src ≠ .host →
    (off % max 1 size ≠ 0 →
      Completes (.registerWrite src isl off size data) s fun u => u = { s with out := [.coreFault 6 (regAddr isl off)] })
    ∧ (off % max 1 size = 0 → s.reaches src .store isl off = false →
      Completes (.registerWrite src isl off size data) s fun u => u = { s with out := [.coreFault 7 (regAddr isl off)] }))

/-- R23, R55 to R57 and R62. -/
def Obligations.ChannelItemsAndCreditsAreConserved : Prop :=
  (∀ (c : Chan) (i : Item) (r : List Item) (s : State), (s.chan c).inFlight = i :: r → s.isl? c.dst ≠ 2 →
    Completes (.channelItemArrival c) s fun u =>
      (u.chan c).inFlight = r ∧ (u.chan c).credits = (s.chan c).credits ∧ s.restKept u [] ∧ s.memoriesKept u
      ∧ (∀ e : Chan, chanKey e ≠ chanKey c → u.chan e = s.chan e)
      ∧ (match i with
        | .cells d =>
          (u.chan c).arrived = (s.chan c).arrived ∧ (u.chan c).returning = (s.chan c).returning + 1
          ∧ (if (d.port = 96 ∨ d.port = 97) ∧ d.cls = 7 then
              u = { s with regs := u.regs, out := u.out, chans := u.chans, rsch := { s.rsch with queue := s.rsch.queue ++ [d] } }
            else
              u.mac d.port = (if d.cls = 7 then { s.mac d.port with sched := (s.mac d.port).sched ++ [d] }
                else { s.mac d.port with ordin := (s.mac d.port).ordin ++ [d] })
              ∧ (∀ p, p ≠ d.port → u.mac p = s.mac p)
              ∧ u = { s with regs := u.regs, out := u.out, chans := u.chans, ports := u.ports })
        | .spill k d =>
          (u.chan c).arrived = (s.chan c).arrived ++ [i] ∧ (u.chan c).returning = (s.chan c).returning
          ∧ u = { s with regs := u.regs, out := u.out, chans := u.chans, di := (s.spillAsk k true d).di }
        | _ =>
          (u.chan c).arrived = (s.chan c).arrived ++ [i] ∧ (u.chan c).returning = (s.chan c).returning
          ∧ u = { s with regs := u.regs, out := u.out, chans := u.chans }))
  ∧ (∀ (c : Chan) (s : State), ((s.chan c).inFlight = [] ∨ s.isl? c.dst = 2) →
    Completes (.channelItemArrival c) s fun u => u = { s with out := [] })
  ∧ (∀ (c : Chan) (s : State), 0 < (s.chan c).returning →
    Completes (.creditReturn c) s fun u =>
      (u.chan c).returning + 1 = (s.chan c).returning ∧ (u.chan c).arrived = (s.chan c).arrived
      ∧ (u.chan c).credits + (u.chan c).inFlight.length = (s.chan c).credits + (s.chan c).inFlight.length + 1
      ∧ (∃ l, (u.chan c).inFlight = (s.chan c).inFlight ++ l)
      ∧ s.memoriesKept u)
  ∧ (∀ (c : Chan) (s : State), 0 < (s.chan c).returning → (∀ p ∈ sourcesOf c, (s.mac p).unsent = []) →
    (c.rank = 4 → (s.pipe (c.src - 5)).toBi = []) → c ≠ spillChan →
    Completes (.creditReturn c) s fun u =>
      u.chan c = { s.chan c with returning := (s.chan c).returning - 1, credits := (s.chan c).credits + 1 }
      ∧ (∀ e : Chan, chanKey e ≠ chanKey c → u.chan e = s.chan e) ∧ u = { s with out := [], chans := u.chans })
  ∧ (∀ (k : Nat) (d : Desc) (l : List Desc) (s : State), k < 2 → 0 < (s.chan (admitChan k)).returning →
    (s.chan (admitChan k)).credits = 0 → (s.pipe k).toBi = d :: l → s.isl? 8 ≠ 2 →
    Completes (.creditReturn (admitChan k)) s fun u =>
      (u.chan (admitChan k)).inFlight = (s.chan (admitChan k)).inFlight ++ [.admission d]
      ∧ (u.chan (admitChan k)).credits = 0 ∧ u.pipe k = { s.pipe k with toBi := l } ∧ u.pipe (1 - k) = s.pipe (1 - k)
      ∧ s.restKept u [])
  ∧ (∀ (p : Nat) (q : Copy) (s : State), p < 112 → (nget s.ports p).isSome = true → 0 < (s.chan (ingressChan p)).returning →
    (s.chan (ingressChan p)).credits = 0 → (s.mac p).unsent.head? = some q → s.headersGo p = true → (s.mac p).waiting < 8 →
    (∀ r ∈ sourcesOf (ingressChan p), r ≠ p → (s.mac r).unsent = []) →
    Completes (.creditReturn (ingressChan p)) s fun u =>
      (u.chan (ingressChan p)).inFlight = (s.chan (ingressChan p)).inFlight ++ [.header p q.seq]
      ∧ (u.chan (ingressChan p)).credits = 0 ∧ (∀ r, r ≠ p → u.mac r = s.mac r) ∧ s.restKept u [])
  ∧ (∀ (c : Chan) (s : State), (s.chan c).returning = 0 → Completes (.creditReturn c) s fun u => u = { s with out := [] })

/-- R476, R477 and R52; `b` is the state when the command comes. R478. -/
def Obligations.InterruptsPendAndLeave : Prop :=
  (∀ (n t : Nat) (s : State), n < 128 → (n % 8 = 0 ∨ (s.begin t).islUp (n / 8) = true) →
    (s.begin t).isSet (MI.IC_CFG.TARGET n) = false →
    Completes (.interruptEdge n t) s fun u =>
      u = { s.begin t with regs := u.regs } ∧ (s.begin t).regsKept u [MI.IC_PEND.PEND (n / 64)] ∧ u.pend n = true
      ∧ ∀ m, m < 128 → m ≠ n → u.pend m = (s.begin t).pend m)
  ∧ (∀ (n t : Nat) (s : State), n < 128 → ((s.begin t).counted 0).claimable n = true →
    (∀ m, m < 128 → ((s.begin t).counted 0).claimable m = true →
      ((s.begin t).counted 0).rd (MI.IC_CFG.PRIO m) < ((s.begin t).counted 0).rd (MI.IC_CFG.PRIO n)
        ∨ ((s.begin t).counted 0).rd (MI.IC_CFG.PRIO m) = ((s.begin t).counted 0).rd (MI.IC_CFG.PRIO n) ∧ n ≤ m) →
    Completes (.icClaim t) s fun u =>
      u = { (s.begin t).counted 0 with regs := u.regs, resp := 2 ^ 63 + ((s.begin t).counted 0).rd (MI.IC_CFG.PRIO n) * 2 ^ 8 + n }
      ∧ u.pend n = false ∧ u.rd (MI.IC_CFG.INSVC n) = 1
      ∧ ((s.begin t).counted 0).regsKept u [MI.IC_PEND.PEND (n / 64), MI.IC_CFG.INSVC n])
  ∧ (∀ (t : Nat) (s : State), (∀ n, n < 128 → ((s.begin t).counted 0).claimable n = false) →
    Completes (.icClaim t) s fun u => u = { (s.begin t).counted 0 with resp := 0 })
  ∧ (∀ (src : Src) (n t : Nat) (s : State), n < 128 → src ≠ .host → ((s.begin t).counted 0).islUp 0 = true →
    ((s.begin t).counted 0).isSet (MI.IC_CFG.TARGET n) = false → ((s.begin t).counted 0).isSet (MI.IC_CFG.INSVC n) = true →
    ((s.begin t).counted 0).reaches src .store 0 0x1420 = true →
    Completes (.icComplete src n t) s fun u =>
      u = { (s.begin t).counted 0 with regs := u.regs } ∧ u.rd (MI.IC_CFG.INSVC n) = 0
      ∧ u.pend n = (((s.begin t).counted 0).pend n || (((s.begin t).counted 0).lineActive n && ((s.begin t).counted 0).islUp (n / 8)))
      ∧ ((s.begin t).counted 0).regsKept u [MI.IC_PEND.PEND (n / 64), MI.IC_CFG.INSVC n])
  ∧ (∀ (n t : Nat) (s : State), n < 128 → (n % 8 = 0 ∨ (s.begin t).islUp (n / 8) = true) →
    (s.begin t).isSet (MI.IC_CFG.TARGET n) = true → (s.begin t).isSet (MI.IC_CFG.PRIO n) = true →
    (s.begin t).isSet (MI.IC_CFG.INSVC n) = false →
    Completes (.interruptEdge n t) s fun u =>
      u.pend n = false ∧ u.rd (MI.IC_CFG.INSVC n) = 1
      ∧ (let v := (s.begin t).rd (MI.IC_CFG.VEC n)
         if (s.begin t).msixOpen v then
           u.out = (s.begin t).out ++ [.msix v ((s.begin t).rd (MI.MSIX_TABLE.DATA v 0))
             ((s.begin t).rd (MI.MSIX_TABLE.DATA v 1) % 2 ^ 32)]
         else v < 32 → bitOf (u.rd MI.MSIX_PBA.PBA) v = true ∧ u.out = (s.begin t).out)
      ∧ (s.begin t).regsKept u [MI.IC_PEND.PEND (n / 64), MI.IC_CFG.INSVC n, MI.MSIX_PBA.PBA]
      ∧ u = { s.begin t with regs := u.regs, out := u.out })
  ∧ (∀ (n mask t : Nat) (s : State), n < 128 → ((s.begin t).counted 0).isSet (MI.IC_CFG.TARGET n) = true →
    bitOf mask (((s.begin t).counted 0).rd (MI.IC_CFG.VEC n)) = true → ((s.begin t).counted 0).lineActive n = false → ((s.begin t).counted 0).pend n = false →
    Completes (.icHeoi .host mask t) s fun u =>
      u.rd (MI.IC_CFG.INSVC n) = 0 ∧ ((s.begin t).counted 0).restKept u [] ∧ u = { (s.begin t).counted 0 with regs := u.regs, out := u.out })
  ∧ (∀ (c : MsixChange) (t : Nat) (s : State), (s.begin t).isSet MI.PCIE_STAT.LINK_UP = true →
    Completes (.msixUnmask c t) s fun u =>
      (match c with
        | .control bme en fm => u.rd MI.PCIE_STAT.BME = bme.toNat ∧ u.rd MI.PCIE_STAT.MSIX_EN = en.toNat
            ∧ u.rd MI.PCIE_STAT.FUNC_MASK = fm.toNat
        | .vector v m => bitOf (u.rd (MI.MSIX_TABLE.DATA (v % 32) 1)) 32 = m
        | .device p r => u.mg = { (s.begin t).mg with mps := max 128 (min 256 p), mrrs := max 128 r })
      ∧ (∀ v, v < 32 → u.msixOpen v = true → bitOf (u.rd MI.MSIX_PBA.PBA) v = false)
      ∧ u = { s.begin t with regs := u.regs, out := u.out, mg := u.mg })

/-- R467, R484 and R485; the moment MINMAX_CLR acts is the model's (notes/assumptions/80.md). R486 to R490. -/
def Obligations.CoreTimersDoorbellsSensorsAndWatchdog : Prop :=
  (∀ (t : Nat) (s : State),
    Completes (.machineTimer t) s fun u =>
      u.rd MI.MTIME.TIME = ((s.begin t).rd MI.MTIME.TIME + ((s.begin t).now - (s.begin t).mg.mtimeAt) / 40) % 2 ^ 64
      ∧ u.mg.mtip = decide (u.rd MI.MTIMECMP.TIME ≤ u.rd MI.MTIME.TIME)
      ∧ (s.begin t).regsKept u [MI.MTIME.TIME] ∧ u = { s.begin t with regs := u.regs, mg := u.mg })
  ∧ (∀ (src : Src) (mask t : Nat) (s : State), src ≠ .host → ((s.begin t).counted 0).islUp 0 = true →
    ((s.begin t).counted 0).reaches src .store 0 0x7F10 = true →
    Completes (.c2hSet src mask t) s fun u =>
      u.rd MI.MBX_C2H_BELL.BELL = (((s.begin t).counted 0).rd MI.MBX_C2H_BELL.BELL ||| mask % 2 ^ 32) % 2 ^ MI.MBX_C2H_BELL.BELL.width
      ∧ ((s.begin t).counted 0).restKept u [MI.MBX_C2H_BELL.BELL] ∧ u = { (s.begin t).counted 0 with regs := u.regs, out := u.out })
  ∧ (∀ (ch value t : Nat) (s : State), ch ≤ 12 →
    Completes (.sensorConversion ch value t) s fun u =>
      let b := s.begin t
      let v := if ch = 11 then min value 3000 else value % 65536
      let again := b.isSet (MI.SENS.VALID ch) = false ∨ b.mg.restart.contains ch = true
      u.rd (MI.SENS.VALUE ch) = v ∧ u.rd (MI.SENS.VALID ch) = 1
      ∧ (again → u.rd (MI.SENS.MIN ch) = v ∧ u.rd (MI.SENS.MAX ch) = v)
      ∧ (¬ again → sensInt ch (u.rd (MI.SENS.MIN ch)) = min (sensInt ch (b.rd (MI.SENS.MIN ch))) (sensInt ch v)
          ∧ sensInt ch (u.rd (MI.SENS.MAX ch)) = max (sensInt ch (b.rd (MI.SENS.MAX ch))) (sensInt ch v))
      ∧ (b.isSet (MI.SENS_LIM.EN ch) = true → sensInt ch (b.rd (MI.SENS_LIM.HI ch)) < sensInt ch v →
          u.rd (MI.SENS.HI_SEEN ch) = 1)
      ∧ (b.isSet (MI.SENS_LIM.EN ch) = true → sensInt ch v < sensInt ch (b.rd (MI.SENS_LIM.LO ch)) →
          u.rd (MI.SENS.LO_SEEN ch) = 1)
      ∧ b.restKept u [MI.SENS.VALUE ch, MI.SENS.MIN ch, MI.SENS.MAX ch, MI.SENS.VALID ch, MI.SENS.HI_SEEN ch,
          MI.SENS.LO_SEEN ch]
      ∧ u = { b with regs := u.regs, mg := u.mg, out := u.out })
  ∧ (∀ (src : Src) (mask t : Nat) (s : State), src ≠ .host → ((s.begin t).counted 0).islUp 0 = true →
    ((s.begin t).counted 0).reaches src .store 0 0x5100 = true →
    Completes (.minmaxClr src mask t) s fun u =>
      (∀ c, c < 13 → u.mg.restart.contains c = (bitOf mask c || ((s.begin t).counted 0).mg.restart.contains c))
      ∧ u = { (s.begin t).counted 0 with mg := u.mg })
  ∧ (∀ (t : Nat) (s b : State), b = (s.begin t).counted 0 → b.reaches .coreM .store 0 0x4008 = true →
    Completes (.wdtService .coreM 8 0xC3 t) s fun u =>
      u.rd MI.WDT_STAT.REMAIN = max 100 (b.rd MI.WDT_CFG.TIMEOUT_MS) % 2 ^ 16
      ∧ u.rd MI.WDT_LAST_SVC.WALL_NS = unsignedOf 64 ((b.time : Int) + b.wallOfs)
      ∧ b.regsKept u [MI.WDT_STAT.REMAIN, MI.WDT_LAST_SVC.WALL_NS] ∧ u = { b with regs := u.regs, mg := u.mg })
  ∧ (∀ (src : Src) (size key t : Nat) (s : State), ¬ (src = .coreM ∧ size = 8 ∧ key = 0xC3) →
    (s.begin t).reaches src .store 0 0x4008 = true →
    Completes (.wdtService src size key t) s fun u =>
      u.rd MI.WDT_STAT.REMAIN = (s.begin t).rd MI.WDT_STAT.REMAIN
      ∧ u.rd MI.WDT_LAST_SVC.WALL_NS = (s.begin t).rd MI.WDT_LAST_SVC.WALL_NS
      ∧ u.rd MI.WDT_STAT.REFUSED_SEEN = 1 ∧ u.rd MI.WDT_STAT.REFUSED = ((s.begin t).rd MI.WDT_STAT.REFUSED + 1) % 2 ^ 16)
  ∧ (∀ (timeout warn grace t : Nat) (en : Bool) (s b : State), b = (s.begin t).counted 0 →
    b.reaches .coreM .store 0 0x4000 = true → (en || b.policy 3) = true →
    Completes (.wdtCfgWrite .coreM timeout warn grace en t) s fun u =>
      u.rd MI.WDT_CFG.TIMEOUT_MS = timeout % 2 ^ 16 ∧ u.rd MI.WDT_CFG.WARN_MS = warn % 2 ^ 16
      ∧ u.rd MI.WDT_CFG.GRACE_MS = grace % 2 ^ 16 ∧ u.rd MI.WDT_CFG.EN = en.toNat
      ∧ u.rd MI.WDT_STAT.REMAIN = max 100 (timeout % 2 ^ 16) % 2 ^ 16 ∧ u.mg.warned = false
      ∧ u = { b with regs := u.regs, mg := u.mg })
  ∧ (∀ (src : Src) (timeout warn grace t : Nat) (en : Bool) (s : State), (s.begin t).reaches src .store 0 0x4000 = true →
    ¬ (src = .coreM ∧ (en || (s.begin t).policy 3) = true) →
    Completes (.wdtCfgWrite src timeout warn grace en t) s fun u =>
      u.rd MI.WDT_CFG.TIMEOUT_MS = (s.begin t).rd MI.WDT_CFG.TIMEOUT_MS ∧ u.rd MI.WDT_CFG.EN = (s.begin t).rd MI.WDT_CFG.EN
      ∧ u.rd MI.WDT_STAT.REFUSED_SEEN = 1 ∧ u.rd MI.WDT_STAT.REFUSED = ((s.begin t).rd MI.WDT_STAT.REFUSED + 1) % 2 ^ 16)
  ∧ (∀ (t : Nat) (s : State), (s.begin t).wdtSync.rd MI.WDT_STAT.REMAIN ≤ (s.begin t).rd MI.WDT_CFG.WARN_MS →
    (s.begin t).mg.warned = false → (s.begin t).isSet MI.WDT_CFG.EN = true →
    (s.begin t).isSet (MI.IC_CFG.TARGET 0) = false →
    Completes (.wdtWarning t) s fun u =>
      u.rd MI.WDT_STAT.WARNED = 1 ∧ u.pend 0 = true ∧ u.mg.warned = true
      ∧ u = { s.begin t with regs := u.regs, mg := u.mg })
  ∧ (∀ (t : Nat) (s : State), (s.begin t).isSet MI.WDT_STAT.ERASE_SUSP = true →
    (s.begin t).fl.opSince + 2000000000 ≤ (s.begin t).now →
    Completes (.eraseGuardRunout t) s fun u =>
      u.rd MI.WDT_STAT.ERASE_SUSP = 0 ∧ u.rd MI.WDT_STAT.GUARD_OUT = 1 ∧ u = { s.begin t with regs := u.regs, mg := u.mg })
  ∧ (∀ (t : Nat) (s : State), (s.begin t).debugOpen = true → (s.begin t).mg.halted = false →
    Completes (.debugHalt t) s fun u =>
      u.mg.halted = true ∧ u.rd MI.WDT_STAT.DEBUG_FROZEN = 1 ∧ u = { s.begin t with regs := u.regs, mg := u.mg })
  ∧ (∀ (t : Nat) (s : State), (s.begin t).mg.halted = true →
    Completes (.debugResume t) s fun u =>
      u.mg.halted = false ∧ u.rd MI.WDT_STAT.DEBUG_FROZEN = 0 ∧ u = { s.begin t with regs := u.regs, mg := u.mg })

/-- R339, R470, R481 and R482. That the ring lies in SRAM is the model's (notes/assumptions/82.md). R33, R124, R475 and R480. -/
def Obligations.DmaAndPcieRequestsComplete : Prop :=
  (∀ (c t : Nat) (s : State), c < 4 → (s.begin t).isSet (MI.DMA_CTL.EN c) = true →
    (s.begin t).isSet (MI.DMA_STAT.HALTED c) = false → nget (s.begin t).mg.dma c = none →
    (s.begin t).busWaits (.dma c) = false →
    (s.begin t).rd (MI.DMA_STAT.CONS c) ≠ (s.begin t).rd (MI.DMA_PROD.PROD c) →
    Completes (.dmaDescriptorStart c t) s fun u =>
      let b := s.begin t
      let d := if inSram (b.dmaDesc c) 32 then b.coreRead (b.dmaDesc c) 32 else []
      let len := leNat (sliceAt d 12 4) % 2 ^ 21
      let loc := leNat (sliceAt d 8 4)
      let flags := leNat (sliceAt d 16 4)
      let addr := leNat (sliceAt d 0 8)
      if len = 0 ∨ 1048576 < len ∨ (inSram loc len || b.inFixed loc len) = false then
        u.rd (MI.DMA_STAT.ERR_CODE c) = 4 ∧ u.rd (MI.DMA_STAT.ERR c) = 1 ∧ u.rd (MI.DMA_STAT.HALTED c) = 1
        ∧ nget u.mg.dma c = none
      else if b.isSet MI.PCIE_STAT.LINK_UP = false ∨ b.isSet MI.PCIE_STAT.BME = false then
        u.rd (MI.DMA_STAT.ERR_CODE c) = 5 ∧ u.rd (MI.DMA_STAT.ERR c) = 1 ∧ u.rd (MI.DMA_STAT.HALTED c) = 1
        ∧ nget u.mg.dma c = none
      else
        nget u.mg.dma c = some ⟨addr, loc, len, bitOf flags 0, bitOf flags 1, b.now⟩
        ∧ b.restKept u [] ∧ b.memoriesKept u
        ∧ u.di = (if bitOf flags 0 = true ∧ inSram loc len = false then (b.dramAsk (.dma c) false (loc - 0x80000000) len []).di
            else b.di)
        ∧ (bitOf flags 0 = false → ((hostPieces (min 512 b.mg.mrrs) (len + 1) addr len).map fun p =>
            Output.dmaRead c p.1 p.2) <:+ u.out)
        ∧ u = { b with regs := u.regs, mg := u.mg, out := u.out, di := u.di })
  ∧ (∀ (c t : Nat) (e : DmaEnd) (o : DmaOp) (s b : State), nget (s.begin t).mg.dma c = some o →
    (s.begin t).busWaits (.dma c) = false → (e = .ok ∨ e = .corrected) →
    b = (if e = .corrected ∧ (o.toHost && inSram o.localAddr o.len) = true then (s.begin t).sramCheck .corrected
      else s.begin t) →
    Completes (.dmaDescDone c e t) s fun u =>
      nget u.mg.dma c = none
      ∧ u.rd (MI.DMA_STAT.CONS c) = (b.rd (MI.DMA_STAT.CONS c) + 1) % 2 ^ 16
      ∧ (o.irq = true → u.rd (MI.DMA_STAT.DESC_DONE c) = 1)
      ∧ (o.toHost = true → u.hostRead o.hostAddr o.len = b.dmaBytes c o)
      ∧ (let v := if o.toHost then b.hostPost o.hostAddr (b.dmaBytes c o)
           else b.busWrite (.dma c) o.localAddr (b.hostRead o.hostAddr o.len)
         let w := (v.busDrop (.dma c)).dmaStatus c 1
         w.memoriesKept u ∧ u.di = w.di)
      ∧ b.restKept u [MI.DMA_STAT.CONS c, MI.DMA_STAT.DESC_DONE c])
  ∧ (∀ (c t : Nat) (e : DmaEnd) (o : DmaOp) (s : State), nget (s.begin t).mg.dma c = some o →
    (s.begin t).busWaits (.dma c) = true → (e = .ok ∨ e = .corrected) →
    Completes (.dmaDescDone c e t) s fun u => u = s.begin t)
  ∧ (∀ (c t : Nat) (e : DmaEnd) (o : DmaOp) (s : State), nget (s.begin t).mg.dma c = some o → e ≠ .ok → e ≠ .corrected →
    Completes (.dmaDescDone c e t) s fun u =>
      nget u.mg.dma c = none ∧ u.rd (MI.DMA_STAT.ERR c) = 1 ∧ u.rd (MI.DMA_STAT.HALTED c) = 1
      ∧ u.rd (MI.DMA_STAT.CONS c) = (s.begin t).rd (MI.DMA_STAT.CONS c)
      ∧ u.rd (MI.DMA_STAT.ERR_CODE c) = (match e with
          | .ok => 0 | .corrected => 0 | .cplError => 2 | .poisoned => 3 | .linkDown => 5 | .localEcc => 6)
      ∧ (e = .localEcc → o.toHost = true → inSram o.localAddr o.len = true → u.rd MI.SRAM_ECC.UNCORR_SEEN = 1))
  ∧ (∀ (c t : Nat) (o : DmaOp) (s : State), nget (s.begin t).mg.dma c = some o → o.toHost = false →
    o.since + 50000000 ≤ (s.begin t).now →
    Completes (.dmaCplTimeout c t) s fun u =>
      nget u.mg.dma c = none ∧ u.rd (MI.DMA_STAT.ERR_CODE c) = 1 ∧ u.rd (MI.DMA_STAT.HALTED c) = 1
      ∧ u.rd MI.PCIE_EVT.CPL_TIMEOUT = 1)
  ∧ (∀ (r : PcieReq) (ecc : Ecc) (t : Nat) (s : State), (s.begin t).isSet MI.PCIE_STAT.LINK_UP = true → r.bar = 2 →
    r.wr = true → r.poisoned = false → r.off + r.enable.length ≤ 0x40000 → r.off % 4 = 0 → r.enable.length % 4 = 0 →
    r.enable.all (fun e => e) = true →
    Completes (.pcieInboundRequest r ecc t) s fun u =>
      (if (s.begin t).policy 1 then
        ∀ a, u.sramRead a 1 = if r.off ≤ a ∧ a < r.off + r.enable.length then [r.data.getD (a - r.off) 0]
          else (s.begin t).sramRead a 1
      else u.sram = (s.begin t).sram ∧ u.rd MI.ACC_STAT.UNMAPPED = 1 ∧ u.rd MI.ACC_STAT.LAST_SRC = 1)
      ∧ u.dram = (s.begin t).dram ∧ u.flash = (s.begin t).flash ∧ u.host = (s.begin t).host)
  ∧ (∀ (r : PcieReq) (ecc : Ecc) (t : Nat) (s : State), (s.begin t).isSet MI.PCIE_STAT.LINK_UP = true →
    (r.bar = 0 ∧ 0x1000000 < r.off + r.enable.length ∨ r.bar = 2 ∧ 0x100000 < r.off + r.enable.length
      ∨ r.bar = 4 ∧ 0x10000000 < r.off + r.enable.length) →
    Completes (.pcieInboundRequest r ecc t) s fun u =>
      u.rd MI.PCIE_EVT.UR_SENT = 1 ∧ (r.wr = false → u.out.getLast? = some (.completion 1 []))
      ∧ u = { s.begin t with regs := u.regs, out := u.out })
  ∧ (∀ (off n : Nat) (data : Frame) (ecc : Ecc) (t : Nat) (s : State), (s.begin t).isSet MI.PCIE_STAT.LINK_UP = true →
    off + n ≤ 0x40000 → ecc ≠ .uncorrectable →
    Completes (.pcieInboundRequest ⟨false, 2, off, data, List.replicate n true, false⟩ ecc t) s fun u =>
      u.out.getLast? = some (.completion 0 ((s.begin t).sramRead off n)) ∧ (s.begin t).memoriesKept u)
  ∧ (∀ (isl off : Nat) (data : Frame) (ecc : Ecc) (t : Nat) (s : State), (s.begin t).isSet MI.PCIE_STAT.LINK_UP = true →
    isl < 16 → off < 0x100000 → off % 8 = 0 → isPop isl off = false →
    Completes (.pcieInboundRequest ⟨false, 0, isl * 0x100000 + off, data, List.replicate 8 true, false⟩ ecc t) s fun u =>
      let v := ((s.begin t).count 0 0x102 1).regRead .host isl off
      u = v.2.emit (.completion 0 (leBytes 8 v.1)))
  ∧ (∀ (r : PcieReq) (ecc : Ecc) (t : Nat) (s : State),
    ((s.begin t).isSet MI.PCIE_STAT.LINK_UP = false → Completes (.pcieInboundRequest r ecc t) s fun u => u = s.begin t)
    ∧ ((s.begin t).isSet MI.PCIE_STAT.LINK_UP = true → r.wr = true → r.poisoned = true →
      (r.bar = 0 ∧ r.off + r.enable.length ≤ 0x1000000 ∨ r.bar = 2 ∧ r.off + r.enable.length ≤ 0x100000
        ∨ r.bar = 4 ∧ r.off + r.enable.length ≤ 0x10000000) →
      Completes (.pcieInboundRequest r ecc t) s fun u =>
        u.rd MI.PCIE_EVT.POISON_IN = 1 ∧ u = { s.begin t with regs := u.regs, out := u.out }))
  ∧ (∀ (perst : Bool) (t : Nat) (s : State),
    Completes (.pcieLinkReset perst t) s fun u =>
      u.rd MI.PCIE_STAT.LINK_UP = 0 ∧ u.rd MI.PCIE_STAT.BME = 0 ∧ u.rd MI.PCIE_STAT.MSIX_EN = 0 ∧ u.mg.dma = []
      ∧ u.mg.mps = 128 ∧ u.mg.mrrs = 512 ∧ (perst = true → u.rd MI.PCIE_EVT.PERST_SEEN = 1)
      ∧ ((s.begin t).isSet MI.PCIE_STAT.LINK_UP = true → u.rd MI.PCIE_EVT.LINK_CHG = 1))
  ∧ (∀ (speed width t : Nat) (s : State),
    Completes (.pcieLinkUp speed width t) s fun u =>
      u.rd MI.PCIE_STAT.LINK_UP = 1 ∧ u.rd MI.PCIE_STAT.SPEED = speed % 8 ∧ u.rd MI.PCIE_STAT.WIDTH = width % 16
      ∧ u.rd MI.PCIE_EVT.LINK_CHG = 1
      ∧ u.out.getLast? = some (.config ((s.begin t).rd MI.PCIE_ID.VENDOR) ((s.begin t).rd MI.PCIE_ID.DEVICE)
        ((s.begin t).rd MI.PCIE_ID.REVISION) 0x028000 ((s.begin t).rd MI.PCIE_ID.VENDOR) 0x0F96)
      ∧ u = { s.begin t with regs := u.regs, out := u.out })
  ∧ (∀ (addr t : Nat) (k : AccKind) (user : Bool) (s : State), coreMapped addr = false →
    Completes (.coreAccessFault addr k user t) s fun u =>
      u.rd MI.ACC_STAT.UNMAPPED = 1 ∧ u.out = (s.begin t).out ++ [.coreFault (faultCauseOf k) addr]
      ∧ u = { s.begin t with regs := u.regs, out := u.out })
  ∧ (∀ (addr t : Nat) (k : AccKind) (user : Bool) (s : State), coreMapped addr = true →
    (addr < 0x10000 ∧ (user = true ∨ k ≠ .load ∧ k ≠ .fetch)
      ∨ 0x20000000 ≤ addr ∧ addr < 0x28000000 ∧ k ≠ .load ∧ k ≠ .fetch
      ∨ isAtomic k = true ∧ inSram addr 4 = false
      ∨ (s.begin t).pmpAllows (if user then .coreU else .coreM) k addr 1 = false) →
    Completes (.coreAccessFault addr k user t) s fun u =>
      u = { s.begin t with out := (s.begin t).out ++ [.coreFault (faultCauseOf k) addr] })

/-- R542, R547 to R551 and R554. R473 and R574; what an open module reads as, and its dmcontrol, are the model's (notes/assumptions/110.md). -/
def Obligations.CountersAndDebugAccess : Prop :=
  (∀ (src : Src) (isl : Nat) (s : State), src ≠ .host → isl < 16 → (s.quiet.counted isl).islUp isl = true →
    (s.quiet.counted isl).reaches src .store isl 0xF0208 = true →
    Completes (.clearAll src isl) s fun u =>
      (∀ k, k < 32 → u.rd (C.CNT.COUNT isl k) = 0) ∧ u.rd (C.CNT_OVF.OVF isl) = 0
      ∧ (s.quiet.counted isl).regsKept u (C.CNT_OVF.OVF isl :: (List.range 32).map (C.CNT.COUNT isl)) ∧ u = { s.quiet.counted isl with regs := u.regs })
  ∧ (∀ (src : Src) (atEn : Bool) (t : Nat) (s : State), src ≠ .host → ((s.begin t).counted 0).islUp 0 = true →
    ((s.begin t).counted 0).isSet MI.SNAP_STAT.BUSY = false →
    ((s.begin t).counted 0).reaches src .store 0 0xA000 = true →
    Completes (.snapGo src atEn t) s fun u =>
      let b := (s.begin t).counted 0
      u.rd MI.SNAP_STAT.BUSY = 1 ∧ u.rd MI.SNAP_STAT.MISSED_MASK = 0 ∧ u.cnt.waiting = List.range 16
      ∧ u.rd MI.SNAP_STAT.SNAP_SEQ = (b.rd MI.SNAP_STAT.SNAP_SEQ + 1) % 2 ^ MI.SNAP_STAT.SNAP_SEQ.width
      ∧ u.rd MI.SNAP_TIME.TIME = (if atEn = true ∧ b.time + 1000 ≤ b.rd MI.SNAP_AT.TIME then b.rd MI.SNAP_AT.TIME
          else b.time + 2000) % 2 ^ MI.SNAP_TIME.TIME.width
      ∧ u = { b with regs := u.regs, cnt := u.cnt })
  ∧ (∀ (isl t : Nat) (s : State), (s.begin t).cnt.waiting.contains isl = true →
    (s.begin t).rd MI.SNAP_TIME.TIME ≤ (s.begin t).time →
    Completes (.snapshotCapture isl t) s fun u =>
      let b := s.begin t
      u.cnt.waiting = b.cnt.waiting.filter (· != isl)
      ∧ (if b.islRuns isl then nget u.cnt.copies isl = some (b.counterCopy isl)
          ∧ u.rd (C.CNT_SNAP_STAT.SEQ isl) = b.rd MI.SNAP_STAT.SNAP_SEQ % 2 ^ 16
        else u.cnt.copies = b.cnt.copies ∧ u.rd MI.SNAP_STAT.MISSED = 1)
      ∧ (u.cnt.waiting = [] → u.rd MI.SNAP_STAT.BUSY = 0 ∧ u.rd MI.SNAP_STAT.DONE = 1)
      ∧ u = { b with regs := u.regs, cnt := u.cnt })
  ∧ (∀ (src : Src) (k data : Nat) (s : State), src ≠ .host → k < 2 → (s.quiet.counted (5 + k)).islUp (5 + k) = true → data % 2 = 1 →
    (s.quiet.counted (5 + k)).isSet (P.PS_CFG.EN k) = false →
    (s.quiet.counted (5 + k)).reaches src .store (5 + k) 0x700 = true →
    Completes (.psEnable src k data) s fun u =>
      u.rd (P.PS_STAT.WR_IDX k) = 0 ∧ u.rd (P.PS_STAT.FULL k) = 0 ∧ u.rd (P.PS_CFG.EN k) = 1
      ∧ (u.pipe k).sampler = Selector.seed (u.rd (P.PS_CFG.N k)) (u.isSet (P.PS_CFG.MODE k)) ((s.quiet.counted (5 + k)).rd (P.PS_SEED.SEED k))
      ∧ (u.pipe k).sampledSinceEn = 0 ∧ (s.quiet.counted (5 + k)).memoriesKept u)
  ∧ (∀ (t : Nat) (s : State),
    Completes (.tapInstructionLoad .idcode t) s fun u =>
      u.mg = { (s.begin t).mg with tap := .idcode } ∧ u.out = (s.begin t).out ++ [.tdo idcodeValue])
  ∧ (∀ (i : TapInstr) (t : Nat) (s : State), i ≠ .idcode → (s.begin t).isSet AO.FUSE_STAT.FIELD_SEAL = true →
    Completes (.tapInstructionLoad i t) s fun u => u = { s.begin t with mg := { (s.begin t).mg with tap := .bypass } })
  ∧ (∀ (wr : Bool) (addr data t : Nat) (s : State), (s.begin t).debugOpen = false →
    Completes (.dmiAccess wr addr data t) s fun u =>
      u = { s.begin t with resp := if wr then (s.begin t).resp else 0 })
  ∧ (∀ (addr data t : Nat) (s : State), (s.begin t).debugOpen = true →
    Completes (.dmiAccess false addr data t) s fun u =>
      u = { s.begin t with resp := Config.freeValue (s.begin t).free % 2 ^ 32, free := (s.begin t).free + 1 })
  ∧ (∀ (data t : Nat) (s : State), (s.begin t).debugOpen = true → (s.begin t).mg.halted = false → bitOf data 0 = true →
    bitOf data 31 = true →
    Completes (.dmiAccess true 0x10 data t) s fun u =>
      u.mg.halted = true ∧ u.rd MI.WDT_STAT.DEBUG_FROZEN = 1 ∧ u = { s.begin t with regs := u.regs, mg := u.mg })

/-- R339, R342, R345, R346, R348, R355 and R356. R32, R36, R466, R473 and R475. -/
def Obligations.DramServesItsClients : Prop :=
  (∀ (errs : Errs) (t : Nat) (r : DramReq) (s : State), (s.begin t).islRuns 9 = true →
    (s.begin t).isSet DI.CTL.TRAIN_MODE = false → (s.begin t).dramPick = some r → r.wr = true →
    (r.addr % 4 = 0 ∧ r.len % 4 = 0 ∨ (s.begin t).di.flips = [] ∧ errs = [] ∧ r.data.length = r.len) →
    Completes (.dramRequestServe errs t) s fun u =>
      (∀ a, u.dramRead a 1 = if r.addr ≤ a ∧ a < r.addr + r.len then [r.data.getD (a - r.addr) 0]
        else (s.begin t).dramRead a 1)
      ∧ u.sram = (s.begin t).sram ∧ u.flash = (s.begin t).flash ∧ u.host = (s.begin t).host)
  ∧ (∀ (t a : Nat) (k : AccKind) (r : DramReq) (s : State), (s.begin t).islRuns 9 = true →
    (s.begin t).isSet DI.CTL.TRAIN_MODE = false → (s.begin t).dramPick = some r → r.wr = false →
    (s.begin t).di.flips = [] →
    Completes (.dramRequestServe [] t) s fun u =>
      (r.who = .core k a → u.resp = leNat ((s.begin t).dramRead r.addr r.len))
      ∧ (r.who = .host → Output.completion 0 ((s.begin t).dramRead r.addr r.len) ∈ u.out)
      ∧ (r.who = .core k a ∨ r.who = .host → (s.begin t).memoriesKept u))
  ∧ (∀ (t a m : Nat) (k : AccKind) (r : DramReq) (s : State), (s.begin t).islRuns 9 = true →
    (s.begin t).isSet DI.CTL.TRAIN_MODE = false → (s.begin t).dramPick = some r → r.wr = false → r.who = .core k a →
    r.addr % 4 = 0 → r.len = 4 → (s.begin t).di.flips = [] → beatErr (syndrome m) = .bad →
    Completes (.dramRequestServe [(r.addr / 4, m)] t) s fun u =>
      Output.coreFault (faultCauseOf k) a ∈ u.out ∧ u.resp = (s.begin t).resp ∧ u.rd DI.ECC_STAT.UNCORR_SEEN = 1
      ∧ (s.begin t).memoriesKept u)
  ∧ (∀ (errs : Errs) (t : Nat) (s : State), ((s.begin t).islRuns 9 = false ∨ (s.begin t).isSet DI.CTL.TRAIN_MODE = true
      ∨ (s.begin t).now < (s.begin t).di.sliceEnd ∧ ∀ r ∈ (s.begin t).di.queue, r.who.num ≠ 0) →
    Completes (.dramRequestServe errs t) s fun u => u = s.begin t)
  ∧ (∀ (rank t : Nat) (s : State), (s.begin t).islRuns 9 = true → rank ≤ (s.begin t).rd DI.CFG.RANKS_M1 →
    (s.begin t).refreshDue rank = true →
    Completes (.dramRefresh rank t) s fun u =>
      u.di.rows = (s.begin t).di.rows.filter (fun e => e.1 / 16 != rank)
      ∧ u.out.getLast? = some (.dram "REFRESH" rank 0) ∧ nget u.di.refreshAt rank = some (s.begin t).now
      ∧ (rank = 0 → (s.begin t).di.refreshes + 1 = 8192 →
          u.di.refreshes = 0 ∧ u.di.groupActs = [] ∧ u.di.reqActs = [] ∧ u.rd DI.RH_STAT.THROTTLED = 0)
      ∧ (rank = 0 → (s.begin t).di.refreshes + 1 ≠ 8192 → u.di.refreshes = (s.begin t).di.refreshes + 1)
      ∧ (s.begin t).restKept u [DI.RH_STAT.THROTTLED] ∧ u = { s.begin t with regs := u.regs, di := u.di, out := u.out })
  ∧ (∀ (rank t a : Nat) (s : State), nget (s.begin t).di.refreshAt rank = some a →
    (s.begin t).now < a + (if (s.begin t).isSet DI.CTL.REF_2X then 3900 else 7800) →
    Completes (.dramRefresh rank t) s fun u => u = s.begin t)
  ∧ (∀ (src : Src) (k : AccKind) (addr n data t : Nat) (s : State), src ≠ .host → 0x80000000 ≤ addr →
    addr + n ≤ 0x100000000 → accMisaligned k addr n = false → isAtomic k = false →
    (s.begin t).pmpAllows src k addr n = true →
    Completes (.coreDramAccess src k addr n data t) s fun u =>
      let b := s.begin t
      let off := if 0xC0000000 ≤ addr then b.rd MI.DRAM_WIN.PAGE * 0x40000000 + (addr - 0xC0000000) else addr - 0x80000000
      if b.dramHas off = true ∧ b.dramHas (off + n - 1) = true then
        u.di.queue = b.di.queue ++ dramPieces (.core k addr) (k == .store) b.now (n / 128 + 2) off n (if k = .store then leBytes n data else [])
        ∧ u = { b with di := u.di }
      else u.rd MI.DRAM_WIN.OOR = 1 ∧ b.regsKept u [MI.DRAM_WIN.OOR] ∧ u = { b with regs := u.regs, resp := 0 })
  ∧ (∀ (src : Src) (k : AccKind) (addr n data t : Nat) (s : State), src ≠ .host → 0x80000000 ≤ addr →
    addr + n ≤ 0x100000000 →
    (accMisaligned k addr n = true ∨ isAtomic k = true ∨ (s.begin t).pmpAllows src k addr n = false) →
    Completes (.coreDramAccess src k addr n data t) s fun u =>
      u = { s.begin t with out := (s.begin t).out ++
        [.coreFault (if accMisaligned k addr n then misCauseOf k else faultCauseOf k) addr] })
  ∧ (∀ (off n t : Nat) (wr : Bool) (data : Frame) (s : State),
    Completes (.hostBar4Access off n wr data t) s fun u =>
      let b := s.begin t
      let a := b.rd MI.BAR4_WIN.BASE * 0x10000000 + off
      if b.policy 2 = false then
        u.rd MI.ACC_STAT.UNMAPPED = 1 ∧ u.rd MI.ACC_STAT.LAST_SRC = 1
        ∧ u = { b with regs := u.regs, out := b.out ++ if wr then [] else [.completion 0 (List.replicate n 0)] }
      else if b.dramHas a = true ∧ b.dramHas (a + n - 1) = true then
        u.di.queue = b.di.queue ++ dramPieces .host wr b.now (n / 128 + 2) a n (if wr then (data ++ List.replicate n 0).take n else [])
        ∧ u = { b with di := u.di }
      else u.rd MI.BAR4_WIN.OOR = 1 ∧ b.regsKept u [MI.BAR4_WIN.OOR]
        ∧ u = { b with regs := u.regs, out := b.out ++ if wr then [] else [.completion 0 (List.replicate n 0)] })

/-- R348, R351 and R352. R349, R350 and R354. -/
def Obligations.DramIsBroughtUp : Prop :=
  (∀ (src : Src) (v : Bool) (t : Nat) (s : State), src ≠ .host → ((s.begin t).counted 9).islUp 9 = true →
    ((s.begin t).counted 9).reaches src .store 9 8 = true →
    Completes (.trainModeWrite src v t) s fun u =>
      let b := (s.begin t).counted 9
      u = { b with regs := u.regs }
      ∧ (if v = false then u.rd DI.CTL.TRAIN_MODE = 0 ∧ b.regsKept u [DI.CTL.TRAIN_MODE]
        else if b.mode = 0 then u.rd DI.CTL.TRAIN_MODE = 1 ∧ u.rd MI.MODE_COND.DRAM_READY = 0
          ∧ b.regsKept u [DI.CTL.TRAIN_MODE, MI.MODE_COND.DRAM_READY]
        else u.rd DI.TRN_STAT.MODE_REFUSED = 1 ∧ b.regsKept u [DI.TRN_STAT.MODE_REFUSED]))
  ∧ (∀ (src : Src) (t : Nat) (s : State), src ≠ .host → ((s.begin t).counted 9).islUp 9 = true →
    ((s.begin t).counted 9).reaches src .store 9 8 = true →
    Completes (.initDram src t) s fun u =>
      let b := (s.begin t).counted 9
      u.rd DI.TRN_STAT.INIT_DONE = 0 ∧ u.di.initRun = true ∧ u.di.rows = []
      ∧ (∀ a, u.dramRead a 1 = if b.isSet DI.TRN_STAT.SR_RETAINED then b.dramRead a 1
          else [ramBlank ^^^ BitVec.ofNat 8 (Config.dramByte (b.di.inits + 1) a)])
      ∧ b.regsKept u [DI.TRN_STAT.INIT_DONE] ∧ u = { b with regs := u.regs, di := u.di, dram := u.dram, out := u.out })
  ∧ (∀ (t : Nat) (s : State), (s.begin t).di.initRun = true →
    Completes (.initDone t) s fun u =>
      u.rd DI.TRN_STAT.INIT_DONE = 1 ∧ u.rd DI.TRN_STAT.SR_RETAINED = 0 ∧ u.di.initRun = false
      ∧ (∀ rank m, rank < 2 → m < 7 → nget u.di.mr (8 * rank + m) = some ((s.begin t).di.mrInit.getD m 0))
      ∧ u.di.resetN = true ∧ u.di.cke = true
      ∧ u.out = (s.begin t).out ++ (List.range ((s.begin t).rd DI.CFG.RANKS_M1 + 1)).map fun r => .dram "ZQCL" r 0)
  ∧ (∀ (src : Src) (value mr rank t : Nat) (s : State), src ≠ .host → ((s.begin t).counted 9).islUp 9 = true →
    ((s.begin t).counted 9).reaches src .store 9 0x200 = true →
    Completes (.mrsGo src value mr rank t) s fun u =>
      nget u.di.mr (8 * (rank % 2) + mr % 8) = some (value % 2 ^ 18) ∧ u.rd DI.MRS.DONE = 1
      ∧ u = { (s.begin t).counted 9 with regs := u.regs, di := u.di })
  ∧ (∀ (src : Src) (pattern rank burst len t : Nat) (s : State), src ≠ .host → ((s.begin t).counted 9).islUp 9 = true →
    ((s.begin t).counted 9).isSet DI.CTL.TRAIN_MODE = true → ((s.begin t).counted 9).isSet DI.TRN_STAT.BUSY = false →
    ((s.begin t).counted 9).reaches src .store 9 0x300 = true →
    Completes (.trnWrite src pattern rank burst len t) s fun u =>
      u.rd DI.TRN_STAT.BUSY = 1
      ∧ ∀ e ∈ (((s.begin t).counted 9).trainPattern (pattern % 4) (8 * max 1 (len % 512))).zipIdx,
          u.rawRead (((s.begin t).counted 9).trainBeat (rank % 2) (burst % 512) + e.2) [] = e.1)
  ∧ (∀ (src : Src) (pattern rank burst len t : Nat) (errs : Errs) (s : State), src ≠ .host →
    ((s.begin t).counted 9).islUp 9 = true → ((s.begin t).counted 9).isSet DI.CTL.TRAIN_MODE = true → ((s.begin t).counted 9).isSet DI.TRN_STAT.BUSY = false →
    ((s.begin t).counted 9).reaches src .store 9 0x300 = true →
    Completes (.trnReadCmp src pattern rank burst len errs t) s fun u =>
      let b := (s.begin t).counted 9
      u.rd DI.TRN_STAT.BUSY = 1 ∧ b.memoriesKept u
      ∧ u.rd DI.TRN_STAT.TOTAL = (b.rd DI.TRN_STAT.TOTAL
          + ((b.trainPattern (pattern % 4) (8 * max 1 (len % 512))).zipIdx.map fun e =>
              (indicesOf 40 (bitOf (b.rawRead (b.trainBeat (rank % 2) (burst % 512) + e.2) errs ^^^ e.1))).length).sum)
          % 2 ^ DI.TRN_STAT.TOTAL.width)
  ∧ (∀ (src : Src) (pattern rank burst len t : Nat) (s : State), src ≠ .host → ((s.begin t).counted 9).islUp 9 = true →
    ((s.begin t).counted 9).isSet DI.CTL.TRAIN_MODE = true → ((s.begin t).counted 9).isSet DI.TRN_STAT.BUSY = false →
    ((s.begin t).counted 9).reaches src .store 9 0x300 = true →
    Completes (.trnWrcmp src pattern rank burst len [] t) s fun u =>
      u.rd DI.TRN_STAT.BUSY = 1 ∧ u.rd DI.TRN_STAT.TOTAL = ((s.begin t).counted 9).rd DI.TRN_STAT.TOTAL)
  ∧ (∀ (src : Src) (rank n t : Nat) (s : State), src ≠ .host → ((s.begin t).counted 9).islUp 9 = true →
    ((s.begin t).counted 9).isSet DI.CTL.TRAIN_MODE = true → ((s.begin t).counted 9).isSet DI.TRN_STAT.BUSY = false →
    (    ((s.begin t).counted 9).reaches src .store 9 0x300 = true →
Completes (.trnWlvl src rank n t) s fun u =>
      u.rd DI.TRN_STAT.WL_SEEN = n % 2 ^ DI.TRN_STAT.WL_SEEN.width ∧ u.rd DI.TRN_STAT.BUSY = 1
      ∧ u = { (s.begin t).counted 9 with regs := u.regs })
    ∧ (Completes (.trnCaPar src rank n t) s fun u =>
      u.rd DI.TRN_STAT.TOTAL = (((s.begin t).counted 9).rd DI.TRN_STAT.TOTAL + n) % 2 ^ DI.TRN_STAT.TOTAL.width
      ∧ u.rd DI.TRN_STAT.BUSY = 1 ∧ u = { (s.begin t).counted 9 with regs := u.regs })
    ∧ (Completes (.trnWriteClr src t) s fun u =>
      u.rd DI.TRN_STAT.TOTAL = 0 ∧ (∀ l, l < 40 → u.rd (laneErr l) = 0 ∧ u.rd (laneOvf l) = 0)
      ∧ u.rd DI.TRN_STAT.BUSY = 1 ∧ u = { (s.begin t).counted 9 with regs := u.regs }))
  ∧ (∀ (t : Nat) (s : State), (s.begin t).isSet DI.TRN_STAT.BUSY = true →
    Completes (.trainOpDone t) s fun u =>
      u.rd DI.TRN_STAT.BUSY = 0 ∧ u.rd DI.TRN_STAT.DONE = 1
      ∧ (s.begin t).restKept u [DI.TRN_STAT.BUSY, DI.TRN_STAT.DONE] ∧ u = { s.begin t with regs := u.regs, out := u.out })
  ∧ (∀ (low high : Errs) (ns t : Nat) (s : State), (s.begin t).islRuns 9 = true →
    (s.begin t).isSet DI.CTL.PERIODIC_EN = true → (s.begin t).isSet DI.CTL.TRAIN_MODE = false → ns ≤ 20000 →
    (s.begin t).di.sliceAt + max 1 ((s.begin t).rd DI.CTL.PERIOD_MS) * 1000000 ≤ (s.begin t).now →
    Completes (.retrainSlice low high ns t) s fun u =>
      let b := s.begin t
      let y := b.di.sliceNo % 5
      let rank := b.di.sliceNo / 5 % (b.rd DI.CFG.RANKS_M1 + 1)
      let lo := b.sideFails rank y low
      let hi := b.sideFails rank y high
      u.rd DI.RTR_STAT.SLICES = (b.rd DI.RTR_STAT.SLICES + 1) % 2 ^ DI.RTR_STAT.SLICES.width
      ∧ u.rd DI.RTR_STAT.LAST_NS = ns % 2 ^ DI.RTR_STAT.LAST_NS.width ∧ u.di.rows = []
      ∧ u.di.sliceAt = b.now ∧ u.di.sliceEnd = b.now + ns
      ∧ (∀ r, r ≤ b.rd DI.CFG.RANKS_M1 → Output.dram "ZQCS" r 0 ∈ u.out)
      ∧ (lo = true → hi = true → u.rd DI.RTR_STAT.DRIFT_FAIL = 1)
      ∧ (∀ j, j < 8 → u.rd (DI.DQ_DLY.RD (8 * y + j)) =
          (if lo = hi then b.rd (DI.DQ_DLY.RD (8 * y + j))
          else if lo then min 127 (b.rd (DI.DQ_DLY.RD (8 * y + j)) + 1)
          else b.rd (DI.DQ_DLY.RD (8 * y + j)) - 1) % 2 ^ (DI.DQ_DLY.RD 0).width)
      ∧ b.memoriesKept u)

/-- R511, R512, R514 and R517. -/
def Obligations.FlashControllerRunsCommands : Prop :=
  (∀ (src : Src) (lenM1 t o : Nat) (cmd : Instr) (s b : State), b = (s.begin t).counted 0 →
    (src ≠ .host ∨ b.inRecovery = true) → b.reaches src .store 0 0x9000 = true → b.islUp 0 = true →
    (o = 1 ∧ cmd = .flashProgram src lenM1 t ∨ o = 2 ∧ cmd = .flashErase4k src lenM1 t
      ∨ o = 3 ∧ cmd = .flashErase64k src lenM1 t) →
    (b.isSet MI.FLASH_STAT.BUSY = true →
      Completes cmd s fun u =>
        u = { b with regs := u.regs } ∧ b.regsKept u [MI.FLASH_CMD.OP, MI.FLASH_CMD.LEN_M1])
    ∧ (∀ c, b.isSet MI.FLASH_STAT.BUSY = false → b.flashRefusal src o (b.rd MI.FLASH_ADDR.ADDR)
      (if o = 1 then lenM1 % 256 + 1 else if o = 2 then 4096 else 65536) (b.rd MI.FLASH_SRC.ADDR / 4 * 4) = some c →
      Completes cmd s fun u =>
        u.rd MI.FLASH_STAT.REFUSE = c % 2 ^ MI.FLASH_STAT.REFUSE.width ∧ u.rd MI.FLASH_STAT.REFUSED = 1
        ∧ u = { b with regs := u.regs, out := u.out }))
  ∧ (∀ (src : Src) (lenM1 t o : Nat) (cmd : Instr) (s b : State), b = (s.begin t).counted 0 →
    (src ≠ .host ∨ b.inRecovery = true) → b.reaches src .store 0 0x9000 = true → b.islUp 0 = true →
    (o = 1 ∧ cmd = .flashProgram src lenM1 t ∨ o = 2 ∧ cmd = .flashErase4k src lenM1 t
      ∨ o = 3 ∧ cmd = .flashErase64k src lenM1 t) →
    b.isSet MI.FLASH_STAT.BUSY = false → b.flashRefusal src o (b.rd MI.FLASH_ADDR.ADDR)
      (if o = 1 then lenM1 % 256 + 1 else if o = 2 then 4096 else 65536) (b.rd MI.FLASH_SRC.ADDR / 4 * 4) = none →
    Completes cmd s fun u =>
      b.memoriesKept u
      ∧ (b.fl.op ≠ none → u.rd MI.FLASH_STAT.BUSY = 1
          ∧ u.fl = { b.fl with want := some (if o = 1 then .program true (b.rd MI.FLASH_ADDR.ADDR)
          (b.sramRead (b.rd MI.FLASH_SRC.ADDR / 4 * 4 - 0x10000000) (lenM1 % 256 + 1))
        else .erase true (b.rd MI.FLASH_ADDR.ADDR) (if o = 2 then 4096 else 65536)) })
      ∧ (b.fl.op = none → b.jnlNext = none → b.fl.wantTries = none → (b.holdup (if o = 1 then .program else if o = 2 then .erase4k else .erase64k)).1 = true →
          u.rd MI.FLASH_STAT.BUSY = 1 ∧ u.fl.op = some (if o = 1 then .program true (b.rd MI.FLASH_ADDR.ADDR)
          (b.sramRead (b.rd MI.FLASH_SRC.ADDR / 4 * 4 - 0x10000000) (lenM1 % 256 + 1))
        else .erase true (b.rd MI.FLASH_ADDR.ADDR) (if o = 2 then 4096 else 65536))
          ∧ (o ≠ 1 → u.rd MI.WDT_STAT.ERASE_SUSP = 1 ∧ u.rd MI.FLASH_STAT.ERASING = 1))
      ∧ (b.fl.op = none → b.jnlNext = none → b.fl.wantTries = none → b.fl.wantOldest = false →
          (b.holdup (if o = 1 then .program else if o = 2 then .erase4k else .erase64k)).1 = false →
          u.rd MI.FLASH_STAT.BUSY = 0 ∧ u.rd MI.FLASH_STAT.DEFERRED = 1 ∧ u.fl.op = none)
      ∧ (∀ j, b.fl.op = none → b.jnlNext = some j → (b.holdup (b.storeOf j)).1 = true →
          u.rd MI.FLASH_STAT.BUSY = 1 ∧ u.fl.op = some j ∧ u.fl.want = some (if o = 1 then .program true (b.rd MI.FLASH_ADDR.ADDR)
          (b.sramRead (b.rd MI.FLASH_SRC.ADDR / 4 * 4 - 0x10000000) (lenM1 % 256 + 1))
        else .erase true (b.rd MI.FLASH_ADDR.ADDR) (if o = 2 then 4096 else 65536))))
  ∧ (∀ (t a : Nat) (fw : Bool) (l : Frame) (s : State), (s.begin t).fl.op = some (.program fw a l) →
    Completes (.flashOpDone t) s fun u =>
      (∀ x, byteAt flashBlank u.flash x = if a ≤ x ∧ x < a + l.length
        then byteAt flashBlank (s.begin t).flash x &&& l.getD (x - a) 0 else byteAt flashBlank (s.begin t).flash x)
      ∧ (fw = true → u.rd MI.FLASH_STAT.DONE = 1 ∧ u.rd MI.FLASH_STAT.BUSY = 0)
      ∧ u.sram = (s.begin t).sram ∧ u.dram = (s.begin t).dram ∧ u.host = (s.begin t).host)
  ∧ (∀ (t a n : Nat) (fw : Bool) (s : State), (s.begin t).fl.op = some (.erase fw a n) →
    Completes (.flashOpDone t) s fun u =>
      (∀ x, byteAt flashBlank u.flash x = if a ≤ x ∧ x < a + n then 0xFF else byteAt flashBlank (s.begin t).flash x)
      ∧ (fw = true → u.rd MI.FLASH_STAT.DONE = 1 ∧ u.rd MI.FLASH_STAT.BUSY = 0)
      ∧ u.sram = (s.begin t).sram ∧ u.dram = (s.begin t).dram ∧ u.host = (s.begin t).host)

/-- R520, R521, R523 and R524. R515 to R517, R520 and R522. -/
def Obligations.JournalKeepsRecords : Prop :=
  (∀ (t : Nat) (s : State), ((s.begin t).counted 0).islUp 0 = true →
    ((s.begin t).counted 0).reaches .coreM .store 0 0x9240 = true →
    Completes (.jnlAppend .coreM t) s fun u =>
      let b := (s.begin t).counted 0
      b.memoriesKept u
      ∧ (match (if b.fl.head = none then some 6 else if recTypeOk (recType b.jnlRec) = false then some 3 else b.jnlRefusal) with
        | none => u.fl.queue = b.fl.queue ++ [⟨b.fl.nextSeq, recFill b.jnlRec b.fl.nextSeq b.time false, false⟩]
            ∧ u.fl.nextSeq = (b.fl.nextSeq + 1) % 2 ^ 32 ∧ u.rd MI.JNL_SEQ.LAST_SEQ = b.fl.nextSeq % 2 ^ 32
            ∧ u.rd MI.JNL_STAT.ERROR = 0
        | some c => u.fl = b.fl ∧ u.rd MI.JNL_STAT.ERROR = c % 2 ^ MI.JNL_STAT.ERROR.width ∧ u.rd MI.JNL_STAT.ERR = 1))
  ∧ (∀ (t : Nat) (s : State), ((s.begin t).counted 0).islUp 0 = true →
    ((s.begin t).counted 0).reaches .coreM .store 0 0x9240 = true →
    Completes (.jnlCopy .coreM t) s fun u =>
      let b := (s.begin t).counted 0
      let r := b.jnlSlot (b.rd MI.JNL_COPY.OFS / 64)
      b.memoriesKept u ∧ u.fl.nextSeq = b.fl.nextSeq
      ∧ (if b.fl.head ≠ none ∧ b.pfRefuses = true then
          u.rd MI.FLASH_STAT.REFUSE = 2 ∧ u.rd MI.FLASH_STAT.REFUSED = 1 ∧ u.fl = b.fl
        else match (if b.fl.head = none then some 6 else if recErased r = true ∨ recGood r = false then some 4
            else b.jnlRefusal) with
          | none => u.rd MI.JNL_STAT.ERROR = 0
              ∧ u.fl.queue = b.fl.queue ++ [⟨recSeq r, recSeal (patchAt r 6 [(r.getD 6 0) ||| 1]), true⟩]
          | some c => u.fl = b.fl ∧ u.rd MI.JNL_STAT.ERROR = c % 2 ^ MI.JNL_STAT.ERROR.width ∧ u.rd MI.JNL_STAT.ERR = 1))
  ∧ (∀ (t h : Nat) (s b : State), b = (s.begin t).counted 0 → b.islUp 0 = true → b.fl.head = some h →
    b.reaches .coreM .store 0 0x9240 = true →
    Completes (.jnlEraseOldest .coreM t) s fun u =>
      b.memoriesKept u ∧ u.fl.queue = b.fl.queue
      ∧ (if b.pfRefuses = true then u.rd MI.FLASH_STAT.REFUSE = 2 ∧ u.rd MI.FLASH_STAT.REFUSED = 1 ∧ u.fl = b.fl
        else if b.fl.inUse = 0 ∨ (h + jnlSlots - 1) % jnlSlots / 1024 = b.fl.oldest then
          u.fl = b.fl ∧ u.rd MI.JNL_STAT.ERROR = 5 ∧ u.rd MI.JNL_STAT.ERR = 1
        else
          u.rd MI.JNL_STAT.ERROR = 0
          ∧ (b.fl.op ≠ none → u.fl = { b.fl with wantOldest := true })
          ∧ (b.fl.op = none → b.fl.want = none → b.fl.wantTries = none → b.jnlNext = none →
              (b.holdup .erase64k).1 = true →
              u.fl.op = some (.erase false (b.jnlBase + b.fl.oldest * 0x10000) 0x10000))))
  ∧ (∀ (t : Nat) (c : Instr) (s b : State), b = (s.begin t).counted 0 → b.islUp 0 = true →
    b.reaches .coreU .store 0 0x9240 = true →
    (c = .jnlAppend .coreU t ∨ c = .jnlCopy .coreU t ∨ c = .jnlEraseOldest .coreU t) → Completes c s fun u => u = b)
  ∧ (∀ (t h : Nat) (bad : Blocks) (recs : List Frame) (s : State), (s.begin t).fl.op = some (.journal h recs) →
    Completes (.jnlProgramDone bad t) s fun u =>
      u.fl.head = some ((h + recs.length) % jnlSlots)
      ∧ u.fl.queue = (((s.begin t).fl.queue.take recs.length).zipIdx.filter fun e => bad.contains e.2).map (·.1)
          ++ (s.begin t).fl.queue.drop recs.length
      ∧ (bad = [] → u.flash = ((List.range recs.length).foldl (fun (v : State) i =>
          v.flashProgram (v.jnlBase + (h + i) % jnlSlots * 64) (recs.getD i [])) (s.begin t)).flash))
  ∧ (∀ (t : Nat) (o : FlashOp) (s : State), (s.begin t).fl.op = none →
    ({ s.begin t with fl := { (s.begin t).fl with jWait := false } } : State).jnlNext = some o →
    ((s.begin t).holdup ((s.begin t).storeOf o)).1 = true →
    Completes (.jnlRetryTick t) s fun u =>
      u.fl.op = some o ∧ u.fl.jWait = false ∧ u.fl.pfHold = (s.begin t).isSet MI.HU_STAT.PF
      ∧ (s.begin t).memoriesKept u)
  ∧ (∀ (t : Nat) (s : State), (s.begin t).isSet MI.HU_STAT.PF = false →
    Completes (.pfAssert t) s fun u =>
      u.rd MI.HU_STAT.PF = 1 ∧ u.rd MI.HU_STAT.PF_SEEN = 1 ∧ u.rd AO.PIN_STAT.POWER_FAIL_N = 0 ∧ u.pfRefuses = true
      ∧ (s.begin t).memoriesKept u)
  ∧ (∀ (t : Nat) (s : State),
    Completes (.pfDeassert t) s fun u =>
      u.rd MI.HU_STAT.PF = 0 ∧ u.rd AO.PIN_STAT.POWER_FAIL_N = 1
      ∧ (s.begin t).regsKept u [MI.HU_STAT.PF, AO.PIN_STAT.PF, AO.PIN_STAT.POWER_FAIL_N]
      ∧ u = { s.begin t with regs := u.regs })

/-- R113 to R115, R537 and R538. -/
def Obligations.FusesAreBlownOnce : Prop :=
  (∀ (src : Src) (slot t : Nat) (s b : State), b = (s.begin t).counted 1 → src ≠ .host → b.islUp 1 = true →
    b.reaches src .store 1 0x180 = true →
    Completes (.fuseProgramKeyHash src slot t) s fun u =>
      if b.isSet AO.FUSE_PROG.BUSY = true then
        u = { b with regs := u.regs } ∧ b.regsKept u [AO.FUSE_PROG.SLOT, AO.FUSE_PROG.OP]
      else if b.pfRefuses = true ∨ b.isSet AO.FUSE_STAT.FIELD_SEAL = true ∨ b.slotBlank (slot % 2) = false then
        u.rd AO.FUSE_PROG.FAIL = 1 ∧ u = { b with regs := u.regs }
      else if (b.holdup .fuse).1 = false then u.rd AO.FUSE_PROG.FAIL = 1 ∧ u.fl = b.fl
      else u.rd AO.FUSE_PROG.BUSY = 1
        ∧ u.fl = { b.fl with fuses := b.fl.fuses ++ [.keyHash (slot % 2) ((List.range 4).map fun i => b.rd (AO.FUSE_DATA.DATA i))] }
        ∧ u = { b with regs := u.regs, fl := u.fl })
  ∧ (∀ (src : Src) (slot t : Nat) (s b : State), b = (s.begin t).counted 1 → src ≠ .host → b.islUp 1 = true →
    b.reaches src .store 1 0x180 = true →
    Completes (.fuseRevoke src slot t) s fun u =>
      let k := slot % 2
      if b.isSet AO.FUSE_PROG.BUSY = true then
        u = { b with regs := u.regs } ∧ b.regsKept u [AO.FUSE_PROG.SLOT, AO.FUSE_PROG.OP]
      else if b.pfRefuses = true ∨ (b.isSet AO.FUSE_STAT.FIELD_SEAL && b.slotLive k && !b.slotLive (1 - k)) = true then
        u.rd AO.FUSE_PROG.FAIL = 1 ∧ u = { b with regs := u.regs }
      else if (b.holdup .fuse).1 = false then u.rd AO.FUSE_PROG.FAIL = 1 ∧ u.fl = b.fl
      else u.rd AO.FUSE_PROG.BUSY = 1 ∧ u.fl = { b.fl with fuses := b.fl.fuses ++ [.revoke k] }
        ∧ u = { b with regs := u.regs, fl := u.fl })
  ∧ (∀ (src : Src) (t : Nat) (s b : State), b = (s.begin t).counted 1 → src ≠ .host → b.islUp 1 = true →
    b.reaches src .store 1 0x198 = true →
    Completes (.rollbackAdv src t) s fun u =>
      let v := b.rd AO.ROLLBACK_ADV.VALUE
      if b.isSet AO.ROLLBACK_CTL.BUSY = true then u = b
      else if src = .coreU ∨ b.pfRefuses = true ∨ v ≤ b.rd AO.ROLLBACK_CNT.COUNT ∨ b.rd MI.IMG_ROLLBACK.VER < v
          ∨ b.rd AO.ROLLBACK_CTL.ADV_LEFT = 0 then u.rd AO.ROLLBACK_CTL.FAIL = 1 ∧ u = { b with regs := u.regs }
      else if (b.holdup .fuse).1 = false then u.rd AO.ROLLBACK_CTL.FAIL = 1 ∧ u.fl = b.fl
      else u.rd AO.ROLLBACK_CTL.BUSY = 1 ∧ u.fl = { b.fl with fuses := b.fl.fuses ++ [.advance v] }
        ∧ u = { b with regs := u.regs, fl := u.fl })
  ∧ (∀ (src : Src) (key t : Nat) (s b : State), b = (s.begin t).counted 1 → src ≠ .host → b.islUp 1 = true →
    b.reaches src .store 1 0x1A0 = true →
    Completes (.sealGo src key t) s fun u =>
      if b.isSet AO.SEAL_CMD.BUSY = true then u = b
      else if key ≠ 0x5A ∨ src = .coreU ∨ b.pfRefuses = true ∨ (b.slotLive 0 || b.slotLive 1) = false
          ∨ 1 < b.rd MI.IMG_STAT.KEY_USED then
        u.rd AO.SEAL_CMD.FAIL = 1 ∧ u.rd AO.SEAL_CMD.FAIL_AT = 1 ∧ u.rd AO.SEAL_CMD.BUSY = 0
      else if b.jnlTakes = false then u.rd AO.SEAL_CMD.FAIL = 1 ∧ u.rd AO.SEAL_CMD.FAIL_AT = 2 ∧ u.rd AO.SEAL_CMD.BUSY = 0
      else u.rd AO.SEAL_CMD.BUSY = 1 ∧ u.fl.sealWait = some (b.fl.nextSeq, b.now)
        ∧ u.fl.nextSeq = (b.fl.nextSeq + 1) % 2 ^ 32 ∧ b.memoriesKept u)
  ∧ (∀ (t q a : Nat) (s : State), (s.begin t).fl.sealWait = some (q, a) → a + 100000000 ≤ (s.begin t).now →
    Completes (.sealRecordTimeout t) s fun u =>
      u.rd AO.SEAL_CMD.FAIL = 1 ∧ u.rd AO.SEAL_CMD.FAIL_AT = 2 ∧ u.rd AO.SEAL_CMD.BUSY = 0 ∧ u.fl.sealWait = none
      ∧ (s.begin t).regsKept u [AO.SEAL_CMD.FAIL, AO.SEAL_CMD.FAIL_AT, AO.SEAL_CMD.BUSY])
  ∧ (∀ (t : Nat) (o : FuseOp) (r : List FuseOp) (s : State), (s.begin t).fl.fuses = o :: r →
    Completes (.fuseOpDone true t) s fun u =>
      let b := s.begin t
      u.fl.fuses = r ∧ u = { b with regs := u.regs, fl := u.fl }
      ∧ (match o with
        | .keyHash k h => k < 2 → u.rd (fuseProg k) = 1 ∧ (∀ i, i < 4 → u.rd (AO.KEYHASH.HASH k i) = h.getD i 0 % 2 ^ 64)
            ∧ u.rd AO.FUSE_PROG.BUSY = 0
        | .revoke k => u.rd (fuseRevoked k) = 1 ∧ u.rd AO.FUSE_PROG.BUSY = 0
        | .advance v => u.rd AO.ROLLBACK_CNT.COUNT = v % 2 ^ AO.ROLLBACK_CNT.COUNT.width
            ∧ u.rd AO.ROLLBACK_CTL.ADV_LEFT = (b.rd AO.ROLLBACK_CTL.ADV_LEFT - 1) % 2 ^ AO.ROLLBACK_CTL.ADV_LEFT.width
        | .seal => u.rd AO.FUSE_STAT.FIELD_SEAL = 1 ∧ u.rd AO.SEAL_CMD.BUSY = 0))
  ∧ (∀ (t : Nat) (o : FuseOp) (r : List FuseOp) (s : State), (s.begin t).fl.fuses = o :: r →
    Completes (.fuseOpDone false t) s fun u =>
      let b := s.begin t
      u.fl.fuses = r
      ∧ (match o with
        | .keyHash k _ => u.rd (fuseProg k) = b.rd (fuseProg k) ∧ u.rd (fusePartial k) = 1 ∧ u.rd AO.FUSE_PROG.FAIL = 1
            ∧ u.rd AO.FUSE_PROG.BUSY = 0
        | .revoke k => u.rd (fuseRevoked k) = b.rd (fuseRevoked k) ∧ u.rd AO.FUSE_PROG.FAIL = 1 ∧ u.rd AO.FUSE_PROG.BUSY = 0
        | .advance _ => u.rd AO.ROLLBACK_CNT.COUNT = b.rd AO.ROLLBACK_CNT.COUNT ∧ u.rd AO.ROLLBACK_CTL.FAIL = 1
            ∧ u.rd AO.ROLLBACK_CTL.BUSY = 0
        | .seal => u.rd AO.FUSE_STAT.FIELD_SEAL = b.rd AO.FUSE_STAT.FIELD_SEAL ∧ u.rd AO.SEAL_CMD.FAIL = 1
            ∧ u.rd AO.SEAL_CMD.BUSY = 0))

/-- R494, R496 and R497; the air protocol is the model's (notes/assumptions/93.md). -/
def Obligations.TagAnswersReaders : Prop :=
  (∀ (oneSlot : Bool) (afi : Option Nat) (maskLen mask t : Nat) (s : State), (s.begin t).isSet AO.TAG_STAT.FIELD = true →
    (s.begin t).tag.mode ≠ .quiet → (afi = none ∨ afi = some 0) →
    (s.begin t).rd AO.TAG_UID.UID % 2 ^ maskLen = mask % 2 ^ maskLen →
    Completes (.inventory oneSlot afi maskLen mask t) s fun u =>
      u.out.getLast? = some (.tag (if oneSlot then 0 else bitsOf ((s.begin t).rd AO.TAG_UID.UID) maskLen 4)
        ([0, 0] ++ leBytes 8 ((s.begin t).rd AO.TAG_UID.UID)))
      ∧ (s.begin t).restKept u [] ∧ u = { s.begin t with regs := u.regs, tag := u.tag, out := u.out })
  ∧ (∀ (t : Nat) (s : State), (s.begin t).isSet AO.TAG_STAT.FIELD = true →
    Completes (.stayQuiet (.uid ((s.begin t).rd AO.TAG_UID.UID)) t) s fun u =>
      u.tag.mode = .quiet ∧ (s.begin t).restKept u [] ∧ u = { s.begin t with regs := u.regs, tag := u.tag, out := u.out })
  ∧ (∀ (t v : Nat) (s : State), (s.begin t).isSet AO.TAG_STAT.FIELD = true →
    Completes (.select (.uid v) t) s fun u =>
      u.tag.mode = (if v = (s.begin t).rd AO.TAG_UID.UID then .selected
        else if (s.begin t).tag.mode = .selected then .ready else (s.begin t).tag.mode)
      ∧ (s.begin t).restKept u [] ∧ u = { s.begin t with regs := u.regs, tag := u.tag, out := u.out })
  ∧ (∀ (who : TagWho) (t : Nat) (s : State), (s.begin t).tagHears who = true →
    (Completes (.resetToReady who t) s fun u =>
      u.tag.mode = .ready ∧ u.out.getLast? = some (.tag 0 [0]) ∧ (s.begin t).restKept u []
      ∧ u = { s.begin t with regs := u.regs, tag := u.tag, out := u.out })
    ∧ (Completes (.getSystemInformation who t) s fun u =>
      u.out.getLast? = some (.tag 0 ([0, 0x0F] ++ leBytes 8 ((s.begin t).rd AO.TAG_UID.UID) ++ [0x00, 0x00, 0xFF, 0x1F, 0x96]))
      ∧ (s.begin t).restKept u [] ∧ u = { s.begin t with regs := u.regs, tag := u.tag, out := u.out })
    ∧ (Completes (.getSession who (bitsOf ((s.begin t).rd AO.TAG_UID.UID) 48 8) t) s fun u =>
      u.out.getLast? = some (.tag 0 (0 :: leBytes 4 ((s.begin t).rd AO.TAG_OWN.FIELD) ++ leBytes 4 ((s.begin t).rd AO.TAG_OWN.WIRED)
        ++ leBytes 4 ((s.begin t).rd AO.TAG_PEND.PEND) ++ leBytes 1 ((s.begin t).rd AO.FUSE_STAT.FIELD_SEAL)))
      ∧ (s.begin t).restKept u [] ∧ u = { s.begin t with regs := u.regs, tag := u.tag, out := u.out })
    ∧ (who ≠ .any → Completes (.tagUnsupportedCommand who t) s fun u =>
      u = { s.begin t with out := (s.begin t).out ++ [.tag 0 [1, 1]] }))
  ∧ (∀ (who : TagWho) (security : Bool) (block t : Nat) (s : State), (s.begin t).tagHears who = true →
    Completes (.readSingleBlock who security block t) s fun u =>
      u.out.getLast? = some (if block < 256 then .tag 0 (0 :: (if security then [0] else []) ++ (s.begin t).tagBlock block)
        else .tag 0 [1, 0x10])
      ∧ (s.begin t).restKept u [] ∧ u = { s.begin t with regs := u.regs, tag := u.tag, out := u.out })
  ∧ (∀ (who : TagWho) (security : Bool) (first countM1 t : Nat) (s : State), (s.begin t).tagHears who = true →
    Completes (.readMultipleBlocks who security first countM1 t) s fun u =>
      u.out.getLast? = some (if 256 < first + countM1 + 1 then .tag 0 [1, 0x10] else if 8 < countM1 + 1 then .tag 0 [1, 0x0F]
        else .tag 0 (0 :: (s.begin t).tagBlocks security first (countM1 + 1)))
      ∧ (s.begin t).restKept u [] ∧ u = { s.begin t with regs := u.regs, tag := u.tag, out := u.out })

/-- R496 to R498, R501 to R504 and R506. -/
def Obligations.TagFieldSessionsClaimAndCommit : Prop :=
  (∀ (who : TagWho) (block t : Nat) (data : Frame) (s : State), (s.begin t).tagHears who = true → block < 256 →
    data.length = 32 → (s.begin t).tagSealed (block / 8) = false → (4 ≤ block / 8 → (s.begin t).page4Locked = false) →
    (s.begin t).wiredKeeps (block / 8) = false →
    Completes (.writeSingleBlock who block data t) s fun u =>
      let b := s.begin t
      let p := block / 8
      u.fieldHolds p = true ∧ u.tag.pages = b.tag.pages ∧ u.out.getLast? = some (.tag 0 [0])
      ∧ nget u.tag.shadows p = (if b.fieldHolds p then nget b.tag.shadows p else some (b.tagPage p)).map
          (fun d => patchAt d (block % 8 * 32) data)
      ∧ u = { b with regs := u.regs, tag := u.tag, out := u.out })
  ∧ (∀ (who : TagWho) (pages t : Nat) (s : State), (s.begin t).tagHears who = true →
    (∀ p, p < 32 → bitOf pages p = true → (s.begin t).tagSealed p = false) →
    (∃ p, p < 32 ∧ bitOf pages p = true ∧ (s.begin t).wiredKeeps p = false) →
    Completes (.claim who (bitsOf ((s.begin t).rd AO.TAG_UID.UID) 48 8) pages t) s fun u =>
      let b := s.begin t
      (∀ p, p < 32 → u.fieldHolds p = (b.fieldHolds p || (bitOf pages p && !b.wiredKeeps p)))
      ∧ u.out.getLast? = some (.tag 0 (0 :: leBytes 4 (u.rd AO.TAG_OWN.FIELD))) ∧ u.tag.pages = b.tag.pages
      ∧ u = { b with regs := u.regs, tag := u.tag, out := u.out, free := u.free })
  ∧ (∀ (who : TagWho) (pages t : Nat) (s : State), (s.begin t).tagHears who = true →
    Completes (.release who (bitsOf ((s.begin t).rd AO.TAG_UID.UID) 48 8) pages 0 t) s fun u =>
      (∀ p, p < 32 → u.fieldHolds p = ((s.begin t).fieldHolds p && !bitOf pages p))
      ∧ u.tag.pages = (s.begin t).tag.pages ∧ u.out.getLast? = some (.tag 0 [0, 0, 0, 0, 0, 0])
      ∧ u = { s.begin t with regs := u.regs, tag := u.tag, out := u.out })
  ∧ (∀ (who : TagWho) (pages t : Nat) (s : State), (s.begin t).tagHears who = true → (s.begin t).tag.ops = [] →
    (∃ p, p < 32 ∧ bitOf pages p = true ∧ (s.begin t).fieldHolds p = true) →
    (∀ p, p < 32 → bitOf pages p = true → (s.begin t).fieldHolds p = true →
      pageGood ((nget (s.begin t).tag.shadows p).getD []) = true) →
    Completes (.release who (bitsOf ((s.begin t).rd AO.TAG_UID.UID) 48 8) pages 1 t) s fun u =>
      let b := s.begin t
      u.tag.ops = ((List.range 32).filter fun p => bitOf pages p && b.fieldHolds p).map
        (fun p => .field p ((nget b.tag.shadows p).getD [])) ++ [.fieldEnd]
      ∧ u.rd AO.TAG_STAT.BUSY = 1 ∧ u.tag.pages = b.tag.pages ∧ u = { b with regs := u.regs, tag := u.tag, out := u.out })
  ∧ (∀ (t p : Nat) (ok : Bool) (d : Frame) (r : List TagOp) (s : State), p < 32 →
    ((s.begin t).tag.ops = .field p d :: r ∨ (s.begin t).tag.ops = .wired p d :: r) →
    Completes (.tagCommitDone ok t) s fun u =>
      let b := s.begin t
      (if ok then nget u.tag.pages p = some d ∧ nget u.tag.gens p = some ((ngetD b.tag.gens p 0 + 1) % 256)
        ∧ (b.tag.ops = .field p d :: r → bitOf (u.rd AO.TAG_PEND.PEND) p = true ∧ u.fieldHolds p = false)
      else u.tag.pages = b.tag.pages ∧ u.tag.gens = b.tag.gens)
      ∧ (b.tag.ops = .wired p d :: r → u.rd AO.TAG_STAT.LAST_ERR = if ok then 0 else 6)
      ∧ u = { b with regs := u.regs, tag := u.tag, out := u.out })
  ∧ (∀ (t : Nat) (s : State), (s.begin t).isSet AO.TAG_STAT.FIELD = false →
    Completes (.tagFieldPresent t) s fun u =>
      u.rd AO.TAG_STAT.FIELD = 1 ∧ u.rd AO.TAG_STAT.FIELD_CHG = 1 ∧ u.tag = { (s.begin t).tag with mode := .ready, heardAt := (s.begin t).now }
      ∧ u = { s.begin t with regs := u.regs, tag := u.tag, out := u.out })
  ∧ (∀ (t : Nat) (s : State), (s.begin t).isSet AO.TAG_STAT.FIELD = true →
    Completes (.tagFieldLoss t) s fun u =>
      u.rd AO.TAG_STAT.FIELD = 0 ∧ u.rd AO.TAG_OWN.FIELD = 0 ∧ (∀ p d, TagOp.field p d ∉ u.tag.ops)
      ∧ u.tag.pages = (s.begin t).tag.pages ∧ u = { s.begin t with regs := u.regs, tag := u.tag, out := u.out })
  ∧ (∀ (t : Nat) (s : State), (s.begin t).isSet AO.TAG_STAT.SESSION = true →
    (s.begin t).tag.heardAt + 2000000000 ≤ (s.begin t).now →
    Completes (.tagSessionTimeout t) s fun u =>
      u.rd AO.TAG_OWN.FIELD = 0 ∧ (∀ p d, TagOp.field p d ∉ u.tag.ops) ∧ u.tag.pages = (s.begin t).tag.pages
      ∧ u = { s.begin t with regs := u.regs, tag := u.tag })

/-- R499 to R501, R504 and R506. -/
def Obligations.TagWiredSideClaimsAndCommits : Prop :=
  (∀ (src : Src) (p t : Nat) (token : Bool) (s : State), src ≠ .host → p < 32 → ((s.begin t).counted 1).islUp 1 = true →
    ((s.begin t).counted 1).isSet AO.TAG_STAT.BUSY = false →
    ((s.begin t).counted 1).reaches src .store 1 0x418 = true →
    (Completes (.tagCmdClaim src p token t) s fun u =>
      let b := (s.begin t).counted 1
      u.wiredHolds p = (b.wiredHolds p || !b.fieldHolds p) ∧ u.rd AO.TAG_STAT.LAST_ERR = (if b.fieldHolds p then 1 else 0)
      ∧ u.rd AO.TAG_STAT.WIRED_DONE = 1 ∧ (∀ q, q < 32 → q ≠ p → u.wiredHolds q = b.wiredHolds q)
      ∧ u = { b with regs := u.regs, tag := u.tag, out := u.out })
    ∧ (((s.begin t).counted 1).wiredHolds p = true → Completes (.tagCmdRelease src p token t) s fun u =>
      u.wiredHolds p = false ∧ u.rd AO.TAG_STAT.LAST_ERR = 0
      ∧ (∀ q, q < 32 → q ≠ p → u.wiredHolds q = ((s.begin t).counted 1).wiredHolds q) ∧ u = { (s.begin t).counted 1 with regs := u.regs, out := u.out })
    ∧ (Completes (.tagCmdRead src p token t) s fun u =>
      u.tag = { ((s.begin t).counted 1).tag with reads := ((s.begin t).counted 1).tag.reads ++ [p] } ∧ u = { (s.begin t).counted 1 with regs := u.regs, tag := u.tag })
    ∧ (((s.begin t).counted 1).wiredHolds p = true → ((s.begin t).counted 1).tagSealed p = false → pageGood ((s.begin t).counted 1).tagBuf = true →
      Completes (.tagCmdCommit src p token t) s fun u =>
        u.tag = { ((s.begin t).counted 1).tag with ops := ((s.begin t).counted 1).tag.ops ++ [.wired p ((s.begin t).counted 1).tagBuf] }
        ∧ u.rd AO.TAG_STAT.BUSY = 1 ∧ u = { (s.begin t).counted 1 with regs := u.regs, tag := u.tag }))
  ∧ (∀ (p t : Nat) (r : List Nat) (s : State), (s.begin t).tag.reads = p :: r →
    Completes (.tagReadDone t) s fun u =>
      (∀ k, k < 32 → u.rd (AO.TAG_BUF.DATA k) = leNat (sliceAt ((s.begin t).tagPage p) (8 * k) 8))
      ∧ u.rd AO.TAG_STAT.OWNED_FLAG = (if (s.begin t).fieldHolds p then 1 else 0) ∧ u.rd AO.TAG_STAT.LAST_ERR = 0
      ∧ u.tag = { (s.begin t).tag with reads := r } ∧ u = { s.begin t with regs := u.regs, tag := u.tag, out := u.out })
  ∧ (∀ (src : Src) (mask t : Nat) (s : State), src ≠ .host → ((s.begin t).counted 1).islUp 1 = true →
    ((s.begin t).counted 1).rd AO.TAG_PEND.PEND &&& mask ≠ 0 →
    ((s.begin t).counted 1).reaches src .store 1 0x410 = true →
    Completes (.tagPendClear src mask t) s fun u =>
      (∀ p, p < 32 → bitOf (u.rd AO.TAG_PEND.PEND) p = (bitOf (((s.begin t).counted 1).rd AO.TAG_PEND.PEND) p && !bitOf mask p))
      ∧ u.tag = { ((s.begin t).counted 1).tag with ops := ((s.begin t).counted 1).tag.ops ++ [.pendWrite] } ∧ u.rd AO.TAG_STAT.BUSY = 1
      ∧ u = { (s.begin t).counted 1 with regs := u.regs, tag := u.tag })
  ∧ (∀ (t : Nat) (r : List TagOp) (s : State), (s.begin t).tag.ops = .pendWrite :: r →
    Completes (.tagPendWriteDone t) s fun u =>
      u.tag.pendRom = (s.begin t).rd AO.TAG_PEND.PEND ∧ u.rd AO.TAG_PEND.PEND = (s.begin t).rd AO.TAG_PEND.PEND
      ∧ u = { s.begin t with regs := u.regs, tag := u.tag, out := u.out })

/-- R42, R43, R132, R134 and R139 to R141. R136, R137, R143 and R148. -/
def Obligations.ModesChangeByRequestAndTrigger : Prop :=
  (∀ (src : Src) (target t c : Nat) (s : State), src ≠ .host → ((s.begin t).counted 0).islUp 0 = true →
    (((s.begin t).counted 0).isSet MI.MODE_STAT.IN_TRANSIT = true ∧ c = 2
      ∨ ((s.begin t).counted 0).isSet MI.MODE_STAT.IN_TRANSIT = false ∧ permitted ((s.begin t).counted 0).mode (target % 4) = false ∧ c = 1
      ∨ ((s.begin t).counted 0).isSet MI.MODE_STAT.IN_TRANSIT = false ∧ permitted ((s.begin t).counted 0).mode (target % 4) = true
        ∧ ((s.begin t).counted 0).unmetNow (target % 4) = some c) →
    ((s.begin t).counted 0).reaches src .store 0 0x30 = true →
    Completes (.modeReqGo src target t) s fun u =>
      u.rd MI.MODE_REQ_STAT.REFUSED = 1 ∧ u.rd MI.MODE_REQ_STAT.REFUSE = c % 2 ^ MI.MODE_REQ_STAT.REFUSE.width
      ∧ u.mode = ((s.begin t).counted 0).mode ∧ u = { (s.begin t).counted 0 with regs := u.regs }
      ∧ ((s.begin t).counted 0).regsKept u [MI.MODE_REQ.TARGET, MI.MODE_REQ_STAT.LAST_TARGET, MI.MODE_REQ_STAT.REFUSED,
          MI.MODE_REQ_STAT.REFUSE])
  ∧ (∀ (src : Src) (t : Nat) (s : State), src ≠ .host → ((s.begin t).counted 0).islUp 0 = true →
    ((s.begin t).counted 0).isSet MI.MODE_STAT.IN_TRANSIT = false → ((s.begin t).counted 0).mode = 1 → ((s.begin t).counted 0).unmetNow 2 = none →
    ((s.begin t).counted 0).reaches src .store 0 0x30 = true →
    Completes (.modeReqGo src 2 t) s fun u =>
      u.rd MI.MODE_STAT.IN_TRANSIT = 1 ∧ u.rd MI.MODE_REQ_STAT.PENDING = 1 ∧ u.mode = 1 ∧ u.boot.goal = 2
      ∧ u.boot.bounds = 0 ∧ u = { (s.begin t).counted 0 with regs := u.regs, boot := u.boot })
  ∧ (∀ (src : Src) (t : Nat) (s : State), src ≠ .host → ((s.begin t).counted 0).islUp 0 = true →
    ((s.begin t).counted 0).isSet MI.MODE_STAT.IN_TRANSIT = false → ((s.begin t).counted 0).mode = 3 → ((s.begin t).counted 0).isSet AO.SIDEBAND.FA = false →
    ((s.begin t).counted 0).reaches src .store 0 0x30 = true →
    Completes (.modeReqGo src 1 t) s fun u =>
      u.mode = 1 ∧ u.rd MI.MODE_STAT.PREV_MODE = 3 ∧ u.rd MI.MODE_STAT.CAUSE = 1 ∧ u.isSet MI.MODE_COND.JOIN_OK = false
      ∧ ((s.begin t).counted 0).memoriesKept u)
  ∧ (∀ (t : Nat) (s : State), (s.begin t).isSet MI.MODE_STAT.IN_TRANSIT = true → (s.begin t).completes = true →
    (s.begin t).boot.goal ≤ 2 →
    Completes (.modeTransitionComplete t) s fun u =>
      u.mode = (s.begin t).boot.goal ∧ u.rd MI.MODE_STAT.PREV_MODE = (s.begin t).mode
      ∧ u.rd MI.MODE_STAT.IN_TRANSIT = 0 ∧ u.rd MI.MODE_REQ_STAT.PENDING = 0)
  ∧ (∀ (t : Nat) (s : State), (s.begin t).isSet MI.MODE_STAT.IN_TRANSIT = true → (s.begin t).boot.goal = 2 →
    4 ≤ (s.begin t).boot.bounds → (s.begin t).completes = false →
    Completes (.modeReqTimeout t) s fun u =>
      u.rd MI.MODE_STAT.IN_TRANSIT = 0 ∧ u.rd MI.MODE_REQ_STAT.PENDING = 0 ∧ u.rd MI.MODE_REQ_STAT.REFUSED = 1
      ∧ u.mode = (s.begin t).mode ∧ (∀ c, (s.begin t).unmetAtBoundary = [c] →
          u.rd MI.MODE_REQ_STAT.REFUSE = c % 2 ^ MI.MODE_REQ_STAT.REFUSE.width)
      ∧ ((s.begin t).unmetAtBoundary.length ≠ 1 → u.rd MI.MODE_REQ_STAT.REFUSE = 0xB)
      ∧ u = { s.begin t with regs := u.regs })
  ∧ (∀ (t a : Nat) (s : State), (s.begin t).rsch.opticsAt = some a → (s.begin t).mode ≠ 0 → a + 10000000 ≤ (s.begin t).now →
    (s.begin t).ringUsed = true → (s.begin t).closing = false → (s.begin t).isSet (RI.RING_CTL.FORCE_BYP 0) = false →
    Completes (.bypassEEnergise t) s fun u =>
      u.isSet (coilDrive 0) = true ∧ u.rsch.heldEAt = some (s.begin t).now ∧ u.rsch.opticsAt = none)
  ∧ (∀ (t a : Nat) (s : State), (s.begin t).rsch.heldEAt = some a →
    ((s.begin t).locked 0 = true ∨ a + 100000000 ≤ (s.begin t).now) → (s.begin t).mode ≠ 0 → (s.begin t).ringUsed = true →
    (s.begin t).rsch.opticsAt = none → (s.begin t).closing = false → (s.begin t).isSet (RI.RING_CTL.FORCE_BYP 1) = false →
    Completes (.bypassWEnergise t) s fun u => u.isSet (coilDrive 1) = true ∧ u.rsch.heldEAt = none)
  ∧ (∀ (t a : Nat) (s : State), (s.begin t).rsch.releasedWAt = some a → a + 20000000 ≤ (s.begin t).now →
    Completes (.bypassEDeenergise t) s fun u => u.isSet (coilDrive 0) = false ∧ u.rsch.releasedWAt = none)
  ∧ (∀ (t a : Nat) (s : State), (s.begin t).rsch.graceSince = some a → (s.begin t).ringUsed = true →
    (s.begin t).isSet MI.MODE_COND.JOIN_OK = false → a + (s.begin t).graceNs ≤ (s.begin t).now →
    Completes (.triggerRing t) s fun u =>
      u.rd MI.MODE_COND.TRIG_RING = 1
      ∧ ((s.begin t).isSet MI.SN_CFG.RING_EN = true → (s.begin t).mode = 2 → (s.begin t).requestNow = false →
          u.mode = 3 ∧ u.rd MI.MODE_STAT.PREV_MODE = 2 ∧ u.rd MI.MODE_STAT.CAUSE = 2)
      ∧ ((s.begin t).isSet MI.SN_CFG.RING_EN = true → (s.begin t).mode = 2 → (s.begin t).requestNow = true →
          u.rd MI.MODE_STAT.IN_TRANSIT = 0 ∧ (if (s.begin t).boot.goal = 1 then u.mode = 1 ∧ u.rd MI.MODE_STAT.PREV_MODE = 3
            else u.mode = 3 ∧ u.rd MI.MODE_REQ_STAT.REFUSED = 1))
      ∧ ((s.begin t).isSet MI.SN_CFG.RING_EN = false → (s.begin t).requestNow = false →
          u.mode = (s.begin t).mode ∧ (s.begin t).regsKept u [MI.MODE_COND.TRIG_RING] ∧ (s.begin t).memoriesKept u))
  ∧ (∀ (src : Src) (t : Nat) (s : State), src ≠ .host → ((s.begin t).counted 0).islUp 0 = true →
    ((s.begin t).counted 0).isSet MI.MODE_STAT.IN_TRANSIT = false → ((s.begin t).counted 0).mode = 2 →
    ((s.begin t).counted 0).reaches src .store 0 0x30 = true →
    Completes (.modeReqGo src 3 t) s fun u =>
      u.mode = 3 ∧ u.rd MI.MODE_STAT.PREV_MODE = 2 ∧ u.rd MI.MODE_STAT.CAUSE = 1)

/-- R122, R125, R144, R145, R491, R571 and R588. What SRAM reads as afterwards is the model's (notes/assumptions/4.md). -/
def Obligations.DeviceResetsClearWhatTheTableSays : Prop :=
  (∀ (t : Nat) (s : State), (s.begin t).joinsReset = false →
    Completes (.pinReset t) s fun u =>
      (s.begin t).wasReset u 3 [AO.PIN_STAT.RESET_N] ∧ u.boot.held = true ∧ u.mode = 0)
  ∧ (∀ (pc t : Nat) (machine : Bool) (s : State), (s.begin t).joinsReset = false →
    (s.begin t).isSet MI.WDT_CFG.EN = true → (s.begin t).wdtSync.rd MI.WDT_STAT.REMAIN = 0 →
    Completes (.watchdogExpiry pc machine t) s fun u =>
      (s.begin t).wasReset u 4 [MI.WDT_EVID_PC.PC, MI.WDT_EVID_PC.PRIV, MI.WDT_EVID_PC.DEBUG_HALTED, MI.WDT_EVID_PC.VALID,
        MI.WDT_STAT.EXPIRED_CNT]
      ∧ u.rd MI.WDT_EVID_PC.PC = pc % 2 ^ MI.WDT_EVID_PC.PC.width ∧ u.rd MI.WDT_EVID_PC.VALID = 1
      ∧ u.rd MI.WDT_EVID_PC.PRIV = machine.toNat
      ∧ u.rd MI.WDT_STAT.EXPIRED_CNT = ((s.begin t).rd MI.WDT_STAT.EXPIRED_CNT + 1) % 2 ^ 16)
  ∧ (∀ (src : Src) (key t : Nat) (s : State), (s.begin t).joinsReset = false → (s.begin t).reaches src .store 0 0x58 = true →
    Completes (.fwReset src key t) s fun u =>
      if src ≠ .host ∧ key = 0xA5 then (s.begin t).wasReset u 5 []
      else u.rd MI.ACC_STAT.UNMAPPED = 1 ∧ u = { s.begin t with regs := u.regs })
  ∧ (∀ (src : Src) (key t : Nat) (s : State), (s.begin t).reaches src .store 0 0x58 = false →
    (Completes (.fwReset src key t) s fun u => u = (s.begin t).emit (.coreFault 7 0x40000058))
    ∧ (Completes (.hostReset src key t) s fun u => u = (s.begin t).emit (.coreFault 7 0x40000058)))
  ∧ (∀ (t : Nat) (s : State), (s.begin t).joinsReset = true →
    Completes (.pinReset t) s fun u =>
      u.rd AO.RST_CAUSE.LAST = min 3 ((s.begin t).rd AO.RST_CAUSE.LAST) ∧ bitOf (u.rd AO.RST_CAUSE.SEEN) 2 = true
      ∧ (s.begin t).regsKept u [AO.RST_CAUSE.LAST, AO.RST_CAUSE.SEEN, AO.PIN_STAT.RESET_N]
      ∧ u = { s.begin t with regs := u.regs })
  ∧ (∀ (src : Src) (key t : Nat) (s : State), (s.begin t).joinsReset = false → (s.begin t).reaches src .store 0 0x58 = true →
    Completes (.hostReset src key t) s fun u =>
      if src = .host ∧ key = 0xA5 ∧ (s.begin t).policy 0 = true then (s.begin t).wasReset u 6 []
      else u.rd MI.ACC_STAT.UNMAPPED = 1 ∧ u = { s.begin t with regs := u.regs })
  ∧ (∀ (t : Nat) (s : State), (s.begin t).joinsReset = false → (s.begin t).debugOpen = true →
    Completes (.debugReset t) s fun u => (s.begin t).wasReset u 8 [])
  ∧ (∀ (t : Nat) (s : State), (s.begin t).joinsReset = false →
    Completes (.coreLoss t) s fun u =>
      (s.begin t).wasReset u 2 [AO.PIN_STAT.VDD_CORE_OK] ∧ u.dram = [] ∧ u.boot.held = true)
  ∧ (∀ (t : Nat) (s : State),
    Completes (.aoPor t) s fun u =>
      u.boot.held = true ∧ u.boot.aoPor = true ∧ u.sram = [] ∧ u.dram = []
      ∧ ∀ f : Machine.Field, f.outlives 1 = false →
        (∀ g ∈ [DI.TRN_STAT.SR_RETAINED, MI.HU_STAT.PF, MI.WDT_STAT.REMAIN, AO.TAG_PEND.PEND], f.key ≠ g.key) →
        u.rd f = f.reset)

/-- R53, R122, R123, R128 and R130. -/
def Obligations.StartUpFollowsTheReleases : Prop :=
  (∀ (t : Nat) (s : State), (s.begin t).boot.held = true → (s.begin t).boot.aoPor = false →
    (Completes (.resetRelease t) s fun u =>
      u.rd AO.PIN_STAT.RESET_N = 1 ∧ u.rd AO.PIN_STAT.VDD_CORE_OK = 1 ∧ u.boot.held = false ∧ u.isl.relock = [0]
      ∧ u = { s.begin t with regs := u.regs, boot := u.boot, isl := u.isl })
    ∧ (Completes (.vddCoreMonitorRelease t) s fun u =>
      u.rd AO.PIN_STAT.VDD_CORE_OK = 1 ∧ u.boot.held = !(s.begin t).isSet AO.PIN_STAT.RESET_N
      ∧ ((s.begin t).isSet AO.PIN_STAT.RESET_N = true → u.isl.relock = [0])
      ∧ u = { s.begin t with regs := u.regs, boot := u.boot, isl := u.isl }))
  ∧ (∀ (t : Nat) (s : State), (s.begin t).boot.held = true →
    Completes (.aoPorRelease t) s fun u =>
      u.boot.aoPor = false
      ∧ u.boot.held = !((s.begin t).isSet AO.PIN_STAT.RESET_N && (s.begin t).isSet AO.PIN_STAT.VDD_CORE_OK)
      ∧ u = { s.begin t with boot := u.boot, isl := u.isl })
  ∧ (∀ (t : Nat) (s : State), (s.begin t).boot.held = false → (s.begin t).isl.relock.contains 0 = true →
    Completes (.pllLock 0 t) s fun u =>
      bitOf (u.rd MI.PLL_STAT.LOCK) 0 = true
      ∧ (if (s.begin t).fl.density < 32 then u.phase = 4 ∧ u.boot.recovery = true
        else (u.phase = 2 ∨ u.phase = 3) ∧ u.boot.loading = true ∧ u.rd MI.IMG_STAT.BUSY = 1 ∧ u.rd MI.IMG_STAT.LAST_CMD = 2)
      ∧ (s.begin t).memoriesKept u)
  ∧ (∀ (i t : Nat) (s : State), 2 ≤ i → i < 16 → (s.begin t).boot.held = false →
    (s.begin t).isl.relock.contains i = true → (s.begin t).isl? i = 2 → (s.begin t).tripped i = false →
    Completes (.pllLock i t) s fun u =>
      bitOf (u.rd MI.PLL_STAT.LOCK) i = true ∧ u.isl? i = 1 ∧ u.rd (MI.PMON_CFG.EN i) = 1 ∧ (s.begin t).memoriesKept u)

/-- R54, R60 to R62, R78, R79, R81, R125 and R136. -/
def Obligations.IslandsTripResetAndReplay : Prop :=
  (∀ (i t : Nat) (s : State), 2 ≤ i → i < 16 → (s.begin t).isSet (MI.PMON_CFG.EN i) = true → (s.begin t).islUp i = true →
    (s.begin t).stuck i = true → (s.begin t).fatalTrip i = false →
    Completes (.progressMonitorTrip i t) s fun u =>
      let b := s.begin t
      u.rd (MI.PMON_STAT.TRIPPED i) = 1 ∧ u.rd (MI.PMON_STAT.LAST_CAUSE i) = 1
      ∧ (u.rd (MI.PMON_STAT.TRIP_CNT i) = (b.rd (MI.PMON_STAT.TRIP_CNT i) + 1) % 2 ^ (MI.PMON_STAT.TRIP_CNT i).width)
      ∧ (b.isSet (MI.PMON_CFG.ACTION i) = true → nget u.isl.tripAt i = some b.now ∧ u.isl? i = 2)
      ∧ (b.isSet (MI.PMON_CFG.ACTION i) = false → u.isl? i = b.isl? i)
      ∧ (b.limitTrip i = true → u.rd MI.MODE_COND.TRIG_TRIPS = 1 ∧ u.rd MI.MODE_COND.TRIP_ISLAND = i)
      ∧ (b.isSet (MI.PMON_CFG.ACTION i) = false → b.limitTrip i = false →
          u = { b with regs := u.regs, isl := u.isl, out := u.out }))
  ∧ (∀ (i t : Nat) (s : State), 2 ≤ i → i < 16 → bitOf ((s.begin t).rd MI.PLL_STAT.LOCK) i = true →
    (s.begin t).fatalTrip i = false →
    Completes (.pllUnlock i t) s fun u =>
      let b := s.begin t
      bitOf (u.rd MI.PLL_STAT.UNLOCK) i = true ∧ bitOf (u.rd MI.PLL_STAT.LOCK) i = false
      ∧ u.isl.relock.contains i = true ∧ u.isl? i = 2
      ∧ nget u.isl.tripAt i = (if b.isl? i = 2 ∧ b.tripped i = false then none else some b.now)
      ∧ u.isl.holdDone.contains i = (b.isl.holdDone.contains i && b.isl? i = 2 && !b.tripped i)
      ∧ u.rd (MI.PMON_STAT.LAST_CAUSE i) = 2 ∧ u.rd (MI.PMON_STAT.TRIPPED i) = 1
      ∧ (b.limitTrip i = true → u.rd MI.MODE_COND.TRIG_TRIPS = 1 ∧ u.rd MI.MODE_COND.TRIP_ISLAND = i))
  ∧ (∀ (i t : Nat) (s : State), 2 ≤ i → i < 16 → (s.begin t).fatalTrip i = true → (s.begin t).joinsReset = false →
    (bitOf ((s.begin t).rd MI.PLL_STAT.LOCK) i = true → Completes (.pllUnlock i t) s fun u =>
      (s.begin t).wasReset u 7 [] ∧ u.mode = 0)
    ∧ ((s.begin t).isSet (MI.PMON_CFG.EN i) = true → (s.begin t).islUp i = true → (s.begin t).stuck i = true →
      Completes (.progressMonitorTrip i t) s fun u => (s.begin t).wasReset u 7 [] ∧ u.mode = 0))
  ∧ (∀ (t : Nat) (s : State), (s.begin t).joinsReset = false → bitOf ((s.begin t).rd MI.PLL_STAT.LOCK) 0 = true →
    Completes (.pllUnlock 0 t) s fun u => (s.begin t).wasReset u 7 [] ∧ u.mode = 0)
  ∧ (∀ (src : Src) (mask t : Nat) (s : State), src ≠ .host → ((s.begin t).counted 0).islUp 0 = true →
    ((s.begin t).counted 0).reaches src .store 0 0x280 = true →
    Completes (.islCmdReset src mask t) s fun u =>
      let b := (s.begin t).counted 0
      ∀ i, 2 ≤ i → i < 16 →
        if bitOf mask i = true ∧ b.islUp i = true then
          u.isl? i = 2 ∧ nget u.isl.tripAt i = some b.now ∧ u.rd (MI.PMON_STAT.LAST_CAUSE i) = 3
          ∧ u.rd (MI.PMON_STAT.TRIP_CNT i) = b.rd (MI.PMON_STAT.TRIP_CNT i)
        else u.isl? i = b.isl? i ∧ nget u.isl.tripAt i = nget b.isl.tripAt i)
  ∧ (∀ (i t a : Nat) (s : State), i < 16 → nget (s.begin t).isl.tripAt i = some a → (s.begin t).isl? i = 2 →
    a + holdNs i ≤ (s.begin t).now → (s.begin t).isl.relock.contains i = false →
    Completes (.islandResetHoldEnd i t) s fun u =>
      (if (List.range 16).any ((s.begin t).keepsBack i) then u.isl? i = 2 ∧ u.isl.holdDone.contains i = true
        else u.isl? i = 3)
      ∧ nget u.isl.tripAt i = some a)
  ∧ (∀ (i t a : Nat) (s : State), i < 16 → nget (s.begin t).isl.tripAt i = some a → (s.begin t).isl? i = 3 →
    Completes (.islandReplayDone i t) s fun u =>
      (u.isl? i = 1 ∨ (s.begin t).isl.wantOff.contains i = true ∧ u.isl? i = 0)
      ∧ u.rd (MI.PMON_STAT.LAST_OUTAGE i) = min 0xFFFFFFFF ((s.begin t).now - a) % 2 ^ (MI.PMON_STAT.LAST_OUTAGE i).width
      ∧ nget u.isl.tripAt i = none)

/-- R73, R75 to R78, R82, R172 and R244. -/
def Obligations.FunctionsStopDrainAndStart : Prop :=
  (∀ (src : Src) (f : Func) (s : State), src ≠ .host → funcValid f = true →
    (s.quiet.counted (funcIsl f)).reaches src .store (funcIsl f) (funcEn f).off = true →
    (s.quiet.counted (funcIsl f)).islUp (funcIsl f) = true →
    Completes (.functionDisable src f) s fun u =>
      let b := s.quiet.counted (funcIsl f)
      if (match f with
          | .juggler k j => b.lastJuggler k j
          | _ => false) = true then u.rd (P.JUG_CNT_STAT.EN_REFUSED (funcIsl f - 5)) = 1 ∧ u.rd (funcEn f) = b.rd (funcEn f)
          ∧ u.isl = b.isl
      else u.isSet (funcEn f) = false ∧ u.isl.heldEnable = b.isl.heldEnable.erase f
        ∧ (if b.isSet (funcEn f) then f ∈ u.isl.draining else u = { b with isl := u.isl } ∧ u.isl.draining = b.isl.draining))
  ∧ (∀ (src : Src) (f : Func) (s : State), src ≠ .host → funcValid f = true →
    s.quiet.reaches src .store (funcIsl f) (funcEn f).off = true →
    s.quiet.isl? (funcIsl f) = 2 → s.quiet.tripped (funcIsl f) = true →
    Completes (.functionDisable src f) s fun u =>
      f ∈ u.isl.deferred ∧ u = { s.quiet with isl := u.isl })
  ∧ (∀ (f : Func) (s : State), funcValid f = true → s.isl.draining.contains f = true → s.islRuns (funcIsl f) = true →
    s.drained f = true →
    Completes (.functionDisableDone f) s fun u =>
      u.isl.draining = s.isl.draining.erase f
      ∧ (if s.isl.heldEnable.contains f then u.rd (funcEn f) = 1 ∧ u.rd (funcDone f) = 0
        else u.rd (funcDone f) = 1 ∧ (s.isl.wantOff = [] → s.regsKept u [funcDone f]
          ∧ u = { s with regs := u.regs, isl := u.isl, out := [] })))
  ∧ (∀ (src : Src) (f : Func) (s : State), src ≠ .host → (s.quiet.counted (funcIsl f)).islUp (funcIsl f) = true →
    (s.quiet.counted (funcIsl f)).reaches src .store (funcIsl f) (funcEn f).off = true →
    Completes (.functionEnable src f) s fun u =>
      let b := s.quiet.counted (funcIsl f)
      if funcValid f = false ∨ b.mayEnable f = false then u = b
      else if b.isl.draining.contains f = true ∨ b.isl.deferred.contains f = true then
        u.isl.heldEnable.contains f = true ∧ u = { b with isl := u.isl }
      else if b.isSet (funcEn f) then u = b
      else u.rd (funcEn f) = 1 ∧ u.rd (funcDone f) = 0 ∧ b.memoriesKept u)
  ∧ (∀ (src : Src) (i : Nat) (s : State), src ≠ .host → 2 ≤ i → i < 16 → (s.quiet.counted 0).islUp 0 = true →
    (s.quiet.counted 0).reaches src .store 0 0x280 = true →
    Completes (.islCmdOff src (2 ^ i)) s fun u =>
      let b := s.quiet.counted 0
      if b.mode = 1 ∧ b.mayPowerDown i = true ∧ (b.islUp i || b.tripped i) = true then
        (b.isl? i = 1 → (∀ f ∈ b.islandFuncs i, u.isSet (funcEn f) = false)
          ∧ (u.isl? i = 1 ∧ u.isl.wantOff.contains i = true ∨ u.isl? i = 0 ∧ bitOf (u.rd MI.PLL_STAT.LOCK) i = false))
        ∧ (b.isl? i = 1 → (∀ f ∈ b.islandFuncs i, b.isSet (funcEn f) = false) →
            ((b.isl.draining ++ b.isl.deferred).all fun f => funcIsl f != i) = true → u.isl? i = 0)
        ∧ (b.isl.wantOff = [] → (∀ j, j < 16 → j ≠ i → u.isl? j = b.isl? j))
      else u = b)

/-- R100, R105, R109, R110, R117 and R118. -/
def Obligations.LoaderCommandsAndTheirEnd : Prop :=
  (∀ (src : Src) (t cmd : Nat) (c : Instr) (s : State), src ≠ .host → ((s.begin t).counted 0).islUp 0 = true →
    ((s.begin t).counted 0).reaches src .store 0 0x408 = true →
    (cmd = 1 ∧ c = .imgCheck src t ∨ cmd = 2 ∧ c = .imgLoad src t ∨ cmd = 3 ∧ c = .imgStage src t
      ∨ cmd = 4 ∧ c = .imgCommit src t ∨ cmd = 5 ∧ c = .imgAbort src t) →
    Completes c s fun u =>
      let b := (s.begin t).counted 0
      let img := if cmd ≤ 3 then b.sourceImage (b.rd MI.IMG_SRC.ADDR) (b.rd MI.IMG_SRC.LEN) else []
      if b.isSet MI.IMG_STAT.BUSY then u.rd MI.IMG_STAT.CMD_DROPPED = 1 ∧ b.regsKept u [MI.IMG_STAT.CMD_DROPPED]
        ∧ u = { b with regs := u.regs }
      else u.rd MI.IMG_STAT.BUSY = 1 ∧ u.rd MI.IMG_STAT.LAST_CMD = cmd
        ∧ u.img.error = ((b.commandError cmd img).map (·.code)).getD 0
        ∧ u.img.detail = ((b.commandError cmd img).map (·.detail)).getD 0xFF ∧ u.img.source = img
        ∧ (cmd ≤ 3 ∨ (b.commandError cmd img).isSome = true → u = { b with regs := u.regs, img := u.img }))
  ∧ (∀ (t : Nat) (s : State), (s.begin t).isSet MI.IMG_STAT.BUSY = true → (s.begin t).boot.loading = false →
    (s.begin t).boot.staging = false → (s.begin t).phase ≠ 6 → (s.begin t).img.error ≠ 0 →
    Completes (.imgCmdDone t) s fun u =>
      u.rd MI.IMG_STAT.ERROR = (s.begin t).img.error % 2 ^ MI.IMG_STAT.ERROR.width ∧ u.rd MI.IMG_STAT.PASS = 0
      ∧ u.rd MI.IMG_STAT.ERR = 1 ∧ u.rd MI.IMG_STAT.BUSY = 0
      ∧ u = { s.begin t with regs := u.regs })
  ∧ (∀ (t : Nat) (s : State), (s.begin t).isSet MI.IMG_STAT.BUSY = true → (s.begin t).boot.loading = false →
    (s.begin t).boot.staging = false → (s.begin t).phase ≠ 6 → (s.begin t).img.error = 0 →
    (s.begin t).rd MI.IMG_STAT.LAST_CMD = 1 →
    Completes (.imgCmdDone t) s fun u =>
      u.rd MI.IMG_STAT.ERROR = 0 ∧ u.rd MI.IMG_STAT.PASS = 1 ∧ u.rd MI.IMG_STAT.BUSY = 0
      ∧ u = { s.begin t with regs := u.regs })
  ∧ (∀ (t : Nat) (s : State), (s.begin t).isSet MI.IMG_STAT.BUSY = true → (s.begin t).boot.loading = false →
    (s.begin t).boot.staging = false → (s.begin t).phase ≠ 6 → (s.begin t).img.error = 0 →
    (s.begin t).rd MI.IMG_STAT.LAST_CMD = 2 → (s.begin t).sourceChanged = false →
    Completes (.imgCmdDone t) s fun u =>
      u.rd MI.IMG_STAT.PASS = 1 ∧ u.rd MI.IMG_STAT.BUSY = 0 ∧ u.rd MI.MODE_COND.IMAGE_OK = 1
      ∧ u.rd MI.IMG_FULL_ID.ID = hdrId (s.begin t).img.source % 2 ^ 64
      ∧ u.rd MI.IMG_CONFIG_ID.ID = hdrId (s.begin t).img.source % 2 ^ 64 ∧ (s.begin t).memoriesKept u)

/-- R131, R466, R470, R472, R473, R484, R529 and R531. -/
def Obligations.ReplayEngineAndSram : Prop :=
  (∀ (user : Bool) (t : Nat) (s : State),
    Completes (.replayEntry user t) s fun u =>
      let b := s.begin t
      if (user || !b.pmpAllows .coreM .fetch 0x100 4) = true then u = b.emit (.coreFault 1 0x100)
      else if b.mode ≠ 1 then u.resp = 1 ∧ u = { b with resp := 1, boot := u.boot }
      else if b.boot.called then u.resp = 2 ∧ u = { b with resp := 2, boot := u.boot }
      else if b.fl.head = none then u.resp = 3 ∧ u = { b with resp := 3, boot := u.boot }
      else u.boot.called = true ∧ u.phase = 6)
  ∧ (∀ (t a : Nat) (s : State), (s.begin t).boot.waitAt = some a → (s.begin t).phase = 6 →
    (s.begin t).isSet TI.SEL_STAT.SCHED_VALID = true →
    max a (s.begin t).ti.validAt + (s.begin t).rd MI.RPLY_CFG.SETTLE_MS * 1000000 ≤ (s.begin t).now →
    Completes (.poranReplay t) s fun u =>
      u.rd MI.MODE_COND.REPLAY_DONE = 1 ∧ u.phase = 7 ∧ u.boot.waitAt = none ∧ u.resp = 0)
  ∧ (∀ (t a : Nat) (s : State), (s.begin t).boot.waitAt = some a → (s.begin t).phase = 6 →
    (s.begin t).isSet TI.SEL_STAT.SCHED_VALID = false →
    a + (s.begin t).rd MI.RPLY_CFG.SCHED_WAIT_S * 1000000000 ≤ (s.begin t).now →
    Completes (.replaySchedTimeout t) s fun u =>
      u.rd MI.RPLY_STAT.SCHED_TIMEOUT = 1 ∧ u.rd MI.MODE_COND.REPLAY_DONE = 1 ∧ u.phase = 7 ∧ u.resp = 0
      ∧ (s.begin t).regsKept u [MI.RPLY_STAT.SCHED_TIMEOUT, MI.MODE_COND.REPLAY_DONE, MI.BOOT_STAT.PHASE]
      ∧ u = { s.begin t with regs := u.regs, boot := u.boot, resp := 0 })
  ∧ (∀ (src : Src) (k : AccKind) (addr n data t : Nat) (ecc : Ecc) (s : State), src ≠ .host → inSram addr n = true →
    (accMisaligned k addr n = true →
      Completes (.coreSramAccess src k addr n data ecc t) s fun u => u = (s.begin t).emit (.coreFault (misCauseOf k) addr))
    ∧ (accMisaligned k addr n = false → (s.begin t).pmpAllows src k addr n = false →
      Completes (.coreSramAccess src k addr n data ecc t) s fun u => u = (s.begin t).emit (.coreFault (faultCauseOf k) addr)))
  ∧ (∀ (src : Src) (addr n data t : Nat) (ecc : Ecc) (s : State), src ≠ .host → inSram addr n = true →
    accMisaligned .store addr n = false → (s.begin t).pmpAllows src .store addr n = true →
    (ecc ≠ .uncorrectable ∨ n % 4 = 0) →
    Completes (.coreSramAccess src .store addr n data ecc t) s fun u =>
      ∀ a, u.sramRead a 1 = if addr - 0x10000000 ≤ a ∧ a < addr - 0x10000000 + n
        then [BitVec.ofNat 8 (data / 256 ^ (a - (addr - 0x10000000)))] else (s.begin t).sramRead a 1)
  ∧ (∀ (src : Src) (k : AccKind) (addr n data t : Nat) (ecc : Ecc) (s : State), src ≠ .host → inSram addr n = true →
    k = .load ∨ k = .fetch → accMisaligned k addr n = false → (s.begin t).pmpAllows src k addr n = true → ecc ≠ .uncorrectable →
    Completes (.coreSramAccess src k addr n data ecc t) s fun u =>
      u.resp = leNat ((s.begin t).sramRead (addr - 0x10000000) n) ∧ u.sram = (s.begin t).sram)
  ∧ (∀ (src : Src) (addr n data t : Nat) (s : State), src ≠ .host → inSram addr n = true →
    accMisaligned .load addr n = false → (s.begin t).pmpAllows src .load addr n = true →
    Completes (.coreSramAccess src .load addr n data .uncorrectable t) s fun u =>
      u.out.getLast? = some (.coreFault 5 addr) ∧ u.rd MI.SRAM_ECC.UNCORR_SEEN = 1 ∧ u.sram = (s.begin t).sram)
  ∧ (∀ (src : Src) (addr data t : Nat) (ecc : Ecc) (s : State), src ≠ .host → inSram addr 4 = true → addr % 4 = 0 →
    ecc ≠ .uncorrectable →
    let b := s.begin t
    let old := leNat (b.sramRead (addr - 0x10000000) 4)
    (b.pmpAllows src .lr addr 4 = true → Completes (.coreSramAccess src .lr addr 4 data ecc t) s fun u =>
      u.resp = old ∧ u.mg.reservation = some addr ∧ u.sram = b.sram)
    ∧ (b.pmpAllows src .sc addr 4 = true → Completes (.coreSramAccess src .sc addr 4 data ecc t) s fun u =>
      u.mg.reservation = none ∧ (if b.mg.reservation = some addr
        then u.resp = 0 ∧ u.sramRead (addr - 0x10000000) 4 = leBytes 4 data else u.resp = 1 ∧ u.sram = b.sram)))
  ∧ (∀ (src : Src) (addr data t op v : Nat) (ecc : Ecc) (s : State), src ≠ .host → inSram addr 4 = true → addr % 4 = 0 →
    ecc ≠ .uncorrectable → (s.begin t).pmpAllows src (.amo op) addr 4 = true →
    let old := leNat ((s.begin t).sramRead (addr - 0x10000000) 4)
    amoResult op old (data % 2 ^ 32) = some v →
    Completes (.coreSramAccess src (.amo op) addr 4 data ecc t) s fun u =>
      u.resp = old ∧ u.sramRead (addr - 0x10000000) 4 = leBytes 4 v)
  ∧ (∀ (mask t : Nat) (s : State), bitOf mask 31 = false →
    Completes (.h2cSet .host mask t) s fun u =>
      u.rd MI.MBX_H2C_BELL.BELL = ((s.begin t).rd MI.MBX_H2C_BELL.BELL ||| mask % 2 ^ 32) % 2 ^ 32
      ∧ (s.begin t).restKept u [MI.MBX_H2C_BELL.BELL] ∧ u = { s.begin t with regs := u.regs, out := u.out })
  ∧ (∀ (src : Src) (mask t : Nat) (s : State), src ≠ .host → (s.begin t).reaches src .store 0 0x7F00 = true →
    Completes (.h2cSet src mask t) s fun u => u.rd MI.ACC_STAT.UNMAPPED = 1 ∧ u = { s.begin t with regs := u.regs })

/-- R152, R153 and R157, with the held copy of R28. R157 to R159; that HELD shows the hold from the reception on is the model's (notes/assumptions/60.md). -/
def Obligations.PortsReceiveAndPause : Prop :=
  (∀ (p t c : Nat) (l : Frame) (ce : Bool) (s : State), (s.begin t).receives p l.length = true →
    (l.length < 64 ∧ c = 2 ∨ 64 ≤ l.length ∧ portMax p < l.length ∧ c = 3
      ∨ 64 ≤ l.length ∧ l.length ≤ portMax p ∧ fcsGood l = false ∧ c = 4
      ∨ 64 ≤ l.length ∧ l.length ≤ portMax p ∧ fcsGood l = true ∧ ce = true ∧ c = 5
      ∨ 64 ≤ l.length ∧ l.length ≤ portMax p ∧ fcsGood l = true ∧ ce = false ∧ etherType l ≠ 0x8808 ∧ c = 6
        ∧ fifoSize p < (((s.begin t).mac p).copies.map fun k => k.bytes.length).sum + l.length) →
    Completes (.rxFrame p l ce t) s fun u =>
      u.rd (portCnt p c) = ((s.begin t).rd (portCnt p c) + 1) % 2 ^ (portCnt p c).width
      ∧ (s.begin t).restKept u [portCnt p c, portCntOvf p] ∧ u = { s.begin t with regs := u.regs, out := u.out })
  ∧ (∀ (p t : Nat) (l : Frame) (s : State), (s.begin t).receives p l.length = true → 64 ≤ l.length → l.length ≤ portMax p →
    fcsGood l = true → etherType l ≠ 0x8808 →
    (((s.begin t).mac p).copies.map fun k => k.bytes.length).sum + l.length ≤ fifoSize p →
    Completes (.rxFrame p l false t) s fun u =>
      let b := s.begin t
      (u.mac p).copies.map (fun c => (c.seq, c.bytes, c.ingress, c.rx))
        = (b.mac p).copies.map (fun c => (c.seq, c.bytes, c.ingress, c.rx)) ++ [((b.mac p).nextSeq, l, p, b.rxStamp p b.time)]
      ∧ (u.mac p).nextSeq = (b.mac p).nextSeq + 1 ∧ (∀ q, q ≠ p → u.mac q = b.mac q)
      ∧ u.rd (portCnt p 0) = (b.rd (portCnt p 0) + 1) % 2 ^ (portCnt p 0).width
      ∧ u.rd (portCnt p 1) = (b.rd (portCnt p 1) + l.length) % 2 ^ (portCnt p 1).width
      ∧ b.restKept u [portCnt p 0, portCnt p 1, portCntOvf p]
      ∧ u = { b with regs := u.regs, ports := u.ports, chans := u.chans, free := b.free + 1, out := u.out })
  ∧ (∀ (p t : Nat) (l : Frame) (ce : Bool) (s : State), (s.begin t).receives p l.length = false →
    Completes (.rxFrame p l ce t) s fun u => u = s.begin t)
  ∧ (∀ (p t : Nat) (l : Frame) (s : State), (s.begin t).receives p l.length = true → 64 ≤ l.length → l.length ≤ portMax p →
    fcsGood l = true → etherType l = 0x8808 →
    Completes (.rxFrame p l false t) s fun u =>
      let b := s.begin t
      u.rd (portCnt p 7) = (b.rd (portCnt p 7) + 1) % 2 ^ (portCnt p 7).width
      ∧ u.rd (portCnt p 0) = (b.rd (portCnt p 0) + 1) % 2 ^ (portCnt p 0).width
      ∧ u.rd (portCnt p 1) = (b.rd (portCnt p 1) + l.length) % 2 ^ (portCnt p 1).width
      ∧ b.restKept u [portCnt p 7, portCnt p 0, portCnt p 1, portCntOvf p] ∧ u = { b with regs := u.regs, out := u.out })
  ∧ (∀ (p q t : Nat) (s : State), (s.begin t).honours p = true →
    (((s.begin t).mac p).owesFrame = false ∨ (s.begin t).queuedFor p = 0) → q ≠ 0 →
    Completes (.pauseRx p q t) s fun u =>
      let b := s.begin t
      let m := b.mac p
      (u.mac p).hold = some (match m.hold, m.wire with
        | some h, _ => ⟨h.startAt, max b.time h.startAt + b.quantaNs p q⟩
        | none, some w => ⟨max b.time w.endAt, max b.time w.endAt + b.quantaNs p q⟩
        | none, none => ⟨b.time, b.time + b.quantaNs p q⟩)
      ∧ u.rd (portHeld p) = 1 ∧ (∀ r, r ≠ p → u.mac r = b.mac r) ∧ b.regsKept u [portHeld p]
      ∧ u = { b with regs := u.regs, ports := u.ports })
  ∧ (∀ (p t : Nat) (h : Hold) (c : Instr) (s : State), ((s.begin t).mac p).hold = some h → p < 101 → isEthPort p = true →
    (c = .pauseRx p 0 t ∧ (s.begin t).honours p = true ∧ (((s.begin t).mac p).owesFrame = false ∨ (s.begin t).queuedFor p = 0)
      ∨ c = .pauseHoldEnd p t ∧ h.endAt ≤ (s.begin t).time
      ∨ c = .pauseHoldLimit p t ∧ h.startAt + (s.begin t).quantaNs p 65535 ≤ (s.begin t).time) →
    Completes c s fun u =>
      let b := s.begin t
      (u.mac p).hold = none ∧ u.rd (portHeld p) = 0
      ∧ (c = .pauseHoldLimit p t → (u.mac p).owesFrame = true)
      ∧ u.rd (portCnt p 11)
        = (b.rd (portCnt p 11) + (min b.time (min h.endAt (h.startAt + b.quantaNs p 65535)) - h.startAt) * 1000 / (64 * b.bytePs p))
          % 2 ^ (portCnt p 11).width
      ∧ (∀ r, r ≠ p → u.mac r = b.mac r) ∧ b.regsKept u [portHeld p, portCnt p 11, portCntOvf p]
      ∧ u = { b with regs := u.regs, ports := u.ports })
  ∧ (∀ (p q t : Nat) (s : State), ((s.begin t).honours p = false
      ∨ ((s.begin t).mac p).owesFrame = true ∧ 0 < (s.begin t).queuedFor p ∨ q = 0 ∧ ((s.begin t).mac p).hold = none) →
    Completes (.pauseRx p q t) s fun u => u = s.begin t)

/-- R154, R160, R161 and R270; the speed of an uplink is the event's (notes/assumptions/60.md). -/
def Obligations.LinksComeAndGo : Prop :=
  (∀ (p t : Nat) (s : State), isEthPort p = true → (s.begin t).isSet (portLink p) = true → p ≠ 100 →
    ((s.begin t).isSet (portEn p) = false ∨ (s.begin t).isSet (portFlush p) = false ∧ ((s.begin t).mac p).wire = none) →
    Completes (.linkDown p t) s fun u =>
      u.rd (portLink p) = 0 ∧ u.rd (portLinkChg p) = 1
      ∧ u.rd (portDownCnt p) = ((s.begin t).rd (portDownCnt p) + 1) % 2 ^ (portDownCnt p).width
      ∧ (s.begin t).restKept u [portLink p, portLinkChg p, portDownCnt p]
      ∧ u = { s.begin t with regs := u.regs, out := u.out })
  ∧ (∀ (p t : Nat) (w : OnWire) (s : State), isEthPort p = true → (s.begin t).isSet (portLink p) = true → p ≠ 100 →
    (s.begin t).isSet (portEn p) = true → (s.begin t).isSet (portFlush p) = false → ((s.begin t).mac p).wire = some w →
    Completes (.linkDown p t) s fun u =>
      let b := s.begin t
      u.mac p = { b.mac p with wire := none } ∧ (∀ q, q ≠ p → u.mac q = b.mac q) ∧ u.rd (portLink p) = 0
      ∧ u.rd (portLinkChg p) = 1 ∧ u.rd (portDownCnt p) = (b.rd (portDownCnt p) + 1) % 2 ^ (portDownCnt p).width
      ∧ u.rd (portCnt p 10) = (b.rd (portCnt p 10) + 1) % 2 ^ (portCnt p 10).width ∧ .frameAborted p ∈ u.out
      ∧ (w.desc.charged = true → w.desc.reserve = false → w.desc.q < 816 →
          u.rd (BI.Q_OCC.CELLS w.desc.q) = b.rd (BI.Q_OCC.CELLS w.desc.q) - w.desc.cells)
      ∧ (w.desc.charged = false → b.restKept u [portLink p, portLinkChg p, portDownCnt p, portCnt p 10, portCntOvf p]
          ∧ u = { b with regs := u.regs, ports := u.ports, out := u.out }))
  ∧ (∀ (p t : Nat) (s : State), isEthPort p = true → (s.begin t).isSet (portLink p) = true → p ≠ 100 →
    (s.begin t).isSet (portEn p) = true → (s.begin t).isSet (portFlush p) = true →
    Completes (.linkDown p t) s fun u =>
      let b := s.begin t
      u.queuedFor p = 0 ∧ (u.mac p).wire = none ∧ u.rd (portLink p) = 0 ∧ u.rd (portLinkChg p) = 1
      ∧ u.rd (portDownCnt p) = (b.rd (portDownCnt p) + 1) % 2 ^ (portDownCnt p).width
      ∧ u.rd (portCnt p 12) = (b.rd (portCnt p 12) + b.queuedFor p) % 2 ^ (portCnt p 12).width ∧ b.memoriesKept u)
  ∧ (∀ (t : Nat) (s : State), (s.begin t).isSet (portLink 100) = true → (s.begin t).isSet (portEn 100) = false →
    (s.begin t).islRuns 7 = true →
    ((s.begin t).rd SI.CAS_STAT.STATE = 1 ∨ (s.begin t).rd SI.CAS_STAT.STATE = 2) →
    Completes (.linkDown 100 t) s fun u =>
      u.rd (portLink 100) = 0 ∧ u.rd SI.CAS_STAT.STATE = 0 ∧ (s.begin t).memoriesKept u
      ∧ u.rd SI.CAS_STAT.DOWN_CNT = ((s.begin t).rd SI.CAS_STAT.DOWN_CNT + 1) % 2 ^ SI.CAS_STAT.DOWN_CNT.width)
  ∧ (∀ (p speed t : Nat) (s : State), p < 96 → (s.begin t).isSet (portLink p) = false →
    Completes (.linkUp p speed false t) s fun u =>
      u.rd (portLink p) = 1 ∧ u.rd (portSpeed p) = speed % 2 ^ (portSpeed p).width ∧ u.rd (portLinkChg p) = 1
      ∧ u.rd (BI.PWR_PORT.L_CUR p) = 0
      ∧ u.rd (BI.CAR_PORT.GUARD_NS p) = u.txNs p 2020 % 2 ^ (BI.CAR_PORT.GUARD_NS p).width
      ∧ (s.begin t).restKept u [portLink p, portSpeed p, portLinkChg p, BI.PWR_PORT.L_CUR p, BI.CAR_PORT.GUARD_NS p]
      ∧ u = { s.begin t with regs := u.regs, out := u.out })
  ∧ (∀ (p speed t : Nat) (half : Bool) (s : State), p < 96 → (s.begin t).isSet (portLink p) = true →
    Completes (.linkUp p speed half t) s fun u =>
      u.rd (portDownCnt p) = ((s.begin t).rd (portDownCnt p) + 1) % 2 ^ (portDownCnt p).width ∧ u.rd (portLinkChg p) = 1
      ∧ (if half then u.rd (portLink p) = 0 ∧ u.rd (PI.PORT_STAT.HDX_REFUSED (p / 16) (p % 16)) = 1
        else u.rd (portLink p) = 1 ∧ u.rd (portSpeed p) = speed % 2 ^ (portSpeed p).width
          ∧ u.rd (BI.PWR_PORT.L_CUR p) = 0))
  ∧ (∀ (p speed t : Nat) (s : State), p < 96 → (s.begin t).isSet (portLink p) = false →
    Completes (.linkUp p speed true t) s fun u =>
      u.rd (PI.PORT_STAT.HDX_REFUSED (p / 16) (p % 16)) = 1 ∧ u.rd (portLink p) = 0
      ∧ (s.begin t).regsKept u [PI.PORT_STAT.HDX_REFUSED (p / 16) (p % 16)] ∧ u = { s.begin t with regs := u.regs })
  ∧ (∀ (p speed t : Nat) (half : Bool) (s : State), (p = 98 ∨ p = 99 ∨ p = 100) → (s.begin t).isSet (portLink p) = false →
    Completes (.linkUp p speed half t) s fun u =>
      u.rd (portLink p) = 1 ∧ u.rd (portSpeed p) = (if p = 100 then 1 else speed) % 2 ^ (portSpeed p).width
      ∧ u.rd (portLinkChg p) = 1
      ∧ (p ≠ 100 → u.rd (UI.SFP_IO.MOD_ABS (p - 98)) = 0 ∧ u.rd (UI.SFP_IO.RX_LOS (p - 98)) = 0)
      ∧ (s.begin t).restKept u ([portLink p, portSpeed p, portLinkChg p]
          ++ if p = 100 then [] else [UI.SFP_IO.MOD_ABS (p - 98), UI.SFP_IO.RX_LOS (p - 98)])
      ∧ u = { s.begin t with regs := u.regs, out := u.out })

/-- R163 and R164; that a bus clear is ignored like GO and sets DONE is the model's (notes/assumptions/60.md). R165. -/
def Obligations.I2cTransfersAndPowerStaysInBudget : Prop :=
  (∀ (src : Src) (k a r w : Nat) (s : State), src ≠ .host → k < 4 → (s.quiet.counted 0).islUp 0 = true →
    (s.quiet.counted 0).reaches src .store 0 (0x820 + 8 * k) = true →
    Completes (.i2cGo src k a r w) s fun u =>
      let b := s.quiet.counted 0
      u.rd (MI.I2C_XFER.ADDR k) = a % 2 ^ (MI.I2C_XFER.ADDR k).width
      ∧ u.rd (MI.I2C_XFER.RD_LEN k) = r % 2 ^ (MI.I2C_XFER.RD_LEN k).width
      ∧ u.rd (MI.I2C_XFER.WR_LEN k) = w % 2 ^ (MI.I2C_XFER.WR_LEN k).width
      ∧ u = { b with regs := u.regs, i2c := u.i2c, out := u.out }
      ∧ (if b.i2cIdle k then nget u.i2c k = some ⟨false, b.now, a, r, w⟩ ∧ u.rd (MI.I2C_STAT.BUSY k) = 1
          ∧ u.out = b.out ++ [.i2c k a (b.i2cBuf k w)]
          ∧ b.regsKept u [MI.I2C_XFER.ADDR k, MI.I2C_XFER.RD_LEN k, MI.I2C_XFER.WR_LEN k, MI.I2C_STAT.BUSY k]
        else u.i2c = b.i2c ∧ u.out = b.out
          ∧ b.regsKept u [MI.I2C_XFER.ADDR k, MI.I2C_XFER.RD_LEN k, MI.I2C_XFER.WR_LEN k]))
  ∧ (∀ (src : Src) (k : Nat) (s : State), src ≠ .host → (s.quiet.counted 0).islUp 0 = true →
    (s.quiet.counted 0).reaches src .store 0 (0x820 + 8 * k) = true →
    Completes (.busClear src k) s fun u =>
      let b := s.quiet.counted 0
      if b.i2cIdle k then nget u.i2c k = some ⟨true, b.now, 0, 0, 0⟩ ∧ u.rd (MI.I2C_STAT.BUSY k) = 1
        ∧ b.regsKept u [MI.I2C_STAT.BUSY k]
        ∧ u = { b with regs := u.regs, i2c := u.i2c, out := b.out ++ [.pin "I2C_BUS_CLEAR" k] }
      else u = b)
  ∧ (∀ (k : Nat) (op : I2cOp) (o : I2cEnd) (data : Frame) (s : State), k < 4 → nget s.i2c k = some op →
    Completes (.i2cDone k o data) s fun u =>
      nget u.i2c k = none ∧ (∀ j, j ≠ k → nget u.i2c j = nget s.i2c j) ∧ u.rd (MI.I2C_STAT.BUSY k) = 0
      ∧ u.rd (MI.I2C_STAT.DONE k) = 1
      ∧ (∀ n, o = .nack n → u.rd (MI.I2C_STAT.NACK k) = 1
          ∧ u.rd (MI.I2C_STAT.NACK_AT k) = n % 2 ^ (MI.I2C_STAT.NACK_AT k).width)
      ∧ (o = .arbLost → u.rd (MI.I2C_STAT.ARB_LOST k) = 1)
      ∧ u.i2cBuf k 32 = (if op.busClear then s.i2cBuf k 32 else patchAt (s.i2cBuf k 32) 0 ((data.take op.rdLen).take 32))
      ∧ s.regsKept u ([MI.I2C_STAT.BUSY k, MI.I2C_STAT.DONE k, MI.I2C_STAT.NACK k, MI.I2C_STAT.NACK_AT k,
          MI.I2C_STAT.ARB_LOST k] ++ (List.range 4).map (MI.I2C_BUF.DATA k))
      ∧ u = { s with regs := u.regs, i2c := u.i2c, out := if o = .arbLost then [] else [.pin "I2C_STOP" k] })
  ∧ (∀ (k low t : Nat) (op : I2cOp) (data : Frame) (s : State), k < 4 → nget (s.begin t).i2c k = some op →
    max 1 ((s.begin t).rd (MI.I2C_CFG.TIMEOUT k)) * 1000000 < low → op.since + low ≤ (s.begin t).now →
    Completes (.i2cTimeout k ⟨low, data, t⟩) s fun u =>
      let b := s.begin t
      if op.busClear then u = b
      else nget u.i2c k = none ∧ (∀ j, j ≠ k → nget u.i2c j = nget b.i2c j) ∧ u.rd (MI.I2C_STAT.BUSY k) = 0
        ∧ u.rd (MI.I2C_STAT.DONE k) = 1 ∧ u.rd (MI.I2C_STAT.TIMEOUT k) = 1
        ∧ u.i2cBuf k 32 = patchAt (b.i2cBuf k 32) 0 ((data.take op.rdLen).take 32)
        ∧ b.regsKept u ([MI.I2C_STAT.BUSY k, MI.I2C_STAT.DONE k, MI.I2C_STAT.TIMEOUT k]
            ++ (List.range 4).map (MI.I2C_BUF.DATA k))
        ∧ u = { b with regs := u.regs, i2c := u.i2c, out := b.out ++ [.pin "I2C_RELEASE" k] })
  ∧ (∀ (src : Src) (k a f : Nat) (s : State), src ≠ .host → k < 96 → (s.quiet.counted 8).islUp 8 = true →
    (s.quiet.counted 8).reaches src .store 8 (0xF100 + 8 * k) = true →
    Completes (.allocWrite src k a f) s fun u =>
      let b := s.quiet.counted 8
      let d := b.rd (BI.PWR_PORT.DOMAIN k)
      let sum := b.rd (BI.PWR_DOM.SUM_ALLOC d) + a % 65536 - b.rd (BI.PWR_PORT.ALLOC k)
      u = { b with regs := u.regs }
      ∧ (if a % 65536 < f % 65536 ∨ (d < 8 ∧ b.rd (BI.PWR_DOM.BUDGET d) < sum) then
          u.rd BI.PWR_STAT.ALLOC_REFUSED = 1 ∧ b.regsKept u [BI.PWR_STAT.ALLOC_REFUSED]
        else u.rd (BI.PWR_PORT.ALLOC k) = a % 65536 ∧ u.rd (BI.PWR_PORT.P_FULL k) = f % 65536
          ∧ (d < 8 → u.rd (BI.PWR_DOM.SUM_ALLOC d) = sum % 2 ^ (BI.PWR_DOM.SUM_ALLOC d).width
              ∧ b.regsKept u [BI.PWR_PORT.ALLOC k, BI.PWR_PORT.P_FULL k, BI.PWR_DOM.SUM_ALLOC d])
          ∧ (8 ≤ d → b.regsKept u [BI.PWR_PORT.ALLOC k, BI.PWR_PORT.P_FULL k])))
  ∧ (∀ (src : Src) (d v r : Nat) (s : State), src ≠ .host → d < 8 → (s.quiet.counted 8).islUp 8 = true →
    (s.quiet.counted 8).reaches src .store 8 (0xF008 + 8 * d) = true →
    Completes (.budgetWrite src d v r) s fun u =>
      let b := s.quiet.counted 8
      u = { b with regs := u.regs }
      ∧ (if v % 65536 < b.rd (BI.PWR_DOM.SUM_ALLOC d) then
          u.rd BI.PWR_STAT.ALLOC_REFUSED = 1 ∧ b.regsKept u [BI.PWR_STAT.ALLOC_REFUSED]
        else u.rd (BI.PWR_DOM.BUDGET d) = v % 65536 ∧ u.rd (BI.PWR_DOM.RISE_MAX d) = r % 65536
          ∧ b.regsKept u [BI.PWR_DOM.BUDGET d, BI.PWR_DOM.RISE_MAX d]))

/-- R199, whole: nothing but an in-flight count of zero retires an epoch. -/
def Obligations.SlowRetirementIsReportedOnly : Prop :=
  (∀ (t : Nat) (s : State), (s.begin t).isSet MI.EPOCH_STAT.RETIRING_VALID = true →
    (s.begin t).epoch.retireSince + max 1 ((s.begin t).rd MI.EPOCH_CFG.RETIRE_WARN) * 1000000 < (s.begin t).now →
    Completes (.retireSlow t) s fun u =>
      u.rd MI.EPOCH_STAT.RETIRE_SLOW = 1 ∧ u.isSet MI.EPOCH_STAT.RETIRING_VALID = true
      ∧ (s.begin t).restKept u [MI.EPOCH_STAT.RETIRE_SLOW] ∧ u = { s.begin t with regs := u.regs, out := u.out })
  ∧ (∀ (t : Nat) (s : State), ((s.begin t).isSet MI.EPOCH_STAT.RETIRING_VALID = false
      ∨ (s.begin t).now ≤ (s.begin t).epoch.retireSince + max 1 ((s.begin t).rd MI.EPOCH_CFG.RETIRE_WARN) * 1000000) →
    Completes (.retireSlow t) s fun u => u = s.begin t)
  ∧ (∀ (t : Nat) (s : State), (s.begin t).phase ≠ 6 →
    (s.begin t).inFlightAll ((s.begin t).rd MI.EPOCH_STAT.RETIRING) ≠ 0 →
    Completes (.epochRetire t) s fun u => u = s.begin t)

/-- R210. The model writes the batch only at PAUSE_APPLY, so restoring leaves the banks as they are. -/
def Obligations.PauseTimeoutUndoesTheUpdate : Prop :=
  (∀ (t : Nat) (s : State), (s.begin t).isSet MI.TUPD_STAT.PAUSE_RUNNING = true → (s.begin t).epoch.pauseAt + 100000 ≤ (s.begin t).time →
    Completes (.pauseTimeout t) s fun u =>
      u.bank0 = (s.begin t).bank0 ∧ u.bank1 = (s.begin t).bank1 ∧ u.curBank = (s.begin t).curBank
      ∧ (∀ p ∈ (s.begin t).epoch.pausePorts, (u.mac p).paused = false) ∧ u.epoch.batch = []
      ∧ u.rd MI.TUPD_STAT.BATCH_LEN = 0 ∧ u.rd MI.TUPD_STAT.PAUSE_RUNNING = 0 ∧ u.rd MI.TUPD_STAT.PAUSE_FAIL = 1
      ∧ u.rd MI.TUPD_STAT.ERROR = 0x0A ∧ (s.begin t).memoriesKept u
      ∧ (s.begin t).restKept u [MI.TUPD_STAT.BATCH_LEN, MI.TUPD_STAT.PAUSE_RUNNING, MI.TUPD_STAT.PAUSE_LAST_NS,
          MI.TUPD_STAT.ERROR, MI.TUPD_STAT.ERR, MI.TUPD_STAT.PAUSE_FAIL])
  ∧ (∀ (t : Nat) (s : State), ((s.begin t).isSet MI.TUPD_STAT.PAUSE_RUNNING = false
      ∨ (s.begin t).time < (s.begin t).epoch.pauseAt + 100000) →
    Completes (.pauseTimeout t) s fun u => u = s.begin t)

/-- R196, R198 and R202 to R205. R207. -/
def Obligations.EpochsCommitAbortAndSwitch : Prop :=
  (∀ (src : Src) (t e : Nat) (s : State), src ≠ .host → ((s.begin t).counted 0).islUp 0 = true →
    ((((s.begin t).counted 0).mode = 0 ∨ ((s.begin t).counted 0).mode = 3) ∧ e = 1
      ∨ (((s.begin t).counted 0).mode = 1 ∨ ((s.begin t).counted 0).mode = 2) ∧ ((s.begin t).counted 0).somethingStaged = false ∧ e = 2
      ∨ (((s.begin t).counted 0).mode = 1 ∨ ((s.begin t).counted 0).mode = 2) ∧ ((s.begin t).counted 0).isSet MI.IMG_STAT.STAGED = true ∧ e = 3
      ∨ (((s.begin t).counted 0).mode = 1 ∨ ((s.begin t).counted 0).mode = 2) ∧ ((s.begin t).counted 0).isSet MI.IMG_STAT.STAGED = false
        ∧ ((s.begin t).counted 0).isSet MI.EPOCH_STAT.STAGED_DIRTY = true ∧ ((s.begin t).counted 0).isSet MI.EPOCH_STAT.PENDING = true ∧ e = 4) →
    ((s.begin t).counted 0).reaches src .store 0 0x510 = true →
    Completes (.epochCommit src t) s fun u =>
      u.rd MI.EPOCH_STAT.ERROR = e ∧ ((s.begin t).counted 0).regsKept u [MI.EPOCH_STAT.ERROR]
      ∧ u = { (s.begin t).counted 0 with regs := u.regs })
  ∧ (∀ (src : Src) (t : Nat) (s : State), src ≠ .host → ((s.begin t).counted 0).islUp 0 = true →
    (((s.begin t).counted 0).mode = 1 ∨ ((s.begin t).counted 0).mode = 2) → ((s.begin t).counted 0).isSet MI.EPOCH_STAT.STAGED_DIRTY = true →
    ((s.begin t).counted 0).isSet MI.IMG_STAT.STAGED = false → ((s.begin t).counted 0).isSet MI.EPOCH_STAT.PENDING = false →
    ((s.begin t).counted 0).reaches src .store 0 0x510 = true →
    Completes (.epochCommit src t) s fun u =>
      let b := (s.begin t).counted 0
      let a := b.rd MI.EPOCH_CFG.ALIGN
      u.rd MI.EPOCH_STAT.ERROR = 0 ∧ u.rd MI.EPOCH_STAT.PENDING = 1
      ∧ u.epoch.align = (if a = 3 then 0 else if a = 2 ∧ b.rd MI.EPOCH_AT.TIME ≤ b.time then 1 else a)
      ∧ u.epoch.atTime = b.rd MI.EPOCH_AT.TIME ∧ b.regsKept u [MI.EPOCH_STAT.ERROR, MI.EPOCH_STAT.PENDING]
      ∧ u = { b with regs := u.regs, epoch := u.epoch })
  ∧ (∀ (t : Nat) (s : State), (s.begin t).switchPoint (s.begin t).time = true → (s.begin t).servingRun = true →
    Completes (.epochSwitch t) s fun u =>
      let b := s.begin t
      u.curBank = !b.curBank ∧ u.curEpoch = (b.curEpoch + 1) % 16
      ∧ u.rd MI.EPOCH_STAT.STAGED = (b.curEpoch + 2) % 16 ∧ u.rd MI.EPOCH_STAT.RETIRING = b.curEpoch % 16
      ∧ u.rd MI.EPOCH_STAT.RETIRING_VALID = 1 ∧ u.rd MI.EPOCH_STAT.PENDING = 0 ∧ u.rd MI.EPOCH_STAT.STAGED_DIRTY = 0
      ∧ u.rd MI.EPOCH_STAT.COMMIT_CNT = (b.rd MI.EPOCH_STAT.COMMIT_CNT + 1) % 2 ^ MI.EPOCH_STAT.COMMIT_CNT.width
      ∧ (if b.epoch.fromImage then u.rd MI.IMG_CONFIG_ID.ID = b.rd MI.IMG_STAGED_ID.ID ∧ u.rd MI.IMG_STAT.STAGED = 0
        else u.rd MI.IMG_STAT.DRIFT = 1)
      ∧ (b.epoch.bridgeReplaced = false → u.bank0 = b.bank0 ∧ u.bank1 = b.bank1)
      ∧ (b.epoch.bridgeReplaced = false → b.isSet SI.FRAG_CFG.FLUSH_ON_COMMIT = false →
          u = { b with regs := u.regs, epoch := u.epoch, curBank := !b.curBank }))
  ∧ (∀ (t : Nat) (s : State), (s.begin t).switchPoint (s.begin t).time = true → (s.begin t).servingRun = false →
    Completes (.epochSwitch t) s fun u =>
      u.rd MI.EPOCH_STAT.SWITCH_WAIT = 1 ∧ u.rd MI.EPOCH_STAT.SLIPPED = 1
      ∧ (s.begin t).restKept u [MI.EPOCH_STAT.SWITCH_WAIT, MI.EPOCH_STAT.SLIPPED]
      ∧ u = { s.begin t with regs := u.regs, epoch := { (s.begin t).epoch with reached := true }, out := u.out })
  ∧ (∀ (t : Nat) (s : State), (s.begin t).isSet MI.EPOCH_STAT.RETIRING_VALID = true →
    (s.begin t).inFlightAll ((s.begin t).rd MI.EPOCH_STAT.RETIRING) = 0 → (s.begin t).phase ≠ 6 →
    Completes (.epochRetire t) s fun u =>
      let b := s.begin t
      u.bank (!b.curBank) = b.bank b.curBank ∧ u.bank b.curBank = b.bank b.curBank ∧ u.curBank = b.curBank
      ∧ u.rd MI.EPOCH_STAT.RETIRING_VALID = 0 ∧ u.rd MI.EPOCH_STAT.RETIRED = 1
      ∧ b.restKept u [MI.EPOCH_STAT.RETIRING_VALID, MI.EPOCH_STAT.RETIRED]
      ∧ u = { b with regs := u.regs, bank0 := u.bank0, bank1 := u.bank1, out := u.out })
  ∧ (∀ (src : Src) (t : Nat) (s : State), src ≠ .host → ((s.begin t).counted 0).islUp 0 = true →
    ((s.begin t).counted 0).reaches src .store 0 0x510 = true → ((s.begin t).counted 0).somethingStaged = false →
    Completes (.epochAbort src t) s fun u =>
      u.rd MI.EPOCH_STAT.ERROR = 2 ∧ ((s.begin t).counted 0).regsKept u [MI.EPOCH_STAT.ERROR]
      ∧ u = { (s.begin t).counted 0 with regs := u.regs })
  ∧ (∀ (src : Src) (t : Nat) (s : State), src ≠ .host → ((s.begin t).counted 0).islUp 0 = true →
    ((s.begin t).counted 0).reaches src .store 0 0x510 = true → ((s.begin t).counted 0).somethingStaged = true →
    Completes (.epochAbort src t) s fun u =>
      let b := (s.begin t).counted 0
      u.bank (!b.curBank) = b.bank b.curBank ∧ u.bank b.curBank = b.bank b.curBank ∧ u.epoch.aborting = true
      ∧ u.epoch.stagedTables = [] ∧ u.epoch.imageTables = []
      ∧ u.rd MI.EPOCH_STAT.ERROR = 0 ∧ u.rd MI.EPOCH_STAT.STAGED_DIRTY = 0 ∧ u.rd MI.EPOCH_STAT.PENDING = 0
      ∧ u.rd MI.EPOCH_STAT.SWITCH_WAIT = 0 ∧ u.rd MI.IMG_STAT.STAGED = 0 ∧ u.rd MI.IMG_STAGED_ID.ID = 0
      ∧ (∀ k, k < 2 → ∀ h ∈ (u.pipe k).heads, h.trial = true → h.epoch ≠ b.stagedEpoch)
      ∧ ((∀ k, k < 2 → (b.pipe k).heads = [] ∧ (b.pipe k).ctxs = []) →
          b.regsKept u [MI.EPOCH_STAT.ERROR, MI.EPOCH_STAT.STAGED_DIRTY, MI.EPOCH_STAT.PENDING, MI.EPOCH_STAT.SWITCH_WAIT,
            MI.IMG_STAT.STAGED, MI.IMG_STAGED_ID.ID]
          ∧ u = { b with regs := u.regs, bank0 := u.bank0, bank1 := u.bank1, epoch := u.epoch }))
  ∧ (∀ (t : Nat) (s : State), (s.begin t).epoch.aborting = true → (s.begin t).abortLeft = 0 →
    Completes (.epochAbortDone t) s fun u =>
      u.rd MI.EPOCH_STAT.ABORT_DONE = 1 ∧ (s.begin t).restKept u [MI.EPOCH_STAT.ABORT_DONE]
      ∧ u = { s.begin t with regs := u.regs, epoch := { (s.begin t).epoch with aborting := false, aborted := [] }, out := u.out })

/-- R106, R200, R201, R209 and R212. R230, R231 and R245. -/
def Obligations.TablesAndStoresAreUpdated : Prop :=
  (∀ (src : Src) (inv : Bool) (e : Nat) (s : State), src ≠ .host → (s.quiet.counted 0).islUp 0 = true →
    (s.quiet.counted 0).reaches src .store 0 0x598 = true →
    let b := s.quiet.counted 0
    (b.isSet MI.TUPD_STAT.PAUSE_RUNNING = true ∧ e = 0x0D
      ∨ b.isSet MI.TUPD_STAT.PAUSE_RUNNING = false ∧ 9 < b.rd MI.TUPD_ADDR.TABLE ∧ e = 5
      ∨ b.isSet MI.TUPD_STAT.PAUSE_RUNNING = false ∧ b.rd MI.TUPD_ADDR.TABLE ≤ 9
        ∧ bitOf (b.rd MI.TBL_MODE.PAUSE) (b.rd MI.TUPD_ADDR.TABLE) = false ∧ b.stageRefusal = e ∧ e ≠ 0
      ∨ b.isSet MI.TUPD_STAT.PAUSE_RUNNING = false ∧ b.rd MI.TUPD_ADDR.TABLE ≤ 9
        ∧ (bitOf (b.rd MI.TBL_MODE.PAUSE) (b.rd MI.TUPD_ADDR.TABLE) = true ∨ b.stageRefusal = 0)
        ∧ b.tupdIndexOk (b.rd MI.TUPD_ADDR.TABLE) (b.rd MI.TUPD_ADDR.INDEX) = false ∧ e = 6) →
    Completes (if inv then .tupdInvalidateEntry src else .tupdWriteEntry src) s fun u =>
      u.rd MI.TUPD_STAT.ERROR = e ∧ u.rd MI.TUPD_STAT.ERR = 1 ∧ u.rd MI.TUPD_ADDR.OP = (if inv then 2 else 1)
      ∧ (e ≤ 4 → b.isSet MI.IMG_STAT.STAGED = true → u.rd MI.IMG_STAT.WR_REFUSED = 1)
      ∧ b.regsKept u ([MI.TUPD_STAT.ERROR, MI.TUPD_STAT.ERR, MI.TUPD_ADDR.OP]
          ++ if e ≤ 4 ∧ b.isSet MI.IMG_STAT.STAGED = true then [MI.IMG_STAT.WR_REFUSED] else [])
      ∧ u = { b with regs := u.regs })
  ∧ (∀ (src : Src) (inv : Bool) (k : Bank) (s : State), src ≠ .host → (s.quiet.counted 0).islUp 0 = true →
    (s.quiet.counted 0).reaches src .store 0 0x598 = true →
    let b := s.quiet.counted 0
    b.isSet MI.TUPD_STAT.PAUSE_RUNNING = false → b.rd MI.TUPD_ADDR.TABLE ≤ 9 →
    bitOf (b.rd MI.TBL_MODE.PAUSE) (b.rd MI.TUPD_ADDR.TABLE) = false → b.stageRefusal = 0 →
    b.tupdIndexOk (b.rd MI.TUPD_ADDR.TABLE) (b.rd MI.TUPD_ADDR.INDEX) = true →
    b.applyEntry (b.bank (!b.curBank)) ⟨inv, b.rd MI.TUPD_ADDR.TABLE, b.rd MI.TUPD_ADDR.INDEX, b.tupdRecord⟩ = .ok k →
    Completes (if inv then .tupdInvalidateEntry src else .tupdWriteEntry src) s fun u =>
      u.bank (!b.curBank) = k ∧ u.bank b.curBank = b.bank b.curBank ∧ u.rd MI.TUPD_STAT.ERROR = 0
      ∧ u.rd MI.EPOCH_STAT.STAGED_DIRTY = 1 ∧ u.epoch.stagedTables.contains (b.rd MI.TUPD_ADDR.TABLE) = true
      ∧ b.regsKept u [MI.TUPD_STAT.ERROR, MI.EPOCH_STAT.STAGED_DIRTY, MI.TUPD_ADDR.OP]
      ∧ u = { b with regs := u.regs, bank0 := u.bank0, bank1 := u.bank1, epoch := u.epoch })
  ∧ (∀ (src : Src) (inv : Bool) (s : State), src ≠ .host → (s.quiet.counted 0).islUp 0 = true →
    (s.quiet.counted 0).reaches src .store 0 0x598 = true →
    let b := s.quiet.counted 0
    let op : BatchOp := ⟨inv, b.rd MI.TUPD_ADDR.TABLE, b.rd MI.TUPD_ADDR.INDEX, b.tupdRecord⟩
    b.isSet MI.TUPD_STAT.PAUSE_RUNNING = false → op.table ≤ 9 → b.tupdIndexOk op.table op.index = true →
    bitOf (b.rd MI.TBL_MODE.PAUSE) op.table = true →
    Completes (if inv then .tupdInvalidateEntry src else .tupdWriteEntry src) s fun u =>
      u.bank0 = b.bank0 ∧ u.bank1 = b.bank1
      ∧ (match b.applyEntry (b.applyBatch (b.bank b.curBank) b.epoch.batch) op with
        | .error r => u.rd MI.TUPD_STAT.ERROR = 7 ∧ u.rd MI.TUPD_STAT.ERR = 1 ∧ u.rd SI.TBL_REJECT.REASON = r.code % 2 ^ SI.TBL_REJECT.REASON.width
          ∧ u.epoch = b.epoch
        | .ok _ => if 64 ≤ b.epoch.batch.length then u.rd MI.TUPD_STAT.ERROR = 9 ∧ u.epoch = b.epoch
          else u.rd MI.TUPD_STAT.ERROR = 0 ∧ u.epoch = { b.epoch with batch := b.epoch.batch ++ [op] })
      ∧ u = { b with regs := u.regs, epoch := u.epoch })
  ∧ (∀ (src : Src) (t : Nat) (s : State), src ≠ .host → ((s.begin t).counted 0).islUp 0 = true →
    ((s.begin t).counted 0).reaches src .store 0 0x598 = true →
    Completes (.pauseGo src t) s fun u =>
      let b := (s.begin t).counted 0
      let e := b.pauseRefusal
      u.rd MI.TUPD_STAT.ERROR = e
      ∧ (if e = 0 then u.rd MI.TUPD_STAT.PAUSE_RUNNING = 1 ∧ u.epoch.pauseAt = b.time
        ∧ (∀ p, p < 101 → bitOf (b.rd (MI.TUPD_PORTS.PORTS (p / 64))) (p % 64) = true → (u.mac p).paused = true)
        ∧ (∀ p, p < 101 → bitOf (b.rd (MI.TUPD_PORTS.PORTS (p / 64))) (p % 64) = false → u.mac p = b.mac p)
        ∧ b.regsKept u [MI.TUPD_STAT.PAUSE_RUNNING, MI.TUPD_STAT.ERROR]
        ∧ u = { b with regs := u.regs, epoch := u.epoch, ports := u.ports }
      else u.rd MI.TUPD_STAT.ERR = 1 ∧ (e ≠ 0x0D → u.rd MI.TUPD_STAT.PAUSE_FAIL = 1)
        ∧ b.restKept u ([MI.TUPD_STAT.ERROR, MI.TUPD_STAT.ERR] ++ if e = 0x0D then [] else [MI.TUPD_STAT.PAUSE_FAIL])
        ∧ u = { b with regs := u.regs, out := u.out }))
  ∧ (∀ (src : Src) (s : State), src ≠ .host → (s.quiet.counted 0).islUp 0 = true →
    (s.quiet.counted 0).reaches src .store 0 0x598 = true →
    Completes (.pauseDiscard src) s fun u =>
      let b := s.quiet.counted 0
      if b.isSet MI.TUPD_STAT.PAUSE_RUNNING then u.rd MI.TUPD_STAT.ERROR = 0x0D ∧ u = { b with regs := u.regs }
      else u.epoch = { b.epoch with batch := [] } ∧ u.rd MI.TUPD_STAT.BATCH_LEN = 0 ∧ u.rd MI.TUPD_STAT.ERROR = 0
        ∧ b.regsKept u [MI.TUPD_STAT.BATCH_LEN, MI.TUPD_STAT.ERROR] ∧ u = { b with regs := u.regs, epoch := u.epoch })
  ∧ (∀ (t : Nat) (s : State), (s.begin t).isSet MI.TUPD_STAT.PAUSE_RUNNING = true → (s.begin t).pauseDrained = true →
    (s.begin t).time < (s.begin t).epoch.pauseAt + 100000 →
    Completes (.pauseApply t) s fun u =>
      let b := s.begin t
      u.bank b.curBank = b.applyBatch (b.bank b.curBank) b.epoch.batch ∧ u.curBank = b.curBank
      ∧ (b.isSet MI.EPOCH_STAT.STAGED_DIRTY = false → u.bank (!b.curBank) = u.bank b.curBank)
      ∧ u.epoch.batch = [] ∧ u.rd MI.TUPD_STAT.PAUSE_DONE = 1 ∧ u.rd MI.TUPD_STAT.PAUSE_RUNNING = 0
      ∧ (∀ p ∈ b.epoch.pausePorts, (u.mac p).paused = false) ∧ b.memoriesKept u)
  ∧ (∀ (x : CtxId) (ecc : Ecc) (t : Nat) (c : Ctx) (s : State), (s.begin t).issues x c ecc →
    let b := s.begin t
    let m := microOf (b.fetch x c)
    m.op = 0x11 → phvInRange m.off 16 = true → c.trial = false →
    Completes (.csw x ecc t) s fun u =>
      u.bank b.curBank = b.bank b.curBank ∧ u.curBank = b.curBank
      ∧ (if b.stageRefusal = 0 then
          ngetD ((u.bank (!b.curBank)).pipe x.pipe).store ((c.reg m.ra).toNat % 8192) 0 = beNat (sliceAt c.phv m.off 16)
          ∧ (∀ a, a ≠ (c.reg m.ra).toNat % 8192 → ngetD ((u.bank (!b.curBank)).pipe x.pipe).store a 0
              = ngetD ((b.bank (!b.curBank)).pipe x.pipe).store a 0)
          ∧ u.rd MI.EPOCH_STAT.STAGED_DIRTY = 1 ∧ u.ctx? x = some ({ c with csr := false }.stepPc.retired b.time)
        else u.bank (!b.curBank) = b.bank (!b.curBank)
          ∧ u.rd (P.CS_STAT.CSW_ERROR x.pipe) = b.stageRefusal % 2 ^ (P.CS_STAT.CSW_ERROR x.pipe).width
          ∧ u.ctx? x = some ({ c with csr := true }.stepPc.retired b.time)))
  ∧ (∀ (src : Src) (k : Nat) (s : State), src ≠ .host → k < 2 → (s.quiet.counted (5 + k)).islUp (5 + k) = true →
    (s.quiet.counted (5 + k)).reaches src .store (5 + k) 0x618 = true →
    Completes (.csWrite src k) s fun u =>
      let b := s.quiet.counted (5 + k)
      let a := b.rd (P.CS_ADDR.ADDR k)
      u.bank b.curBank = b.bank b.curBank ∧ u.rd (P.CS_STAT.DONE k) = 1
      ∧ u.rd (P.CS_STAT.ERROR k) = b.stageRefusal % 2 ^ (P.CS_STAT.ERROR k).width
      ∧ (if b.stageRefusal = 0 then
          ngetD ((u.bank (!b.curBank)).pipe k).store a 0
            = b.rd (P.CS_DATA.DATA k 0) + b.rd (P.CS_DATA.DATA k 1) * 2 ^ 64
          ∧ u.rd MI.EPOCH_STAT.STAGED_DIRTY = 1
          ∧ b.regsKept u [P.CS_STAT.DONE k, P.CS_STAT.ERROR k, MI.EPOCH_STAT.STAGED_DIRTY]
        else u.bank (!b.curBank) = b.bank (!b.curBank)
          ∧ u.rd (P.CS_STAT.REFUSED k) = (b.rd (P.CS_STAT.REFUSED k) + 1) % 2 ^ (P.CS_STAT.REFUSED k).width))
  ∧ (∀ (src : Src) (k : Nat) (s : State), src ≠ .host → k < 2 → (s.quiet.counted (5 + k)).islUp (5 + k) = true →
    (s.quiet.counted (5 + k)).reaches src .store (5 + k) 0x618 = true →
    Completes (.csRead src k) s fun u =>
      let b := s.quiet.counted (5 + k)
      let bk := if b.isSet (P.CS_ADDR.BANK k) then !b.curBank else b.curBank
      let w := ngetD ((b.bank bk).pipe k).store (b.rd (P.CS_ADDR.ADDR k)) 0
      u.rd (P.CS_DATA.DATA k 0) = w % 2 ^ 64 ∧ u.rd (P.CS_DATA.DATA k 1) = w / 2 ^ 64 % 2 ^ 64
      ∧ u.rd (P.CS_STAT.DONE k) = 1 ∧ u.rd (P.CS_STAT.ERROR k) = 0
      ∧ b.regsKept u [P.CS_DATA.DATA k 0, P.CS_DATA.DATA k 1, P.CS_STAT.DONE k, P.CS_STAT.ERROR k]
      ∧ u = { b with regs := u.regs })

/-- R174 to R178, R182 to R185 and R195; that PARSE_DEPTH wins over FRAG_SLOW is the model's (notes/assumptions/30.md). -/
def Obligations.ParsingClassifiesFrames : Prop :=
  (∀ (src seq t code v : Nat) (c : Copy) (r : WalkRec) (s : State), src < 112 → (s.begin t).arrivedHeader src = some seq →
    ((s.begin t).mac src).copies.find? (fun c => c.seq = seq) = some c → c.stage ≠ 0 →
    (s.begin t).islUp (5 + pipeOf src) = true → (c.trial = false ∨ c.epoch ≠ none ∨ (s.begin t).somethingStaged = true) →
    (s.begin t).isAborted src seq = false →
    walk (((s.begin t).epochBank ((s.begin t).stampFor c)).pipe (pipeOf src)).graph c.bytes (s.begin t).freeVal 24
      (((s.begin t).epochBank ((s.begin t).stampFor c)).pipe (pipeOf src)).graph.start 0 WalkRec.empty = .result code v r →
    (r.frag = 0 ∨ (s.begin t).slowMode c.ingress = false) →
    Completes (.parseWalk src t) s fun u =>
      let b := s.begin t
      let k := pipeOf src
      (∃ p, (u.pipe k).heads = (b.pipe k).heads ++ [p] ∧ p.source = src ∧ p.seq = seq ∧ p.bytes = c.bytes
        ∧ p.epoch = b.stampFor c ∧ p.result = code ∧ p.layers = r.layers ∧ p.tagOuter = r.tagOuter
        ∧ p.tagInner = r.tagInner ∧ p.tagOvf = r.tagOvf ∧ p.visits = v ∧ p.trial = c.trial ∧ p.frag = r.frag
        ∧ p.fragKey = r.fragKey)
      ∧ (u.mac src).copies = ((b.mac src).copies.map fun x =>
          if x.seq = seq then { x with epoch := some (b.stampFor c), stage := 3 } else x)
      ∧ (u.chan (ingressChan src)).arrived = (b.chan (ingressChan src)).arrived.erase (.header src seq)
      ∧ (u.chan (ingressChan src)).returning = (b.chan (ingressChan src)).returning + 1
      ∧ (code = 0x7F → u.rd (P.PARSE_STAT.SHORT k) = (b.rd (P.PARSE_STAT.SHORT k) + 1) % 2 ^ (P.PARSE_STAT.SHORT k).width)
      ∧ (r.badFrag = true → u.rd (P.PARSE_STAT.BAD_FRAG k) = 1)
      ∧ b.regsKept u ((if code = 0x7F then [P.PARSE_STAT.SHORT k, P.PARSE_STAT.SHORT_OVF k] else [])
          ++ if r.badFrag then [P.PARSE_STAT.BAD_FRAG k] else [])
      ∧ u = { b with regs := u.regs, pa := u.pa, pb := u.pb, ports := u.ports, chans := u.chans, free := b.free + 1 })
  ∧ (∀ (src seq t code v : Nat) (c : Copy) (r : WalkRec) (s : State), src < 112 → (s.begin t).arrivedHeader src = some seq →
    ((s.begin t).mac src).copies.find? (fun c => c.seq = seq) = some c → c.stage ≠ 0 →
    (s.begin t).islUp (5 + pipeOf src) = true → c.trial = false → (s.begin t).isAborted src seq = false →
    walk (((s.begin t).epochBank ((s.begin t).stampFor c)).pipe (pipeOf src)).graph c.bytes (s.begin t).freeVal 24
      (((s.begin t).epochBank ((s.begin t).stampFor c)).pipe (pipeOf src)).graph.start 0 WalkRec.empty = .result code v r →
    r.frag ≠ 0 → (s.begin t).slowMode c.ingress = true →
    Completes (.parseWalk src t) s fun u =>
      (u.pipe (pipeOf src)).heads = ((s.begin t).pipe (pipeOf src)).heads ∧ (s.begin t).memoriesKept u)
  ∧ (∀ (src seq t node : Nat) (bad : Bool) (c : Copy) (s : State), src < 112 → (s.begin t).arrivedHeader src = some seq →
    ((s.begin t).mac src).copies.find? (fun c => c.seq = seq) = some c → c.stage ≠ 0 →
    (s.begin t).islUp (5 + pipeOf src) = true → c.trial = false → (s.begin t).isAborted src seq = false →
    walk (((s.begin t).epochBank ((s.begin t).stampFor c)).pipe (pipeOf src)).graph c.bytes (s.begin t).freeVal 24
      (((s.begin t).epochBank ((s.begin t).stampFor c)).pipe (pipeOf src)).graph.start 0 WalkRec.empty = .depth node bad →
    Completes (.parseWalk src t) s fun u =>
      (u.pipe (pipeOf src)).heads = ((s.begin t).pipe (pipeOf src)).heads
      ∧ u.rd (P.PARSE_STAT.DEPTH (pipeOf src))
        = ((s.begin t).rd (P.PARSE_STAT.DEPTH (pipeOf src)) + 1) % 2 ^ (P.PARSE_STAT.DEPTH (pipeOf src)).width
      ∧ (bad = true → u.rd (P.PARSE_STAT.BAD_FRAG (pipeOf src)) = 1)
      ∧ (s.begin t).memoriesKept u)
  ∧ (∀ (src t : Nat) (s : State), (s.begin t).arrivedHeader src = none →
    Completes (.parseWalk src t) s fun u => u = s.begin t)

/-- R218, R221 and R284 to R287. R190. -/
def Obligations.TurnstileDispatchesAndFragmentsExpire : Prop :=
  (∀ (k t : Nat) (gw res : Bool) (x : CtxId) (h : Parsed) (r : Routine) (s : State), k < 2 →
    (s.begin t).dispatchHeld k = false → (s.begin t).freeCtx k gw = some x → (s.begin t).grantHead k gw = some (h, res) →
    h.frag = 0 → (s.begin t).routine? k h.epoch ((s.begin t).entryFor h) = some r →
    Completes (.packetDispatch k gw t) s fun u =>
      let b := s.begin t
      (∃ c, u.ctx? x = some c ∧ c.packet = some h ∧ c.phv = phvOf h 0 b.freeVal ∧ c.pc = r.entry ∧ c.budget = r.budget
        ∧ c.epoch = h.epoch ∧ c.trial = h.trial ∧ c.issued = 0 ∧ c.g = List.replicate 16 0 ∧ c.z = false ∧ c.c = false
        ∧ c.hit = false ∧ c.csr = false ∧ c.stack = [] ∧ c.readyAt = b.time ∧ (c.gw.isSome = r.gateway))
      ∧ x.pipe = k ∧ (u.pipe k).heads = (b.pipe k).heads.erase h
      ∧ bitOf (u.rd (P.JUG_STAT.BUSY k x.jug)) x.ctx = true
      ∧ b.restKept u [P.JUG_STAT.BUSY k x.jug, P.TS_STAT.OLDEST_NS k, P.TS_STAT.SHEDDING k]
      ∧ u = { b with regs := u.regs, pa := u.pa, pb := u.pb, ports := u.ports, chans := u.chans, out := u.out,
                     free := b.free + 1 })
  ∧ (∀ (k t : Nat) (h : Parsed) (s : State), k < 2 → (s.begin t).dispatchHeld k = false →
    (s.begin t).shedWait k < ((s.begin t).oldestWait k).getD 0 → (s.begin t).shedHead k = some h →
    Completes (.turnstileShed k t) s fun u =>
      let b := s.begin t
      let c := b.headClass k h
      c < 6 ∧ (∀ g ∈ b.readyHeads k, c ≤ b.headClass k g) ∧ (u.pipe k).heads = (b.pipe k).heads.erase h
      ∧ u.rd (P.TS_DROP.COUNT k c) = (b.rd (P.TS_DROP.COUNT k c) + 1) % 2 ^ (P.TS_DROP.COUNT k c).width
      ∧ u.rd (P.TS_STAT.SHED_SEEN k) = 1 ∧ b.memoriesKept u)
  ∧ (∀ (k t : Nat) (s : State), k < 2 → (s.begin t).dispatchHeld k = false →
    ((s.begin t).oldestWait k).getD 0 ≤ (s.begin t).shedWait k →
    Completes (.turnstileShed k t) s fun u =>
      u.rd (P.TS_STAT.OLDEST_NS k) = min 65535 (((s.begin t).oldestWait k).getD 0) ∧ u.rd (P.TS_STAT.SHEDDING k) = 0
      ∧ (s.begin t).regsKept u [P.TS_STAT.OLDEST_NS k, P.TS_STAT.SHEDDING k] ∧ u = { s.begin t with regs := u.regs })
  ∧ (∀ (key : FragKey) (t : Nat) (e : FragEntry) (s : State), (s.begin t).frag? key = some e →
    e.hitAt + max 1 ((s.begin t).rd SI.FRAG_CFG.AGE_MS) * 1000000 ≤ (s.begin t).now → (s.begin t).fragWaiters key = [] →
    Completes (.fragEntryExpire key t) s fun u =>
      let b := s.begin t
      u.si = { b.si with frags := b.si.frags.filter fun e => e.key ≠ key } ∧ u.frag? key = none
      ∧ u.rd SI.FRAG_STAT.OCCUPANCY = u.si.frags.length % 2 ^ SI.FRAG_STAT.OCCUPANCY.width
      ∧ u.rd SI.FRAG_STAT.EXPIRED = (b.rd SI.FRAG_STAT.EXPIRED + 1) % 2 ^ SI.FRAG_STAT.EXPIRED.width
      ∧ b.regsKept u [SI.FRAG_STAT.OCCUPANCY, SI.FRAG_STAT.EXPIRED, SI.FRAG_STAT.CNT_OVF]
      ∧ u = { b with regs := u.regs, si := u.si })
  ∧ (∀ (key : FragKey) (t : Nat) (e : FragEntry) (s : State), (s.begin t).frag? key = some e →
    (s.begin t).now < e.hitAt + max 1 ((s.begin t).rd SI.FRAG_CFG.AGE_MS) * 1000000 →
    Completes (.fragEntryExpire key t) s fun u => u = s.begin t)

/-- R217, R222 and R224; C of the logical functions, shifts, MIN and MAX is the model's (notes/assumptions/31.md). R222, R223, R232 and R237. -/
def Obligations.JugglersMoveComputeAndBranch : Prop :=
  (∀ (x : CtxId) (ecc : Ecc) (t : Nat) (c c' : Ctx) (cmd : Instr) (s : State), (s.begin t).issues x c ecc →
     let m := microOf ((s.begin t).fetch x c)
     let a := c.reg m.ra
     let b := c.operand m
     let alu := fun (v : BitVec 32) (k : Bool) => { c with g := setAt c.g m.rd v, z := v == 0, c := k }
     let w := m.wm1 + 1
     (m.op = 0x01 ∧ cmd = .nop x ecc t ∧ c' = c
       ∨ m.op = 0x02 ∧ cmd = .ldf x ecc t ∧ m.off + (m.boff + w + 7) / 8 ≤ 0x180
         ∧ c' = { c with g := setAt c.g m.rd (BitVec.ofNat 32 (getField c.phv m.off m.boff w)) }
       ∨ m.op = 0x03 ∧ cmd = .stf x ecc t ∧ phvMayWrite m.off ((m.boff + w + 7) / 8) = true
         ∧ c' = { c with phv := putField c.phv m.off m.boff w a.toNat }
       ∨ m.op = 0x04 ∧ cmd = .ldi x ecc t ∧ c' = { c with g := setAt c.g m.rd (BitVec.ofNat 32 m.imm) }
       ∨ m.op = 0x05 ∧ m.sub % 16 = 0 ∧ cmd = .aluAdd x ecc t ∧ c' = alu (a + b) (decide (2 ^ 32 ≤ a.toNat + b.toNat))
       ∨ m.op = 0x05 ∧ m.sub % 16 = 1 ∧ cmd = .aluSubtract x ecc t ∧ c' = alu (a - b) (decide (a.toNat < b.toNat))
       ∨ m.op = 0x05 ∧ m.sub % 16 = 2 ∧ cmd = .aluAnd x ecc t ∧ c' = alu (a &&& b) false
       ∨ m.op = 0x05 ∧ m.sub % 16 = 3 ∧ cmd = .aluOr x ecc t ∧ c' = alu (a ||| b) false
       ∨ m.op = 0x05 ∧ m.sub % 16 = 4 ∧ cmd = .aluXor x ecc t ∧ c' = alu (a ^^^ b) false
       ∨ m.op = 0x05 ∧ m.sub % 16 = 5 ∧ cmd = .aluShiftLeft x ecc t ∧ c' = alu (BitVec.ofNat 32 (a.toNat * 2 ^ b.toNat)) false
       ∨ m.op = 0x05 ∧ m.sub % 16 = 6 ∧ cmd = .aluShiftRight x ecc t ∧ c' = alu (BitVec.ofNat 32 (a.toNat / 2 ^ b.toNat)) false
       ∨ m.op = 0x05 ∧ m.sub % 16 = 7 ∧ cmd = .aluMinimum x ecc t ∧ c' = alu (BitVec.ofNat 32 (min a.toNat b.toNat)) false
       ∨ m.op = 0x05 ∧ m.sub % 16 = 8 ∧ cmd = .aluMaximum x ecc t ∧ c' = alu (BitVec.ofNat 32 (max a.toNat b.toNat)) false
       ∨ m.op = 0x06 ∧ cmd = .cmp x ecc t ∧ c' = { c with z := a == b, c := decide (a.toNat < b.toNat) }) →
     Completes cmd s fun u =>
       (s.begin t).retires u x ecc c'.stepPc
       ∧ u = { s.begin t with regs := u.regs, pa := u.pa, pb := u.pb, di := u.di, out := u.out })
  ∧ (∀ (x : CtxId) (ecc : Ecc) (t : Nat) (c c' : Ctx) (cmd : Instr) (s : State), (s.begin t).issues x c ecc →
    let m := microOf ((s.begin t).fetch x c)
    (m.op = 0x07 ∧ cmd = .jmp x ecc t ∧ c' = { c with pc := m.target }
      ∨ m.op = 0x08 ∧ cmd = .call x ecc t ∧ c.stack.length < 4
        ∧ c' = { c with stack := (c.pc + 1) % 8192 :: c.stack, pc := m.target }
      ∨ m.op = 0x09 ∧ cmd = .ret x ecc t ∧ c.stack ≠ []
        ∧ c' = { c with stack := c.stack.tail, pc := c.stack.headD 0 }) →
    Completes cmd s fun u =>
      (s.begin t).retires u x ecc c'
      ∧ u = { s.begin t with regs := u.regs, pa := u.pa, pb := u.pb, di := u.di, out := u.out })
  ∧ (∀ (x : CtxId) (ecc : Ecc) (t : Nat) (c : Ctx) (cmd : Instr) (s : State), (s.begin t).ctx? x = some c →
    (s.begin t).mayIssue x c = true → ecc ≠ .uncorrectable →
    let m := microOf ((s.begin t).fetch x c)
    m.condListed = true → c.holds m.cond = false →
    (m.op, cmd) ∈ [(0x01, Instr.nop x ecc t), (0x02, .ldf x ecc t), (0x03, .stf x ecc t), (0x04, .ldi x ecc t),
      (0x06, .cmp x ecc t), (0x07, .jmp x ecc t), (0x08, .call x ecc t), (0x09, .ret x ecc t), (0x0A, .srch x ecc t),
      (0x0B, .swait x ecc t), (0x0D, .ins x ecc t), (0x0E, .del x ecc t), (0x0F, .csum x ecc t), (0x10, .time x ecc t),
      (0x11, .csw x ecc t), (0x12, .fault x ecc t), (0x13, .endRoutine x ecc t)] →
    Completes cmd s fun u =>
      (s.begin t).retires u x ecc c.stepPc
      ∧ u = { s.begin t with regs := u.regs, pa := u.pa, pb := u.pb, di := u.di, out := u.out })
  ∧ (∀ (x : CtxId) (ecc : Ecc) (t code data : Nat) (c : Ctx) (cmd : Instr) (s : State), (s.begin t).ctx? x = some c →
    (s.begin t).mayIssue x c = true → c.outstanding = [] → c.gw = none →
    let m := microOf ((s.begin t).fetch x c)
    (ecc = .uncorrectable ∧ m.op = 0x01 ∧ cmd = .nop x ecc t ∧ code = 0x08 ∧ data = 0
      ∨ ecc ≠ .uncorrectable ∧ m.condListed = false ∧ m.op = 0x01 ∧ cmd = .nop x ecc t ∧ code = 0x01 ∧ data = 0
      ∨ (s.begin t).issues x c ecc ∧ m.op = 0x12 ∧ cmd = .fault x ecc t ∧ code = 0x0B ∧ data = m.imm % 256
      ∨ (s.begin t).issues x c ecc ∧ m.op = 0x08 ∧ cmd = .call x ecc t ∧ 4 ≤ c.stack.length ∧ code = 0x03 ∧ data = 0
      ∨ (s.begin t).issues x c ecc ∧ m.op = 0x09 ∧ cmd = .ret x ecc t ∧ c.stack = [] ∧ code = 0x03 ∧ data = 0
      ∨ ecc ≠ .uncorrectable ∧ (m.op = 0 ∨ 0x14 ≤ m.op ∧ m.op < 0x18 ∨ 0x1C ≤ m.op) ∧ cmd = .illegalOpcode x ecc t
        ∧ code = 0x01 ∧ data = 0) →
    Completes cmd s fun u =>
      let b := s.begin t
      let k := x.pipe
      u.freed x ∧ u.rd (P.JUG_FAULT_CNT.COUNT k) = (b.rd (P.JUG_FAULT_CNT.COUNT k) + 1) % 2 ^ (P.JUG_FAULT_CNT.COUNT k).width
      ∧ (u.pipe k).faults = (if (b.pipe k).faults.length < 64 then (b.pipe k).faults ++ [faultEntry x c code data c.pc]
          else (b.pipe k).faults)
      ∧ b.memoriesKept u)

/-- R192, R194, R222 and R229. The bytes that DEL leaves at the window's end are free values. -/
def Obligations.JugglerRewritesFrames : Prop :=
  (∀ (x : CtxId) (ecc : Ecc) (t : Nat) (c c' : Ctx) (cmd : Instr) (s : State), (s.begin t).issues x c ecc →
    let m := microOf ((s.begin t).fetch x c)
    (m.op = 0x0C ∧ m.sub % 2 = 1 ∧ cmd = .actFromImm x ecc t ∧ actBad m.imm = false
        ∧ c' = { c with phv := patchAt c.phv 0xE0 (beBytes 8 (mergeAct c.acc m.imm)),
                        copyIndex := if actCopy m.imm then 0xFFFF else c.copyIndex,
                        mirrorIndex := if actMirror m.imm then 0xFFFF else c.mirrorIndex }
      ∨ m.op = 0x0C ∧ m.sub % 2 = 0 ∧ cmd = .actFromSlot x ecc t ∧ c.slotStatus m.slot = 1
        ∧ actBad (c.slotAction m.slot) = false
        ∧ c' = { c with phv := patchAt c.phv 0xE0 (beBytes 8 (mergeAct c.acc (c.slotAction m.slot))),
                        copyIndex := if actCopy (c.slotAction m.slot) then c.slotIndex m.slot else c.copyIndex,
                        mirrorIndex := if actMirror (c.slotAction m.slot) then c.slotIndex m.slot else c.mirrorIndex }
      ∨ m.op = 0x0C ∧ m.sub % 2 = 0 ∧ cmd = .actFromSlot x ecc t ∧ c.slotStatus m.slot ≠ 1 ∧ c' = c
      ∨ m.op = 0x0F ∧ cmd = .csum x ecc t ∧ phvMayWrite m.off 2 = true
        ∧ c' = { c with phv := patchAt c.phv m.off (beBytes 2 (csumUpdate (beNat (sliceAt c.phv m.off 2))
            ((c.reg m.ra).toNat % 65536) ((c.reg m.rb).toNat % 65536))) }
      ∨ m.op = 0x10 ∧ cmd = .time x ecc t ∧ phvMayWrite m.off 8 = true
        ∧ c' = { c with phv := patchAt c.phv m.off (beBytes 8 (s.begin t).time) }) →
    Completes cmd s fun u =>
      (s.begin t).retires u x ecc c'.stepPc
      ∧ u = { s.begin t with regs := u.regs, pa := u.pa, pb := u.pb, di := u.di, out := u.out })
  ∧ (∀ (x : CtxId) (ecc : Ecc) (t : Nat) (c : Ctx) (s : State), (s.begin t).issues x c ecc → c.phv.length = 0x180 →
    let m := microOf ((s.begin t).fetch x c)
    let n := m.imm % 64
    m.op = 0x0D → 1 ≤ n → n ≤ 32 → m.off ≤ c.emit → c.emit + n ≤ 160 →
    Completes (.ins x ecc t) s fun u =>
      ∃ v, (s.begin t).retires u x ecc v ∧ v.pc = (c.pc + 1) % 8192 ∧ v.emit = c.emit + n ∧ v.g = c.g
        ∧ (∀ i, i < 160 → v.phv.getD i 0 = if i < m.off then c.phv.getD i 0 else if i < m.off + n then 0
            else c.phv.getD (i - n) 0))
  ∧ (∀ (x : CtxId) (ecc : Ecc) (t : Nat) (c : Ctx) (s : State), (s.begin t).issues x c ecc → c.phv.length = 0x180 →
    let m := microOf ((s.begin t).fetch x c)
    let n := m.imm % 64
    m.op = 0x0E → 1 ≤ n → n ≤ 32 → m.off + n ≤ c.emit → c.emit ≤ 160 →
    Completes (.del x ecc t) s fun u =>
      ∃ v, (s.begin t).retires u x ecc v ∧ v.pc = (c.pc + 1) % 8192 ∧ v.emit = c.emit - n ∧ v.g = c.g
        ∧ (∀ i, i < 160 - n → v.phv.getD i 0 = if i < m.off then c.phv.getD i 0 else c.phv.getD (i + n) 0))

/-- R58, R225 to R227 and R272. -/
def Obligations.JugglerSearches : Prop :=
  (∀ (x : CtxId) (ecc : Ecc) (t : Nat) (c : Ctx) (s : State), (s.begin t).issues x c ecc →
    let b := s.begin t
    let m := microOf (b.fetch x c)
    m.op = 0x0A → m.sub ≤ 9 → c.outstanding.all (fun o => o.1 != m.slot) = true → phvInRange m.off (b.keyLen m.sub) = true →
    Completes (.srch x ecc t) s fun u =>
      if b.searchCredit x.pipe m.sub then
        (∃ r, u.si = { b.si with reqs := b.si.reqs ++ [r], nextId := b.si.nextId + 1 } ∧ r.id = b.si.nextId ∧ r.ctx = x
          ∧ r.slot = m.slot ∧ r.table = m.sub ∧ r.key = sliceAt c.phv m.off (b.keyLen m.sub) ∧ r.epoch = c.epoch
          ∧ r.result = none)
        ∧ (u.chan (searchChan x.pipe)).inFlight = (b.chan (searchChan x.pipe)).inFlight ++ [.search b.si.nextId]
        ∧ (u.chan (searchChan x.pipe)).credits + 1 = (b.chan (searchChan x.pipe)).credits
        ∧ b.retires u x ecc ({ c with
            issuedSlots := if m.slot ∈ c.issuedSlots then c.issuedSlots else m.slot :: c.issuedSlots,
            outstanding := c.outstanding ++ [(m.slot, b.si.nextId)],
            phv := patchAt c.phv (0x140 + 16 * m.slot + 0xA) [0xFF] }.stepPc)
      else u.ctx? x = some { c with creditSince := some (c.creditSince.getD b.time) } ∧ u.si = b.si ∧ u.chans = b.chans
        ∧ u.regs = b.regs)
  ∧ (∀ (x : CtxId) (ecc : Ecc) (t : Nat) (c : Ctx) (s : State), (s.begin t).issues x c ecc →
    let m := microOf ((s.begin t).fetch x c)
    m.op = 0x0B → m.slot ∈ c.issuedSlots → c.slotStatus m.slot = 0xFF →
    Completes (.swait x ecc t) s fun u =>
      (∃ v, u.ctx? x = some v ∧ v.swait = some m.slot ∧ v.pc = c.pc ∧ v.phv = c.phv ∧ v.issued = c.issued + 1)
      ∧ (s.begin t).memoriesKept u)
  ∧ (∀ (x : CtxId) (ecc : Ecc) (t : Nat) (c : Ctx) (s : State), (s.begin t).issues x c ecc →
    let m := microOf ((s.begin t).fetch x c)
    m.op = 0x0B → m.slot ∈ c.issuedSlots → c.slotStatus m.slot ≠ 0xFF → c.slotStatus m.slot ≠ 2 →
    Completes (.swait x ecc t) s fun u =>
      (s.begin t).retires u x ecc
        { c with
          hit := c.slotStatus m.slot == 1, swait := none,
          lastHit := if c.slotStatus m.slot = 1 then c.slotIndex m.slot else c.lastHit }.stepPc)
  ∧ (∀ (x : CtxId) (ecc : Ecc) (t : Nat) (c : Ctx) (s : State), (s.begin t).issues x c ecc → c.outstanding = [] →
    c.gw = none →
    let m := microOf ((s.begin t).fetch x c)
    m.op = 0x0B → m.slot ∈ c.issuedSlots → c.slotStatus m.slot = 2 →
    Completes (.swait x ecc t) s fun u =>
      u.freed x ∧ u.rd (P.JUG_LOST_CNT.COUNT x.pipe)
        = ((s.begin t).rd (P.JUG_LOST_CNT.COUNT x.pipe) + 1) % 2 ^ (P.JUG_LOST_CNT.COUNT x.pipe).width)
  ∧ (∀ (id t st a i l : Nat) (r : SearchReq) (c : Ctx) (s : State),
    (s.begin t).si.reqs.find? (fun r => r.id = id) = some r → r.result = some (st, a, i, l) →
    (s.begin t).ctx? r.ctx = some c → c.done = false → c.swait ≠ some r.slot →
    Completes (.searchResponse id t) s fun u =>
      let b := s.begin t
      u.si = { b.si with reqs := b.si.reqs.filter fun q => q.id ≠ id }
      ∧ u.ctx? r.ctx = some { c with
          outstanding := c.outstanding.filter fun o => o.2 ≠ r.id,
          phv := patchAt c.phv (0x140 + 16 * r.slot)
            (beBytes 8 a ++ beBytes 2 i ++ beBytes 1 st ++ beBytes 1 l ++ beBytes 4 0) }
      ∧ u = { b with pa := u.pa, pb := u.pb, si := u.si })

/-- R219, R228 and R236. -/
def Obligations.RoutinesEndAndForward : Prop :=
  (∀ (x : CtxId) (ecc : Ecc) (t e : Nat) (c : Ctx) (p : Parsed) (k : Composed) (h : Copy) (s : State),
    (s.begin t).issues x c ecc → (microOf ((s.begin t).fetch x c)).op = 0x13 → c.packet = some p → c.outstanding = [] →
    c.gw = none → p.trial = false → p.frag = 0 → (s.begin t).compose x c p = .ok k → k.egress = some e →
    actCopy k.acc = false → actMirror k.acc = false → ((s.begin t).mac p.source).copies = [h] → h.seq = p.seq →
    h.passed = false → ((s.begin t).mac p.source).committed ≤ p.seq →
    ((s.begin t).pipe x.pipe).ended.all (fun g => g.source != p.source) = true →
    (s.begin t).canSend (admitChan x.pipe) = false →
    Completes (.endRoutine x ecc t) s fun u =>
      u.freed x ∧ (∃ d, (u.pipe x.pipe).toBi = ((s.begin t).pipe x.pipe).toBi ++ [d] ∧ d.port = e ∧ d.bytes = k.frame
        ∧ d.queue = k.queue ∧ d.cls = k.cls ∧ d.colour = k.colour ∧ d.ingress = p.ingress ∧ d.epoch = p.epoch
        ∧ d.commits = some (p.source, p.seq) ∧ d.side = none)
      ∧ (s.begin t).memoriesKept u)
  ∧ (∀ (x : CtxId) (c : Ctx) (p : Parsed) (s : State), p.bytes.length ≤ portMax (actPort (s.endAction x c)) →
    c.emit ≤ c.cut → actFwd (s.endAction x c) = true → actDrop (s.endAction x c) = false → actPort (s.endAction x c) ≤ 100 →
    ∃ k, s.compose x c p = .ok k ∧ k.egress = some (actPort (s.endAction x c))
      ∧ k.frame = withFcs (c.phv.take c.emit ++ sliceAt p.bytes c.cut (p.bytes.length - 4 - c.cut)))
  ∧ (∀ (x : CtxId) (ecc : Ecc) (t : Nat) (c : Ctx) (p : Parsed) (k : Composed) (h : Copy) (s : State),
    (s.begin t).issues x c ecc → (microOf ((s.begin t).fetch x c)).op = 0x13 → c.packet = some p → c.outstanding = [] →
    c.gw = none → p.trial = false → p.frag = 0 → (s.begin t).compose x c p = .ok k → k.egress = none →
    actCopy k.acc = false → actMirror k.acc = false → ((s.begin t).mac p.source).copies = [h] → h.seq = p.seq →
    h.passed = false → ((s.begin t).mac p.source).committed ≤ p.seq → (s.begin t).isl? (portIsl p.source) ≠ 2 →
    ((s.begin t).pipe x.pipe).ended.all (fun g => g.source != p.source) = true →
    Completes (.endRoutine x ecc t) s fun u =>
      u.freed x ∧ (u.mac p.source).copies = [] ∧ (u.mac p.source).committed = p.seq + 1
      ∧ (u.pipe x.pipe).toBi = ((s.begin t).pipe x.pipe).toBi ∧ (s.begin t).memoriesKept u)
  ∧ (∀ (x : CtxId) (t : Nat) (c : Ctx) (s : State), (s.begin t).ctx? x = some c → x.pipe < 2 → x.jug < 16 → x.ctx < 4 →
    c.done = false → c.swait = none → c.waitFrag = none → c.budget ≤ c.issued → (s.begin t).islUp (5 + x.pipe) = true →
    c.outstanding = [] → c.gw = none →
    Completes (.budgetStop x t) s fun u =>
      u.freed x ∧ u.rd (P.JUG_BUDGET_CNT.COUNT x.pipe)
        = ((s.begin t).rd (P.JUG_BUDGET_CNT.COUNT x.pipe) + 1) % 2 ^ (P.JUG_BUDGET_CNT.COUNT x.pipe).width
      ∧ (s.begin t).memoriesKept u)

/-- R195, R249 to R252, R256, R258 and R261. R258 and R273 to R275. -/
def Obligations.SearchesAndProbesAnswer : Prop :=
  (∀ (id t : Nat) (r : SearchReq) (s : State), (s.begin t).si.reqs.find? (fun r => r.id = id) = some r →
    (s.begin t).islRuns 7 = true → ((s.begin t).chan (searchChan r.ctx.pipe)).arrived.contains (.search id) = true →
    r.table < 8 → (s.begin t).isCascade r.table = false →
    Completes (.searchLookup id t) s fun u =>
      let b := s.begin t
      u.si = { b.si with reqs := b.si.reqs.map fun q => if q.id = r.id then
        { q with result := some (match b.tcamOwn (b.epochBank r.epoch) r.table r.key with
            | some (a, i) => (1, a, i, 0)
            | none => (0, 0, 0xFFFF, 0)) } else q }
      ∧ (u.chan (searchChan r.ctx.pipe)).arrived = (b.chan (searchChan r.ctx.pipe)).arrived.erase (.search id)
      ∧ b.restKept u [] ∧ u = { b with regs := u.regs, si := u.si, chans := u.chans, isl := u.isl, out := u.out })
  ∧ (∀ (id t : Nat) (r : SearchReq) (s : State), (s.begin t).si.reqs.find? (fun r => r.id = id) = some r →
    (s.begin t).islRuns 7 = true → ((s.begin t).chan (searchChan r.ctx.pipe)).arrived.contains (.search id) = true →
    r.table < 8 → (s.begin t).isCascade r.table = true → (s.begin t).casUp = true →
    Completes (.searchLookup id t) s fun u =>
      let b := s.begin t
      (∃ c, u.si.casc = b.si.casc ++ [c] ∧ c.owner = .search r.id ∧ c.origin = b.casPos ∧ c.tag = b.si.nextTag ∧ c.table = r.table
        ∧ c.key = r.key ∧ c.own = b.tcamOwn (b.epochBank r.epoch) r.table r.key ∧ b.slotNow + 32 ≤ c.execSlot)
      ∧ (∃ m l, u.out.getLast? = some (.cascade l (casBlocks m)) ∧ m.kind = 1 ∧ m.tag = b.si.nextTag ∧ m.key = r.key)
      ∧ u.si.reqs = b.si.reqs ∧ b.restKept u [] ∧ u.bank0 = b.bank0 ∧ u.bank1 = b.bank1)
  ∧ (∀ (id t : Nat) (r : SearchReq) (s : State), (s.begin t).si.reqs.find? (fun r => r.id = id) = some r →
    (s.begin t).islRuns 7 = true → ((s.begin t).chan (searchChan r.ctx.pipe)).arrived.contains (.search id) = true →
    8 ≤ r.table → (s.begin t).isSet SI.HASH_CFG.LEARN_EN = false →
    (((s.begin t).epochBank r.epoch).hash (r.table == 8)).readsOverflow (r.table == 8) (hashKey (r.table == 8) r.key) = false →
    Completes (.searchLookup id t) s fun u =>
      let b := s.begin t
      let y := r.table == 8
      u.si = { b.si with reqs := b.si.reqs.map fun q => if q.id = r.id then
        { q with result := some (match ((b.epochBank r.epoch).hash y).lookup y (hashKey y r.key) false with
            | some e => (1, e.action, e.index, if e.overflow then 1 else 0)
            | none => (0, 0, 0xFFFF, 0)) } else q }
      ∧ b.restKept u [] ∧ u = { b with regs := u.regs, si := u.si, chans := u.chans, isl := u.isl, out := u.out })
  ∧ (∀ (id t : Nat) (r : SearchReq) (s : State), (s.begin t).si.reqs.find? (fun r => r.id = id) = some r →
    (s.begin t).islRuns 7 = true → ((s.begin t).chan (searchChan r.ctx.pipe)).arrived.contains (.search id) = true →
    8 ≤ r.table → (s.begin t).islRuns 9 = true →
    (((s.begin t).epochBank r.epoch).hash (r.table == 8)).readsOverflow (r.table == 8) (hashKey (r.table == 8) r.key) = true →
    Completes (.searchLookup id t) s fun u =>
      (∃ q, q ≠ [] ∧ u.di.queue = (s.begin t).di.queue ++ q ∧ ∀ x ∈ q, x.who = .ovf r.id ∧ x.wr = false)
      ∧ u.si = (s.begin t).si ∧ u.regs = (s.begin t).regs)
  ∧ (∀ (vm t : Nat) (s : State), (s.begin t).rd SI.HASH_CFG.AGE_S ≠ 0 →
    ((s.begin t).bank (s.begin t).curBank).bridge.entries.any (fun e => decide (e.key = bridgeKey (beBytes 8 vm)
      ∧ e.learned = true ∧ e.hitAt + (s.begin t).rd SI.HASH_CFG.AGE_S * 1000000000 ≤ (s.begin t).now)) = true →
    Completes (.learnedAgeOut vm t) s fun u =>
      let b := s.begin t
      let k := bridgeKey (beBytes 8 vm)
      let keep := fun (l : List HashEntry) => l.filter fun e => ¬ (e.key = k ∧ e.learned = true)
      u.bank0 = { b.bank0 with bridge := { b.bank0.bridge with entries := keep b.bank0.bridge.entries } }
      ∧ u.bank1 = { b.bank1 with bridge := { b.bank1.bridge with entries := keep b.bank1.bridge.entries } }
      ∧ u.rd SI.HASH_STAT.AGED = (b.rd SI.HASH_STAT.AGED + 1) % 2 ^ SI.HASH_STAT.AGED.width
      ∧ b.regsKept u [SI.HASH_STAT.AGED, SI.HASH_STAT.OVF, SI.HASH_OCC.BR_USED, SI.HASH_OCC.FLOW_USED,
          SI.HASH_OCC.BR_OVF_USED, SI.HASH_OCC.FLOW_OVF_USED]
      ∧ u = { b with regs := u.regs, bank0 := u.bank0, bank1 := u.bank1 })
  ∧ (∀ (vm t : Nat) (s : State), (s.begin t).rd SI.HASH_CFG.AGE_S = 0 →
    Completes (.learnedAgeOut vm t) s fun u => u = s.begin t)
  ∧ (∀ (src : Src) (p seq bk tb t : Nat) (s : State), p < 2 → (src = .host ↔ p = 1) → ((s.begin t).counted 7).islUp 7 = true →
    ((s.begin t).counted 7).reaches src .store 7 (0x428 + 0x80 * p) = true → ((s.begin t).counted 7).isCascade (tb % 16) = false →
    Completes (.probeGo src p seq bk tb t) s fun u =>
      let b := (s.begin t).counted 7
      let key := (b.probeKey p).take (b.keyLen (tb % 16))
      u.rd (SI.PROBE_CMD.SEQ p) = seq % 65536 ∧ u.rd (SI.PROBE_CMD.BANK p) = bk % 2 ∧ u.rd (SI.PROBE_CMD.TABLE p) = tb % 16
      ∧ (if 9 < tb % 16 then u.rd (SI.PROBE_RES0.VALID p) = 1 ∧ u.rd (SI.PROBE_RES0.SEQ p) = seq % 65536
          ∧ u.rd (SI.PROBE_RES0.STATUS p) = 0x10 ∧ u.probe? p = none
        else u.rd (SI.PROBE_RES0.VALID p) = 0
          ∧ (if b.probeOverflows bk (tb % 16) key then
              u.probe? p = some ⟨seq % 65536, bk % 2, tb % 16, key, none, some b.si.nextId⟩
              ∧ (∃ q, q ≠ [] ∧ u.di.queue = b.di.queue ++ q ∧ ∀ x ∈ q, x.who = .ovf b.si.nextId ∧ x.wr = false)
            else u.probe? p = some ⟨seq % 65536, bk % 2, tb % 16, key, none, none⟩ ∧ u.di = b.di))
      ∧ u.probe? (1 - p) = b.probe? (1 - p)
      ∧ b.regsKept u [SI.PROBE_CMD.SEQ p, SI.PROBE_CMD.BANK p, SI.PROBE_CMD.TABLE p, SI.PROBE_RES0.VALID p,
          SI.PROBE_RES0.SEQ p, SI.PROBE_RES0.STATUS p, SI.PROBE_RES0.LOC p, SI.PROBE_RES0.INDEX p, SI.PROBE_RES1.ACTION p]
      ∧ u = { b with regs := u.regs, si := u.si, di := u.di, free := u.free })
  ∧ (∀ (src : Src) (p seq bk tb t : Nat) (s : State), p < 2 → ¬ (src = .host ↔ p = 1) → (s.begin t).islUp 7 = true →
    (s.begin t).reaches src .store 7 (0x428 + 0x80 * p) = true →
    Completes (.probeGo src p seq bk tb t) s fun u =>
      u.rd MI.ACC_STAT.UNMAPPED = 1 ∧ u.rd MI.ACC_STAT.LAST_ISLAND = 7 ∧ u.rd MI.ACC_STAT.LAST_ADDR = 0x428 + 0x80 * p
      ∧ u = { s.begin t with regs := u.regs })
  ∧ (∀ (p t : Nat) (q : Probe) (s : State), p < 2 → (s.begin t).probe? p = some q → (s.begin t).islRuns 7 = true →
    (q.result.isSome = true ∨ (s.begin t).isCascade q.table = false ∧ q.asked = none) →
    Completes (.probeComplete p t) s fun u =>
      let b := s.begin t
      let y := q.table == 8
      let k := b.bank (b.probeBank q.bank)
      let r : SearchResult := q.result.getD (if q.table < 8 then (match b.tcamOwn k q.table q.key with
          | some (a, i) => (1, a, i, 0)
          | none => (0, 0, 0xFFFF, 0))
        else match (k.hash y).lookup y (hashKey y q.key) false with
          | some e => (1, e.action, e.index, if e.overflow then 1 else 0)
          | none => (0, 0, 0xFFFF, 0))
      u.probe? p = none ∧ u.rd (SI.PROBE_RES0.VALID p) = 1 ∧ u.rd (SI.PROBE_RES0.SEQ p) = q.seq % 65536
      ∧ u.rd (SI.PROBE_RES0.STATUS p) = r.1 % 2 ^ (SI.PROBE_RES0.STATUS p).width
      ∧ u.rd (SI.PROBE_RES1.ACTION p) = r.2.1 % 2 ^ 64
      ∧ u.rd (SI.PROBE_RES0.INDEX p) = r.2.2.1 % 65536
      ∧ u.rd (SI.PROBE_RES0.LOC p) = r.2.2.2 % 2 ^ (SI.PROBE_RES0.LOC p).width
      ∧ b.restKept u [SI.PROBE_RES0.VALID p, SI.PROBE_RES0.SEQ p, SI.PROBE_RES0.STATUS p, SI.PROBE_RES0.LOC p,
          SI.PROBE_RES0.INDEX p, SI.PROBE_RES1.ACTION p]
      ∧ u = { b with regs := u.regs, si := u.si, out := u.out })

/-- R265 and R268 to R271; a message arrives as a run of the CX stream (notes/assumptions/37.md). R264 to R266 and R269. -/
def Obligations.CascadeTrainsFallsAndAnswers : Prop :=
  (∀ (t : Nat) (s : State), (s.begin t).islRuns 7 = true → 1 < (s.begin t).casCount →
    (s.begin t).isSet (UI.PORT_STAT.LINK 2) = true →
    ((s.begin t).rd SI.CAS_STAT.STATE = 0 ∨ (s.begin t).rd SI.CAS_STAT.STATE = 1
      ∧ (s.begin t).si.helloAt + 1000000 ≤ (s.begin t).now + 1) →
    Completes (.casHelloTimer t) s fun u =>
      u.rd SI.CAS_STAT.STATE = 1 ∧ ((s.begin t).rd SI.CAS_STAT.STATE = 0 → u.rd SI.CAS_STAT.STATE_CHG = 1)
      ∧ (∃ m, Output.cascade 0 (casBlocks m) ∈ u.out ∧ m.kind = 4 ∧ m.origin = (s.begin t).casPos)
      ∧ (s.begin t).restKept u [SI.CAS_STAT.STATE, SI.CAS_STAT.STATE_CHG]
      ∧ u = { s.begin t with regs := u.regs, si := { (s.begin t).si with helloAt := (s.begin t).now + 1 }, out := u.out })
  ∧ (∀ (t : Nat) (w : List CodeBlock) (m : CasMsg) (s : State), (s.begin t).islRuns 7 = true → casMessage w = some m → m.kind = 4 →
    m.origin = (s.begin t).casPos →
    Completes (.casHelloRx 0 w t) s fun u =>
      u.rd SI.CAS_STAT.SEEN_LAST = m.seen % 2 ^ SI.CAS_STAT.SEEN_LAST.width
      ∧ (s.begin t).regsKept u [SI.CAS_STAT.SEEN_LAST] ∧ (s.begin t).memoriesKept u)
  ∧ (∀ (t : Nat) (s : State), (s.begin t).islRuns 7 = true → (s.begin t).rd SI.CAS_STAT.STATE = 1 → 1 ≤ (s.begin t).casPos →
    Completes (.casTrainPulse t) s fun u =>
      let b := s.begin t
      u.slotNow % 65536 = b.casPos % 65536
      ∧ (∀ c ∈ u.si.casc, ∃ d ∈ b.si.casc, c.tag = d.tag ∧ c.origin = d.origin ∧ c.issueSlot + b.slotNow = d.issueSlot + u.slotNow)
      ∧ (∃ m, Output.cascade 0 (casBlocks m) ∈ u.out ∧ m.kind = 5 ∧ m.origin = b.casPos)
      ∧ u = { b with si := { b.si with slotBase := u.si.slotBase, slotAt := b.now, lastExec := 0, casc := u.si.casc },
                     out := u.out })
  ∧ (∀ (t : Nat) (w : List CodeBlock) (m : CasMsg) (s : State), (s.begin t).islRuns 7 = true → casMessage w = some m → m.kind = 5 →
    (s.begin t).casPos = 0 → (s.begin t).rd SI.CAS_STAT.STATE = 1 →
    Completes (.casReadyRx 0 w t) s fun u =>
      u.si = { (s.begin t).si with ready := (s.begin t).si.ready ||| 2 ^ m.origin }
      ∧ ((s.begin t).si.ready ||| 2 ^ m.origin ||| 1 = (s.begin t).casAll →
          ∃ n, Output.cascade 0 (casBlocks n) ∈ u.out ∧ n.kind = 6)
      ∧ u = { s.begin t with si := u.si, out := u.out })
  ∧ (∀ (t : Nat) (w : List CodeBlock) (m : CasMsg) (s : State), (s.begin t).islRuns 7 = true → casMessage w = some m → m.kind = 6 →
    (s.begin t).rd SI.CAS_STAT.STATE = 1 →
    Completes (.casUpRx 0 w t) s fun u =>
      u.rd SI.CAS_STAT.STATE = 2 ∧ u.si.incompleteRun = 0
      ∧ (s.begin t).restKept u [SI.CAS_STAT.STATE, SI.CAS_STAT.STATE_CHG]
      ∧ u = { s.begin t with regs := u.regs, si := u.si, out := u.out })
  ∧ (∀ (t : Nat) (w : List CodeBlock) (m : CasMsg) (s : State), (s.begin t).islRuns 7 = true → casMessage w = some m → m.kind = 7 →
    ((s.begin t).rd SI.CAS_STAT.STATE = 1 ∨ (s.begin t).rd SI.CAS_STAT.STATE = 2) →
    Completes (.casDownRx 0 w t) s fun u =>
      u.rd SI.CAS_STAT.STATE = 0 ∧ u.si.ready = 0
      ∧ u.rd SI.CAS_STAT.DOWN_CNT = ((s.begin t).rd SI.CAS_STAT.DOWN_CNT + 1) % 2 ^ SI.CAS_STAT.DOWN_CNT.width
      ∧ (s.begin t).restKept u [SI.CAS_STAT.STATE, SI.CAS_STAT.STATE_CHG, SI.CAS_STAT.DOWN_CNT]
      ∧ u = { s.begin t with regs := u.regs, si := u.si, out := u.out })
  ∧ (∀ (src : Src) (t : Nat) (s : State), src ≠ .host → ((s.begin t).counted 7).islUp 7 = true →
    ((s.begin t).counted 7).reaches src .store 7 0x58 = true →
    (((s.begin t).counted 7).rd SI.CAS_STAT.STATE = 1 ∨ ((s.begin t).counted 7).rd SI.CAS_STAT.STATE = 2) →
    Completes (.retrain src t) s fun u =>
      let b := (s.begin t).counted 7
      u.rd SI.CAS_STAT.STATE = 0 ∧ u.si.ready = 0
      ∧ u.rd SI.CAS_STAT.DOWN_CNT = (b.rd SI.CAS_STAT.DOWN_CNT + 1) % 2 ^ SI.CAS_STAT.DOWN_CNT.width
      ∧ (∃ m, Output.cascade 0 (casBlocks m) ∈ u.out ∧ m.kind = 7)
      ∧ b.restKept u [SI.CAS_STAT.STATE, SI.CAS_STAT.STATE_CHG, SI.CAS_STAT.DOWN_CNT]
      ∧ u = { b with regs := u.regs, si := u.si, out := u.out })
  ∧ (∀ (t k lane : Nat) (w : List CodeBlock) (c : Instr) (s : State), (s.begin t).islRuns 7 = true →
    (k, c) ∈ ([(1, .casReqRx lane w t), (2, .casResultRx lane w t), (3, .casMissRx lane w t), (4, .casHelloRx lane w t),
      (5, .casReadyRx lane w t), (6, .casUpRx lane w t), (7, .casDownRx lane w t)] : List (Nat × Instr)) →
    (casMessage w = none → Completes c s fun u =>
      u.rd SI.CAS_CNT.CRC_ERR = ((s.begin t).rd SI.CAS_CNT.CRC_ERR + 1) % 2 ^ SI.CAS_CNT.CRC_ERR.width
      ∧ (s.begin t).regsKept u [SI.CAS_CNT.CRC_ERR, SI.CAS_CNT.OVF] ∧ u = { s.begin t with regs := u.regs })
    ∧ (∀ m, casMessage w = some m → m.kind ≠ k ∨ lane ≠ casLane k → Completes c s fun u => u = s.begin t))
  ∧ (∀ (t : Nat) (w : List CodeBlock) (m : CasMsg) (s : State), (s.begin t).islRuns 7 = true → casMessage w = some m → m.kind = 1 →
    m.origin ≠ (s.begin t).casPos → (s.begin t).casUp = true → (s.begin t).slotNow < nearSlot (s.begin t).slotNow m.execSlot →
    Completes (.casReqRx 0 w t) s fun u =>
      let b := s.begin t
      (∃ c, u.si = { b.si with casc := b.si.casc ++ [c] } ∧ c.origin = m.origin ∧ c.tag = m.tag ∧ c.owner = .member
        ∧ c.own = b.tcamOwn (b.bank b.curBank) m.table (m.key.take (b.keyLen m.table)))
      ∧ u.out = b.out ++ [.cascade 0 (casBlocks { m with seen := m.seen ||| 2 ^ b.casPos })]
      ∧ u = { b with si := u.si, out := u.out })
  ∧ (∀ (t : Nat) (w : List CodeBlock) (m : CasMsg) (s : State), (s.begin t).islRuns 7 = true → casMessage w = some m → m.kind = 1 →
    m.origin ≠ (s.begin t).casPos → nearSlot (s.begin t).slotNow m.execSlot ≤ (s.begin t).slotNow →
    Completes (.casReqRx 0 w t) s fun u =>
      u.rd SI.CAS_CNT.LATE = ((s.begin t).rd SI.CAS_CNT.LATE + 1) % 2 ^ SI.CAS_CNT.LATE.width
      ∧ (s.begin t).regsKept u [SI.CAS_CNT.LATE, SI.CAS_CNT.OVF]
      ∧ u = { s.begin t with regs := u.regs, out := (s.begin t).out ++ [.cascade 0 (casBlocks m)] })
  ∧ (∀ (t : Nat) (w : List CodeBlock) (m : CasMsg) (c : Instr) (s : State), (s.begin t).islRuns 7 = true → casMessage w = some m →
    m.origin ≠ (s.begin t).casPos → (c = .casResultRx 1 w t ∧ m.kind = 2 ∨ c = .casMissRx 1 w t ∧ m.kind = 3) →
    Completes c s fun u =>
      u = { s.begin t with out := (s.begin t).out ++ [.cascade 1 (casBlocks { m with seen := m.seen ||| 2 ^ (s.begin t).casPos })] })
  ∧ (∀ (t : Nat) (w : List CodeBlock) (m : CasMsg) (c : Instr) (o : Option (Nat × Nat)) (x : CasSearch) (s : State),
    (s.begin t).islRuns 7 = true → casMessage w = some m → m.origin = (s.begin t).casPos →
    (s.begin t).casFind (s.begin t).casPos m.tag = some x →
    (c = .casResultRx 1 w t ∧ m.kind = 2 ∧ o = some (m.action, m.index) ∨ c = .casMissRx 1 w t ∧ m.kind = 3 ∧ o = none) →
    Completes c s fun u =>
      let b := s.begin t
      (if x.seen ||| 2 ^ b.casPos = b.casAll ∧ b.slotNow < x.issueSlot + 96 then u.casFind b.casPos m.tag = none ∧ u.si.incompleteRun = 0
        else u.casFind b.casPos m.tag = some { x with outcome := some (x.outcome.getD o) }
          ∧ u.si = { b.si with casc := u.si.casc })
      ∧ u = { b with si := u.si })
  ∧ (∀ (t : Nat) (w : List CodeBlock) (m : CasMsg) (x : CasSearch) (s : State), (s.begin t).islRuns 7 = true →
    casMessage w = some m → m.kind = 1 → m.origin = (s.begin t).casPos → (s.begin t).casFind (s.begin t).casPos m.tag = some x →
    Completes (.casReqRx 0 w t) s fun u =>
      let b := s.begin t
      (if x.outcome.isSome = true ∧ m.seen ||| 2 ^ b.casPos = b.casAll ∧ b.slotNow < x.issueSlot + 96 then
          u.casFind b.casPos m.tag = none ∧ u.si.incompleteRun = 0
        else u.casFind b.casPos m.tag = some { x with seen := m.seen } ∧ u.si = { b.si with casc := u.si.casc })
      ∧ u = { b with si := u.si })
  ∧ (∀ (origin tag t : Nat) (low : Bool) (x : CasSearch) (s : State), (s.begin t).islRuns 7 = true →
    (s.begin t).casFind origin tag = some x → x.executed = false → x.execSlot + (s.begin t).casPos ≤ (s.begin t).slotNow →
    Completes (.cascadeExecSlot origin tag low t) s fun u =>
      let b := s.begin t
      (origin ≠ b.casPos → u.casFind origin tag = none)
      ∧ (origin = b.casPos → u.casFind origin tag = none ∨ ∃ y, u.casFind origin tag = some y ∧ y.executed = true
          ∧ (x.own.isSome = true → low = false → y.outcome = some x.own))
      ∧ (Output.matchOut ((x.execSlot + b.casPos + 1) % 65536) ∈ u.out
          ↔ (x.own.isSome = true ∨ low = true ∨ Output.matchOut ((x.execSlot + b.casPos + 1) % 65536) ∈ b.out))
      ∧ u = { b with si := u.si, out := u.out })
  ∧ (∀ (origin tag t : Nat) (low : Bool) (x : CasSearch) (s : State), (s.begin t).casFind origin tag = some x →
    (s.begin t).slotNow < x.execSlot + (s.begin t).casPos →
    Completes (.cascadeExecSlot origin tag low t) s fun u => u = s.begin t)
  ∧ (∀ (tag t : Nat) (x : CasSearch) (s : State), (s.begin t).islRuns 7 = true →
    (s.begin t).casFind (s.begin t).casPos tag = some x → x.issueSlot + 96 ≤ (s.begin t).slotNow →
    Completes (.cascadeSearchTimeout tag t) s fun u =>
      let b := s.begin t
      u.casFind b.casPos tag = none
      ∧ u.rd SI.CAS_CNT.INCOMPLETE = (b.rd SI.CAS_CNT.INCOMPLETE + 1) % 2 ^ SI.CAS_CNT.INCOMPLETE.width
      ∧ b.memoriesKept u)

/-- R281 to R283, and the commit of R28 and R69. R281 and R282, as BI_ADMISSION decides by them; the cells freed in the BI cycle itself count from the next one on (R283). -/
def Obligations.BufferAdmissionFollowsItsLimits : Prop :=
  (∀ (k t : Nat) (d : Desc) (s : State), k < 2 → (s.begin t).turnOf k = true → (s.begin t).islRuns 8 = true → (s.begin t).arrivedAdmit k = some d →
    96 ≤ d.port → d.port < 102 → d.queue < 8 → (d.copy = true ∨ 100 < d.ingress) → d.commits = none →
    (s.begin t).decide' d = .ok .head →
    Completes (.biAdmission k t) s fun u =>
      let b := s.begin t
      (u.bq d.q).head = (b.bq d.q).head ++ [d] ∧ (u.bq d.q).dram = (b.bq d.q).dram ∧ (u.bq d.q).tail = (b.bq d.q).tail
      ∧ (∀ q, q ≠ d.q → u.bq q = b.bq q)
      ∧ u.rd (BI.Q_OCC.CELLS d.q) = (b.rd (BI.Q_OCC.CELLS d.q) + d.cells) % 2 ^ (BI.Q_OCC.CELLS d.q).width
      ∧ u.rd (BI.Q_OCC.FRAMES d.q) = (b.rd (BI.Q_OCC.FRAMES d.q) + 1) % 2 ^ (BI.Q_OCC.FRAMES d.q).width
      ∧ (u.chan (admitChan k)).arrived = (b.chan (admitChan k)).arrived.erase (.admission d)
      ∧ b.restKept u ([BI.Q_OCC.CELLS d.q, BI.Q_OCC.FRAMES d.q, BI.BUF_STAT.FREE_SHARED, BI.QSTAT.COUNT d.q 0,
          BI.QSTAT.COUNT d.q 1, BI.QSTAT_OVF.OVF d.q, BI.PSTAT.COUNT d.port 0, BI.PSTAT.COUNT d.port 1,
          BI.PSTAT_OVF.OVF d.port])
      ∧ u = { b with regs := u.regs, bi := u.bi, chans := u.chans, out := u.out })
  ∧ (∀ (k t : Nat) (d : Desc) (r : DropReason) (s : State), k < 2 → (s.begin t).turnOf k = true → (s.begin t).islRuns 8 = true →
    (s.begin t).arrivedAdmit k = some d → d.port < 102 → d.queue < 8 → d.commits = none →
    (s.begin t).decide' d = .error r →
    Completes (.biAdmission k t) s fun u =>
      let b := s.begin t
      u.bi = { b.bi with admAt := nset b.bi.admAt k (b.biCycle + 1) } ∧ u.rd (BI.ADM_CNT.COUNT r.index)
        = (b.rd (BI.ADM_CNT.COUNT r.index) + 1) % 2 ^ (BI.ADM_CNT.COUNT r.index).width
      ∧ u.rd BI.ADM_EVT.DROP_SEEN = 1
      ∧ (u.chan (admitChan k)).arrived = (b.chan (admitChan k)).arrived.erase (.admission d) ∧ b.memoriesKept u)
  ∧ (∀ (k t src seq : Nat) (d : Desc) (r : DropReason) (s : State), k < 2 → (s.begin t).turnOf k = true → (s.begin t).islRuns 8 = true →
    (s.begin t).arrivedAdmit k = some d → d.port < 102 → d.queue < 8 → d.commits = some (src, seq) →
    (s.begin t).abortDrops d = false → (s.begin t).decide' d = .error r →
    (((s.begin t).take (admitChan k) (.admission d)).moreToCome k (src, seq)) = false →
    (s.begin t).isl? (portIsl src) ≠ 2 →
    Completes (.biAdmission k t) s fun u =>
      (∀ c ∈ (u.mac src).copies, c.seq ≠ seq) ∧ seq < (u.mac src).committed)
  ∧ (∀ (k t i : Nat) (d : Desc) (s : State), k < 2 → (s.begin t).turnOf k = true → (s.begin t).islRuns 8 = true →
    (s.begin t).arrivedAdmit k = some d → 96 ≤ d.port → d.port < 102 → d.queue < 8 → (d.copy = true ∨ 100 < d.ingress) →
    d.commits = none → spillOf d.q = some i →
    ((s.begin t).decide' d = .ok .spill → Completes (.biAdmission k t) s fun u =>
      let b := s.begin t
      (u.bq d.q).dram.map (·.desc) = (b.bq d.q).dram.map (·.desc) ++ [d] ∧ (u.bq d.q).head = (b.bq d.q).head
      ∧ u.rd BI.BUF_STAT.STAGE_USED = (b.rd BI.BUF_STAT.STAGE_USED + d.cells) % 2 ^ BI.BUF_STAT.STAGE_USED.width
      ∧ u.rd (BI.SPILL_STAT.ACTIVE i) = 1 ∧ b.memoriesKept u)
    ∧ ((s.begin t).decide' d = .ok .heldTail → Completes (.biAdmission k t) s fun u =>
      let b := s.begin t
      (u.bq d.q).tail = (b.bq d.q).tail ++ [d] ∧ (u.bq d.q).head = (b.bq d.q).head ∧ u.rd (BI.SPILL_STAT.HELD_TAIL i) = 1
      ∧ b.memoriesKept u))
  ∧ (∀ (k t : Nat) (d : Desc) (s : State), k < 2 → (s.begin t).turnOf k = true → (s.begin t).islRuns 8 = true →
    (s.begin t).arrivedAdmit k = some d → (s.begin t).abortDrops d = true →
    Completes (.biAdmission k t) s fun u =>
      (∀ q, u.bq q = (s.begin t).bq q) ∧ (s.begin t).memoriesKept u
      ∧ (u.chan (admitChan k)).arrived = ((s.begin t).chan (admitChan k)).arrived.erase (.admission d))
  ∧ (∀ (k t : Nat) (s : State), ((s.begin t).arrivedAdmit k = none ∨ (s.begin t).turnOf k = false) →
    Completes (.biAdmission k t) s fun u => u = s.begin t)
  ∧ (∀ (s : State) (d : Desc),
    (d.port ≤ 100 ∧ (s.portOn d.port = false ∨ (d.queue = 7 ∧ s.mode ≠ 2) ∨ s.linkFlushes d.port = true)) →
      s.decide' d = .error .portDisabled)
  ∧ (∀ (s : State) (d : Desc), d.colour < 3 → s.portClosed d = false → spillOf d.q = none →
      let cells := s.seenCells d.q
      let min' := s.rd (BI.Q_CFG.MIN_CELLS d.q)
      let free := s.seenFree
      let limit := free * 2 ^ min 9 (s.rd (BI.Q_CFG.ALPHA d.q)) / 64
      let bound := fun (c : Nat) => if c = 0 then limit else if c = 1 then limit * min 8 (s.rd (BI.Q_CFG.YEL d.q)) / 8
        else limit * min 8 (s.rd (BI.Q_CFG.RED d.q)) / 8
      let fresh := (cells + d.cells - min') - (cells - min')
      let fits := fun (c : Nat) => fresh = 0 ∨ (fresh ≤ free ∧ (cells - min') + fresh ≤ bound c)
      (fits d.colour → s.decide' d = .ok .head)
      ∧ (¬ fits d.colour → d.colour ≠ 0 → fits 0 → s.decide' d = .error .colourDrop)
      ∧ (¬ fits d.colour → (d.colour = 0 ∨ ¬ fits 0) → s.decide' d = .error .queueFull))

/-- R290 to R294. -/
def Obligations.SpilledFramesGoAndComeBack : Prop :=
  (∀ (i t : Nat) (e : Spilled) (a r : List Spilled) (s : State), i < 24 → (s.begin t).islRuns 8 = true →
    (s.begin t).islRuns 9 = true → ((s.begin t).bq (spillQueue i)).dram = a ++ e :: r → (∀ x ∈ a, x.acked = true) →
    e.acked = false →
    (s.begin t).dramWaiting (.spillWr i) + (s.begin t).spillsUnderWay i
        + (((a ++ e :: r).filter fun x => !x.asked).map fun x => x.desc.cells).sum
      ≤ ((r.filter fun x => !x.acked).map fun x => x.desc.cells).sum →
    Completes (.spillWriteAck i t) s fun u =>
      let b := s.begin t
      (u.bq (spillQueue i)).dram = a ++ { e with acked := true } :: r
      ∧ u.rd BI.BUF_STAT.STAGE_USED
        = (b.rd BI.BUF_STAT.STAGE_USED - e.desc.cells) % 2 ^ BI.BUF_STAT.STAGE_USED.width
      ∧ u.rd BI.BUF_STAT.FREE_SHARED = (b.rd BI.BUF_STAT.FREE_SHARED + e.desc.cells) % 2 ^ BI.BUF_STAT.FREE_SHARED.width
      ∧ b.regsKept u [BI.BUF_STAT.STAGE_USED, BI.BUF_STAT.FREE_SHARED]
      ∧ u = { b with regs := u.regs, bi := u.bi, chans := u.chans })
  ∧ (∀ (i t : Nat) (e : Spilled) (r : List Spilled) (s : State), i < 24 → (s.begin t).islRuns 8 = true →
    (s.begin t).islRuns 9 = true → ((s.begin t).bq (spillQueue i)).dram = e :: r → e.acked = true → e.reading = false →
    (s.begin t).rd (BI.Q_OCC.CELLS (spillQueue i)) + (s.begin t).rd (BI.SPILL_STAT.RB i)
      < (s.begin t).rd (BI.SPILL_CTL.OFF i) →
    (s.begin t).rd BI.BUF_STAT.RESERVE_USED + e.desc.cells ≤ 512 →
    roundRobin 24 (s.begin t).bi.spillRr (s.begin t).readable = some i →
    Completes (.spillReadbackStart i t) s fun u =>
      let b := s.begin t
      (u.bq (spillQueue i)).dram = { e with reading := true } :: r
      ∧ u.rd BI.BUF_STAT.RESERVE_USED = b.rd BI.BUF_STAT.RESERVE_USED + e.desc.cells
      ∧ u.rd (BI.SPILL_STAT.RB i) = (b.rd (BI.SPILL_STAT.RB i) + e.desc.cells) % 2 ^ (BI.SPILL_STAT.RB i).width
      ∧ b.restKept u [BI.BUF_STAT.RESERVE_USED, BI.SPILL_STAT.RB i]
      ∧ (∃ q, q ≠ [] ∧ u.di.queue = b.di.queue ++ q ∧ ∀ x ∈ q, x.who = .spillRd i ∧ x.wr = false)
      ∧ u = { b with regs := u.regs, bi := u.bi, di := u.di, out := u.out })
  ∧ (∀ (i t : Nat) (s : State), i < 24 → roundRobin 24 (s.begin t).bi.spillRr (s.begin t).readable ≠ some i →
    Completes (.spillReadbackStart i t) s fun u => u = s.begin t)
  ∧ (∀ (i t : Nat) (e : Spilled) (r : List Spilled) (s : State), i < 24 → (s.begin t).islRuns 8 = true →
    ((s.begin t).bq (spillQueue i)).dram = e :: r → e.reading = true → (s.begin t).dramWaiting (.spillRd i) = 0 →
    (s.begin t).di.spillBad.contains i = false →
    Completes (.spillReadbackDone i t) s fun u =>
      let b := s.begin t
      let d := { e.desc with reserve := true }
      (u.bq (spillQueue i)).dram = r
      ∧ (u.bq (spillQueue i)).head
        = (b.bq (spillQueue i)).head ++ [d] ++ (if r = [] then (b.bq (spillQueue i)).tail else [])
      ∧ u.rd (BI.SPILL_STAT.DRAM_CELLS i)
        = (b.rd (BI.SPILL_STAT.DRAM_CELLS i) - e.desc.cells) % 2 ^ (BI.SPILL_STAT.DRAM_CELLS i).width
      ∧ (r = [] → u.rd (BI.SPILL_STAT.ACTIVE i) = 0 ∧ u.rd (BI.SPILL_STAT.HELD_TAIL i) = 0)
      ∧ b.regsKept u [BI.SPILL_STAT.DRAM_CELLS i, BI.Q_OCC.FRAMES (spillQueue i), BI.SPILL_STAT.ACTIVE i,
          BI.SPILL_STAT.HELD_TAIL i]
      ∧ u = { b with regs := u.regs, bi := u.bi, di := u.di } ∧ b.memoriesKept u)
  ∧ (∀ (i t : Nat) (e : Spilled) (r : List Spilled) (s : State), i < 24 → (s.begin t).islRuns 8 = true →
    ((s.begin t).bq (spillQueue i)).dram = e :: r → e.reading = true → (s.begin t).dramWaiting (.spillRd i) = 0 →
    (s.begin t).di.spillBad.contains i = true →
    Completes (.spillReadbackDone i t) s fun u =>
      let b := s.begin t
      (u.bq (spillQueue i)).dram = r ∧ u.di.spillBad.contains i = false
      ∧ (u.bq (spillQueue i)).head = (b.bq (spillQueue i)).head ++ (if r = [] then (b.bq (spillQueue i)).tail else [])
      ∧ u.rd BI.BUF_STAT.RESERVE_USED
        = (b.rd BI.BUF_STAT.RESERVE_USED - e.desc.cells) % 2 ^ BI.BUF_STAT.RESERVE_USED.width
      ∧ u.rd (BI.ADM_CNT.COUNT 3) = (b.rd (BI.ADM_CNT.COUNT 3) + 1) % 2 ^ (BI.ADM_CNT.COUNT 3).width
      ∧ u.rd BI.ADM_EVT.SPILL_ECC_SEEN = 1 ∧ b.memoriesKept u)

/-- R305, R306, R309 and R312. -/
def Obligations.CarouselServesByPriority : Prop :=
  (∀ (p v t : Nat) (d : Desc) (r : List Desc) (s : State), p < 101 → (s.begin t).islRuns 8 = true →
    (s.begin t).canSend (egressChan p) = true → ((s.begin t).bq (8 * p + v)).head = d :: r →
    (v = 7 ∧ (s.begin t).serves7 p = true
      ∨ v = 6 ∧ (s.begin t).serves6 p = true ∧ ((s.begin t).serves7 p = false ∨ ((s.begin t).bq (8 * p + 7)).head = [])
      ∨ v < 6 ∧ (s.begin t).portEligible p = true
        ∧ ((s.begin t).serves7 p = false ∨ ((s.begin t).bq (8 * p + 7)).head = [])
        ∧ ((s.begin t).serves6 p = false ∨ ((s.begin t).bq (8 * p + 6)).head = [])
        ∧ (if (s.begin t).anyAt p 0 then (s.begin t).dwrr p 0 dwrrFuel else (s.begin t).dwrr p 1 dwrrFuel).1 = some v
        ∧ ((s.begin t).anyAt p 0 = true ∨ (s.begin t).anyAt p 1 = true)) →
    Completes (.carouselSelect p t) s fun u =>
      let b := s.begin t
      (u.bq (8 * p + v)).head = r ∧ (∀ q, q ≠ 8 * p + v → u.bq q = b.bq q)
      ∧ (u.chan (egressChan p)).inFlight = (b.chan (egressChan p)).inFlight ++ [.cells d]
      ∧ (u.chan (egressChan p)).credits + 1 = (b.chan (egressChan p)).credits ∧ b.memoriesKept u)
  ∧ (∀ (p t : Nat) (s : State), ((s.begin t).islRuns 8 = false ∨ (s.begin t).portTakes p = false
      ∨ ∀ v, v < 8 → ((s.begin t).bq (8 * p + v)).head = []) →
    Completes (.carouselSelect p t) s fun u => u = s.begin t)

/-- R312 to R314 and R418. R316 and R318 to R320. -/
def Obligations.WindowsAndShapersOpenAndFill : Prop :=
  (∀ (p t o c : Nat) (s : State), (s.begin t).portWindow p (s.begin t).time = some (o, c) →
    (Completes (.class7ServiceStart p t) s fun u =>
      let b := s.begin t
      if o ≤ b.time + 2000 then u.car p = { b.car p with service7 := true, openAt := o, closeAt := c }
        ∧ (∀ q, q ≠ p → u.car q = b.car q) ∧ u = { b with bi := u.bi }
      else u = b)
    ∧ (Completes (.guardStart p t) s fun u =>
      let b := s.begin t
      if o ≤ b.time + b.guardNs p then u.car p = { b.car p with guard := true, openAt := o, closeAt := c }
        ∧ (∀ q, q ≠ p → u.car q = b.car q) ∧ u = { b with bi := u.bi }
      else u = b)
    ∧ (Completes (.portWindowOpen p t) s fun u =>
      let b := s.begin t
      if o ≤ b.time ∧ b.time < c then u.rd (BI.CAR_PORT.WIN_OPEN p) = 1
        ∧ u.car p = { b.car p with service7 := true, guard := true, openAt := o, closeAt := c, deferred := false }
        ∧ (∀ q, q ≠ p → u.car q = b.car q) ∧ b.regsKept u [BI.CAR_PORT.WIN_OPEN p]
        ∧ u = { b with regs := u.regs, bi := u.bi }
      else u = b))
  ∧ (∀ (p t : Nat) (s : State), p < 102 → (s.begin t).isSet (BI.CAR_PORT.WIN_OPEN p) = true →
    ((s.begin t).car p).closeAt ≤ (s.begin t).time →
    Completes (.portWindowClose p t) s fun u =>
      let b := s.begin t
      u.rd (BI.CAR_PORT.WIN_OPEN p) = 0 ∧ (u.car p).service7 = false ∧ (u.car p).guard = false
      ∧ (∀ q, q ≠ p → u.car q = b.car q)
      ∧ (if (b.mac p).sched ≠ [] ∧ (b.car p).deferred = false then
          u.rd (BI.CAR_PORT.C7_DEFER p) = (b.rd (BI.CAR_PORT.C7_DEFER p) + 1) % 2 ^ (BI.CAR_PORT.C7_DEFER p).width
        else u.rd (BI.CAR_PORT.C7_DEFER p) = b.rd (BI.CAR_PORT.C7_DEFER p))
      ∧ b.regsKept u [BI.CAR_PORT.WIN_OPEN p, BI.CAR_PORT.C7_DEFER p, BI.CAR_PORT.C7_DEFER_OVF p]
      ∧ u = { b with regs := u.regs, bi := u.bi })
  ∧ (∀ (src : Src) (h rate : Nat) (e f : Bool) (s : State), src ≠ .host → (s.quiet.counted 8).islUp 8 = true → h < (if e then 816 else 918) →
    (s.quiet.counted 8).reaches src .store 8 ((if e then 0x3A000 else 0x36000) + 8 * h) = true →
    Completes (.shaperRateWrite src h e rate f) s fun u =>
      u.rd (rateF e h) = rate % 2 ^ 22
      ∧ (if e then (u.shaper h).forgiveE = (((s.quiet.counted 8).shaper h).forgiveE || f) else (u.shaper h).forgiveC = (((s.quiet.counted 8).shaper h).forgiveC || f))
      ∧ (s.quiet.counted 8).regsKept u [rateF e h, BI.SHP_STAT.LEVEL h] ∧ u = { s.quiet.counted 8 with regs := u.regs, bi := u.bi })
  ∧ (∀ (src : Src) (h burst : Nat) (e : Bool) (s : State), src ≠ .host → (s.quiet.counted 8).islUp 8 = true → h < (if e then 816 else 918) →
    (s.quiet.counted 8).reaches src .store 8 ((if e then 0x3C000 else 0x38000) + 8 * h) = true →
    Completes (.shaperBurstWrite src h e burst) s fun u =>
      u.rd (burstF e h) = burst % 2 ^ 31
      ∧ (if e then (u.shaper h).clampE = true else (u.shaper h).clampC = true)
      ∧ (s.quiet.counted 8).regsKept u [burstF e h] ∧ u = { s.quiet.counted 8 with regs := u.regs, bi := u.bi })
  ∧ (∀ (t h : Nat) (w : Shaper) (s : State), (s.begin t).islRuns 8 = true → nsorted (s.begin t).bi.shapers = true →
    (s.begin t).bi.shapers.all (fun e => decide (e.1 < 918)) = true → nget (s.begin t).bi.shapers h = some w →
    Completes (.shaperRefillTick t) s fun u =>
      let b := s.begin t
      let old := b.rdS (BI.SHP_LVL.CB h)
      let burst : Int := b.rd (BI.SHP_CBS.BURST h)
      let acc := (if w.forgiveC then 0 else w.accC) + min 3125000 (b.rd (BI.SHP_CIR.RATE h))
      let v0 := if w.forgiveC then max old 0 else old
      let v1 := v0 + (acc / 1000 : Nat)
      let v2 := if burst < v1 then max burst v0 else v1
      (if b.isSet (BI.SHP_CTL.EN h) then
        u.rd (BI.SHP_LVL.CB h) = unsignedOf 32 (if w.clampC && decide (burst < v2) && decide (0 < v2) then burst else v2)
        ∧ (u.shaper h).accC = acc % 1000 ∧ (u.shaper h).active = true ∧ (u.shaper h).clampC = false
        ∧ (u.shaper h).forgiveC = false
      else u.rd (BI.SHP_LVL.CB h) = b.rd (BI.SHP_LVL.CB h) ∧ u.shaper h = { w with active := false })
      ∧ u = { b with regs := u.regs, bi := u.bi })

/-- R28, R71, R156, R311, R313 and R314. -/
def Obligations.MacsSendAndConfirm : Prop :=
  (∀ (p t : Nat) (d : Desc) (r : List Desc) (sched : Bool) (s : State), (s.begin t).macFree p (s.begin t).time = true →
    (s.begin t).isSet (TI.TS_CFG.PTP_EN p) = false →
    (sched = true ∧ ((s.begin t).mac p).sched = d :: r ∧ (s.begin t).isSet (BI.CAR_PORT.WIN_OPEN p) = true
        ∧ (s.begin t).fitsWindow p (s.begin t).time d = true
      ∨ sched = false ∧ ((s.begin t).mac p).ordin = d :: r ∧ (s.begin t).laneClosed p (s.begin t).time = false
        ∧ (((s.begin t).mac p).sched = [] ∨ (s.begin t).isSet (BI.CAR_PORT.WIN_OPEN p) = false)) →
    Completes (.egressTxStart p t) s fun u =>
      let b := s.begin t
      let m := b.mac p
      u.mac p = { m with sched := if sched then r else m.sched, ordin := if sched then m.ordin else r, owesFrame := false,
                         wire := some ⟨d, b.time, b.time + b.txNs p (b.charge d)⟩ }
      ∧ (∀ q, q ≠ p → u.mac q = b.mac q)
      ∧ u = { b with ports := u.ports,
                     out := b.out ++ [.frame p (if p = 100 then (d.ingress + d.cls) % 2 else 0) (padFrame d.bytes)] })
  ∧ (∀ (p t : Nat) (d : Desc) (r : List Desc) (s : State), (s.begin t).macFree p (s.begin t).time = true →
    ((s.begin t).mac p).sched = d :: r → (s.begin t).isSet (BI.CAR_PORT.WIN_OPEN p) = true →
    (s.begin t).fitsWindow p (s.begin t).time d = false → ((s.begin t).car p).deferred = false →
    Completes (.egressTxStart p t) s fun u =>
      let b := s.begin t
      (u.car p).deferred = true ∧ u.ports = b.ports
      ∧ u.rd (BI.CAR_PORT.C7_DEFER p) = (b.rd (BI.CAR_PORT.C7_DEFER p) + 1) % 2 ^ (BI.CAR_PORT.C7_DEFER p).width
      ∧ b.regsKept u [BI.CAR_PORT.C7_DEFER p, BI.CAR_PORT.C7_DEFER_OVF p] ∧ u = { b with regs := u.regs, bi := u.bi })
  ∧ (∀ (p t : Nat) (w : OnWire) (s : State), ((s.begin t).mac p).wire = some w → w.endAt ≤ (s.begin t).time →
    isEthPort p = true → w.desc.port < 102 → w.desc.queue < 8 →
    Completes (.transmitConfirm p t) s fun u =>
      let b := s.begin t
      u.mac p = { b.mac p with wire := none } ∧ (∀ q, q ≠ p → u.mac q = b.mac q)
      ∧ u.rd (portCnt p 8) = (b.rd (portCnt p 8) + 1) % 2 ^ (portCnt p 8).width
      ∧ u.rd (BI.QSTAT.COUNT w.desc.q 4) = (b.rd (BI.QSTAT.COUNT w.desc.q 4) + 1) % 2 ^ (BI.QSTAT.COUNT w.desc.q 4).width
      ∧ (∀ q, u.bq q = b.bq q) ∧ u = { b with regs := u.regs, ports := u.ports, bi := u.bi, isl := u.isl, out := u.out })

/-- R324, R328, R330 to R334 and R339. -/
def Obligations.SideshowRingsTakeAndGive : Prop :=
  (∀ (ring t : Nat) (d : Desc) (m : SideMeta) (rest : List Desc) (s : State), ring < 8 → (s.begin t).islRuns 8 = true →
    (s.begin t).bi.ringPut = none → (s.begin t).bi.ringWriter = d :: rest → d.queue = ring → d.port = 101 → d.side = some m → d.charged = false →
    Completes (.sideshowRingWrite ring t) s fun u =>
      let b := s.begin t
      let seq := (ngetD b.bi.ringSeq ring 0 + 1) % 2 ^ 32
      u.bi.ringWriter = rest ∧ ngetD u.bi.ringSeq ring 0 = seq
      ∧ (b.isSet (BI.SS_RING_CFG.EN ring) = true → b.ringFill ring ≠ 2 ^ b.sizeLog2 ring → b.ringReachable ring = true →
          (b.isSet (BI.SS_RING_CFG.TARGET ring) = true
            ∨ inSram (b.slotAddr ring (b.rd (BI.SS_RING_PROD.INDEX ring))) (2 ^ b.slotLog2 ring) = true
              ∧ b.busWaits (.entry ring) = false) →
          let cap := min d.bytes.length (2 ^ b.slotLog2 ring - 32)
          let at_ := b.slotAddr ring (b.rd (BI.SS_RING_PROD.INDEX ring))
          let l := sideHeader d m cap seq ++ d.bytes.take cap
          u.rd (BI.SS_RING_PROD.INDEX ring) = (b.rd (BI.SS_RING_PROD.INDEX ring) + 1) % 2 ^ 32
          ∧ (if b.isSet (BI.SS_RING_CFG.TARGET ring) then u.sram = b.sram
              ∧ ∀ a, byteAt ramBlank u.host a = if at_ ≤ a ∧ a < at_ + l.length then l.getD (a - at_) 0 else byteAt ramBlank b.host a
            else u.host = b.host
              ∧ ∀ a, u.sramRead a 1 = if at_ ≤ a + 0x10000000 ∧ a + 0x10000000 < at_ + l.length
                then [l.getD (a + 0x10000000 - at_) 0] else b.sramRead a 1)
          ∧ u.dram = b.dram ∧ u.flash = b.flash)
      ∧ (b.isSet (BI.SS_RING_CFG.EN ring) = true → b.ringFill ring ≠ 2 ^ b.sizeLog2 ring →
          b.isSet (BI.SS_RING_CFG.TARGET ring) = false →
          b.inFixed (b.slotAddr ring (b.rd (BI.SS_RING_PROD.INDEX ring))) (32 + min d.bytes.length (2 ^ b.slotLog2 ring - 32)) = true →
          u.bi.ringPut = some (ring, d) ∧ u.rd (BI.SS_RING_PROD.INDEX ring) = b.rd (BI.SS_RING_PROD.INDEX ring)
          ∧ (∃ q, q ≠ [] ∧ u.di.queue = b.di.queue ++ q ∧ ∀ x ∈ q, x.who = .entry ring ∧ x.wr = true))
      ∧ ((b.isSet (BI.SS_RING_CFG.EN ring) = false ∨ b.ringFill ring = 2 ^ b.sizeLog2 ring) →
          u.rd (BI.SS_RING_STAT.DISCARD ring) = (b.rd (BI.SS_RING_STAT.DISCARD ring) + 1) % 2 ^ 16
          ∧ u.rd (BI.SS_RING_STAT.DISCARD_SEEN ring) = 1 ∧ b.memoriesKept u
          ∧ b.restKept u [BI.SS_RING_STAT.DISCARD ring, BI.SS_RING_STAT.CNT_OVF ring, BI.SS_RING_STAT.DISCARD_SEEN ring]))
  ∧ (∀ (src : Src) (ring prod : Nat) (s : State), (ring = 8 ∨ ring = 9) → s.quiet.islUp 8 = true →
    s.quiet.reaches src .store 8 (0x50110 + 0x20 * ring) = true →
    Completes (.injectProdAdvance src ring prod) s fun u =>
      if (ring = 9 ↔ src = .host) then u.rd (BI.SS_RING_PROD.INDEX ring) = prod % 2 ^ 32
        ∧ (s.quiet.counted 8).regsKept u [BI.SS_RING_PROD.INDEX ring] ∧ u = { s.quiet.counted 8 with regs := u.regs }
      else u.rd MI.ACC_STAT.UNMAPPED = 1 ∧ u.rd (BI.SS_RING_PROD.INDEX ring) = s.rd (BI.SS_RING_PROD.INDEX ring)
        ∧ u = { s.quiet with regs := u.regs })
  ∧ (∀ (ring t : Nat) (s : State), (ring = 8 ∨ ring = 9) → (s.begin t).islRuns 8 = true →
    (s.begin t).isSet (BI.SS_RING_CFG.EN ring) = true → (s.begin t).ringFill ring ≠ 0 → (s.begin t).ringReachable ring = true →
    (s.begin t).bi.injWait.contains ring = false →
    ((s.begin t).isSet (BI.SS_RING_CFG.TARGET ring) = true
      ∨ (s.begin t).inFixed ((s.begin t).slotAddr ring ((s.begin t).rd (BI.SS_RING_CONS.INDEX ring))) (2 ^ (s.begin t).slotLog2 ring) = false) →
    Completes (.injectDescriptor ring t) s fun u =>
      let b := s.begin t
      let slot := 2 ^ b.slotLog2 ring
      let a := b.slotAddr ring (b.rd (BI.SS_RING_CONS.INDEX ring))
      let raw := if b.isSet (BI.SS_RING_CFG.TARGET ring) then b.hostRead a slot else b.coreRead a slot
      let j := injectOf (raw.take 32)
      u.rd (BI.SS_RING_CONS.INDEX ring) = (b.rd (BI.SS_RING_CONS.INDEX ring) + 1) % 2 ^ 32
      ∧ (injectGood (raw.take 32) slot = false →
          u.rd (BI.SS_RING_STAT.BAD_DESC ring) = (b.rd (BI.SS_RING_STAT.BAD_DESC ring) + 1) % 2 ^ 16
          ∧ u.rd (BI.SS_RING_STAT.BAD_DESC_SEEN ring) = 1 ∧ u = { b with regs := u.regs, out := u.out })
      ∧ (injectGood (raw.take 32) slot = true → j.direct = false →
          (u.mac (110 + j.pipe)).copies.map (fun c => (c.bytes, c.ingress, c.trial))
            = (b.mac (110 + j.pipe)).copies.map (fun c => (c.bytes, c.ingress, c.trial))
              ++ [(withFcs (sliceAt raw 32 j.len), j.ingress, j.trial)]
          ∧ b.memoriesKept u))
  ∧ (∀ (ring t : Nat) (s : State), (ring = 8 ∨ ring = 9) → (s.begin t).islRuns 8 = true →
    (s.begin t).isSet (BI.SS_RING_CFG.EN ring) = true → (s.begin t).ringFill ring ≠ 0 →
    (s.begin t).bi.injWait.contains ring = false → (s.begin t).isSet (BI.SS_RING_CFG.TARGET ring) = false →
    (s.begin t).inFixed ((s.begin t).slotAddr ring ((s.begin t).rd (BI.SS_RING_CONS.INDEX ring))) (2 ^ (s.begin t).slotLog2 ring) = true →
    Completes (.injectDescriptor ring t) s fun u =>
      let b := s.begin t
      u.bi.injWait.contains ring = true ∧ u.rd (BI.SS_RING_CONS.INDEX ring) = b.rd (BI.SS_RING_CONS.INDEX ring)
      ∧ (∃ q, q ≠ [] ∧ u.di.queue = b.di.queue ++ q ∧ ∀ x ∈ q, x.who = .inject ring ∧ x.wr = false) ∧ b.memoriesKept u)
  ∧ (∀ (src : Src) (sel : SelectorId) (seed : Nat) (s : State), src ≠ .host →
    (s.quiet.counted (seedReg sel).1).islUp (seedReg sel).1 = true →
    (s.quiet.counted (seedReg sel).1).reaches src .store (seedReg sel).1 (seedReg sel).2 = true →
    (match sel with
      | .mirror m => m < 16
      | .sampler p => p < 101
      | .precise k => k < 2) →
    Completes (.selectorSeedWrite src sel seed) s fun u =>
      let b := s.quiet.counted (seedReg sel).1
      match sel with
      | .mirror m => u.mirrorSel m = Selector.seed (b.rd (BI.MIR_CFG.N m)) (b.isSet (BI.MIR_CFG.MODE m)) (seed % 2 ^ 32)
          ∧ u.rd (BI.MIR_SEED.SEED m) = seed % 2 ^ 32 ∧ b.regsKept u [BI.MIR_SEED.SEED m]
          ∧ u = { b with regs := u.regs, bi := u.bi }
      | .sampler p => u.samplerSel p = Selector.seed (b.rd (BI.SMP_CFG.N p)) (b.isSet (BI.SMP_CFG.MODE p)) (seed % 2 ^ 32)
          ∧ u.rd (BI.SMP_SEED.SEED p) = seed % 2 ^ 32 ∧ b.regsKept u [BI.SMP_SEED.SEED p]
          ∧ u = { b with regs := u.regs, bi := u.bi }
      | .precise k => (u.pipe k).sampler = Selector.seed (b.rd (P.PS_CFG.N k)) (b.isSet (P.PS_CFG.MODE k)) (seed % 2 ^ 32)
          ∧ u.rd (P.PS_SEED.SEED k) = seed % 2 ^ 32 ∧ b.regsKept u [P.PS_SEED.SEED k]
          ∧ u = { b with regs := u.regs, pa := u.pa, pb := u.pb })

/-- R380. -/
def Obligations.StepRequestsBecomePendingUnlessLocked : Prop :=
  (∀ (src : Src) (t : Nat) (s : State), src ≠ .host → ((s.begin t).counted 2).islUp 2 = true →
    ((s.begin t).counted 2).reaches src .store 2 0xB0 = true →
    Completes (.stepGo src t) s fun u =>
      if ((s.begin t).counted 2).rd TI.SEL_STAT.WALL_Q = 0 then
        u.rd TI.EVT.STEP_REFUSED = 1 ∧ ((s.begin t).counted 2).restKept u [TI.EVT.STEP_REFUSED]
        ∧ u = { (s.begin t).counted 2 with regs := u.regs, out := u.out }
      else
        u.ti = { ((s.begin t).counted 2).ti with pending := some (signedOf 64 (((s.begin t).counted 2).rd TI.STEP.AMOUNT)) }
        ∧ u.rd TI.EVT.STEP_PENDING = 1 ∧ ((s.begin t).counted 2).regsKept u [TI.EVT.STEP_PENDING]
        ∧ u = { (s.begin t).counted 2 with regs := u.regs, ti := u.ti })
  ∧ (∀ (src : Src) (t : Nat) (s : State), src ≠ .host → ((s.begin t).counted 2).islUp 2 = true →
    ((s.begin t).counted 2).reaches src .store 2 0xB0 = true →
    Completes (.stepCancel src t) s fun u =>
      u.ti = { ((s.begin t).counted 2).ti with pending := none } ∧ u.rd TI.EVT.STEP_PENDING = 0
      ∧ ((s.begin t).counted 2).regsKept u [TI.EVT.STEP_PENDING] ∧ u = { (s.begin t).counted 2 with regs := u.regs, ti := u.ti })

/-- R364, R368, R369, R370, R377 and R378; the sign of a PPS error is the model's (notes/assumptions/40.md). -/
def Obligations.ReferencesAreSampledAndPulsesEmitted : Prop :=
  (∀ (src : Src) (k offset t2lo t : Nat) (s : State), src ≠ .host → k < 2 → ((s.begin t).counted 2).islUp 2 = true →
    ((s.begin t).counted 2).ti.refs.length = 4 →
    ((s.begin t).counted 2).reaches src .store 2 (0xC0 + 8 * k) = true →
    Completes (.ptpMeasSubmit src k offset t2lo t) s fun u =>
      let b := (s.begin t).counted 2
      u.rd (TI.PTP_MEAS.OFFSET k) = offset % 2 ^ 32 ∧ u.rd (TI.PTP_MEAS.T2_LO k) = t2lo % 2 ^ 32
      ∧ (if (b.time + 2 ^ 32 - t2lo % 2 ^ 32) % 2 ^ 32 ≤ 2000000000 then
          (u.ref k).err = -(signedOf 32 offset) ∧ (u.ref k).seenAt = some b.time
          ∧ b.restKept u [TI.PTP_MEAS.OFFSET k, TI.PTP_MEAS.T2_LO k]
        else u.ti = b.ti ∧ u.rd TI.MEAS_STAT.STALE = (b.rd TI.MEAS_STAT.STALE + 1) % 2 ^ 16
          ∧ b.restKept u [TI.PTP_MEAS.OFFSET k, TI.PTP_MEAS.T2_LO k, TI.MEAS_STAT.STALE, TI.MEAS_STAT.OVF])
      ∧ u = { b with regs := u.regs, ti := u.ti, out := u.out })
  ∧ (∀ (rising : Bool) (t : Nat) (s : State), (s.begin t).ti.refs.length = 4 →
    Completes (.ppsInEdge rising t) s fun u =>
      let b := s.begin t
      if b.islRuns 2 = true ∧ rising = !b.isSet TI.PPS_CFG.IN_POL then
        u.rd TI.PPS_IN_TS.TIME = b.time % 2 ^ 64 ∧ (u.ref 3).err = -(foldSecond (b.time + b.wallOfs))
        ∧ (u.ref 3).seenAt = some b.time ∧ b.restKept u [TI.PPS_IN_TS.TIME]
        ∧ u = { b with regs := u.regs, ti := u.ti, out := u.out }
      else u = b)
  ∧ (∀ (t : Nat) (s : State), ((s.begin t).islRuns 2 = false ∨ (s.begin t).time % 1000000000 ≠ 0) →
    Completes (.timeUpdate1s t) s fun u => u = s.begin t)
  ∧ (∀ (t r : Nat) (s : State), (s.begin t).islRuns 2 = true → (s.begin t).time % 1000000000 = 0 →
    r < 4 → (s.begin t).isSet (TI.REF_CFG.EN r) = true → (s.begin t).ti.refs.length = 4 →
    Completes (.timeUpdate1s t) s fun u =>
      let b := s.begin t
      (u.ref r).cur = Sums.zero ∧ (u.ref r).past = ((b.ref r).cur :: (b.ref r).past).take 64
      ∧ (∀ f : Int, ((u.ref r).past.foldl Sums.add Sums.zero).slope = some f →
          u.rd (TI.REF_STAT.F64_PPB r) = unsignedOf 24 (saturate 24 f))
      ∧ b.memoriesKept u)
  ∧ (∀ (t : Nat) (s : State),
    Completes (.ppsOutEdge t) s fun u =>
      let b := (s.begin t).dueStep
      if b.isSet TI.SEL_STAT.SCHED_VALID = true ∧ b.isSet TI.PPS_CFG.OUT_EN = true
          ∧ ((b.time : Int) + b.rdS TI.PPS_OFS.OFS) % 1000000000 = 0
          ∧ (b.ti.ppsAny = true → b.rd TI.PPS_LAST.TIME + 500000000 ≤ b.time) then
        u.rd TI.PPS_LAST.TIME = b.time % 2 ^ 64 ∧ u.rd TI.PPS_INTV.INTV = (b.time - b.rd TI.PPS_LAST.TIME) % 2 ^ 32
        ∧ u.rd TI.PPS_INTV.IRREG = b.ti.ppsIrregular.toNat ∧ u.rd TI.PPS_OFS.OFS = b.rd TI.WALL_OFS.OFS % 2 ^ 64
        ∧ (b.ti.ppsIrregular = true → u.rd TI.EVT.IRREGULAR = 1)
        ∧ Output.pin "PPS_OUT" (if b.isSet TI.PPS_CFG.OUT_POL then 0 else 1) ∈ u.out
        ∧ b.restKept u [TI.PPS_LAST.TIME, TI.PPS_INTV.INTV, TI.PPS_INTV.IRREG, TI.PPS_OFS.OFS, TI.EVT.IRREGULAR]
        ∧ u = { b with regs := u.regs, ti := u.ti, out := u.out }
      else u = b)
  ∧ (∀ (t : Nat) (d : Int) (s : State), (s.begin t).islRuns 2 = true → (s.begin t).ti.pending = some d →
    (s.begin t).time % (if (s.begin t).mode = 2 then matrixNs else 1000000) = 0 →
    Completes (.ppsOutEdge t) s fun u =>
      u.ti.pending = none ∧ u.rd TI.EVT.STEP_PENDING = 0 ∧ u.rd TI.EVT.STEP_APPLIED = 1
      ∧ u.rd TI.WALL_OFS_PREV.OFS = (s.begin t).rd TI.WALL_OFS.OFS ∧ u.rd TI.WALL_OFS_AT.TIME = (s.begin t).time % 2 ^ 64
      ∧ u.wallOfs = signedOf 64 (unsignedOf 64 ((s.begin t).wallOfs + d)) ∧ (s.begin t).memoriesKept u)

/-- R372, R374 and R379; JUG_RATE is of R217's contexts. -/
def Obligations.ServoFollowsTheSelectedReference : Prop :=
  (∀ (t : Nat) (s : State), (s.begin t).time % 1000000 ≠ 0 →
    Completes (.timeStep1ms t) s fun u => u = s.begin t)
  ∧ (∀ (t : Nat) (s : State), (s.begin t).time % 1000000 = 0 → (s.begin t).islRuns 2 = false →
    Completes (.timeStep1ms t) s fun u =>
      (∀ k, k < 2 → u.rd (P.JUG_RATE.PKTS k) = min 65535 ((s.begin t).pipe k).ratePkts)
      ∧ u.pa = { (s.begin t).pa with ratePkts := 0, rateInstrs := 0 }
      ∧ u.pb = { (s.begin t).pb with ratePkts := 0, rateInstrs := 0 }
      ∧ (s.begin t).regsKept u [P.JUG_RATE.PKTS 0, P.JUG_RATE.AVG_X16 0, P.JUG_RATE.PKTS 1, P.JUG_RATE.AVG_X16 1]
      ∧ u = { s.begin t with regs := u.regs, pa := u.pa, pb := u.pb })
  ∧ (∀ (t r : Nat) (f : Int) (s : State), (s.begin t).time % 1000000 = 0 → (s.begin t).islRuns 2 = true →
    r < 4 → (s.begin t).rd TI.SEL_STAT.SELECTED = r → (s.begin t).seenState r = 1 → (s.begin t).best = some r →
    (s.begin t).role = 0 → (s.begin t).isSet TI.SEL_STAT.SWITCHING = false → (s.begin t).ti.pending = none →
    ((s.begin t).ref r).f1 = some f → (s.begin t).isSet MI.SN_CFG.TIME_EN = false →
    Completes (.timeStep1ms t) s fun u =>
      let b := s.begin t
      let out := b.rdS TI.SEL_STAT.OUT_PPB
      let e := b.wallErr r
      let d := clampInt (-(b.slewPpm : Int)) b.slewPpm e
      u.rd TI.SEL_STAT.OUT_PPB = unsignedOf 32 (out + clampInt (-b.fstep) b.fstep (f - out))
      ∧ u.rd TI.SEL_STAT.SELECTED = r ∧ u.mode = b.mode ∧ b.memoriesKept u
      ∧ (|e| ≤ b.stepNsLimit → u.wallOfs = b.wallOfs + d - (if b.wallOfs + d < 2 ^ 63 then 0 else 2 ^ 64)
            + (if b.wallOfs + d < -(2 ^ 63) then 2 ^ 64 else 0) ∧ u.ti.pending = none)
      ∧ (b.stepNsLimit < |e| → u.wallOfs = b.wallOfs ∧ u.ti.pending = some e ∧ u.rd TI.EVT.STEP_PENDING = 1))

/-- R363, R391, R396 to R399 and R411. R394, R395, R399, R415, R427 and R429. -/
def Obligations.RingMarkersLockAndRepeat : Prop :=
  (∀ (d block res t : Nat) (bytes : Frame) (bad : Blocks) (s : State), d < 2 →
    (markerOf (zeroBlocks bytes bad) = none ∨ (s.begin t).ringHears d = false ∨ (s.begin t).locked d = true) →
    Completes (.ringMarkerCandidate d ⟨bytes, bad⟩ block res t) s fun u =>
      let b := s.begin t
      let n := ((List.range 4).filter bad.contains).length
      u.rd (RI.RING_CNT.COUNT d 4) = (b.rd (RI.RING_CNT.COUNT d 4) + if b.ringHears d then n else 0) % 2 ^ 64
      ∧ b.restKept u [RI.RING_CNT.COUNT d 4, RI.RING_CNT_OVF.OVF d] ∧ u = { b with regs := u.regs, out := u.out })
  ∧ (∀ (d block res t : Nat) (bytes : Frame) (bad : Blocks) (m : Marker) (s : State), d < 2 →
    markerOf (zeroBlocks bytes bad) = some m →
    (s.begin t).islRuns 3 = true → (s.begin t).isSet (RI.RING_STAT.BLOCK_LOCK d) = true → (s.begin t).locked d = false →
    ((s.begin t).ring d).trains.length < 4 →
    (∀ k ∈ ((s.begin t).ring d).trains, block ≤ k.block + 78125
      ∧ ¬ (k.block + 78125 = block ∧ m.follows k.last 1 = true)) →
    Completes (.ringMarkerCandidate d ⟨bytes, bad⟩ block res t) s fun u =>
      (u.ring d).trains = ((s.begin t).ring d).trains ++ [⟨block, 1, m⟩]
      ∧ u.rd (RI.RING_STAT.TRAINS d) = ((s.begin t).ring d).trains.length + 1
      ∧ u.ring (1 - d) = (s.begin t).ring (1 - d) ∧ u.locked d = false ∧ (s.begin t).memoriesKept u)
  ∧ (∀ (d block res t : Nat) (bytes : Frame) (bad : Blocks) (m : Marker) (k : Train) (s : State), d < 2 →
    markerOf (zeroBlocks bytes bad) = some m →
    (s.begin t).islRuns 3 = true → (s.begin t).isSet (RI.RING_STAT.BLOCK_LOCK d) = true → (s.begin t).locked d = false →
    ((s.begin t).ring d).trains = [k] → k.block + 78125 = block → m.follows k.last 1 = true → 2 ≤ k.count →
    (s.begin t).isSet MI.SN_CFG.TIME_EN = false →
    Completes (.ringMarkerCandidate d ⟨bytes, bad⟩ block res t) s fun u =>
      let b := s.begin t
      u.locked d = true ∧ u.rd (RI.RING_STAT.LOCK_CHG d) = 1 ∧ (u.ring d).trains = [⟨block, k.count + 1, m⟩]
      ∧ u.rd (RI.RING_STAT.TRAINS d) = 1 ∧ (u.ring d).last = some m ∧ (u.ring d).missed = 0 ∧ b.memoriesKept u
      ∧ (b.isMaster = false → b.isSet TI.SEL_STAT.SCHED_VALID = false → m.rmNode ≠ b.node →
          u.time = b.markerTime d m % 2 ^ 64 ∧ u.isSet TI.SEL_STAT.SCHED_VALID = true))
  ∧ (∀ (d block t : Nat) (s : State), d < 2 →
    Completes (.ringTrainExpire d block t) s fun u =>
      let b := s.begin t
      let gone := if b.locked d then [] else (b.ring d).trains.filter fun k => decide (k.block + 78125 ≤ block)
      (b.locked d = false → (u.ring d).trains = (b.ring d).trains.filter fun k => decide (block < k.block + 78125))
      ∧ (gone ≠ [] → u.rd (RI.RING_CNT.COUNT d 2) = (b.rd (RI.RING_CNT.COUNT d 2) + gone.length) % 2 ^ 64)
      ∧ (gone = [] → u = b) ∧ b.memoriesKept u)
  ∧ (∀ (d t : Nat) (s : State), d < 2 →
    Completes (.ringBlockLockAcquired d t) s fun u =>
      let b := s.begin t
      if b.islRuns 3 = true ∧ b.isSet (coilDrive d) = true ∧ b.isSet (RI.RING_STAT.BLOCK_LOCK d) = false then
        u.rd (RI.RING_STAT.BLOCK_LOCK d) = 1 ∧ (u.ring d).trains = [] ∧ b.memoriesKept u
      else u = b)
  ∧ (∀ (d t : Nat) (s : State), d < 2 →
    Completes (.ringBlockLockLoss d t) s fun u =>
      let b := s.begin t
      if b.isSet (RI.RING_STAT.BLOCK_LOCK d) = true then
        u.rd (RI.RING_STAT.BLOCK_LOCK d) = 0 ∧ u.locked d = false ∧ (u.ring d).trains = [] ∧ (u.ring d).last = none
        ∧ u.ring (1 - d) = b.ring (1 - d) ∧ b.memoriesKept u
      else u = b)
  ∧ (∀ (d res t : Nat) (bytes : Frame) (bad : Blocks) (c : Instr) (s : State), d < 2 → (s.begin t).islRuns 3 = true →
    (s.begin t).locked d = true →
    (c = .ringMarkerMissing d t ∨ c = .ringMarkerRx d ⟨bytes, bad⟩ res t
      ∧ ∀ m, markerOf (zeroBlocks bytes bad) = some m → ((s.begin t).ring d).consistent m = false) →
    Completes c s fun u =>
      let b := s.begin t
      u.rd (RI.RING_CNT.COUNT d 1) = (b.rd (RI.RING_CNT.COUNT d 1) + 1) % 2 ^ 64 ∧ b.memoriesKept u
      ∧ (if 4 ≤ (b.ring d).missed + 1 then u.locked d = false ∧ (u.ring d).last = none
        else (u.ring d).missed = (b.ring d).missed + 1 ∧ u.locked d = true
          ∧ b.restKept u [RI.RING_CNT.COUNT d 1, RI.RING_CNT.COUNT d 4, RI.RING_CNT_OVF.OVF d, RI.RING_STAT.INCONSIST d]
          ∧ (b.isMaster = false → b.ringLit (1 - d) = true →
            ∃ l : Frame, l.length = 24 ∧ Output.ringBlocks (1 - d) l ∈ u.out)))
  ∧ (∀ (d res t : Nat) (bytes : Frame) (bad : Blocks) (m : Marker) (s : State), d < 2 → (s.begin t).islRuns 3 = true →
    (s.begin t).locked d = true → markerOf (zeroBlocks bytes bad) = some m → ((s.begin t).ring d).consistent m = false →
    Completes (.ringMarkerRx d ⟨bytes, bad⟩ res t) s fun u => u.rd (RI.RING_STAT.INCONSIST d) = 1)
  ∧ (∀ (d res t : Nat) (bytes : Frame) (bad : Blocks) (m : Marker) (s : State), d < 2 → (s.begin t).islRuns 3 = true →
    (s.begin t).locked d = true → markerOf (zeroBlocks bytes bad) = some m → ((s.begin t).ring d).consistent m = true →
    (s.begin t).isMaster = false → (s.begin t).isSet MI.SN_CFG.TIME_EN = false →
    Completes (.ringMarkerRx d ⟨bytes, bad⟩ res t) s fun u =>
      let b := s.begin t
      (u.ring d).last = some m ∧ (u.ring d).missed = 0 ∧ (u.ring d).lastAt = b.time
      ∧ u.rd RI.SCHED_STAT.MEMBERS = m.members % 64 ∧ u.rd RI.SCHED_STAT.CYCLE = m.cycle % 64
      ∧ (31 ≤ m.hops → (u.ring (1 - d)).sent = (b.ring (1 - d)).sent
          ∧ (b.ringLit (1 - d) = true → ∃ l : Frame, l.length = 24 ∧ Output.ringBlocks (1 - d) l ∈ u.out))
      ∧ (m.hops < 31 → u.rd (RI.RING_DLY.RES_NS d) = res % 2 ^ (RI.RING_DLY.RES_NS d).width
          ∧ (u.ring (1 - d)).sent.head? = some (m.cycle, b.time + res))
      ∧ (m.hops < 31 → ∃ (m' : Marker) (ls : Frame), m'.hops = m.hops + 1 ∧ m'.cycle = m.cycle ∧ m'.schedTime = m.schedTime ∧ m'.rmNode = m.rmNode
          ∧ m'.correction = (m.correction + b.rd (RI.RING_DLY.HOP_NS d) + res) % 2 ^ 32
          ∧ (b.ringLit (1 - d) = true → Output.ringBlocks (1 - d) (m'.bytes ++ ls) ∈ u.out))
      ∧ b.memoriesKept u)
  ∧ (∀ (d res t : Nat) (bytes : Frame) (bad : Blocks) (m : Marker) (s : State), d < 2 → (s.begin t).islRuns 3 = true →
    (s.begin t).locked d = true → markerOf (zeroBlocks bytes bad) = some m → ((s.begin t).ring d).consistent m = true →
    (s.begin t).isMaster = true → m.rmNode = (s.begin t).node →
    Completes (.ringMarkerRx d ⟨bytes, bad⟩ res t) s fun u =>
      let b := s.begin t
      (u.ring d).last = some m ∧ (u.ring d).missed = 0
      ∧ (u.ring d).hopsBack = some (max m.hops ((b.ring d).hopsBack.getD 0))
      ∧ u.rd RI.MCHG_STAT.TALLY = (b.rd RI.MCHG_STAT.TALLY ||| m.vote) % 2 ^ 32
      ∧ (u.ring (1 - d)).sent = (b.ring (1 - d)).sent ∧ b.memoriesKept u)
  ∧ (∀ (d res t : Nat) (bytes : Frame) (bad : Blocks) (m : Marker) (s : State), d < 2 → (s.begin t).islRuns 3 = true →
    (s.begin t).locked d = true → markerOf (zeroBlocks bytes bad) = some m → ((s.begin t).ring d).consistent m = true →
    (s.begin t).isMaster = true → m.rmNode ≠ (s.begin t).node →
    Completes (.ringMarkerRx d ⟨bytes, bad⟩ res t) s fun u =>
      let b := s.begin t
      u.isMaster = true ∧ (u.ring d).last = some m ∧ (u.ring d).missed = 0
      ∧ u.rsch.yield = (b.rsch.yield || b.pairBetter m.rmNode b.node)
      ∧ (u.ring (1 - d)).sent = (b.ring (1 - d)).sent ∧ b.memoriesKept u)
  ∧ (∀ (t : Nat) (s : State),
    Completes (.markerOriginate t) s fun u =>
      let b := s.begin t
      if b.isMaster = true ∧ b.time % 500000 = 0 ∧ b.rsch.yield = true then
        u.isMaster = false ∧ u.rsch.yield = false ∧ u.rd RI.MCHG_STAT.TALLY = 0
        ∧ (∀ d, d < 2 → (u.ring d).hopsBack = none ∧ (u.ring d).sent = (b.ring d).sent) ∧ b.memoriesKept u
      else if b.isMaster = true ∧ b.islRuns 3 = true ∧ b.time % 500000 = 0 then
        (∀ d, d < 2 → (u.ring d).sent.head? = some (b.time / 500000 % 64, b.time) ∧ (u.ring d).hopsBack = none
          ∧ (b.ringLit d = true → ∃ l, Output.ringBlocks d l ∈ u.out))
        ∧ u.rd RI.SCHED_STAT.CYCLE = b.time / 500000 % 64
        ∧ u.rd RI.SCHED_STAT.MEMBERS = min 32 (1 + max (b.ringE.hopsBack.getD 0) (b.ringW.hopsBack.getD 0))
        ∧ b.memoriesKept u
      else u = b)

/-- R408, R409, R413 and R414. -/
def Obligations.LinkServiceAndBypassCoils : Prop :=
  (∀ (d t : Nat) (bytes : Frame) (bad : Blocks) (s : State), d < 2 → (s.begin t).islRuns 3 = true →
    (s.begin t).locked d = true →
    let l := zeroBlocks bytes bad
    (l.length ≠ 24 ∨ beNat (sliceAt l 20 4) ≠ crc32c (l.take 20)) →
    Completes (.linkServiceRx d ⟨bytes, bad⟩ t) s fun u =>
      let b := (s.begin t).hear d 3 bad
      u.rd (RI.RING_CNT.COUNT d 15) = (b.rd (RI.RING_CNT.COUNT d 15) + 1) % 2 ^ 64
      ∧ b.restKept u [RI.RING_CNT.COUNT d 15, RI.RING_CNT_OVF.OVF d]
      ∧ u = { b with regs := u.regs, out := u.out })
  ∧ (∀ (d t : Nat) (bytes : Frame) (bad : Blocks) (s : State), d < 2 → (s.begin t).islRuns 3 = true →
    (s.begin t).isSet (RI.RING_STAT.BLOCK_LOCK d) = true →
    Completes (.linkServiceRx d ⟨bytes, bad⟩ t) s fun u =>
      u.rd (RI.RING_CNT.COUNT d 4)
        = ((s.begin t).rd (RI.RING_CNT.COUNT d 4) + ((List.range 3).filter bad.contains).length) % 2 ^ 64)
  ∧ (∀ (d t t1 : Nat) (bytes : Frame) (bad : Blocks) (m : Marker) (s : State), d < 2 → (s.begin t).islRuns 3 = true →
    (s.begin t).locked d = true →
    let l := zeroBlocks bytes bad
    l.length = 24 → beNat (sliceAt l 20 4) = crc32c (l.take 20) →
    ((s.begin t).ring d).last = some m → ((s.begin t).ring d).missed = 0 → bitOf (beNat (sliceAt l 16 4)) 26 = true →
    (s.begin t).sentT3 d (bitsOf (beNat (sliceAt l 16 4)) 18 6) = some t1 →
    Completes (.linkServiceRx d ⟨bytes, bad⟩ t) s fun u =>
      let b := (s.begin t).hear d 3 bad
      let n := bitsOf (beNat (sliceAt l 16 4)) 27 5
      let x := lsSample t1 (beNat (sliceAt l 0 8)) (beNat (sliceAt l 8 8)) (b.ring d).lastAt (b.rdS (RI.RING_CTL.ASYM_NS d))
      let old := if b.isSet (RI.RING_STAT.NB_VALID d) = true ∧ b.rd (RI.RING_STAT.NEIGHBOUR d) ≠ n then []
        else (b.ring d).samples
      u.rd (RI.RING_STAT.NEIGHBOUR d) = n ∧ u.rd (RI.RING_STAT.NB_VALID d) = 1 ∧ u.rd (RI.RING_STAT.LS_STALE d) = 0
      ∧ (u.ring d).samples = (x :: old).take 16
      ∧ u.rd (RI.RING_DLY.HOP_NS d) = unsignedOf (RI.RING_DLY.HOP_NS d).width (meanHalf ((x :: old).take 16))
      ∧ b.regsKept u [RI.RING_STAT.NEIGHBOUR d, RI.RING_STAT.NB_VALID d, RI.RING_STAT.LS_STALE d, RI.RING_DLY.HOP_NS d]
      ∧ u = { b with regs := u.regs, ringE := u.ringE, ringW := u.ringW } ∧ u.ring (1 - d) = b.ring (1 - d))
  ∧ (∀ (d t : Nat) (s : State), d < 2 →
    Completes (.lsStale d t) s fun u =>
      let b := s.begin t
      if b.islUp 3 = true ∧ (b.ring d).sampleAt + 8000000 ≤ b.now then
        u.rd (RI.RING_STAT.LS_STALE d) = 1 ∧ b.regsKept u [RI.RING_STAT.LS_STALE d] ∧ u = { b with regs := u.regs }
      else u = b)
  ∧ (∀ (src : Src) (d : Nat) (v : Bool) (s : State), src ≠ .host → d < 2 → (s.quiet.counted 3).islUp 3 = true →
    (s.quiet.counted 3).reaches src .store 3 (0x10 + 8 * d) = true →
    Completes (.forceBypWrite src d v) s fun u =>
      let want := (s.quiet.counted 3).coilWanted d && !v
      if (s.quiet.counted 3).mode ≠ 0 ∧ (s.quiet.counted 3).isSet (coilDrive d) ≠ want ∧ (s.quiet.counted 3).isSet (coilHit (1 - d)) = true then
        u.rd RI.BYP_STAT.FORCE_REFUSED = 1 ∧ (s.quiet.counted 3).restKept u [RI.BYP_STAT.FORCE_REFUSED]
        ∧ u = { s.quiet.counted 3 with regs := u.regs, out := u.out }
      else u.rd (RI.RING_CTL.FORCE_BYP d) = v.toNat ∧ ((s.quiet.counted 3).mode ≠ 0 → u.isSet (coilDrive d) = want)
        ∧ (s.quiet.counted 3).memoriesKept u)
  ∧ (∀ (c t : Nat) (s : State), c < 2 →
    Completes (.bypassHitEnd c t) s fun u =>
      let b := s.begin t
      if (if c = 0 then b.rsch.hitE else b.rsch.hitW) + 15000000 ≤ b.now then
        u.rd (coilHit c) = 0 ∧ b.regsKept u [coilHit c] ∧ u = { b with regs := u.regs }
      else u = b)

/-- R401 to R405 and R407. R400, R405, R406, R419 and R420. -/
def Obligations.RingContainersAreInsertedAndDelivered : Prop :=
  (∀ (d t : Nat) (head data : Frame) (bad : List Nat) (s : State), d < 2 → (s.begin t).islRuns 3 = true →
    (s.begin t).locked d = true →
    let l := zeroBlocks head (bad.filter (· < 2))
    ((l.getD 0 0).toNat = 0xA7 ∨ (l.getD 0 0).toNat = 0xA8) → conHeadOf l = none →
    Completes (.ringContainerRx d head data bad t) s fun u =>
      let b := (s.begin t).hear d (conBlocks data.length) bad
      u.rd (RI.RING_CNT.COUNT d 5) = (b.rd (RI.RING_CNT.COUNT d 5) + 1) % 2 ^ 64
      ∧ b.restKept u [RI.RING_CNT.COUNT d 5, RI.RING_CNT_OVF.OVF d] ∧ u = { b with regs := u.regs, out := u.out })
  ∧ (∀ (d t : Nat) (head data : Frame) (bad : Blocks) (s : State), d < 2 → (s.begin t).islRuns 3 = true →
    (s.begin t).isSet (RI.RING_STAT.BLOCK_LOCK d) = true →
    Completes (.ringContainerRx d head data bad t) s fun u =>
      u.rd (RI.RING_CNT.COUNT d 4) = ((s.begin t).rd (RI.RING_CNT.COUNT d 4)
        + ((List.range (conBlocks data.length)).filter bad.contains).length) % 2 ^ 64)
  ∧ (∀ (d t : Nat) (head data : Frame) (bad : Blocks) (h : ConHead) (s : State), d < 2 → (s.begin t).islRuns 3 = true →
    (s.begin t).locked d = true → conHeadOf (zeroBlocks head (bad.filter (· < 2))) = some h → h.dst ≠ (s.begin t).node → h.dst ≠ 0x3F →
    h.src ≠ (s.begin t).node → h.hops < 31 → (s.begin t).isSet (RI.RING_CTL.EN (1 - d)) = true →
    Completes (.ringContainerRx d head data bad t) s fun u =>
      let b := (s.begin t).hear d (conBlocks data.length) bad
      let l := { h with hops := h.hops + 1 }.bytes
        ++ (conData (padTo h.length (zeroBlocks data ((bad.filter (2 ≤ ·)).map (· - 2))))).take (8 * (conBlocks h.length - 2))
      (∃ leave, (u.ring (1 - d)).transit = (b.ring (1 - d)).stillHeld b.time ++ [(leave, l)] ∧ b.time < leave)
      ∧ u.rd (RI.RING_CNT.COUNT (1 - d) 9) = (b.rd (RI.RING_CNT.COUNT (1 - d) 9) + 1) % 2 ^ 64
      ∧ (b.ringLit (1 - d) = true → Output.ringBlocks (1 - d) l ∈ u.out)
      ∧ u.ring d = b.ring d ∧ b.restKept u [RI.RING_CNT.COUNT (1 - d) 9, RI.RING_CNT_OVF.OVF (1 - d)]
      ∧ u = { b with regs := u.regs, ringE := u.ringE, ringW := u.ringW, isl := u.isl, out := u.out })
  ∧ (∀ (d t : Nat) (head data : Frame) (bad : Blocks) (h : ConHead) (s : State), d < 2 → (s.begin t).islRuns 3 = true →
    (s.begin t).locked d = true → conHeadOf (zeroBlocks head (bad.filter (· < 2))) = some h → h.scheduled = false → h.dst = (s.begin t).node →
    let l := (conData (padTo h.length (zeroBlocks data ((bad.filter (2 ≤ ·)).map (· - 2))))).take h.length
    fcsGood l = true → etherType l ≠ 0x8808 →
    (((s.begin t).mac (96 + d)).copies.map fun c => c.bytes.length).sum + l.length ≤ fifoSize (96 + d) →
    Completes (.ringContainerRx d head data bad t) s fun u =>
      let b := (s.begin t).hear d (conBlocks data.length) bad
      (u.mac (96 + d)).copies.map (fun c => c.bytes) = (b.mac (96 + d)).copies.map (fun c => c.bytes) ++ [l]
      ∧ u.rd (RI.RING_CNT.COUNT d 8) = (b.rd (RI.RING_CNT.COUNT d 8) + 1) % 2 ^ 64
      ∧ u.ringE = b.ringE ∧ u.ringW = b.ringW ∧ b.memoriesKept u)
  ∧ (∀ (d t : Nat) (head data : Frame) (bad : Blocks) (h : ConHead) (s : State), d < 2 → (s.begin t).islRuns 3 = true →
    (s.begin t).locked d = true → conHeadOf (zeroBlocks head (bad.filter (· < 2))) = some h → h.scheduled = true → h.dst = (s.begin t).node →
    Completes (.ringContainerRx d head data bad t) s fun u =>
      let b := (s.begin t).hear d (conBlocks data.length) bad
      let k := dedupKey h.src h.cycle h.window h.index
      (((b.dedupLive.any fun e => e.1 == k) = true ∨ d = 1 ∧ b.eastCopy k = true →
          u.rd (RI.RING_CNT.COUNT d 11) = (b.rd (RI.RING_CNT.COUNT d 11) + 1) % 2 ^ 64
          ∧ u.mac (96 + d) = b.mac (96 + d) ∧ u.rd (RI.RING_CNT.COUNT d 8) = b.rd (RI.RING_CNT.COUNT d 8))
        ∧ ((b.dedupLive.any fun e => e.1 == k) = false → ¬ (d = 1 ∧ b.eastCopy k = true) → b.dedupLive.length < 4096 →
          nget u.rsch.dedup k = some (b.now + 250000)
          ∧ u.rd (RI.RING_CNT.COUNT d 8) = (b.rd (RI.RING_CNT.COUNT d 8) + 1) % 2 ^ 64)
        ∧ ((b.dedupLive.any fun e => e.1 == k) = false → ¬ (d = 1 ∧ b.eastCopy k = true) → 4096 ≤ b.dedupLive.length →
          u.rd (RI.RING_CNT.COUNT d 12) = (b.rd (RI.RING_CNT.COUNT d 12) + 1) % 2 ^ 64
          ∧ u.rd (RI.RING_CNT.COUNT d 8) = (b.rd (RI.RING_CNT.COUNT d 8) + 1) % 2 ^ 64))
      ∧ b.memoriesKept u)
  ∧ (∀ (d t : Nat) (head data : Frame) (bad : Blocks) (h : ConHead) (s : State), d < 2 → (s.begin t).islRuns 3 = true →
    (s.begin t).locked d = true → conHeadOf (zeroBlocks head (bad.filter (· < 2))) = some h → h.dst ≠ (s.begin t).node →
    h.dst ≠ 0x3F → (h.src = (s.begin t).node ∨ 31 ≤ h.hops) →
    Completes (.ringContainerRx d head data bad t) s fun u =>
      let b := (s.begin t).hear d (conBlocks data.length) bad
      u.rd (RI.RING_CNT.COUNT d 13) = (b.rd (RI.RING_CNT.COUNT d 13) + 1) % 2 ^ 64
      ∧ b.restKept u [RI.RING_CNT.COUNT d 13, RI.RING_CNT_OVF.OVF d] ∧ u = { b with regs := u.regs, out := u.out })
  ∧ (∀ (d t : Nat) (head data : Frame) (bad : Blocks) (h : ConHead) (s : State), d < 2 → (s.begin t).islRuns 3 = true →
    (s.begin t).locked d = true → conHeadOf (zeroBlocks head (bad.filter (· < 2))) = some h → h.dst ≠ (s.begin t).node →
    h.dst ≠ 0x3F → h.src ≠ (s.begin t).node → h.hops < 31 → (s.begin t).isSet (RI.RING_CTL.EN (1 - d)) = false →
    (s.begin t).isSet (RI.RING_CTL.EN d) = true → (s.begin t).streams d = true →
    Completes (.ringContainerRx d head data bad t) s fun u =>
      let b := (s.begin t).hear d (conBlocks data.length) bad
      (∃ e, (u.ring d).transit = (b.ring d).stillHeld b.time ++ [e])
      ∧ u.rd (RI.RING_CNT.COUNT d 9) = (b.rd (RI.RING_CNT.COUNT d 9) + 1) % 2 ^ 64
      ∧ u.rd (RI.RING_CNT.COUNT d 14) = (b.rd (RI.RING_CNT.COUNT d 14) + 1) % 2 ^ 64
      ∧ u.ring (1 - d) = b.ring (1 - d)
      ∧ u = { b with regs := u.regs, ringE := u.ringE, ringW := u.ringW, isl := u.isl, out := u.out })
  ∧ (∀ (n c w i t : Nat) (s : State),
    Completes (.dedupExpire n c w i t) s fun u =>
      let b := s.begin t
      u = { b with rsch := { b.rsch with dedup := u.rsch.dedup } }
      ∧ ∀ e, e ∈ u.rsch.dedup ↔ e ∈ b.rsch.dedup ∧ (e.1 = dedupKey n c w i → b.now < e.2))
  ∧ (∀ (d t : Nat) (s : State), d < 2 →
    ((s.begin t).streamPos d (s.begin t).time = none ∨ (s.begin t).inserts d = false) →
    Completes (.ringContainerInsert d t) s fun u => u = s.begin t)
  ∧ (∀ (d t pos c : Nat) (s : State), d < 2 → (s.begin t).streamPos d (s.begin t).time = some (pos, c) →
    (s.begin t).mayInsert d (s.begin t).time = false →
    Completes (.ringContainerInsert d t) s fun u =>
      let b := s.begin t
      u.rd (RI.RING_CNT.COUNT d 10) = b.rd (RI.RING_CNT.COUNT d 10) ∧ u.rsch.queue = b.rsch.queue ∧ u.out = b.out
      ∧ u.ring (1 - d) = b.ring (1 - d) ∧ u.ring d = { b.ring d with copies := (u.ring d).copies }
      ∧ (∀ e ∈ (u.ring d).copies, e ∈ (b.ring d).copies)
      ∧ u = { b with regs := u.regs, ringE := u.ringE, ringW := u.ringW, rsch := u.rsch })
  ∧ (∀ (d t pos c : Nat) (w : RingWindow) (x : Desc) (rest : List Desc) (s : State), d < 2 →
    (s.begin t).streamPos d (s.begin t).time = some (pos, c) → (s.begin t).mayInsert d (s.begin t).time = false → 7 ≤ pos →
    (s.begin t).inserts d = true →
    ((s.begin t).runWindows.find? fun w => bitOf w.mask c && w.start ≤ pos && pos < w.start + w.length) = some w →
    w.kind = 0 → w.owner = (s.begin t).node → (s.begin t).rsch.queue = x :: rest → (s.begin t).occNow c w = true →
    (s.begin t).noRoom d (s.begin t).time c w (padFrame x.bytes).length = true →
    (s.begin t).noRoom (1 - d) (s.begin t).time c w (padFrame x.bytes).length = true →
    ¬ ((s.begin t).rsch.occ = some (c, w.index) ∧ (s.begin t).rsch.occDeferred = true) →
    Completes (.ringContainerInsert d t) s fun u =>
      let b := s.begin t
      u.rd (BI.CAR_PORT.C7_DEFER x.port) = (b.rd (BI.CAR_PORT.C7_DEFER x.port) + 1) % 2 ^ (BI.CAR_PORT.C7_DEFER x.port).width
      ∧ b.regsKept u [BI.CAR_PORT.C7_DEFER x.port, BI.CAR_PORT.C7_DEFER_OVF x.port]
      ∧ u.rsch.occ = some (c, w.index) ∧ u.rsch.occDeferred = true)
  ∧ (∀ (d t pos c : Nat) (x : Desc) (rest : List Desc) (s : State), d < 2 →
    (s.begin t).streamPos d (s.begin t).time = some (pos, c) → (s.begin t).mayInsert d (s.begin t).time = true → 7 ≤ pos →
    (s.begin t).clearOfWindows pos c (endBlock pos (conBlocks (padFrame x.bytes).length)) = true →
    (∀ w ∈ (s.begin t).runWindows, bitOf w.mask c = true → ¬ (w.start ≤ pos ∧ pos < w.start + w.length)) →
    ((s.begin t).mac (96 + d)).ordin = x :: rest → ((s.begin t).mac (96 + d)).wire = none →
    Completes (.ringContainerInsert d t) s fun u =>
      let b := s.begin t
      let y := b.stampTx (96 + d) b.time (padFrame x.bytes)
      (u.mac (96 + d)).ordin = rest ∧ ((u.mac (96 + d)).wire.map fun w => w.desc) = some x
      ∧ (u.ring d).busyUntil = b.time + blockNs (endBlock pos (conBlocks (padFrame x.bytes).length) - pos)
      ∧ u.rd (RI.RING_CNT.COUNT d 10) = (b.rd (RI.RING_CNT.COUNT d 10) + 1) % 2 ^ 64
      ∧ y.1.restKept u [RI.RING_CNT.COUNT d 10, RI.RING_CNT_OVF.OVF d] ∧ b.memoriesKept u
      ∧ u.ring (1 - d) = b.ring (1 - d))
  ∧ (∀ (d t pos c : Nat) (w : RingWindow) (x : Desc) (rest : List Desc) (s : State), d < 2 →
    (s.begin t).streamPos d (s.begin t).time = some (pos, c) → (s.begin t).mayInsert d (s.begin t).time = true → 7 ≤ pos →
    ((s.begin t).runWindows.find? fun w => bitOf w.mask c && w.start ≤ pos && pos < w.start + w.length) = some w →
    w.kind = 0 → w.owner = (s.begin t).node → ((s.begin t).ring d).copies = [] → (s.begin t).rsch.queue = x :: rest →
    (s.begin t).occNow c w = true → (s.begin t).nextIndex c w.index < 8 → ((s.begin t).mac (96 + d)).wire = none →
    fitsBefore pos (padFrame x.bytes).length (w.start + w.length) = true →
    Completes (.ringContainerInsert d t) s fun u =>
      let b := s.begin t
      let y := b.stampTx (96 + d) b.time (padFrame x.bytes)
      u.rsch.queue = rest ∧ u.rsch.occIndex = b.nextIndex c w.index + 1 ∧ u.rsch.occ = some (c, w.index)
      ∧ u.rd (RI.RING_CNT.COUNT d 10) = (b.rd (RI.RING_CNT.COUNT d 10) + 1) % 2 ^ 64
      ∧ ((u.mac (96 + d)).wire.map fun v => v.desc) = some x
      ∧ (b.isSet (RI.RING_CTL.EN (1 - d)) = true → ∃ h : ConHead, h.scheduled = true ∧ h.src = b.node ∧ h.cycle = c
          ∧ h.window = w.index ∧ h.index = b.nextIndex c w.index ∧ h.hops = 0
          ∧ (u.ring (1 - d)).copies = (b.ring (1 - d)).copies ++ [(h, y.2)]
          ∧ (b.ringLit d = true → Output.ringBlocks d (h.bytes ++ conData y.2) ∈ u.out))
      ∧ b.memoriesKept u)

/-- R133, R415, R426, R430, R432 and R438. R421 to R424. -/
def Obligations.RingScheduleAndSignalsRun : Prop :=
  (∀ (t : Nat) (s : State), (s.begin t).time % 500000 ≠ 0 →
    Completes (.basicCycleStart t) s fun u => u = s.begin t)
  ∧ (∀ (t : Nat) (s : State), (s.begin t).time % 500000 = 0 → (s.begin t).mode ≠ 2 →
    ((s.begin t).isMaster && (s.begin t).rsch.yield) = false →
    (s.begin t).ringUsed = true → (s.begin t).islUp 3 = true →
    Completes (.basicCycleStart t) s fun u =>
      u.rd RI.SCHED_STAT.CYCLE = (s.begin t).time / 500000 % 64 ∧ (s.begin t).regsKept u [RI.SCHED_STAT.CYCLE]
      ∧ u = { s.begin t with regs := u.regs })
  ∧ (∀ (t : Nat) (s : State), (s.begin t).time % 500000 = 0 → (s.begin t).isMaster = true →
    (s.begin t).rsch.yield = true →
    Completes (.basicCycleStart t) s fun u =>
      u.isMaster = false ∧ u.rsch.yield = false ∧ u.rsch.request = none ∧ u.rd RI.MCHG_STAT.TALLY = 0
      ∧ (∀ d, d < 2 → (u.ring d).hopsBack = none) ∧ (s.begin t).memoriesKept u)
  ∧ (∀ (t : Nat) (s : State), (s.begin t).time % 32000000 ≠ 0 →
    Completes (.matrixBoundary t) s fun u => u = s.begin t)
  ∧ (∀ (t : Nat) (s : State), (s.begin t).time % 32000000 = 0 → (s.begin t).ringUsed = false →
    (s.begin t).rd BI.SCH_LOCAL.MODE < 4 →
    Completes (.matrixBoundary t) s fun u =>
      u.rd BI.SCH_LOCAL.RUNNING = (s.begin t).rd BI.SCH_LOCAL.MODE ∧ (s.begin t).memoriesKept u)
  ∧ (∀ (t : Nat) (s : State), (s.begin t).time % 32000000 = 0 → (s.begin t).ringUsed = true →
    (s.begin t).islRuns 3 = true → (s.begin t).rsch.runOk = true → (s.begin t).rsch.runSeen = 64 →
    (s.begin t).isSet RI.SCHED_STAT.SCALE_CONFLICT = false →
    Completes (.matrixBoundary t) s fun u => u.isSet MI.MODE_COND.JOIN_OK = true ∧ (s.begin t).memoriesKept u)
  ∧ (∀ (t : Nat) (s : State),
    Completes (.coldstart t) s fun u =>
      let b := s.begin t
      let m := b.rd RI.SCHED_CFG.CS_MODE
      if b.ringQuiet = true ∧ b.csEligible = true ∧ b.isMaster = false ∧ (b.ownMatrix m).isSome = true
          ∧ (b.rsch.quietSince.elim false fun a => decide (a + b.coldNs ≤ b.now)) = true then
        u.isMaster = true ∧ u.rd RI.SCHED_STAT.RM_NODE = b.node % 32 ∧ u.rd RI.SCHED_STAT.MODE = m % 4
        ∧ u.isSet TI.SEL_STAT.SCHED_VALID = true ∧ u.rsch.portMode = m ∧ u.rsch.agreed = none
        ∧ u.rd RI.MCHG_STAT.TALLY = 0 ∧ (∀ d, d < 2 → (u.ring d).hopsBack = none) ∧ b.memoriesKept u
      else u = b)
  ∧ (∀ (src : Src) (m : Nat) (s : State), src ≠ .host → (s.quiet.counted 3).islUp 3 = true →
    (s.quiet.counted 3).reaches src .store 3 0x410 = true →
    Completes (.mchgGo src m) s fun u =>
      u.rd RI.MCHG_REQ.MODE = m % 4 ∧ u.rd RI.MCHG_STAT.LAST_MODE = m % 4
      ∧ u.rd RI.MCHG_STAT.STATUS = (if (s.quiet.counted 3).isSet RI.SCHED_CFG.REQ_EN = false ∨ m % 4 = (s.quiet.counted 3).rd RI.SCHED_STAT.MODE
          ∨ (s.quiet.counted 3).modeBody (m % 4) = none ∨ (s.quiet.counted 3).requestOpen = true then 6 else 1)
      ∧ (s.quiet.counted 3).restKept u [RI.MCHG_REQ.MODE, RI.MCHG_STAT.LAST_MODE, RI.MCHG_STAT.STATUS, RI.MCHG_STAT.OUTCOME]
      ∧ u = { s.quiet.counted 3 with regs := u.regs, rsch := { (s.quiet.counted 3).rsch with waited := 0 }, out := u.out })
  ∧ (∀ (src : Src) (s : State), src ≠ .host → (s.quiet.counted 3).islUp 3 = true →
    (s.quiet.counted 3).reaches src .store 3 0x410 = true →
    Completes (.mchgCancel src) s fun u =>
      if (s.quiet.counted 3).rd RI.MCHG_STAT.STATUS = 1 then
        u.rd RI.MCHG_STAT.STATUS = 0 ∧ (s.quiet.counted 3).restKept u [RI.MCHG_STAT.STATUS, RI.MCHG_STAT.OUTCOME]
        ∧ u = { s.quiet.counted 3 with regs := u.regs, out := u.out }
      else u = s.quiet.counted 3)
  ∧ (∀ (src : Src) (mask : Nat) (s : State), src ≠ .host → (s.quiet.counted 3).islUp 3 = true →
    (s.quiet.counted 3).reaches src .store 3 0x420 = true →
    Completes (.sigPub src mask) s fun u =>
      let b := s.quiet.counted 3
      (∀ w, w < 32 → if bitOf mask w = true then
          u.published w = b.sigBank RI.SIG_TX.DATA w
          ∧ u.rd (RI.SIG_STAT.PUB_SEQ w) = (b.rd (RI.SIG_STAT.PUB_SEQ w)
              + if ngetD b.gw.pubAt w 0 = cyclesTo 3 b.now + 1 then 0 else 1) % 2 ^ (RI.SIG_STAT.PUB_SEQ w).width
        else u.published w = b.published w ∧ u.rd (RI.SIG_STAT.PUB_SEQ w) = b.rd (RI.SIG_STAT.PUB_SEQ w))
      ∧ b.regsKept u ((List.range 32).map RI.SIG_STAT.PUB_SEQ)
      ∧ u = { b with regs := u.regs, rsch := { b.rsch with sigPub := u.rsch.sigPub }, gw := { b.gw with pubAt := u.gw.pubAt } })
  ∧ (∀ (w t c : Nat) (x : RingWindow) (s : State), (s.begin t).signalWindow w = some x →
    (s.begin t).atStart (s.begin t).time x = some c → x.owner = (s.begin t).node → (s.begin t).mode = 2 →
    (s.begin t).isSet MI.MODE_COND.JOIN_OK = true → (s.begin t).isSet RI.SCHED_STAT.MISMATCH = false →
    (∀ d, d < 2 → ∀ e ∈ ((s.begin t).ring d).copies, ¬ (e.1.cycle = c ∧ e.1.window = w)) →
    Completes (.signalSnapshot w t) s fun u =>
      let b := s.begin t
      ∃ h : ConHead, h.scheduled = true ∧ h.src = b.node ∧ h.cycle = c ∧ h.window = w ∧ h.index = 0 ∧ h.hops = 0
        ∧ h.length = (b.signalFrame x).length
        ∧ (∀ d, d < 2 → (u.ring d).copies = (b.ring d).copies
            ++ if b.isSet (RI.RING_CTL.EN d) then [(h, b.signalFrame x)] else [])
        ∧ u = { b with ringE := u.ringE, ringW := u.ringW, free := b.free + 1 })
  ∧ (∀ (w t : Nat) (s : State),
    ((s.begin t).signalWindow w = none ∨ (s.begin t).mode ≠ 2 ∨ (s.begin t).isSet MI.MODE_COND.JOIN_OK = false
      ∨ (s.begin t).isSet RI.SCHED_STAT.MISMATCH = true) →
    Completes (.signalSnapshot w t) s fun u => u = s.begin t)
  ∧ (∀ (w t : Nat) (s : State),
    Completes (.signalMissed w t) s fun u =>
      let b := s.begin t
      if (b.signalWindow w).elim false (fun x =>
          let late := blockNs x.start + 250000
          decide (late ≤ b.time ∧ x.owner ≠ b.node ∧ b.islRuns 3 = true ∧ (b.anyLock = true ∨ b.isMaster = true)
            ∧ bitOf x.mask (cycleAt (cycleStart (b.time - late))) = true
            ∧ nget b.rsch.sigSeen w ≠ some (cycleStart (b.time - late)))) = true then
        u.rd (RI.SIG_STAT.MISSED w) = 1 ∧ b.regsKept u [RI.SIG_STAT.MISSED w] ∧ u = { b with regs := u.regs }
      else u = b)

/-- R222, R424, R447a and R452 to R455. -/
def Obligations.GatewayMapsAndTemplates : Prop :=
  (∀ (x : CtxId) (ecc : Ecc) (t v pos w : Nat) (signed le : Bool) (r : Frame) (g : GwCtx) (c : Ctx) (s : State),
    (s.begin t).issues x c ecc → 14 ≤ x.jug → (s.begin t).ctxGwEn x c = true → c.gw = some g →
    let b := s.begin t
    let m := microOf (b.fetch x c)
    let n := m.imm % 4096
    m.op = 0x18 → (b.epochBank c.epoch).map? n = some r → (b.isSet (RI.GW_MAP_CTL.EN n) = true ∨ n ∈ g.held) →
    (b.epochBank c.epoch).mapDest c (bodyLe r 4 4) = some (pos, w, signed, le) → b.mapSource c (bodyLe r 0 4) = some v →
    Completes (.gxlt x ecc t) s fun u =>
      let src := bodyLe r 0 4
      let dst := bodyLe r 4 4
      let xv : Int := if bitOf src 28 then signedOf (bitsOf src 23 5 + 1) v else (v : Int)
      let y := (xv * signedOf 32 (bodyLe r 8 4) + signedOf 32 (bodyLe r 12 4) + 32768) / 65536
      let lo : Int := if signed then -(2 ^ (w - 1)) else 0
      let hi : Int := if signed then 2 ^ (w - 1) - 1 else 2 ^ w - 1
      let z := clampInt lo hi y
      let g1 := { g with held := if n ∈ g.held then g.held else n :: g.held }
      let c1 := { c with hit := true, c := decide (z ≠ y), gw := some g1 }
      u.rd (RI.GW_MAP_STAT.HELD n) = 1 ∧ (z ≠ y → u.rd (RI.GW_MAP_STAT.SAT_SEEN n) = 1) ∧ b.memoriesKept u
      ∧ (bitsOf dst 30 2 = 0 → u.ctx? x = some ({ c1 with
          gw := some { g1 with buffer := bitWrite g.buffer pos w (unsignedOf w z) le } }.stepPc.retired b.time))
      ∧ (bitsOf dst 30 2 = 1 → u.ctx? x = some (c1.stepPc.retired b.time)
          ∧ u.sigBank RI.SIG_TX.DATA (bitsOf dst 18 5)
            = bitWrite (b.sigBank RI.SIG_TX.DATA (bitsOf dst 18 5)) pos w (unsignedOf w z) le)
      ∧ (bitsOf dst 30 2 = 2 → u.ctx? x = some ({ c1 with
          phv := patchAt c.phv phvScratch (bitWrite (sliceAt c.phv phvScratch 64) pos w (unsignedOf w z) le)
            }.stepPc.retired b.time)))
  ∧ (∀ (x : CtxId) (ecc : Ecc) (t : Nat) (g : GwCtx) (c : Ctx) (s : State), (s.begin t).issues x c ecc → 14 ≤ x.jug →
    (s.begin t).ctxGwEn x c = true → c.gw = some g →
    let b := s.begin t
    let m := microOf (b.fetch x c)
    let n := m.imm % 4096
    m.op = 0x18 → ((b.epochBank c.epoch).map? n = none ∨ b.isSet (RI.GW_MAP_CTL.EN n) = false ∧ n ∉ g.held) →
    Completes (.gxlt x ecc t) s fun u => b.retires u x ecc { c with hit := false }.stepPc)
  ∧ (∀ (x : CtxId) (ecc : Ecc) (t : Nat) (r : Frame) (g : GwCtx) (c : Ctx) (s : State), (s.begin t).issues x c ecc →
    14 ≤ x.jug → (s.begin t).ctxGwEn x c = true → c.gw = some g →
    let b := s.begin t
    let m := microOf (b.fetch x c)
    let n := m.imm % 4096
    m.op = 0x18 → (b.epochBank c.epoch).map? n = some r → (b.isSet (RI.GW_MAP_CTL.EN n) = true ∨ n ∈ g.held) →
    (b.epochBank c.epoch).mapDest c (bodyLe r 4 4) = none →
    Completes (.gxlt x ecc t) s fun u =>
      let g1 := { g with held := if n ∈ g.held then g.held else n :: g.held }
      u.ctx? x = some ({ c with hit := false, gw := some g1 }.stepPc.retired b.time) ∧ u.rd (RI.GW_MAP_STAT.HELD n) = 1
      ∧ b.memoriesKept u)
  ∧ (∀ (x : CtxId) (ecc : Ecc) (t : Nat) (r : Frame) (g : GwCtx) (c : Ctx) (s : State), (s.begin t).issues x c ecc →
    14 ≤ x.jug → (s.begin t).ctxGwEn x c = true → c.gw = some g → c.packet = none → c.outstanding = [] →
    let b := s.begin t
    let m := microOf (b.fetch x c)
    let n := m.imm % 4096
    m.op = 0x18 → (b.epochBank c.epoch).map? n = some r → (b.isSet (RI.GW_MAP_CTL.EN n) = true ∨ n ∈ g.held) →
    ((b.epochBank c.epoch).mapDest c (bodyLe r 4 4)).isSome = true → b.mapSource c (bodyLe r 0 4) = none →
    Completes (.gxlt x ecc t) s fun u =>
      u.freed x ∧ u.rd RI.GW_STAT.TPL_ERR = (b.rd RI.GW_STAT.TPL_ERR + 1) % 2 ^ 16 ∧ u.rd RI.GW_STAT.TPL_ERR_SEEN = 1
      ∧ b.memoriesKept u)
  ∧ (∀ (x : CtxId) (ecc : Ecc) (t : Nat) (g : GwCtx) (c : Ctx) (s : State), (s.begin t).issues x c ecc → 14 ≤ x.jug →
    (s.begin t).ctxGwEn x c = true → c.gw = some g →
    let b := s.begin t
    let m := microOf (b.fetch x c)
    m.op = 0x19 →
    Completes (.gout x ecc t) s fun u => b.retires u x ecc ({ c with
      gw := some (match (b.epochBank c.epoch).template? (m.imm % 128) with
        | some r => { g with template := some (m.imm % 128), buffer := sliceAt r 0x60 416 }
        | none => { g with template := none }) }.stepPc))
  ∧ (∀ (x : CtxId) (ecc : Ecc) (t : Nat) (c : Ctx) (s : State), (s.begin t).issues x c ecc → 14 ≤ x.jug →
    (s.begin t).ctxGwEn x c = true →
    let b := s.begin t
    let w := (microOf (b.fetch x c)).imm % 32
    (microOf (b.fetch x c)).op = 0x1B →
    Completes (.gpub x ecc t) s fun u =>
      u.ctx? x = some (c.stepPc.retired b.time) ∧ u.published w = b.sigBank RI.SIG_TX.DATA w
      ∧ u.rd (RI.SIG_STAT.PUB_SEQ w) = (b.rd (RI.SIG_STAT.PUB_SEQ w)
          + if ngetD b.gw.pubAt w 0 = cyclesTo 3 b.now + 1 then 0 else 1) % 2 ^ 16 ∧ b.memoriesKept u
      ∧ (ecc = .clean → b.isSet (P.PS_CFG.EN x.pipe) = false → b.restKept u [RI.SIG_STAT.PUB_SEQ w]))

/-- R447, R449, R450, R456, R457 and R464. R447, R458 and R459. -/
def Obligations.GatewayEmitsAndFireAlarmBursts : Prop :=
  (∀ (k t : Nat) (i : Nat) (r : Frame) (rest : List (Nat × Frame)) (x : CtxId) (s : State), k < 2 → (s.begin t).mode = 2 →
    (s.begin t).dispatchHeld k = false → (s.begin t).trigQueue k = (i, r) :: rest → (s.begin t).freeCtx k true = some x →
    Completes (.triggerDispatch k t) s fun u =>
      let b := s.begin t
      u.trigQueue k = rest ∧ u.trigQueue (1 - k) = b.trigQueue (1 - k) ∧ b.memoriesKept u
      ∧ (match b.routine? k b.curEpoch (129 + i) with
        | some rt => (∃ c, u.ctx? x = some c ∧ c.packet = none ∧ c.pc = rt.entry ∧ c.budget = rt.budget
              ∧ c.routine = 129 + i ∧ c.epoch = b.curEpoch ∧ c.issued = 0 ∧ c.readyAt = b.time
              ∧ c.phv.take (min 160 r.length) = r.take 160)
            ∧ bitOf (u.rd (P.JUG_STAT.BUSY k x.jug)) x.ctx = true ∧ 14 ≤ x.jug ∧ b.restKept u [P.JUG_STAT.BUSY k x.jug]
        | none => b.regsKept u [] ∧ u.pa = b.pa ∧ u.pb = b.pb))
  ∧ (∀ (k t : Nat) (s : State),
    (2 ≤ k ∨ (s.begin t).mode ≠ 2 ∨ (s.begin t).dispatchHeld k = true ∨ (s.begin t).trigQueue k = []
      ∨ (s.begin t).freeCtx k true = none) →
    Completes (.triggerDispatch k t) s fun u => u = s.begin t)
  ∧ (∀ (x : CtxId) (ecc : Ecc) (t n : Nat) (r : Frame) (g : GwCtx) (c : Ctx) (s : State), (s.begin t).issues x c ecc →
    14 ≤ x.jug → (s.begin t).ctxGwEn x c = true → c.gw = some g → g.template = some n →
    let b := s.begin t
    (microOf (b.fetch x c)).op = 0x1A → (b.epochBank c.epoch).template? n = some r → b.mode = 2 → c.trial = false →
    Completes (.gemit x ecc t) s fun u =>
      let l := (b.completeOut c r g.buffer).1
      let all := (b.pipe x.pipe).toBi ++ outCopies r l c.epoch c.handle b.time
      let f := b.seqField (beNat (sliceAt g.buffer (bodyLe r 0x14 1 + 4) 2))
      u.ctx? x = some ({ c with gw := some { g with template := none, copying := (tplPorts r).length } }.stepPc.retired b.time)
      ∧ (∃ k, k < all.length + 1 ∧ (u.pipe x.pipe).toBi = all.drop k
          ∧ (u.chan (admitChan x.pipe)).inFlight = (b.chan (admitChan x.pipe)).inFlight ++ (all.take k).map Item.admission)
      ∧ (bodyLe r 2 1 = 0 → u.rd f = (b.rd f + 1) % 2 ^ f.width) ∧ b.memoriesKept u)
  ∧ (∀ (x : CtxId) (ecc : Ecc) (t n : Nat) (r : Frame) (g : GwCtx) (c : Ctx) (s : State), (s.begin t).issues x c ecc →
    14 ≤ x.jug → (s.begin t).ctxGwEn x c = true → c.gw = some g → g.template = some n →
    (microOf ((s.begin t).fetch x c)).op = 0x1A → ((s.begin t).epochBank c.epoch).template? n = some r →
    ((s.begin t).mode ≠ 2 ∨ c.trial = true) →
    Completes (.gemit x ecc t) s fun u =>
      (s.begin t).retires u x ecc ({ c with gw := some { g with template := none } }.stepPc))
  ∧ (∀ (x : CtxId) (ecc : Ecc) (t : Nat) (g : GwCtx) (c : Ctx) (s : State), (s.begin t).issues x c ecc → 14 ≤ x.jug →
    (s.begin t).ctxGwEn x c = true → c.gw = some g → g.template = none → c.packet = none → c.outstanding = [] →
    (microOf ((s.begin t).fetch x c)).op = 0x1A →
    Completes (.gemit x ecc t) s fun u =>
      u.freed x ∧ u.rd RI.GW_STAT.TPL_ERR = ((s.begin t).rd RI.GW_STAT.TPL_ERR + 1) % 2 ^ 16
      ∧ (s.begin t).memoriesKept u)
  ∧ (∀ (t : Nat) (s : State),
    Completes (.faAssert t) s fun u =>
      if (s.begin t).isSet AO.SIDEBAND.FA = true ∨ (s.begin t).debounced = false then u = s.begin t
      else u.rd AO.SIDEBAND.FA = 1 ∧ u.rd AO.SIDEBAND.FA_PIN = 0 ∧ u.rd AO.SIDEBAND.FA_ASSERT = 1 ∧ u.gw.faSince = (s.begin t).now
        ∧ ((s.begin t).isl? 3 ≠ 0 → u.rd RI.GW_EVT.FA_ASSERT = 1) ∧ (s.begin t).memoriesKept u)
  ∧ (∀ (t : Nat) (s : State),
    Completes (.faRelease t) s fun u =>
      if (s.begin t).isSet AO.SIDEBAND.FA = false ∨ (s.begin t).debounced = false then u = s.begin t
      else u.rd AO.SIDEBAND.FA = 0 ∧ u.rd AO.SIDEBAND.FA_PIN = 1 ∧ u.rd AO.SIDEBAND.FA_RELEASE = 1 ∧ u.gw.faSince = (s.begin t).now
        ∧ ((s.begin t).isl? 3 ≠ 0 → u.rd RI.GW_EVT.FA_RELEASE = 1) ∧ (s.begin t).memoriesKept u)
  ∧ (∀ (t : Nat) (s : State), (s.begin t).isSet AO.SIDEBAND.FA = true →
    (s.begin t).gw.burstAt + max 1 ((s.begin t).rd RI.GW_EMERG.REPEAT_S) * 1000000000 ≤ (s.begin t).now →
    (s.begin t).mode ≠ 0 → (s.begin t).islUp 3 = true → (s.begin t).isSet RI.GW_EMERG.EN = true → (s.begin t).islRuns 8 = true →
    Completes (.emergencyRepeat t) s fun u =>
      let b := s.begin t
      let f := b.seqField 0xFFFF
      u.gw.burstAt = b.now ∧ u.rd f = (b.rd f + 1) % 2 ^ f.width
      ∧ u.rd RI.GW_STAT.EMERG_SENT = (b.rd RI.GW_STAT.EMERG_SENT + b.enabledLuminaires.length) % 2 ^ 16
      ∧ b.memoriesKept u)
  ∧ (∀ (t : Nat) (s : State),
    ((s.begin t).isSet AO.SIDEBAND.FA = false
      ∨ (s.begin t).now < (s.begin t).gw.burstAt + max 1 ((s.begin t).rd RI.GW_EMERG.REPEAT_S) * 1000000000) →
    Completes (.emergencyRepeat t) s fun u => u = s.begin t)

/-- The step of the block; idling on an empty queue is the model's (notes/assumptions/1.md). -/
def Obligations.AStepTakesTheFrontCommand : Prop :=
  (∀ (c : Instr) (s : State), step (s.withFront c) = exec c s)
  ∧ (∀ (c : Instr) (r : List Instr) (s : State), s.pending = c :: r → step s = exec c { s with pending := r })
  ∧ (∀ s : State, s.pending = [] → step s = .next s)

/-- The state after reset; blank memory is the model's (notes/assumptions/4.md). -/
def Obligations.ResetLeavesRegistersAtTheirTable : Prop :=
  (∀ f : Machine.Field, State.reset.rd f = f.reset)
  ∧ State.reset.mode = 0 ∧ State.reset.isSet TI.SEL_STAT.SCHED_VALID = false ∧ State.reset.time = 0
  ∧ State.reset.sram = [] ∧ State.reset.dram = [] ∧ State.reset.flash = [] ∧ State.reset.host = []
  ∧ State.reset.pending = [] ∧ State.reset.Inv

/-- The spec gives the machine no stop of its own: what it refuses, it records in a register. -/
def Obligations.NoCommandStopsTheMachine : Prop := ∀ s : State, s.runs

/-- The invariant of Safety.lean. -/
def Obligations.EveryStepKeepsTheInvariant : Prop := ∀ s u : State, s.Inv → step s = .next u → u.Inv

/-- Commands come from outside the block only. -/
def Obligations.EveryStepTakesExactlyOneCommand : Prop := ∀ s u : State, step s = .next u → u.pending = s.pending.tail

/-- R45, R78 and R141. -/
def Obligations.HostWritesToTheCoresRegistersAreIgnored : Prop :=
  ∀ (c : Instr) (b : State) (r a t data mask : Nat) (s : State), s.islUp 0 = true →
    ((r = 0x40 ∨ r = 0x280 ∨ r = 0x30) ∧ (c = .registerWrite .host 0 a 8 data ∧ a = r
          ∨ c = .registerWrite .host 0 a 4 data ∧ (a = r ∨ a = r + 4)) ∧ b = s.quiet
      ∨ a = 0x280 ∧ c = .islCmdReset .host mask t ∧ b = s.begin t ∨ a = 0x280 ∧ c = .islCmdOff .host mask ∧ b = s.quiet
      ∨ a = 0x30 ∧ c = .modeReqGo .host mask t ∧ b = s.begin t) →
    Completes c s fun u =>
      u = { b with regs := u.regs } ∧ u.rd MI.ACC_STAT.UNMAPPED = 1 ∧ u.rd MI.ACC_STAT.LAST_SRC = 1
      ∧ u.rd MI.ACC_STAT.LAST_ADDR = a ∧ u.rd MI.ACC_STAT.LAST_ISLAND = 0
      ∧ b.regsKept u [MI.ACC_STAT.UNMAPPED, MI.ACC_STAT.LAST_ADDR, MI.ACC_STAT.LAST_ISLAND, MI.ACC_STAT.LAST_SRC]

/-- R10, R17, R22, R47, R117 and R119, with the chapters' own sentences. -/
def Obligations.CoreCommandsAreClosedToHostAndDownIslands : Prop :=
  (∀ (src : Src) (t n m k j : Nat) (v : Bool) (f : Func) (s : State) (c : Instr) (b : State) (isl off : Nat),
    (c, b, isl, off) ∈ ([(.stepGo src t, s.begin t, 2, 0xB0), (.stepCancel src t, s.begin t, 2, 0xB0),
      (.ptpMeasSubmit src n m k t, s.begin t, 2, 0xC0 + 8 * n), (.mchgGo src n, s.quiet, 3, 0x410),
      (.mchgCancel src, s.quiet, 3, 0x410), (.sigPub src n, s.quiet, 3, 0x420),
      (.forceBypWrite src n v, s.quiet, 3, 0x10 + 8 * n), (.retrain src t, s.begin t, 7, 0x58),
      (.epochCommit src t, s.begin t, 0, 0x510), (.epochAbort src t, s.begin t, 0, 0x510),
      (.tupdWriteEntry src, s.quiet, 0, 0x598), (.tupdInvalidateEntry src, s.quiet, 0, 0x598),
      (.pauseGo src t, s.begin t, 0, 0x598), (.pauseDiscard src, s.quiet, 0, 0x598),
      (.imgCheck src t, s.begin t, 0, 0x408), (.imgLoad src t, s.begin t, 0, 0x408), (.imgStage src t, s.begin t, 0, 0x408),
      (.imgCommit src t, s.begin t, 0, 0x408), (.imgAbort src t, s.begin t, 0, 0x408),
      (.snapGo src v t, s.begin t, 0, 0xA000), (.minmaxClr src n t, s.begin t, 0, 0x5100),
      (.c2hSet src n t, s.begin t, 0, 0x7F10), (.icComplete src n t, s.begin t, 0, 0x1420),
      (.jnlAppend src t, s.begin t, 0, 0x9240), (.jnlCopy src t, s.begin t, 0, 0x9240),
      (.jnlEraseOldest src t, s.begin t, 0, 0x9240), (.fuseProgramKeyHash src n t, s.begin t, 1, 0x180),
      (.fuseRevoke src n t, s.begin t, 1, 0x180), (.rollbackAdv src t, s.begin t, 1, 0x198),
      (.sealGo src n t, s.begin t, 1, 0x1A0), (.tagPendClear src n t, s.begin t, 1, 0x410),
      (.modeReqGo src n t, s.begin t, 0, 0x30), (.islCmdReset src n t, s.begin t, 0, 0x280),
      (.islCmdOff src n, s.quiet, 0, 0x280), (.i2cGo src n m k j, s.quiet, 0, 0x820 + 8 * n),
      (.busClear src n, s.quiet, 0, 0x820 + 8 * n), (.allocWrite src n m k, s.quiet, 8, 0xF100 + 8 * n),
      (.budgetWrite src n m k, s.quiet, 8, 0xF008 + 8 * n), (.trainModeWrite src v t, s.begin t, 9, 8),
      (.initDram src t, s.begin t, 9, 8), (.mrsGo src n m k t, s.begin t, 9, 0x200),
      (.functionEnable src f, s.quiet, funcIsl f, (funcEn f).off)] : List (Instr × State × Nat × Nat)) →
    (src = .host → b.islUp isl = true →
      Completes c s fun u =>
        u = { b with regs := u.regs } ∧ u.rd MI.ACC_STAT.UNMAPPED = 1 ∧ u.rd MI.ACC_STAT.LAST_SRC = 1
        ∧ u.rd MI.ACC_STAT.LAST_ADDR = off % 2 ^ 20 ∧ u.rd MI.ACC_STAT.LAST_ISLAND = isl % 16
        ∧ b.regsKept u [MI.ACC_STAT.UNMAPPED, MI.ACC_STAT.LAST_ADDR, MI.ACC_STAT.LAST_ISLAND, MI.ACC_STAT.LAST_SRC])
    ∧ (b.reaches src .store isl off = true → b.islUp isl = false → Completes c s fun u => u = b)
    ∧ (b.reaches src .store isl off = false → Completes c s fun u => u = b.emit (.coreFault 7 (regAddr isl off))))
  ∧ (∀ (src : Src) (t n m k j : Nat) (v : Bool) (s : State) (c : Instr) (b : State) (isl off : Nat),
    (c, b, isl, off) ∈ ([(.wdtService src n m t, s.begin t, 0, 0x4008), (.wdtCfgWrite src n m k v t, s.begin t, 0, 0x4000),
      (.icHeoi src n t, s.begin t, 0, 0x1428), (.flashProgram src n t, s.begin t, 0, 0x9000),
      (.flashErase4k src n t, s.begin t, 0, 0x9000), (.flashErase64k src n t, s.begin t, 0, 0x9000),
      (.probeGo src n m k j t, s.begin t, 7, 0x428 + 0x80 * (n % 2)),
      (.injectProdAdvance src n m, s.quiet, 8, 0x50110 + 0x20 * n),
      (.h2cSet src n t, s.begin t, 0, 0x7F00)] : List (Instr × State × Nat × Nat)) →
    b.reaches src .store isl off = false →
    Completes c s fun u => u = b.emit (.coreFault 7 (regAddr isl off)))

/-- R268 and R269. -/
def Obligations.CascadeMessagesSurviveTheWire : Prop :=
  ∀ (m : CasMsg) (w : List CodeBlock), 1 ≤ m.kind → m.kind ≤ 7 → m.origin < 4 → m.sender < 4 → m.seen < 16 →
    m.tag < 4096 → m.table < 256 → m.execSlot < 65536 → m.action < 2 ^ 64 → m.index < 65536 → m.key.length ≤ 64 →
    (m.kind ≠ 1 → m.key = []) → (m.kind ≠ 2 → m.action = 0 ∧ m.index = 0) → w.filter isCasBlock = casBlocks m →
    casMessage w = some { m with key := m.key ++ List.replicate ((7 - m.key.length % 7) % 7) 0 }
end

