-- ==== Sys2Proof/Laws/Maps.lean ====
section
/-!
SUPPORT. The laws of the finite maps and memories of Maps.lean: what is read after a write at the same and at another key,
and that every operation keeps the canonical form.
-/
namespace Sys2Proof.Machine

variable {α : Type}

/- ## Reading after writing -/

@[simp] theorem nget_nil (k : Nat) : nget ([] : List (Nat × α)) k = none := rfl

@[simp] theorem nget_nset_same (m : List (Nat × α)) (k : Nat) (v : α) : nget (nset m k v) k = some v := by
  induction m with
  | nil => simp [nset, nget]
  | cons e r ih =>
    obtain ⟨k', v'⟩ := e
    by_cases h : k < k'
    · simp [nset, nget, h]
    · by_cases h' : k = k' <;> simp [nset, nget, h, h', ih]

theorem nget_nset_ne (m : List (Nat × α)) {k j : Nat} (v : α) (h : j ≠ k) : nget (nset m k v) j = nget m j := by
  induction m with
  | nil => simp [nset, nget, h]
  | cons e r ih =>
    obtain ⟨k', v'⟩ := e
    simp only [nset]
    split
    · simp [nget, h]
    · split
      · rename_i e; subst e; simp [nget, h]
      · simp [nget, ih]

@[simp] theorem nget_nerase_same (m : List (Nat × α)) (k : Nat) : nget (nerase m k) k = none := by
  induction m with
  | nil => rfl
  | cons e r ih =>
    obtain ⟨k', v'⟩ := e
    by_cases h : k = k' <;> simp [nerase, nget, h, ih]
    simpa [h] using ih

theorem nget_nerase_ne (m : List (Nat × α)) {k j : Nat} (h : j ≠ k) : nget (nerase m k) j = nget m j := by
  induction m with
  | nil => rfl
  | cons e r ih =>
    obtain ⟨k', v'⟩ := e
    by_cases h' : k = k'
    · subst h'; simp [nerase, nget, ih, h]
    · simp [nerase, nget, ih, h']

@[simp] theorem ngetD_nset_same (m : List (Nat × α)) (k : Nat) (v d : α) : ngetD (nset m k v) k d = v := by
  simp [ngetD]

theorem ngetD_nset_ne (m : List (Nat × α)) {k j : Nat} (v d : α) (h : j ≠ k) : ngetD (nset m k v) j d = ngetD m j d := by
  simp [ngetD, nget_nset_ne m v h]

@[simp] theorem ngetD_nput_same [DecidableEq α] (m : List (Nat × α)) (k : Nat) (v d : α) : ngetD (nput d m k v) k d = v := by
  by_cases h : v = d <;> simp [nput, ngetD, h]

theorem nget_nput_ne [DecidableEq α] (m : List (Nat × α)) {k j : Nat} (v d : α) (h : j ≠ k) :
    nget (nput d m k v) j = nget m j := by
  unfold nput
  split
  · exact nget_nerase_ne m h
  · exact nget_nset_ne m v h

theorem ngetD_nput_ne [DecidableEq α] (m : List (Nat × α)) {k j : Nat} (v d x : α) (h : j ≠ k) :
    ngetD (nput d m k v) j x = ngetD m j x := by
  simp [ngetD, nget_nput_ne m v d h]

/- ## The canonical form -/

/-- Every key of a map lies above a bound. -/
def above (b : Nat) (m : List (Nat × α)) : Prop := ∀ e ∈ m, b < e.1

theorem nsorted_cons (e : Nat × α) (r : List (Nat × α)) : nsorted (e :: r) = true ↔ above e.1 r ∧ nsorted r = true := by
  induction r generalizing e with
  | nil => simp [nsorted, above]
  | cons f t ih =>
    obtain ⟨k, v⟩ := e
    obtain ⟨k', v'⟩ := f
    simp only [nsorted, Bool.and_eq_true, decide_eq_true_eq, above, List.mem_cons, forall_eq_or_imp]
    constructor
    · rintro ⟨h, hs⟩
      exact ⟨⟨h, fun e he => lt_trans h (((ih (k', v')).1 hs).1 e he)⟩, hs⟩
    · rintro ⟨⟨h, -⟩, hs⟩
      exact ⟨h, hs⟩

theorem above_nset {m : List (Nat × α)} {b k : Nat} (v : α) (hk : b < k) (h : above b m) : above b (nset m k v) := by
  induction m with
  | nil => simpa [nset, above] using hk
  | cons e r ih =>
    obtain ⟨k', v'⟩ := e
    simp only [above, List.mem_cons, forall_eq_or_imp] at h
    simp only [nset]
    split
    · simpa [above] using ⟨hk, h.1, fun a b hb => h.2 (a, b) hb⟩
    · split
      · simpa [above] using ⟨hk, fun a b hb => h.2 (a, b) hb⟩
      · simpa [above] using ⟨h.1, fun a b hb => ih h.2 (a, b) hb⟩

theorem above_nerase {m : List (Nat × α)} {b : Nat} (k : Nat) (h : above b m) : above b (nerase m k) := by
  induction m with
  | nil => simpa [nerase] using h
  | cons e r ih =>
    obtain ⟨k', v'⟩ := e
    simp only [above, List.mem_cons, forall_eq_or_imp] at h
    simp only [nerase]
    split
    · exact ih h.2
    · simpa [above] using ⟨h.1, fun a b hb => ih h.2 (a, b) hb⟩

theorem nsorted_nset {m : List (Nat × α)} (k : Nat) (v : α) (h : nsorted m = true) : nsorted (nset m k v) = true := by
  induction m with
  | nil => rfl
  | cons e r ih =>
    obtain ⟨k', v'⟩ := e
    have hr := (nsorted_cons _ _).1 h
    simp only [nset]
    split
    · rename_i hk
      refine (nsorted_cons _ _).2 ⟨?_, h⟩
      intro e he
      rcases List.mem_cons.1 he with rfl | he
      · exact hk
      · exact lt_trans hk (hr.1 e he)
    · split
      · rename_i e; subst e; exact (nsorted_cons _ _).2 hr
      · exact (nsorted_cons _ _).2 ⟨above_nset v (by show k' < k; omega) hr.1, ih hr.2⟩

theorem nsorted_nerase {m : List (Nat × α)} (k : Nat) (h : nsorted m = true) : nsorted (nerase m k) = true := by
  induction m with
  | nil => rfl
  | cons e r ih =>
    have hr := (nsorted_cons _ _).1 h
    simp only [nerase]
    split
    · exact ih hr.2
    · exact (nsorted_cons _ _).2 ⟨above_nerase k hr.1, ih hr.2⟩

theorem nsorted_nput [DecidableEq α] {m : List (Nat × α)} (d : α) (k : Nat) (v : α) (h : nsorted m = true) :
    nsorted (nput d m k v) = true := by
  unfold nput
  split
  · exact nsorted_nerase k h
  · exact nsorted_nset k v h

theorem mem_of_mem_nset {m : List (Nat × α)} {k : Nat} {v : α} {e : Nat × α} (h : e ∈ nset m k v) : e = (k, v) ∨ e ∈ m := by
  induction m with
  | nil => left; simpa [nset] using h
  | cons f r ih =>
    obtain ⟨k', v'⟩ := f
    simp only [nset] at h
    split at h
    · simpa using h
    · split at h
      · rcases List.mem_cons.1 h with h | h
        · exact .inl h
        · exact .inr (List.mem_cons_of_mem _ h)
      · rcases List.mem_cons.1 h with h | h
        · exact .inr (h ▸ List.mem_cons_self)
        · exact (ih h).imp id (List.mem_cons_of_mem _)

theorem mem_of_mem_nerase {m : List (Nat × α)} {k : Nat} {e : Nat × α} (h : e ∈ nerase m k) : e ∈ m := by
  induction m with
  | nil => exact h
  | cons f r ih =>
    simp only [nerase] at h
    split at h
    · exact List.mem_cons_of_mem _ (ih h)
    · rcases List.mem_cons.1 h with h | h
      · exact h ▸ List.mem_cons_self
      · exact List.mem_cons_of_mem _ (ih h)

/- ## Memories -/

theorem Memory.wf_iff (d : Byte) (m : List (Nat × Byte)) : Memory.wf d m = true ↔ nsorted m = true ∧ ∀ e ∈ m, e.2 ≠ d := by
  simp [Memory.wf]

theorem Memory.wf_nput {d : Byte} {m : List (Nat × Byte)} (a : Nat) (b : Byte) (h : Memory.wf d m = true) :
    Memory.wf d (nput d m a b) = true := by
  rw [Memory.wf_iff] at h ⊢
  refine ⟨nsorted_nput d a b h.1, fun e he => ?_⟩
  unfold nput at he
  split at he
  · exact h.2 e (mem_of_mem_nerase he)
  · rcases mem_of_mem_nset he with rfl | he
    · assumption
    · exact h.2 e he

/-- Writing bytes keeps the canonical form. -/
theorem Memory.wf_writeBytes {d : Byte} {m : List (Nat × Byte)} (a : Nat) (l : List Byte) (h : Memory.wf d m = true) :
    Memory.wf d (writeBytes d m a l) = true := by
  induction l generalizing m a with
  | nil => exact h
  | cons b bs ih => exact ih (a + 1) (Memory.wf_nput a b h)

/-- A byte outside the written ones reads as before. -/
theorem ngetD_writeBytes_outside (d : Byte) (m : List (Nat × Byte)) (a : Nat) (l : List Byte) {j : Nat}
    (h : j < a ∨ a + l.length ≤ j) : ngetD (writeBytes d m a l) j d = ngetD m j d := by
  induction l generalizing m a with
  | nil => rfl
  | cons b bs ih =>
    simp only [List.length_cons] at h
    rw [writeBytes, ih _ (a + 1) (by omega), ngetD_nput_ne _ _ _ _ (by omega)]

/-- A written byte reads as written. -/
theorem ngetD_writeBytes_inside (d : Byte) (m : List (Nat × Byte)) (a : Nat) (l : List Byte) {i : Nat} (h : i < l.length) :
    ngetD (writeBytes d m a l) (a + i) d = l[i] := by
  induction l generalizing m a i with
  | nil => simp at h
  | cons b bs ih =>
    cases i with
    | zero => simp [writeBytes, ngetD_writeBytes_outside d _ (a + 1) bs (j := a) (by omega)]
    | succ n =>
      have := ih (nput d m a b) (a + 1) (i := n) (by simpa using h)
      simpa [writeBytes, Nat.add_assoc, Nat.add_comm 1 n] using this

@[simp] theorem readBytes_length (d : Byte) (m : List (Nat × Byte)) (a n : Nat) : (readBytes d m a n).length = n := by
  induction n generalizing a with
  | zero => rfl
  | succ n ih => simp [readBytes, ih]

/-- Reading back what was written. -/
theorem readBytes_writeBytes (d : Byte) (m : List (Nat × Byte)) (a : Nat) (l : List Byte) :
    readBytes d (writeBytes d m a l) a l.length = l := by
  induction l generalizing m a with
  | nil => rfl
  | cons b bs ih =>
    simp only [List.length_cons, readBytes, writeBytes, ih]
    rw [ngetD_writeBytes_outside d _ (a + 1) bs (by omega)]
    simp

end Sys2Proof.Machine
end

