-- ==== Sys2Proof/Laws/State.lean ====
section
/-!
SUPPORT. Every update of the state against every field of it: the field it writes, and the fields it leaves. Each is true
by definition and is a rewrite rule, so that no proof unfolds a record update. Last, updates beside the register file
against the reading of a register.
-/
namespace Sys2Proof.Machine

/- ## State.wr -/
@[simp] theorem State.wr_regs (s : State) (f : Field) (v : Nat) : (s.wr f v).regs = nput f.reset s.regs f.key (v % 2 ^ f.width) := rfl
@[simp] theorem State.wr_now (s : State) (f : Field) (v : Nat) : (s.wr f v).now = s.now := rfl
@[simp] theorem State.wr_resp (s : State) (f : Field) (v : Nat) : (s.wr f v).resp = s.resp := rfl
@[simp] theorem State.wr_out (s : State) (f : Field) (v : Nat) : (s.wr f v).out = s.out := rfl
@[simp] theorem State.wr_free (s : State) (f : Field) (v : Nat) : (s.wr f v).free = s.free := rfl
@[simp] theorem State.wr_log (s : State) (f : Field) (v : Nat) : (s.wr f v).log = s.log := rfl
@[simp] theorem State.wr_chans (s : State) (f : Field) (v : Nat) : (s.wr f v).chans = s.chans := rfl
@[simp] theorem State.wr_isl (s : State) (f : Field) (v : Nat) : (s.wr f v).isl = s.isl := rfl
@[simp] theorem State.wr_ports (s : State) (f : Field) (v : Nat) : (s.wr f v).ports = s.ports := rfl
@[simp] theorem State.wr_i2c (s : State) (f : Field) (v : Nat) : (s.wr f v).i2c = s.i2c := rfl
@[simp] theorem State.wr_bank0 (s : State) (f : Field) (v : Nat) : (s.wr f v).bank0 = s.bank0 := rfl
@[simp] theorem State.wr_bank1 (s : State) (f : Field) (v : Nat) : (s.wr f v).bank1 = s.bank1 := rfl
@[simp] theorem State.wr_curBank (s : State) (f : Field) (v : Nat) : (s.wr f v).curBank = s.curBank := rfl
@[simp] theorem State.wr_epoch (s : State) (f : Field) (v : Nat) : (s.wr f v).epoch = s.epoch := rfl
@[simp] theorem State.wr_pa (s : State) (f : Field) (v : Nat) : (s.wr f v).pa = s.pa := rfl
@[simp] theorem State.wr_pb (s : State) (f : Field) (v : Nat) : (s.wr f v).pb = s.pb := rfl
@[simp] theorem State.wr_si (s : State) (f : Field) (v : Nat) : (s.wr f v).si = s.si := rfl
@[simp] theorem State.wr_bi (s : State) (f : Field) (v : Nat) : (s.wr f v).bi = s.bi := rfl
@[simp] theorem State.wr_ti (s : State) (f : Field) (v : Nat) : (s.wr f v).ti = s.ti := rfl
@[simp] theorem State.wr_ringE (s : State) (f : Field) (v : Nat) : (s.wr f v).ringE = s.ringE := rfl
@[simp] theorem State.wr_ringW (s : State) (f : Field) (v : Nat) : (s.wr f v).ringW = s.ringW := rfl
@[simp] theorem State.wr_rsch (s : State) (f : Field) (v : Nat) : (s.wr f v).rsch = s.rsch := rfl
@[simp] theorem State.wr_gw (s : State) (f : Field) (v : Nat) : (s.wr f v).gw = s.gw := rfl
@[simp] theorem State.wr_img (s : State) (f : Field) (v : Nat) : (s.wr f v).img = s.img := rfl
@[simp] theorem State.wr_boot (s : State) (f : Field) (v : Nat) : (s.wr f v).boot = s.boot := rfl
@[simp] theorem State.wr_di (s : State) (f : Field) (v : Nat) : (s.wr f v).di = s.di := rfl
@[simp] theorem State.wr_mg (s : State) (f : Field) (v : Nat) : (s.wr f v).mg = s.mg := rfl
@[simp] theorem State.wr_fl (s : State) (f : Field) (v : Nat) : (s.wr f v).fl = s.fl := rfl
@[simp] theorem State.wr_tag (s : State) (f : Field) (v : Nat) : (s.wr f v).tag = s.tag := rfl
@[simp] theorem State.wr_cnt (s : State) (f : Field) (v : Nat) : (s.wr f v).cnt = s.cnt := rfl
@[simp] theorem State.wr_sram (s : State) (f : Field) (v : Nat) : (s.wr f v).sram = s.sram := rfl
@[simp] theorem State.wr_dram (s : State) (f : Field) (v : Nat) : (s.wr f v).dram = s.dram := rfl
@[simp] theorem State.wr_flash (s : State) (f : Field) (v : Nat) : (s.wr f v).flash = s.flash := rfl
@[simp] theorem State.wr_host (s : State) (f : Field) (v : Nat) : (s.wr f v).host = s.host := rfl
@[simp] theorem State.wr_pending (s : State) (f : Field) (v : Nat) : (s.wr f v).pending = s.pending := rfl

/- ## State.flag -/
@[simp] theorem State.flag_now (s : State) (f : Field) (b : Bool) : (s.flag f b).now = s.now := rfl
@[simp] theorem State.flag_resp (s : State) (f : Field) (b : Bool) : (s.flag f b).resp = s.resp := rfl
@[simp] theorem State.flag_out (s : State) (f : Field) (b : Bool) : (s.flag f b).out = s.out := rfl
@[simp] theorem State.flag_free (s : State) (f : Field) (b : Bool) : (s.flag f b).free = s.free := rfl
@[simp] theorem State.flag_log (s : State) (f : Field) (b : Bool) : (s.flag f b).log = s.log := rfl
@[simp] theorem State.flag_chans (s : State) (f : Field) (b : Bool) : (s.flag f b).chans = s.chans := rfl
@[simp] theorem State.flag_isl (s : State) (f : Field) (b : Bool) : (s.flag f b).isl = s.isl := rfl
@[simp] theorem State.flag_ports (s : State) (f : Field) (b : Bool) : (s.flag f b).ports = s.ports := rfl
@[simp] theorem State.flag_i2c (s : State) (f : Field) (b : Bool) : (s.flag f b).i2c = s.i2c := rfl
@[simp] theorem State.flag_bank0 (s : State) (f : Field) (b : Bool) : (s.flag f b).bank0 = s.bank0 := rfl
@[simp] theorem State.flag_bank1 (s : State) (f : Field) (b : Bool) : (s.flag f b).bank1 = s.bank1 := rfl
@[simp] theorem State.flag_curBank (s : State) (f : Field) (b : Bool) : (s.flag f b).curBank = s.curBank := rfl
@[simp] theorem State.flag_epoch (s : State) (f : Field) (b : Bool) : (s.flag f b).epoch = s.epoch := rfl
@[simp] theorem State.flag_pa (s : State) (f : Field) (b : Bool) : (s.flag f b).pa = s.pa := rfl
@[simp] theorem State.flag_pb (s : State) (f : Field) (b : Bool) : (s.flag f b).pb = s.pb := rfl
@[simp] theorem State.flag_si (s : State) (f : Field) (b : Bool) : (s.flag f b).si = s.si := rfl
@[simp] theorem State.flag_bi (s : State) (f : Field) (b : Bool) : (s.flag f b).bi = s.bi := rfl
@[simp] theorem State.flag_ti (s : State) (f : Field) (b : Bool) : (s.flag f b).ti = s.ti := rfl
@[simp] theorem State.flag_ringE (s : State) (f : Field) (b : Bool) : (s.flag f b).ringE = s.ringE := rfl
@[simp] theorem State.flag_ringW (s : State) (f : Field) (b : Bool) : (s.flag f b).ringW = s.ringW := rfl
@[simp] theorem State.flag_rsch (s : State) (f : Field) (b : Bool) : (s.flag f b).rsch = s.rsch := rfl
@[simp] theorem State.flag_gw (s : State) (f : Field) (b : Bool) : (s.flag f b).gw = s.gw := rfl
@[simp] theorem State.flag_img (s : State) (f : Field) (b : Bool) : (s.flag f b).img = s.img := rfl
@[simp] theorem State.flag_boot (s : State) (f : Field) (b : Bool) : (s.flag f b).boot = s.boot := rfl
@[simp] theorem State.flag_di (s : State) (f : Field) (b : Bool) : (s.flag f b).di = s.di := rfl
@[simp] theorem State.flag_mg (s : State) (f : Field) (b : Bool) : (s.flag f b).mg = s.mg := rfl
@[simp] theorem State.flag_fl (s : State) (f : Field) (b : Bool) : (s.flag f b).fl = s.fl := rfl
@[simp] theorem State.flag_tag (s : State) (f : Field) (b : Bool) : (s.flag f b).tag = s.tag := rfl
@[simp] theorem State.flag_cnt (s : State) (f : Field) (b : Bool) : (s.flag f b).cnt = s.cnt := rfl
@[simp] theorem State.flag_sram (s : State) (f : Field) (b : Bool) : (s.flag f b).sram = s.sram := rfl
@[simp] theorem State.flag_dram (s : State) (f : Field) (b : Bool) : (s.flag f b).dram = s.dram := rfl
@[simp] theorem State.flag_flash (s : State) (f : Field) (b : Bool) : (s.flag f b).flash = s.flash := rfl
@[simp] theorem State.flag_host (s : State) (f : Field) (b : Bool) : (s.flag f b).host = s.host := rfl
@[simp] theorem State.flag_pending (s : State) (f : Field) (b : Bool) : (s.flag f b).pending = s.pending := rfl

/- ## State.orF -/
@[simp] theorem State.orF_now (s : State) (f : Field) (m : Nat) : (s.orF f m).now = s.now := rfl
@[simp] theorem State.orF_resp (s : State) (f : Field) (m : Nat) : (s.orF f m).resp = s.resp := rfl
@[simp] theorem State.orF_out (s : State) (f : Field) (m : Nat) : (s.orF f m).out = s.out := rfl
@[simp] theorem State.orF_free (s : State) (f : Field) (m : Nat) : (s.orF f m).free = s.free := rfl
@[simp] theorem State.orF_log (s : State) (f : Field) (m : Nat) : (s.orF f m).log = s.log := rfl
@[simp] theorem State.orF_chans (s : State) (f : Field) (m : Nat) : (s.orF f m).chans = s.chans := rfl
@[simp] theorem State.orF_isl (s : State) (f : Field) (m : Nat) : (s.orF f m).isl = s.isl := rfl
@[simp] theorem State.orF_ports (s : State) (f : Field) (m : Nat) : (s.orF f m).ports = s.ports := rfl
@[simp] theorem State.orF_i2c (s : State) (f : Field) (m : Nat) : (s.orF f m).i2c = s.i2c := rfl
@[simp] theorem State.orF_bank0 (s : State) (f : Field) (m : Nat) : (s.orF f m).bank0 = s.bank0 := rfl
@[simp] theorem State.orF_bank1 (s : State) (f : Field) (m : Nat) : (s.orF f m).bank1 = s.bank1 := rfl
@[simp] theorem State.orF_curBank (s : State) (f : Field) (m : Nat) : (s.orF f m).curBank = s.curBank := rfl
@[simp] theorem State.orF_epoch (s : State) (f : Field) (m : Nat) : (s.orF f m).epoch = s.epoch := rfl
@[simp] theorem State.orF_pa (s : State) (f : Field) (m : Nat) : (s.orF f m).pa = s.pa := rfl
@[simp] theorem State.orF_pb (s : State) (f : Field) (m : Nat) : (s.orF f m).pb = s.pb := rfl
@[simp] theorem State.orF_si (s : State) (f : Field) (m : Nat) : (s.orF f m).si = s.si := rfl
@[simp] theorem State.orF_bi (s : State) (f : Field) (m : Nat) : (s.orF f m).bi = s.bi := rfl
@[simp] theorem State.orF_ti (s : State) (f : Field) (m : Nat) : (s.orF f m).ti = s.ti := rfl
@[simp] theorem State.orF_ringE (s : State) (f : Field) (m : Nat) : (s.orF f m).ringE = s.ringE := rfl
@[simp] theorem State.orF_ringW (s : State) (f : Field) (m : Nat) : (s.orF f m).ringW = s.ringW := rfl
@[simp] theorem State.orF_rsch (s : State) (f : Field) (m : Nat) : (s.orF f m).rsch = s.rsch := rfl
@[simp] theorem State.orF_gw (s : State) (f : Field) (m : Nat) : (s.orF f m).gw = s.gw := rfl
@[simp] theorem State.orF_img (s : State) (f : Field) (m : Nat) : (s.orF f m).img = s.img := rfl
@[simp] theorem State.orF_boot (s : State) (f : Field) (m : Nat) : (s.orF f m).boot = s.boot := rfl
@[simp] theorem State.orF_di (s : State) (f : Field) (m : Nat) : (s.orF f m).di = s.di := rfl
@[simp] theorem State.orF_mg (s : State) (f : Field) (m : Nat) : (s.orF f m).mg = s.mg := rfl
@[simp] theorem State.orF_fl (s : State) (f : Field) (m : Nat) : (s.orF f m).fl = s.fl := rfl
@[simp] theorem State.orF_tag (s : State) (f : Field) (m : Nat) : (s.orF f m).tag = s.tag := rfl
@[simp] theorem State.orF_cnt (s : State) (f : Field) (m : Nat) : (s.orF f m).cnt = s.cnt := rfl
@[simp] theorem State.orF_sram (s : State) (f : Field) (m : Nat) : (s.orF f m).sram = s.sram := rfl
@[simp] theorem State.orF_dram (s : State) (f : Field) (m : Nat) : (s.orF f m).dram = s.dram := rfl
@[simp] theorem State.orF_flash (s : State) (f : Field) (m : Nat) : (s.orF f m).flash = s.flash := rfl
@[simp] theorem State.orF_host (s : State) (f : Field) (m : Nat) : (s.orF f m).host = s.host := rfl
@[simp] theorem State.orF_pending (s : State) (f : Field) (m : Nat) : (s.orF f m).pending = s.pending := rfl

/- ## State.andNotF -/
@[simp] theorem State.andNotF_now (s : State) (f : Field) (m : Nat) : (s.andNotF f m).now = s.now := rfl
@[simp] theorem State.andNotF_resp (s : State) (f : Field) (m : Nat) : (s.andNotF f m).resp = s.resp := rfl
@[simp] theorem State.andNotF_out (s : State) (f : Field) (m : Nat) : (s.andNotF f m).out = s.out := rfl
@[simp] theorem State.andNotF_free (s : State) (f : Field) (m : Nat) : (s.andNotF f m).free = s.free := rfl
@[simp] theorem State.andNotF_log (s : State) (f : Field) (m : Nat) : (s.andNotF f m).log = s.log := rfl
@[simp] theorem State.andNotF_chans (s : State) (f : Field) (m : Nat) : (s.andNotF f m).chans = s.chans := rfl
@[simp] theorem State.andNotF_isl (s : State) (f : Field) (m : Nat) : (s.andNotF f m).isl = s.isl := rfl
@[simp] theorem State.andNotF_ports (s : State) (f : Field) (m : Nat) : (s.andNotF f m).ports = s.ports := rfl
@[simp] theorem State.andNotF_i2c (s : State) (f : Field) (m : Nat) : (s.andNotF f m).i2c = s.i2c := rfl
@[simp] theorem State.andNotF_bank0 (s : State) (f : Field) (m : Nat) : (s.andNotF f m).bank0 = s.bank0 := rfl
@[simp] theorem State.andNotF_bank1 (s : State) (f : Field) (m : Nat) : (s.andNotF f m).bank1 = s.bank1 := rfl
@[simp] theorem State.andNotF_curBank (s : State) (f : Field) (m : Nat) : (s.andNotF f m).curBank = s.curBank := rfl
@[simp] theorem State.andNotF_epoch (s : State) (f : Field) (m : Nat) : (s.andNotF f m).epoch = s.epoch := rfl
@[simp] theorem State.andNotF_pa (s : State) (f : Field) (m : Nat) : (s.andNotF f m).pa = s.pa := rfl
@[simp] theorem State.andNotF_pb (s : State) (f : Field) (m : Nat) : (s.andNotF f m).pb = s.pb := rfl
@[simp] theorem State.andNotF_si (s : State) (f : Field) (m : Nat) : (s.andNotF f m).si = s.si := rfl
@[simp] theorem State.andNotF_bi (s : State) (f : Field) (m : Nat) : (s.andNotF f m).bi = s.bi := rfl
@[simp] theorem State.andNotF_ti (s : State) (f : Field) (m : Nat) : (s.andNotF f m).ti = s.ti := rfl
@[simp] theorem State.andNotF_ringE (s : State) (f : Field) (m : Nat) : (s.andNotF f m).ringE = s.ringE := rfl
@[simp] theorem State.andNotF_ringW (s : State) (f : Field) (m : Nat) : (s.andNotF f m).ringW = s.ringW := rfl
@[simp] theorem State.andNotF_rsch (s : State) (f : Field) (m : Nat) : (s.andNotF f m).rsch = s.rsch := rfl
@[simp] theorem State.andNotF_gw (s : State) (f : Field) (m : Nat) : (s.andNotF f m).gw = s.gw := rfl
@[simp] theorem State.andNotF_img (s : State) (f : Field) (m : Nat) : (s.andNotF f m).img = s.img := rfl
@[simp] theorem State.andNotF_boot (s : State) (f : Field) (m : Nat) : (s.andNotF f m).boot = s.boot := rfl
@[simp] theorem State.andNotF_di (s : State) (f : Field) (m : Nat) : (s.andNotF f m).di = s.di := rfl
@[simp] theorem State.andNotF_mg (s : State) (f : Field) (m : Nat) : (s.andNotF f m).mg = s.mg := rfl
@[simp] theorem State.andNotF_fl (s : State) (f : Field) (m : Nat) : (s.andNotF f m).fl = s.fl := rfl
@[simp] theorem State.andNotF_tag (s : State) (f : Field) (m : Nat) : (s.andNotF f m).tag = s.tag := rfl
@[simp] theorem State.andNotF_cnt (s : State) (f : Field) (m : Nat) : (s.andNotF f m).cnt = s.cnt := rfl
@[simp] theorem State.andNotF_sram (s : State) (f : Field) (m : Nat) : (s.andNotF f m).sram = s.sram := rfl
@[simp] theorem State.andNotF_dram (s : State) (f : Field) (m : Nat) : (s.andNotF f m).dram = s.dram := rfl
@[simp] theorem State.andNotF_flash (s : State) (f : Field) (m : Nat) : (s.andNotF f m).flash = s.flash := rfl
@[simp] theorem State.andNotF_host (s : State) (f : Field) (m : Nat) : (s.andNotF f m).host = s.host := rfl
@[simp] theorem State.andNotF_pending (s : State) (f : Field) (m : Nat) : (s.andNotF f m).pending = s.pending := rfl

/- ## State.addF -/
@[simp] theorem State.addF_now (s : State) (f : Field) (n : Nat) : (s.addF f n).now = s.now := rfl
@[simp] theorem State.addF_resp (s : State) (f : Field) (n : Nat) : (s.addF f n).resp = s.resp := rfl
@[simp] theorem State.addF_out (s : State) (f : Field) (n : Nat) : (s.addF f n).out = s.out := rfl
@[simp] theorem State.addF_free (s : State) (f : Field) (n : Nat) : (s.addF f n).free = s.free := rfl
@[simp] theorem State.addF_log (s : State) (f : Field) (n : Nat) : (s.addF f n).log = s.log := rfl
@[simp] theorem State.addF_chans (s : State) (f : Field) (n : Nat) : (s.addF f n).chans = s.chans := rfl
@[simp] theorem State.addF_isl (s : State) (f : Field) (n : Nat) : (s.addF f n).isl = s.isl := rfl
@[simp] theorem State.addF_ports (s : State) (f : Field) (n : Nat) : (s.addF f n).ports = s.ports := rfl
@[simp] theorem State.addF_i2c (s : State) (f : Field) (n : Nat) : (s.addF f n).i2c = s.i2c := rfl
@[simp] theorem State.addF_bank0 (s : State) (f : Field) (n : Nat) : (s.addF f n).bank0 = s.bank0 := rfl
@[simp] theorem State.addF_bank1 (s : State) (f : Field) (n : Nat) : (s.addF f n).bank1 = s.bank1 := rfl
@[simp] theorem State.addF_curBank (s : State) (f : Field) (n : Nat) : (s.addF f n).curBank = s.curBank := rfl
@[simp] theorem State.addF_epoch (s : State) (f : Field) (n : Nat) : (s.addF f n).epoch = s.epoch := rfl
@[simp] theorem State.addF_pa (s : State) (f : Field) (n : Nat) : (s.addF f n).pa = s.pa := rfl
@[simp] theorem State.addF_pb (s : State) (f : Field) (n : Nat) : (s.addF f n).pb = s.pb := rfl
@[simp] theorem State.addF_si (s : State) (f : Field) (n : Nat) : (s.addF f n).si = s.si := rfl
@[simp] theorem State.addF_bi (s : State) (f : Field) (n : Nat) : (s.addF f n).bi = s.bi := rfl
@[simp] theorem State.addF_ti (s : State) (f : Field) (n : Nat) : (s.addF f n).ti = s.ti := rfl
@[simp] theorem State.addF_ringE (s : State) (f : Field) (n : Nat) : (s.addF f n).ringE = s.ringE := rfl
@[simp] theorem State.addF_ringW (s : State) (f : Field) (n : Nat) : (s.addF f n).ringW = s.ringW := rfl
@[simp] theorem State.addF_rsch (s : State) (f : Field) (n : Nat) : (s.addF f n).rsch = s.rsch := rfl
@[simp] theorem State.addF_gw (s : State) (f : Field) (n : Nat) : (s.addF f n).gw = s.gw := rfl
@[simp] theorem State.addF_img (s : State) (f : Field) (n : Nat) : (s.addF f n).img = s.img := rfl
@[simp] theorem State.addF_boot (s : State) (f : Field) (n : Nat) : (s.addF f n).boot = s.boot := rfl
@[simp] theorem State.addF_di (s : State) (f : Field) (n : Nat) : (s.addF f n).di = s.di := rfl
@[simp] theorem State.addF_mg (s : State) (f : Field) (n : Nat) : (s.addF f n).mg = s.mg := rfl
@[simp] theorem State.addF_fl (s : State) (f : Field) (n : Nat) : (s.addF f n).fl = s.fl := rfl
@[simp] theorem State.addF_tag (s : State) (f : Field) (n : Nat) : (s.addF f n).tag = s.tag := rfl
@[simp] theorem State.addF_cnt (s : State) (f : Field) (n : Nat) : (s.addF f n).cnt = s.cnt := rfl
@[simp] theorem State.addF_sram (s : State) (f : Field) (n : Nat) : (s.addF f n).sram = s.sram := rfl
@[simp] theorem State.addF_dram (s : State) (f : Field) (n : Nat) : (s.addF f n).dram = s.dram := rfl
@[simp] theorem State.addF_flash (s : State) (f : Field) (n : Nat) : (s.addF f n).flash = s.flash := rfl
@[simp] theorem State.addF_host (s : State) (f : Field) (n : Nat) : (s.addF f n).host = s.host := rfl
@[simp] theorem State.addF_pending (s : State) (f : Field) (n : Nat) : (s.addF f n).pending = s.pending := rfl

/- ## State.rst -/
@[simp] theorem State.rst_now (s : State) (f : Field) : (s.rst f).now = s.now := rfl
@[simp] theorem State.rst_resp (s : State) (f : Field) : (s.rst f).resp = s.resp := rfl
@[simp] theorem State.rst_out (s : State) (f : Field) : (s.rst f).out = s.out := rfl
@[simp] theorem State.rst_free (s : State) (f : Field) : (s.rst f).free = s.free := rfl
@[simp] theorem State.rst_log (s : State) (f : Field) : (s.rst f).log = s.log := rfl
@[simp] theorem State.rst_chans (s : State) (f : Field) : (s.rst f).chans = s.chans := rfl
@[simp] theorem State.rst_isl (s : State) (f : Field) : (s.rst f).isl = s.isl := rfl
@[simp] theorem State.rst_ports (s : State) (f : Field) : (s.rst f).ports = s.ports := rfl
@[simp] theorem State.rst_i2c (s : State) (f : Field) : (s.rst f).i2c = s.i2c := rfl
@[simp] theorem State.rst_bank0 (s : State) (f : Field) : (s.rst f).bank0 = s.bank0 := rfl
@[simp] theorem State.rst_bank1 (s : State) (f : Field) : (s.rst f).bank1 = s.bank1 := rfl
@[simp] theorem State.rst_curBank (s : State) (f : Field) : (s.rst f).curBank = s.curBank := rfl
@[simp] theorem State.rst_epoch (s : State) (f : Field) : (s.rst f).epoch = s.epoch := rfl
@[simp] theorem State.rst_pa (s : State) (f : Field) : (s.rst f).pa = s.pa := rfl
@[simp] theorem State.rst_pb (s : State) (f : Field) : (s.rst f).pb = s.pb := rfl
@[simp] theorem State.rst_si (s : State) (f : Field) : (s.rst f).si = s.si := rfl
@[simp] theorem State.rst_bi (s : State) (f : Field) : (s.rst f).bi = s.bi := rfl
@[simp] theorem State.rst_ti (s : State) (f : Field) : (s.rst f).ti = s.ti := rfl
@[simp] theorem State.rst_ringE (s : State) (f : Field) : (s.rst f).ringE = s.ringE := rfl
@[simp] theorem State.rst_ringW (s : State) (f : Field) : (s.rst f).ringW = s.ringW := rfl
@[simp] theorem State.rst_rsch (s : State) (f : Field) : (s.rst f).rsch = s.rsch := rfl
@[simp] theorem State.rst_gw (s : State) (f : Field) : (s.rst f).gw = s.gw := rfl
@[simp] theorem State.rst_img (s : State) (f : Field) : (s.rst f).img = s.img := rfl
@[simp] theorem State.rst_boot (s : State) (f : Field) : (s.rst f).boot = s.boot := rfl
@[simp] theorem State.rst_di (s : State) (f : Field) : (s.rst f).di = s.di := rfl
@[simp] theorem State.rst_mg (s : State) (f : Field) : (s.rst f).mg = s.mg := rfl
@[simp] theorem State.rst_fl (s : State) (f : Field) : (s.rst f).fl = s.fl := rfl
@[simp] theorem State.rst_tag (s : State) (f : Field) : (s.rst f).tag = s.tag := rfl
@[simp] theorem State.rst_cnt (s : State) (f : Field) : (s.rst f).cnt = s.cnt := rfl
@[simp] theorem State.rst_sram (s : State) (f : Field) : (s.rst f).sram = s.sram := rfl
@[simp] theorem State.rst_dram (s : State) (f : Field) : (s.rst f).dram = s.dram := rfl
@[simp] theorem State.rst_flash (s : State) (f : Field) : (s.rst f).flash = s.flash := rfl
@[simp] theorem State.rst_host (s : State) (f : Field) : (s.rst f).host = s.host := rfl
@[simp] theorem State.rst_pending (s : State) (f : Field) : (s.rst f).pending = s.pending := rfl

/- ## State.wrS -/
@[simp] theorem State.wrS_now (s : State) (f : Field) (x : Int) : (s.wrS f x).now = s.now := rfl
@[simp] theorem State.wrS_resp (s : State) (f : Field) (x : Int) : (s.wrS f x).resp = s.resp := rfl
@[simp] theorem State.wrS_out (s : State) (f : Field) (x : Int) : (s.wrS f x).out = s.out := rfl
@[simp] theorem State.wrS_free (s : State) (f : Field) (x : Int) : (s.wrS f x).free = s.free := rfl
@[simp] theorem State.wrS_log (s : State) (f : Field) (x : Int) : (s.wrS f x).log = s.log := rfl
@[simp] theorem State.wrS_chans (s : State) (f : Field) (x : Int) : (s.wrS f x).chans = s.chans := rfl
@[simp] theorem State.wrS_isl (s : State) (f : Field) (x : Int) : (s.wrS f x).isl = s.isl := rfl
@[simp] theorem State.wrS_ports (s : State) (f : Field) (x : Int) : (s.wrS f x).ports = s.ports := rfl
@[simp] theorem State.wrS_i2c (s : State) (f : Field) (x : Int) : (s.wrS f x).i2c = s.i2c := rfl
@[simp] theorem State.wrS_bank0 (s : State) (f : Field) (x : Int) : (s.wrS f x).bank0 = s.bank0 := rfl
@[simp] theorem State.wrS_bank1 (s : State) (f : Field) (x : Int) : (s.wrS f x).bank1 = s.bank1 := rfl
@[simp] theorem State.wrS_curBank (s : State) (f : Field) (x : Int) : (s.wrS f x).curBank = s.curBank := rfl
@[simp] theorem State.wrS_epoch (s : State) (f : Field) (x : Int) : (s.wrS f x).epoch = s.epoch := rfl
@[simp] theorem State.wrS_pa (s : State) (f : Field) (x : Int) : (s.wrS f x).pa = s.pa := rfl
@[simp] theorem State.wrS_pb (s : State) (f : Field) (x : Int) : (s.wrS f x).pb = s.pb := rfl
@[simp] theorem State.wrS_si (s : State) (f : Field) (x : Int) : (s.wrS f x).si = s.si := rfl
@[simp] theorem State.wrS_bi (s : State) (f : Field) (x : Int) : (s.wrS f x).bi = s.bi := rfl
@[simp] theorem State.wrS_ti (s : State) (f : Field) (x : Int) : (s.wrS f x).ti = s.ti := rfl
@[simp] theorem State.wrS_ringE (s : State) (f : Field) (x : Int) : (s.wrS f x).ringE = s.ringE := rfl
@[simp] theorem State.wrS_ringW (s : State) (f : Field) (x : Int) : (s.wrS f x).ringW = s.ringW := rfl
@[simp] theorem State.wrS_rsch (s : State) (f : Field) (x : Int) : (s.wrS f x).rsch = s.rsch := rfl
@[simp] theorem State.wrS_gw (s : State) (f : Field) (x : Int) : (s.wrS f x).gw = s.gw := rfl
@[simp] theorem State.wrS_img (s : State) (f : Field) (x : Int) : (s.wrS f x).img = s.img := rfl
@[simp] theorem State.wrS_boot (s : State) (f : Field) (x : Int) : (s.wrS f x).boot = s.boot := rfl
@[simp] theorem State.wrS_di (s : State) (f : Field) (x : Int) : (s.wrS f x).di = s.di := rfl
@[simp] theorem State.wrS_mg (s : State) (f : Field) (x : Int) : (s.wrS f x).mg = s.mg := rfl
@[simp] theorem State.wrS_fl (s : State) (f : Field) (x : Int) : (s.wrS f x).fl = s.fl := rfl
@[simp] theorem State.wrS_tag (s : State) (f : Field) (x : Int) : (s.wrS f x).tag = s.tag := rfl
@[simp] theorem State.wrS_cnt (s : State) (f : Field) (x : Int) : (s.wrS f x).cnt = s.cnt := rfl
@[simp] theorem State.wrS_sram (s : State) (f : Field) (x : Int) : (s.wrS f x).sram = s.sram := rfl
@[simp] theorem State.wrS_dram (s : State) (f : Field) (x : Int) : (s.wrS f x).dram = s.dram := rfl
@[simp] theorem State.wrS_flash (s : State) (f : Field) (x : Int) : (s.wrS f x).flash = s.flash := rfl
@[simp] theorem State.wrS_host (s : State) (f : Field) (x : Int) : (s.wrS f x).host = s.host := rfl
@[simp] theorem State.wrS_pending (s : State) (f : Field) (x : Int) : (s.wrS f x).pending = s.pending := rfl

/- ## State.setPend -/
@[simp] theorem State.setPend_now (s : State) (n : Nat) (b : Bool) : (s.setPend n b).now = s.now := by unfold State.setPend; split <;> rfl
@[simp] theorem State.setPend_resp (s : State) (n : Nat) (b : Bool) : (s.setPend n b).resp = s.resp := by unfold State.setPend; split <;> rfl
@[simp] theorem State.setPend_out (s : State) (n : Nat) (b : Bool) : (s.setPend n b).out = s.out := by unfold State.setPend; split <;> rfl
@[simp] theorem State.setPend_free (s : State) (n : Nat) (b : Bool) : (s.setPend n b).free = s.free := by unfold State.setPend; split <;> rfl
@[simp] theorem State.setPend_log (s : State) (n : Nat) (b : Bool) : (s.setPend n b).log = s.log := by unfold State.setPend; split <;> rfl
@[simp] theorem State.setPend_chans (s : State) (n : Nat) (b : Bool) : (s.setPend n b).chans = s.chans := by unfold State.setPend; split <;> rfl
@[simp] theorem State.setPend_isl (s : State) (n : Nat) (b : Bool) : (s.setPend n b).isl = s.isl := by unfold State.setPend; split <;> rfl
@[simp] theorem State.setPend_ports (s : State) (n : Nat) (b : Bool) : (s.setPend n b).ports = s.ports := by unfold State.setPend; split <;> rfl
@[simp] theorem State.setPend_i2c (s : State) (n : Nat) (b : Bool) : (s.setPend n b).i2c = s.i2c := by unfold State.setPend; split <;> rfl
@[simp] theorem State.setPend_bank0 (s : State) (n : Nat) (b : Bool) : (s.setPend n b).bank0 = s.bank0 := by unfold State.setPend; split <;> rfl
@[simp] theorem State.setPend_bank1 (s : State) (n : Nat) (b : Bool) : (s.setPend n b).bank1 = s.bank1 := by unfold State.setPend; split <;> rfl
@[simp] theorem State.setPend_curBank (s : State) (n : Nat) (b : Bool) : (s.setPend n b).curBank = s.curBank := by unfold State.setPend; split <;> rfl
@[simp] theorem State.setPend_epoch (s : State) (n : Nat) (b : Bool) : (s.setPend n b).epoch = s.epoch := by unfold State.setPend; split <;> rfl
@[simp] theorem State.setPend_pa (s : State) (n : Nat) (b : Bool) : (s.setPend n b).pa = s.pa := by unfold State.setPend; split <;> rfl
@[simp] theorem State.setPend_pb (s : State) (n : Nat) (b : Bool) : (s.setPend n b).pb = s.pb := by unfold State.setPend; split <;> rfl
@[simp] theorem State.setPend_si (s : State) (n : Nat) (b : Bool) : (s.setPend n b).si = s.si := by unfold State.setPend; split <;> rfl
@[simp] theorem State.setPend_bi (s : State) (n : Nat) (b : Bool) : (s.setPend n b).bi = s.bi := by unfold State.setPend; split <;> rfl
@[simp] theorem State.setPend_ti (s : State) (n : Nat) (b : Bool) : (s.setPend n b).ti = s.ti := by unfold State.setPend; split <;> rfl
@[simp] theorem State.setPend_ringE (s : State) (n : Nat) (b : Bool) : (s.setPend n b).ringE = s.ringE := by unfold State.setPend; split <;> rfl
@[simp] theorem State.setPend_ringW (s : State) (n : Nat) (b : Bool) : (s.setPend n b).ringW = s.ringW := by unfold State.setPend; split <;> rfl
@[simp] theorem State.setPend_rsch (s : State) (n : Nat) (b : Bool) : (s.setPend n b).rsch = s.rsch := by unfold State.setPend; split <;> rfl
@[simp] theorem State.setPend_gw (s : State) (n : Nat) (b : Bool) : (s.setPend n b).gw = s.gw := by unfold State.setPend; split <;> rfl
@[simp] theorem State.setPend_img (s : State) (n : Nat) (b : Bool) : (s.setPend n b).img = s.img := by unfold State.setPend; split <;> rfl
@[simp] theorem State.setPend_boot (s : State) (n : Nat) (b : Bool) : (s.setPend n b).boot = s.boot := by unfold State.setPend; split <;> rfl
@[simp] theorem State.setPend_di (s : State) (n : Nat) (b : Bool) : (s.setPend n b).di = s.di := by unfold State.setPend; split <;> rfl
@[simp] theorem State.setPend_mg (s : State) (n : Nat) (b : Bool) : (s.setPend n b).mg = s.mg := by unfold State.setPend; split <;> rfl
@[simp] theorem State.setPend_fl (s : State) (n : Nat) (b : Bool) : (s.setPend n b).fl = s.fl := by unfold State.setPend; split <;> rfl
@[simp] theorem State.setPend_tag (s : State) (n : Nat) (b : Bool) : (s.setPend n b).tag = s.tag := by unfold State.setPend; split <;> rfl
@[simp] theorem State.setPend_cnt (s : State) (n : Nat) (b : Bool) : (s.setPend n b).cnt = s.cnt := by unfold State.setPend; split <;> rfl
@[simp] theorem State.setPend_sram (s : State) (n : Nat) (b : Bool) : (s.setPend n b).sram = s.sram := by unfold State.setPend; split <;> rfl
@[simp] theorem State.setPend_dram (s : State) (n : Nat) (b : Bool) : (s.setPend n b).dram = s.dram := by unfold State.setPend; split <;> rfl
@[simp] theorem State.setPend_flash (s : State) (n : Nat) (b : Bool) : (s.setPend n b).flash = s.flash := by unfold State.setPend; split <;> rfl
@[simp] theorem State.setPend_host (s : State) (n : Nat) (b : Bool) : (s.setPend n b).host = s.host := by unfold State.setPend; split <;> rfl
@[simp] theorem State.setPend_pending (s : State) (n : Nat) (b : Bool) : (s.setPend n b).pending = s.pending := by unfold State.setPend; split <;> rfl

/- ## State.addOvf -/
@[simp] theorem State.addOvf_now (s : State) (f o : Field) (bits n : Nat) : (s.addOvf f o bits n).now = s.now := by unfold State.addOvf; split <;> rfl
@[simp] theorem State.addOvf_resp (s : State) (f o : Field) (bits n : Nat) : (s.addOvf f o bits n).resp = s.resp := by unfold State.addOvf; split <;> rfl
@[simp] theorem State.addOvf_out (s : State) (f o : Field) (bits n : Nat) : (s.addOvf f o bits n).out = s.out := by unfold State.addOvf; split <;> rfl
@[simp] theorem State.addOvf_free (s : State) (f o : Field) (bits n : Nat) : (s.addOvf f o bits n).free = s.free := by unfold State.addOvf; split <;> rfl
@[simp] theorem State.addOvf_log (s : State) (f o : Field) (bits n : Nat) : (s.addOvf f o bits n).log = s.log := by unfold State.addOvf; split <;> rfl
@[simp] theorem State.addOvf_chans (s : State) (f o : Field) (bits n : Nat) : (s.addOvf f o bits n).chans = s.chans := by unfold State.addOvf; split <;> rfl
@[simp] theorem State.addOvf_isl (s : State) (f o : Field) (bits n : Nat) : (s.addOvf f o bits n).isl = s.isl := by unfold State.addOvf; split <;> rfl
@[simp] theorem State.addOvf_ports (s : State) (f o : Field) (bits n : Nat) : (s.addOvf f o bits n).ports = s.ports := by unfold State.addOvf; split <;> rfl
@[simp] theorem State.addOvf_i2c (s : State) (f o : Field) (bits n : Nat) : (s.addOvf f o bits n).i2c = s.i2c := by unfold State.addOvf; split <;> rfl
@[simp] theorem State.addOvf_bank0 (s : State) (f o : Field) (bits n : Nat) : (s.addOvf f o bits n).bank0 = s.bank0 := by unfold State.addOvf; split <;> rfl
@[simp] theorem State.addOvf_bank1 (s : State) (f o : Field) (bits n : Nat) : (s.addOvf f o bits n).bank1 = s.bank1 := by unfold State.addOvf; split <;> rfl
@[simp] theorem State.addOvf_curBank (s : State) (f o : Field) (bits n : Nat) : (s.addOvf f o bits n).curBank = s.curBank := by unfold State.addOvf; split <;> rfl
@[simp] theorem State.addOvf_epoch (s : State) (f o : Field) (bits n : Nat) : (s.addOvf f o bits n).epoch = s.epoch := by unfold State.addOvf; split <;> rfl
@[simp] theorem State.addOvf_pa (s : State) (f o : Field) (bits n : Nat) : (s.addOvf f o bits n).pa = s.pa := by unfold State.addOvf; split <;> rfl
@[simp] theorem State.addOvf_pb (s : State) (f o : Field) (bits n : Nat) : (s.addOvf f o bits n).pb = s.pb := by unfold State.addOvf; split <;> rfl
@[simp] theorem State.addOvf_si (s : State) (f o : Field) (bits n : Nat) : (s.addOvf f o bits n).si = s.si := by unfold State.addOvf; split <;> rfl
@[simp] theorem State.addOvf_bi (s : State) (f o : Field) (bits n : Nat) : (s.addOvf f o bits n).bi = s.bi := by unfold State.addOvf; split <;> rfl
@[simp] theorem State.addOvf_ti (s : State) (f o : Field) (bits n : Nat) : (s.addOvf f o bits n).ti = s.ti := by unfold State.addOvf; split <;> rfl
@[simp] theorem State.addOvf_ringE (s : State) (f o : Field) (bits n : Nat) : (s.addOvf f o bits n).ringE = s.ringE := by unfold State.addOvf; split <;> rfl
@[simp] theorem State.addOvf_ringW (s : State) (f o : Field) (bits n : Nat) : (s.addOvf f o bits n).ringW = s.ringW := by unfold State.addOvf; split <;> rfl
@[simp] theorem State.addOvf_rsch (s : State) (f o : Field) (bits n : Nat) : (s.addOvf f o bits n).rsch = s.rsch := by unfold State.addOvf; split <;> rfl
@[simp] theorem State.addOvf_gw (s : State) (f o : Field) (bits n : Nat) : (s.addOvf f o bits n).gw = s.gw := by unfold State.addOvf; split <;> rfl
@[simp] theorem State.addOvf_img (s : State) (f o : Field) (bits n : Nat) : (s.addOvf f o bits n).img = s.img := by unfold State.addOvf; split <;> rfl
@[simp] theorem State.addOvf_boot (s : State) (f o : Field) (bits n : Nat) : (s.addOvf f o bits n).boot = s.boot := by unfold State.addOvf; split <;> rfl
@[simp] theorem State.addOvf_di (s : State) (f o : Field) (bits n : Nat) : (s.addOvf f o bits n).di = s.di := by unfold State.addOvf; split <;> rfl
@[simp] theorem State.addOvf_mg (s : State) (f o : Field) (bits n : Nat) : (s.addOvf f o bits n).mg = s.mg := by unfold State.addOvf; split <;> rfl
@[simp] theorem State.addOvf_fl (s : State) (f o : Field) (bits n : Nat) : (s.addOvf f o bits n).fl = s.fl := by unfold State.addOvf; split <;> rfl
@[simp] theorem State.addOvf_tag (s : State) (f o : Field) (bits n : Nat) : (s.addOvf f o bits n).tag = s.tag := by unfold State.addOvf; split <;> rfl
@[simp] theorem State.addOvf_cnt (s : State) (f o : Field) (bits n : Nat) : (s.addOvf f o bits n).cnt = s.cnt := by unfold State.addOvf; split <;> rfl
@[simp] theorem State.addOvf_sram (s : State) (f o : Field) (bits n : Nat) : (s.addOvf f o bits n).sram = s.sram := by unfold State.addOvf; split <;> rfl
@[simp] theorem State.addOvf_dram (s : State) (f o : Field) (bits n : Nat) : (s.addOvf f o bits n).dram = s.dram := by unfold State.addOvf; split <;> rfl
@[simp] theorem State.addOvf_flash (s : State) (f o : Field) (bits n : Nat) : (s.addOvf f o bits n).flash = s.flash := by unfold State.addOvf; split <;> rfl
@[simp] theorem State.addOvf_host (s : State) (f o : Field) (bits n : Nat) : (s.addOvf f o bits n).host = s.host := by unfold State.addOvf; split <;> rfl
@[simp] theorem State.addOvf_pending (s : State) (f o : Field) (bits n : Nat) : (s.addOvf f o bits n).pending = s.pending := by unfold State.addOvf; split <;> rfl

/- ## State.setIsl -/
@[simp] theorem State.setIsl_now (s : State) (i v : Nat) : (s.setIsl i v).now = s.now := rfl
@[simp] theorem State.setIsl_resp (s : State) (i v : Nat) : (s.setIsl i v).resp = s.resp := rfl
@[simp] theorem State.setIsl_out (s : State) (i v : Nat) : (s.setIsl i v).out = s.out := rfl
@[simp] theorem State.setIsl_free (s : State) (i v : Nat) : (s.setIsl i v).free = s.free := rfl
@[simp] theorem State.setIsl_log (s : State) (i v : Nat) : (s.setIsl i v).log = s.log := rfl
@[simp] theorem State.setIsl_chans (s : State) (i v : Nat) : (s.setIsl i v).chans = s.chans := rfl
@[simp] theorem State.setIsl_isl (s : State) (i v : Nat) : (s.setIsl i v).isl = s.isl := rfl
@[simp] theorem State.setIsl_ports (s : State) (i v : Nat) : (s.setIsl i v).ports = s.ports := rfl
@[simp] theorem State.setIsl_i2c (s : State) (i v : Nat) : (s.setIsl i v).i2c = s.i2c := rfl
@[simp] theorem State.setIsl_bank0 (s : State) (i v : Nat) : (s.setIsl i v).bank0 = s.bank0 := rfl
@[simp] theorem State.setIsl_bank1 (s : State) (i v : Nat) : (s.setIsl i v).bank1 = s.bank1 := rfl
@[simp] theorem State.setIsl_curBank (s : State) (i v : Nat) : (s.setIsl i v).curBank = s.curBank := rfl
@[simp] theorem State.setIsl_epoch (s : State) (i v : Nat) : (s.setIsl i v).epoch = s.epoch := rfl
@[simp] theorem State.setIsl_pa (s : State) (i v : Nat) : (s.setIsl i v).pa = s.pa := rfl
@[simp] theorem State.setIsl_pb (s : State) (i v : Nat) : (s.setIsl i v).pb = s.pb := rfl
@[simp] theorem State.setIsl_si (s : State) (i v : Nat) : (s.setIsl i v).si = s.si := rfl
@[simp] theorem State.setIsl_bi (s : State) (i v : Nat) : (s.setIsl i v).bi = s.bi := rfl
@[simp] theorem State.setIsl_ti (s : State) (i v : Nat) : (s.setIsl i v).ti = s.ti := rfl
@[simp] theorem State.setIsl_ringE (s : State) (i v : Nat) : (s.setIsl i v).ringE = s.ringE := rfl
@[simp] theorem State.setIsl_ringW (s : State) (i v : Nat) : (s.setIsl i v).ringW = s.ringW := rfl
@[simp] theorem State.setIsl_rsch (s : State) (i v : Nat) : (s.setIsl i v).rsch = s.rsch := rfl
@[simp] theorem State.setIsl_gw (s : State) (i v : Nat) : (s.setIsl i v).gw = s.gw := rfl
@[simp] theorem State.setIsl_img (s : State) (i v : Nat) : (s.setIsl i v).img = s.img := rfl
@[simp] theorem State.setIsl_boot (s : State) (i v : Nat) : (s.setIsl i v).boot = s.boot := rfl
@[simp] theorem State.setIsl_di (s : State) (i v : Nat) : (s.setIsl i v).di = s.di := rfl
@[simp] theorem State.setIsl_mg (s : State) (i v : Nat) : (s.setIsl i v).mg = s.mg := rfl
@[simp] theorem State.setIsl_fl (s : State) (i v : Nat) : (s.setIsl i v).fl = s.fl := rfl
@[simp] theorem State.setIsl_tag (s : State) (i v : Nat) : (s.setIsl i v).tag = s.tag := rfl
@[simp] theorem State.setIsl_cnt (s : State) (i v : Nat) : (s.setIsl i v).cnt = s.cnt := rfl
@[simp] theorem State.setIsl_sram (s : State) (i v : Nat) : (s.setIsl i v).sram = s.sram := rfl
@[simp] theorem State.setIsl_dram (s : State) (i v : Nat) : (s.setIsl i v).dram = s.dram := rfl
@[simp] theorem State.setIsl_flash (s : State) (i v : Nat) : (s.setIsl i v).flash = s.flash := rfl
@[simp] theorem State.setIsl_host (s : State) (i v : Nat) : (s.setIsl i v).host = s.host := rfl
@[simp] theorem State.setIsl_pending (s : State) (i v : Nat) : (s.setIsl i v).pending = s.pending := rfl

/- ## State.quiet -/
@[simp] theorem State.quiet_regs (s : State) : s.quiet.regs = s.regs := rfl
@[simp] theorem State.quiet_now (s : State) : s.quiet.now = s.now := rfl
@[simp] theorem State.quiet_resp (s : State) : s.quiet.resp = s.resp := rfl
@[simp] theorem State.quiet_out (s : State) : s.quiet.out = [] := rfl
@[simp] theorem State.quiet_free (s : State) : s.quiet.free = s.free := rfl
@[simp] theorem State.quiet_log (s : State) : s.quiet.log = s.log := rfl
@[simp] theorem State.quiet_chans (s : State) : s.quiet.chans = s.chans := rfl
@[simp] theorem State.quiet_isl (s : State) : s.quiet.isl = s.isl := rfl
@[simp] theorem State.quiet_ports (s : State) : s.quiet.ports = s.ports := rfl
@[simp] theorem State.quiet_i2c (s : State) : s.quiet.i2c = s.i2c := rfl
@[simp] theorem State.quiet_bank0 (s : State) : s.quiet.bank0 = s.bank0 := rfl
@[simp] theorem State.quiet_bank1 (s : State) : s.quiet.bank1 = s.bank1 := rfl
@[simp] theorem State.quiet_curBank (s : State) : s.quiet.curBank = s.curBank := rfl
@[simp] theorem State.quiet_epoch (s : State) : s.quiet.epoch = s.epoch := rfl
@[simp] theorem State.quiet_pa (s : State) : s.quiet.pa = s.pa := rfl
@[simp] theorem State.quiet_pb (s : State) : s.quiet.pb = s.pb := rfl
@[simp] theorem State.quiet_si (s : State) : s.quiet.si = s.si := rfl
@[simp] theorem State.quiet_bi (s : State) : s.quiet.bi = s.bi := rfl
@[simp] theorem State.quiet_ti (s : State) : s.quiet.ti = s.ti := rfl
@[simp] theorem State.quiet_ringE (s : State) : s.quiet.ringE = s.ringE := rfl
@[simp] theorem State.quiet_ringW (s : State) : s.quiet.ringW = s.ringW := rfl
@[simp] theorem State.quiet_rsch (s : State) : s.quiet.rsch = s.rsch := rfl
@[simp] theorem State.quiet_gw (s : State) : s.quiet.gw = s.gw := rfl
@[simp] theorem State.quiet_img (s : State) : s.quiet.img = s.img := rfl
@[simp] theorem State.quiet_boot (s : State) : s.quiet.boot = s.boot := rfl
@[simp] theorem State.quiet_di (s : State) : s.quiet.di = s.di := rfl
@[simp] theorem State.quiet_mg (s : State) : s.quiet.mg = s.mg := rfl
@[simp] theorem State.quiet_fl (s : State) : s.quiet.fl = s.fl := rfl
@[simp] theorem State.quiet_tag (s : State) : s.quiet.tag = s.tag := rfl
@[simp] theorem State.quiet_cnt (s : State) : s.quiet.cnt = s.cnt := rfl
@[simp] theorem State.quiet_sram (s : State) : s.quiet.sram = s.sram := rfl
@[simp] theorem State.quiet_dram (s : State) : s.quiet.dram = s.dram := rfl
@[simp] theorem State.quiet_flash (s : State) : s.quiet.flash = s.flash := rfl
@[simp] theorem State.quiet_host (s : State) : s.quiet.host = s.host := rfl
@[simp] theorem State.quiet_pending (s : State) : s.quiet.pending = s.pending := rfl

/- ## State.emit -/
@[simp] theorem State.emit_regs (s : State) (o : Output) : (s.emit o).regs = s.regs := rfl
@[simp] theorem State.emit_now (s : State) (o : Output) : (s.emit o).now = s.now := rfl
@[simp] theorem State.emit_resp (s : State) (o : Output) : (s.emit o).resp = s.resp := rfl
@[simp] theorem State.emit_out (s : State) (o : Output) : (s.emit o).out = s.out ++ [o] := rfl
@[simp] theorem State.emit_free (s : State) (o : Output) : (s.emit o).free = s.free := rfl
@[simp] theorem State.emit_log (s : State) (o : Output) : (s.emit o).log = s.log := rfl
@[simp] theorem State.emit_chans (s : State) (o : Output) : (s.emit o).chans = s.chans := rfl
@[simp] theorem State.emit_isl (s : State) (o : Output) : (s.emit o).isl = s.isl := rfl
@[simp] theorem State.emit_ports (s : State) (o : Output) : (s.emit o).ports = s.ports := rfl
@[simp] theorem State.emit_i2c (s : State) (o : Output) : (s.emit o).i2c = s.i2c := rfl
@[simp] theorem State.emit_bank0 (s : State) (o : Output) : (s.emit o).bank0 = s.bank0 := rfl
@[simp] theorem State.emit_bank1 (s : State) (o : Output) : (s.emit o).bank1 = s.bank1 := rfl
@[simp] theorem State.emit_curBank (s : State) (o : Output) : (s.emit o).curBank = s.curBank := rfl
@[simp] theorem State.emit_epoch (s : State) (o : Output) : (s.emit o).epoch = s.epoch := rfl
@[simp] theorem State.emit_pa (s : State) (o : Output) : (s.emit o).pa = s.pa := rfl
@[simp] theorem State.emit_pb (s : State) (o : Output) : (s.emit o).pb = s.pb := rfl
@[simp] theorem State.emit_si (s : State) (o : Output) : (s.emit o).si = s.si := rfl
@[simp] theorem State.emit_bi (s : State) (o : Output) : (s.emit o).bi = s.bi := rfl
@[simp] theorem State.emit_ti (s : State) (o : Output) : (s.emit o).ti = s.ti := rfl
@[simp] theorem State.emit_ringE (s : State) (o : Output) : (s.emit o).ringE = s.ringE := rfl
@[simp] theorem State.emit_ringW (s : State) (o : Output) : (s.emit o).ringW = s.ringW := rfl
@[simp] theorem State.emit_rsch (s : State) (o : Output) : (s.emit o).rsch = s.rsch := rfl
@[simp] theorem State.emit_gw (s : State) (o : Output) : (s.emit o).gw = s.gw := rfl
@[simp] theorem State.emit_img (s : State) (o : Output) : (s.emit o).img = s.img := rfl
@[simp] theorem State.emit_boot (s : State) (o : Output) : (s.emit o).boot = s.boot := rfl
@[simp] theorem State.emit_di (s : State) (o : Output) : (s.emit o).di = s.di := rfl
@[simp] theorem State.emit_mg (s : State) (o : Output) : (s.emit o).mg = s.mg := rfl
@[simp] theorem State.emit_fl (s : State) (o : Output) : (s.emit o).fl = s.fl := rfl
@[simp] theorem State.emit_tag (s : State) (o : Output) : (s.emit o).tag = s.tag := rfl
@[simp] theorem State.emit_cnt (s : State) (o : Output) : (s.emit o).cnt = s.cnt := rfl
@[simp] theorem State.emit_sram (s : State) (o : Output) : (s.emit o).sram = s.sram := rfl
@[simp] theorem State.emit_dram (s : State) (o : Output) : (s.emit o).dram = s.dram := rfl
@[simp] theorem State.emit_flash (s : State) (o : Output) : (s.emit o).flash = s.flash := rfl
@[simp] theorem State.emit_host (s : State) (o : Output) : (s.emit o).host = s.host := rfl
@[simp] theorem State.emit_pending (s : State) (o : Output) : (s.emit o).pending = s.pending := rfl

/- ## State.answer -/
@[simp] theorem State.answer_regs (s : State) (v : Nat) : (s.answer v).regs = s.regs := rfl
@[simp] theorem State.answer_now (s : State) (v : Nat) : (s.answer v).now = s.now := rfl
@[simp] theorem State.answer_resp (s : State) (v : Nat) : (s.answer v).resp = v := rfl
@[simp] theorem State.answer_out (s : State) (v : Nat) : (s.answer v).out = s.out := rfl
@[simp] theorem State.answer_free (s : State) (v : Nat) : (s.answer v).free = s.free := rfl
@[simp] theorem State.answer_log (s : State) (v : Nat) : (s.answer v).log = s.log := rfl
@[simp] theorem State.answer_chans (s : State) (v : Nat) : (s.answer v).chans = s.chans := rfl
@[simp] theorem State.answer_isl (s : State) (v : Nat) : (s.answer v).isl = s.isl := rfl
@[simp] theorem State.answer_ports (s : State) (v : Nat) : (s.answer v).ports = s.ports := rfl
@[simp] theorem State.answer_i2c (s : State) (v : Nat) : (s.answer v).i2c = s.i2c := rfl
@[simp] theorem State.answer_bank0 (s : State) (v : Nat) : (s.answer v).bank0 = s.bank0 := rfl
@[simp] theorem State.answer_bank1 (s : State) (v : Nat) : (s.answer v).bank1 = s.bank1 := rfl
@[simp] theorem State.answer_curBank (s : State) (v : Nat) : (s.answer v).curBank = s.curBank := rfl
@[simp] theorem State.answer_epoch (s : State) (v : Nat) : (s.answer v).epoch = s.epoch := rfl
@[simp] theorem State.answer_pa (s : State) (v : Nat) : (s.answer v).pa = s.pa := rfl
@[simp] theorem State.answer_pb (s : State) (v : Nat) : (s.answer v).pb = s.pb := rfl
@[simp] theorem State.answer_si (s : State) (v : Nat) : (s.answer v).si = s.si := rfl
@[simp] theorem State.answer_bi (s : State) (v : Nat) : (s.answer v).bi = s.bi := rfl
@[simp] theorem State.answer_ti (s : State) (v : Nat) : (s.answer v).ti = s.ti := rfl
@[simp] theorem State.answer_ringE (s : State) (v : Nat) : (s.answer v).ringE = s.ringE := rfl
@[simp] theorem State.answer_ringW (s : State) (v : Nat) : (s.answer v).ringW = s.ringW := rfl
@[simp] theorem State.answer_rsch (s : State) (v : Nat) : (s.answer v).rsch = s.rsch := rfl
@[simp] theorem State.answer_gw (s : State) (v : Nat) : (s.answer v).gw = s.gw := rfl
@[simp] theorem State.answer_img (s : State) (v : Nat) : (s.answer v).img = s.img := rfl
@[simp] theorem State.answer_boot (s : State) (v : Nat) : (s.answer v).boot = s.boot := rfl
@[simp] theorem State.answer_di (s : State) (v : Nat) : (s.answer v).di = s.di := rfl
@[simp] theorem State.answer_mg (s : State) (v : Nat) : (s.answer v).mg = s.mg := rfl
@[simp] theorem State.answer_fl (s : State) (v : Nat) : (s.answer v).fl = s.fl := rfl
@[simp] theorem State.answer_tag (s : State) (v : Nat) : (s.answer v).tag = s.tag := rfl
@[simp] theorem State.answer_cnt (s : State) (v : Nat) : (s.answer v).cnt = s.cnt := rfl
@[simp] theorem State.answer_sram (s : State) (v : Nat) : (s.answer v).sram = s.sram := rfl
@[simp] theorem State.answer_dram (s : State) (v : Nat) : (s.answer v).dram = s.dram := rfl
@[simp] theorem State.answer_flash (s : State) (v : Nat) : (s.answer v).flash = s.flash := rfl
@[simp] theorem State.answer_host (s : State) (v : Nat) : (s.answer v).host = s.host := rfl
@[simp] theorem State.answer_pending (s : State) (v : Nat) : (s.answer v).pending = s.pending := rfl

/- ## State.tookFree -/
@[simp] theorem State.tookFree_regs (s : State) : s.tookFree.regs = s.regs := rfl
@[simp] theorem State.tookFree_now (s : State) : s.tookFree.now = s.now := rfl
@[simp] theorem State.tookFree_resp (s : State) : s.tookFree.resp = s.resp := rfl
@[simp] theorem State.tookFree_out (s : State) : s.tookFree.out = s.out := rfl
@[simp] theorem State.tookFree_free (s : State) : s.tookFree.free = s.free + 1 := rfl
@[simp] theorem State.tookFree_log (s : State) : s.tookFree.log = s.log := rfl
@[simp] theorem State.tookFree_chans (s : State) : s.tookFree.chans = s.chans := rfl
@[simp] theorem State.tookFree_isl (s : State) : s.tookFree.isl = s.isl := rfl
@[simp] theorem State.tookFree_ports (s : State) : s.tookFree.ports = s.ports := rfl
@[simp] theorem State.tookFree_i2c (s : State) : s.tookFree.i2c = s.i2c := rfl
@[simp] theorem State.tookFree_bank0 (s : State) : s.tookFree.bank0 = s.bank0 := rfl
@[simp] theorem State.tookFree_bank1 (s : State) : s.tookFree.bank1 = s.bank1 := rfl
@[simp] theorem State.tookFree_curBank (s : State) : s.tookFree.curBank = s.curBank := rfl
@[simp] theorem State.tookFree_epoch (s : State) : s.tookFree.epoch = s.epoch := rfl
@[simp] theorem State.tookFree_pa (s : State) : s.tookFree.pa = s.pa := rfl
@[simp] theorem State.tookFree_pb (s : State) : s.tookFree.pb = s.pb := rfl
@[simp] theorem State.tookFree_si (s : State) : s.tookFree.si = s.si := rfl
@[simp] theorem State.tookFree_bi (s : State) : s.tookFree.bi = s.bi := rfl
@[simp] theorem State.tookFree_ti (s : State) : s.tookFree.ti = s.ti := rfl
@[simp] theorem State.tookFree_ringE (s : State) : s.tookFree.ringE = s.ringE := rfl
@[simp] theorem State.tookFree_ringW (s : State) : s.tookFree.ringW = s.ringW := rfl
@[simp] theorem State.tookFree_rsch (s : State) : s.tookFree.rsch = s.rsch := rfl
@[simp] theorem State.tookFree_gw (s : State) : s.tookFree.gw = s.gw := rfl
@[simp] theorem State.tookFree_img (s : State) : s.tookFree.img = s.img := rfl
@[simp] theorem State.tookFree_boot (s : State) : s.tookFree.boot = s.boot := rfl
@[simp] theorem State.tookFree_di (s : State) : s.tookFree.di = s.di := rfl
@[simp] theorem State.tookFree_mg (s : State) : s.tookFree.mg = s.mg := rfl
@[simp] theorem State.tookFree_fl (s : State) : s.tookFree.fl = s.fl := rfl
@[simp] theorem State.tookFree_tag (s : State) : s.tookFree.tag = s.tag := rfl
@[simp] theorem State.tookFree_cnt (s : State) : s.tookFree.cnt = s.cnt := rfl
@[simp] theorem State.tookFree_sram (s : State) : s.tookFree.sram = s.sram := rfl
@[simp] theorem State.tookFree_dram (s : State) : s.tookFree.dram = s.dram := rfl
@[simp] theorem State.tookFree_flash (s : State) : s.tookFree.flash = s.flash := rfl
@[simp] theorem State.tookFree_host (s : State) : s.tookFree.host = s.host := rfl
@[simp] theorem State.tookFree_pending (s : State) : s.tookFree.pending = s.pending := rfl

/- ## State.dramAsk -/
@[simp] theorem State.dramAsk_regs (s : State) (w : DramWho) (b : Bool) (a n : Nat) (l : Frame) : (s.dramAsk w b a n l).regs = s.regs := rfl
@[simp] theorem State.dramAsk_now (s : State) (w : DramWho) (b : Bool) (a n : Nat) (l : Frame) : (s.dramAsk w b a n l).now = s.now := rfl
@[simp] theorem State.dramAsk_resp (s : State) (w : DramWho) (b : Bool) (a n : Nat) (l : Frame) : (s.dramAsk w b a n l).resp = s.resp := rfl
@[simp] theorem State.dramAsk_out (s : State) (w : DramWho) (b : Bool) (a n : Nat) (l : Frame) : (s.dramAsk w b a n l).out = s.out := rfl
@[simp] theorem State.dramAsk_free (s : State) (w : DramWho) (b : Bool) (a n : Nat) (l : Frame) : (s.dramAsk w b a n l).free = s.free := rfl
@[simp] theorem State.dramAsk_log (s : State) (w : DramWho) (b : Bool) (a n : Nat) (l : Frame) : (s.dramAsk w b a n l).log = s.log := rfl
@[simp] theorem State.dramAsk_chans (s : State) (w : DramWho) (b : Bool) (a n : Nat) (l : Frame) : (s.dramAsk w b a n l).chans = s.chans := rfl
@[simp] theorem State.dramAsk_isl (s : State) (w : DramWho) (b : Bool) (a n : Nat) (l : Frame) : (s.dramAsk w b a n l).isl = s.isl := rfl
@[simp] theorem State.dramAsk_ports (s : State) (w : DramWho) (b : Bool) (a n : Nat) (l : Frame) : (s.dramAsk w b a n l).ports = s.ports := rfl
@[simp] theorem State.dramAsk_i2c (s : State) (w : DramWho) (b : Bool) (a n : Nat) (l : Frame) : (s.dramAsk w b a n l).i2c = s.i2c := rfl
@[simp] theorem State.dramAsk_bank0 (s : State) (w : DramWho) (b : Bool) (a n : Nat) (l : Frame) : (s.dramAsk w b a n l).bank0 = s.bank0 := rfl
@[simp] theorem State.dramAsk_bank1 (s : State) (w : DramWho) (b : Bool) (a n : Nat) (l : Frame) : (s.dramAsk w b a n l).bank1 = s.bank1 := rfl
@[simp] theorem State.dramAsk_curBank (s : State) (w : DramWho) (b : Bool) (a n : Nat) (l : Frame) : (s.dramAsk w b a n l).curBank = s.curBank := rfl
@[simp] theorem State.dramAsk_epoch (s : State) (w : DramWho) (b : Bool) (a n : Nat) (l : Frame) : (s.dramAsk w b a n l).epoch = s.epoch := rfl
@[simp] theorem State.dramAsk_pa (s : State) (w : DramWho) (b : Bool) (a n : Nat) (l : Frame) : (s.dramAsk w b a n l).pa = s.pa := rfl
@[simp] theorem State.dramAsk_pb (s : State) (w : DramWho) (b : Bool) (a n : Nat) (l : Frame) : (s.dramAsk w b a n l).pb = s.pb := rfl
@[simp] theorem State.dramAsk_si (s : State) (w : DramWho) (b : Bool) (a n : Nat) (l : Frame) : (s.dramAsk w b a n l).si = s.si := rfl
@[simp] theorem State.dramAsk_bi (s : State) (w : DramWho) (b : Bool) (a n : Nat) (l : Frame) : (s.dramAsk w b a n l).bi = s.bi := rfl
@[simp] theorem State.dramAsk_ti (s : State) (w : DramWho) (b : Bool) (a n : Nat) (l : Frame) : (s.dramAsk w b a n l).ti = s.ti := rfl
@[simp] theorem State.dramAsk_ringE (s : State) (w : DramWho) (b : Bool) (a n : Nat) (l : Frame) : (s.dramAsk w b a n l).ringE = s.ringE := rfl
@[simp] theorem State.dramAsk_ringW (s : State) (w : DramWho) (b : Bool) (a n : Nat) (l : Frame) : (s.dramAsk w b a n l).ringW = s.ringW := rfl
@[simp] theorem State.dramAsk_rsch (s : State) (w : DramWho) (b : Bool) (a n : Nat) (l : Frame) : (s.dramAsk w b a n l).rsch = s.rsch := rfl
@[simp] theorem State.dramAsk_gw (s : State) (w : DramWho) (b : Bool) (a n : Nat) (l : Frame) : (s.dramAsk w b a n l).gw = s.gw := rfl
@[simp] theorem State.dramAsk_img (s : State) (w : DramWho) (b : Bool) (a n : Nat) (l : Frame) : (s.dramAsk w b a n l).img = s.img := rfl
@[simp] theorem State.dramAsk_boot (s : State) (w : DramWho) (b : Bool) (a n : Nat) (l : Frame) : (s.dramAsk w b a n l).boot = s.boot := rfl
@[simp] theorem State.dramAsk_mg (s : State) (w : DramWho) (b : Bool) (a n : Nat) (l : Frame) : (s.dramAsk w b a n l).mg = s.mg := rfl
@[simp] theorem State.dramAsk_fl (s : State) (w : DramWho) (b : Bool) (a n : Nat) (l : Frame) : (s.dramAsk w b a n l).fl = s.fl := rfl
@[simp] theorem State.dramAsk_tag (s : State) (w : DramWho) (b : Bool) (a n : Nat) (l : Frame) : (s.dramAsk w b a n l).tag = s.tag := rfl
@[simp] theorem State.dramAsk_cnt (s : State) (w : DramWho) (b : Bool) (a n : Nat) (l : Frame) : (s.dramAsk w b a n l).cnt = s.cnt := rfl
@[simp] theorem State.dramAsk_sram (s : State) (w : DramWho) (b : Bool) (a n : Nat) (l : Frame) : (s.dramAsk w b a n l).sram = s.sram := rfl
@[simp] theorem State.dramAsk_dram (s : State) (w : DramWho) (b : Bool) (a n : Nat) (l : Frame) : (s.dramAsk w b a n l).dram = s.dram := rfl
@[simp] theorem State.dramAsk_flash (s : State) (w : DramWho) (b : Bool) (a n : Nat) (l : Frame) : (s.dramAsk w b a n l).flash = s.flash := rfl
@[simp] theorem State.dramAsk_host (s : State) (w : DramWho) (b : Bool) (a n : Nat) (l : Frame) : (s.dramAsk w b a n l).host = s.host := rfl
@[simp] theorem State.dramAsk_pending (s : State) (w : DramWho) (b : Bool) (a n : Nat) (l : Frame) : (s.dramAsk w b a n l).pending = s.pending := rfl

/- ## State.dramWrite -/
@[simp] theorem State.dramWrite_regs (s : State) (a : Nat) (l : Frame) : (s.dramWrite a l).regs = s.regs := rfl
@[simp] theorem State.dramWrite_now (s : State) (a : Nat) (l : Frame) : (s.dramWrite a l).now = s.now := rfl
@[simp] theorem State.dramWrite_resp (s : State) (a : Nat) (l : Frame) : (s.dramWrite a l).resp = s.resp := rfl
@[simp] theorem State.dramWrite_out (s : State) (a : Nat) (l : Frame) : (s.dramWrite a l).out = s.out := rfl
@[simp] theorem State.dramWrite_free (s : State) (a : Nat) (l : Frame) : (s.dramWrite a l).free = s.free := rfl
@[simp] theorem State.dramWrite_log (s : State) (a : Nat) (l : Frame) : (s.dramWrite a l).log = s.log := rfl
@[simp] theorem State.dramWrite_chans (s : State) (a : Nat) (l : Frame) : (s.dramWrite a l).chans = s.chans := rfl
@[simp] theorem State.dramWrite_isl (s : State) (a : Nat) (l : Frame) : (s.dramWrite a l).isl = s.isl := rfl
@[simp] theorem State.dramWrite_ports (s : State) (a : Nat) (l : Frame) : (s.dramWrite a l).ports = s.ports := rfl
@[simp] theorem State.dramWrite_i2c (s : State) (a : Nat) (l : Frame) : (s.dramWrite a l).i2c = s.i2c := rfl
@[simp] theorem State.dramWrite_bank0 (s : State) (a : Nat) (l : Frame) : (s.dramWrite a l).bank0 = s.bank0 := rfl
@[simp] theorem State.dramWrite_bank1 (s : State) (a : Nat) (l : Frame) : (s.dramWrite a l).bank1 = s.bank1 := rfl
@[simp] theorem State.dramWrite_curBank (s : State) (a : Nat) (l : Frame) : (s.dramWrite a l).curBank = s.curBank := rfl
@[simp] theorem State.dramWrite_epoch (s : State) (a : Nat) (l : Frame) : (s.dramWrite a l).epoch = s.epoch := rfl
@[simp] theorem State.dramWrite_pa (s : State) (a : Nat) (l : Frame) : (s.dramWrite a l).pa = s.pa := rfl
@[simp] theorem State.dramWrite_pb (s : State) (a : Nat) (l : Frame) : (s.dramWrite a l).pb = s.pb := rfl
@[simp] theorem State.dramWrite_si (s : State) (a : Nat) (l : Frame) : (s.dramWrite a l).si = s.si := rfl
@[simp] theorem State.dramWrite_bi (s : State) (a : Nat) (l : Frame) : (s.dramWrite a l).bi = s.bi := rfl
@[simp] theorem State.dramWrite_ti (s : State) (a : Nat) (l : Frame) : (s.dramWrite a l).ti = s.ti := rfl
@[simp] theorem State.dramWrite_ringE (s : State) (a : Nat) (l : Frame) : (s.dramWrite a l).ringE = s.ringE := rfl
@[simp] theorem State.dramWrite_ringW (s : State) (a : Nat) (l : Frame) : (s.dramWrite a l).ringW = s.ringW := rfl
@[simp] theorem State.dramWrite_rsch (s : State) (a : Nat) (l : Frame) : (s.dramWrite a l).rsch = s.rsch := rfl
@[simp] theorem State.dramWrite_gw (s : State) (a : Nat) (l : Frame) : (s.dramWrite a l).gw = s.gw := rfl
@[simp] theorem State.dramWrite_img (s : State) (a : Nat) (l : Frame) : (s.dramWrite a l).img = s.img := rfl
@[simp] theorem State.dramWrite_boot (s : State) (a : Nat) (l : Frame) : (s.dramWrite a l).boot = s.boot := rfl
@[simp] theorem State.dramWrite_di (s : State) (a : Nat) (l : Frame) : (s.dramWrite a l).di = s.di := rfl
@[simp] theorem State.dramWrite_mg (s : State) (a : Nat) (l : Frame) : (s.dramWrite a l).mg = s.mg := rfl
@[simp] theorem State.dramWrite_fl (s : State) (a : Nat) (l : Frame) : (s.dramWrite a l).fl = s.fl := rfl
@[simp] theorem State.dramWrite_tag (s : State) (a : Nat) (l : Frame) : (s.dramWrite a l).tag = s.tag := rfl
@[simp] theorem State.dramWrite_cnt (s : State) (a : Nat) (l : Frame) : (s.dramWrite a l).cnt = s.cnt := rfl
@[simp] theorem State.dramWrite_sram (s : State) (a : Nat) (l : Frame) : (s.dramWrite a l).sram = s.sram := rfl
@[simp] theorem State.dramWrite_dram (s : State) (a : Nat) (l : Frame) : (s.dramWrite a l).dram = writeBytes ramBlank s.dram a (veil Config.dramByte s.di.inits a l) := rfl
@[simp] theorem State.dramWrite_flash (s : State) (a : Nat) (l : Frame) : (s.dramWrite a l).flash = s.flash := rfl
@[simp] theorem State.dramWrite_host (s : State) (a : Nat) (l : Frame) : (s.dramWrite a l).host = s.host := rfl
@[simp] theorem State.dramWrite_pending (s : State) (a : Nat) (l : Frame) : (s.dramWrite a l).pending = s.pending := rfl

/- ## State.sramWrite -/
@[simp] theorem State.sramWrite_regs (s : State) (a : Nat) (l : Frame) : (s.sramWrite a l).regs = s.regs := rfl
@[simp] theorem State.sramWrite_now (s : State) (a : Nat) (l : Frame) : (s.sramWrite a l).now = s.now := rfl
@[simp] theorem State.sramWrite_resp (s : State) (a : Nat) (l : Frame) : (s.sramWrite a l).resp = s.resp := rfl
@[simp] theorem State.sramWrite_out (s : State) (a : Nat) (l : Frame) : (s.sramWrite a l).out = s.out := rfl
@[simp] theorem State.sramWrite_free (s : State) (a : Nat) (l : Frame) : (s.sramWrite a l).free = s.free := rfl
@[simp] theorem State.sramWrite_log (s : State) (a : Nat) (l : Frame) : (s.sramWrite a l).log = s.log := rfl
@[simp] theorem State.sramWrite_chans (s : State) (a : Nat) (l : Frame) : (s.sramWrite a l).chans = s.chans := rfl
@[simp] theorem State.sramWrite_isl (s : State) (a : Nat) (l : Frame) : (s.sramWrite a l).isl = s.isl := rfl
@[simp] theorem State.sramWrite_ports (s : State) (a : Nat) (l : Frame) : (s.sramWrite a l).ports = s.ports := rfl
@[simp] theorem State.sramWrite_i2c (s : State) (a : Nat) (l : Frame) : (s.sramWrite a l).i2c = s.i2c := rfl
@[simp] theorem State.sramWrite_bank0 (s : State) (a : Nat) (l : Frame) : (s.sramWrite a l).bank0 = s.bank0 := rfl
@[simp] theorem State.sramWrite_bank1 (s : State) (a : Nat) (l : Frame) : (s.sramWrite a l).bank1 = s.bank1 := rfl
@[simp] theorem State.sramWrite_curBank (s : State) (a : Nat) (l : Frame) : (s.sramWrite a l).curBank = s.curBank := rfl
@[simp] theorem State.sramWrite_epoch (s : State) (a : Nat) (l : Frame) : (s.sramWrite a l).epoch = s.epoch := rfl
@[simp] theorem State.sramWrite_pa (s : State) (a : Nat) (l : Frame) : (s.sramWrite a l).pa = s.pa := rfl
@[simp] theorem State.sramWrite_pb (s : State) (a : Nat) (l : Frame) : (s.sramWrite a l).pb = s.pb := rfl
@[simp] theorem State.sramWrite_si (s : State) (a : Nat) (l : Frame) : (s.sramWrite a l).si = s.si := rfl
@[simp] theorem State.sramWrite_bi (s : State) (a : Nat) (l : Frame) : (s.sramWrite a l).bi = s.bi := rfl
@[simp] theorem State.sramWrite_ti (s : State) (a : Nat) (l : Frame) : (s.sramWrite a l).ti = s.ti := rfl
@[simp] theorem State.sramWrite_ringE (s : State) (a : Nat) (l : Frame) : (s.sramWrite a l).ringE = s.ringE := rfl
@[simp] theorem State.sramWrite_ringW (s : State) (a : Nat) (l : Frame) : (s.sramWrite a l).ringW = s.ringW := rfl
@[simp] theorem State.sramWrite_rsch (s : State) (a : Nat) (l : Frame) : (s.sramWrite a l).rsch = s.rsch := rfl
@[simp] theorem State.sramWrite_gw (s : State) (a : Nat) (l : Frame) : (s.sramWrite a l).gw = s.gw := rfl
@[simp] theorem State.sramWrite_img (s : State) (a : Nat) (l : Frame) : (s.sramWrite a l).img = s.img := rfl
@[simp] theorem State.sramWrite_boot (s : State) (a : Nat) (l : Frame) : (s.sramWrite a l).boot = s.boot := rfl
@[simp] theorem State.sramWrite_di (s : State) (a : Nat) (l : Frame) : (s.sramWrite a l).di = s.di := rfl
@[simp] theorem State.sramWrite_mg (s : State) (a : Nat) (l : Frame) : (s.sramWrite a l).mg = s.mg := rfl
@[simp] theorem State.sramWrite_fl (s : State) (a : Nat) (l : Frame) : (s.sramWrite a l).fl = s.fl := rfl
@[simp] theorem State.sramWrite_tag (s : State) (a : Nat) (l : Frame) : (s.sramWrite a l).tag = s.tag := rfl
@[simp] theorem State.sramWrite_cnt (s : State) (a : Nat) (l : Frame) : (s.sramWrite a l).cnt = s.cnt := rfl
@[simp] theorem State.sramWrite_sram (s : State) (a : Nat) (l : Frame) : (s.sramWrite a l).sram = writeBytes ramBlank s.sram a (veil Config.sramByte s.mg.resets a l) := rfl
@[simp] theorem State.sramWrite_dram (s : State) (a : Nat) (l : Frame) : (s.sramWrite a l).dram = s.dram := rfl
@[simp] theorem State.sramWrite_flash (s : State) (a : Nat) (l : Frame) : (s.sramWrite a l).flash = s.flash := rfl
@[simp] theorem State.sramWrite_host (s : State) (a : Nat) (l : Frame) : (s.sramWrite a l).host = s.host := rfl
@[simp] theorem State.sramWrite_pending (s : State) (a : Nat) (l : Frame) : (s.sramWrite a l).pending = s.pending := rfl

/- ## State.flashWrite -/
@[simp] theorem State.flashWrite_regs (s : State) (a : Nat) (l : Frame) : (s.flashWrite a l).regs = s.regs := rfl
@[simp] theorem State.flashWrite_now (s : State) (a : Nat) (l : Frame) : (s.flashWrite a l).now = s.now := rfl
@[simp] theorem State.flashWrite_resp (s : State) (a : Nat) (l : Frame) : (s.flashWrite a l).resp = s.resp := rfl
@[simp] theorem State.flashWrite_out (s : State) (a : Nat) (l : Frame) : (s.flashWrite a l).out = s.out := rfl
@[simp] theorem State.flashWrite_free (s : State) (a : Nat) (l : Frame) : (s.flashWrite a l).free = s.free := rfl
@[simp] theorem State.flashWrite_log (s : State) (a : Nat) (l : Frame) : (s.flashWrite a l).log = s.log := rfl
@[simp] theorem State.flashWrite_chans (s : State) (a : Nat) (l : Frame) : (s.flashWrite a l).chans = s.chans := rfl
@[simp] theorem State.flashWrite_isl (s : State) (a : Nat) (l : Frame) : (s.flashWrite a l).isl = s.isl := rfl
@[simp] theorem State.flashWrite_ports (s : State) (a : Nat) (l : Frame) : (s.flashWrite a l).ports = s.ports := rfl
@[simp] theorem State.flashWrite_i2c (s : State) (a : Nat) (l : Frame) : (s.flashWrite a l).i2c = s.i2c := rfl
@[simp] theorem State.flashWrite_bank0 (s : State) (a : Nat) (l : Frame) : (s.flashWrite a l).bank0 = s.bank0 := rfl
@[simp] theorem State.flashWrite_bank1 (s : State) (a : Nat) (l : Frame) : (s.flashWrite a l).bank1 = s.bank1 := rfl
@[simp] theorem State.flashWrite_curBank (s : State) (a : Nat) (l : Frame) : (s.flashWrite a l).curBank = s.curBank := rfl
@[simp] theorem State.flashWrite_epoch (s : State) (a : Nat) (l : Frame) : (s.flashWrite a l).epoch = s.epoch := rfl
@[simp] theorem State.flashWrite_pa (s : State) (a : Nat) (l : Frame) : (s.flashWrite a l).pa = s.pa := rfl
@[simp] theorem State.flashWrite_pb (s : State) (a : Nat) (l : Frame) : (s.flashWrite a l).pb = s.pb := rfl
@[simp] theorem State.flashWrite_si (s : State) (a : Nat) (l : Frame) : (s.flashWrite a l).si = s.si := rfl
@[simp] theorem State.flashWrite_bi (s : State) (a : Nat) (l : Frame) : (s.flashWrite a l).bi = s.bi := rfl
@[simp] theorem State.flashWrite_ti (s : State) (a : Nat) (l : Frame) : (s.flashWrite a l).ti = s.ti := rfl
@[simp] theorem State.flashWrite_ringE (s : State) (a : Nat) (l : Frame) : (s.flashWrite a l).ringE = s.ringE := rfl
@[simp] theorem State.flashWrite_ringW (s : State) (a : Nat) (l : Frame) : (s.flashWrite a l).ringW = s.ringW := rfl
@[simp] theorem State.flashWrite_rsch (s : State) (a : Nat) (l : Frame) : (s.flashWrite a l).rsch = s.rsch := rfl
@[simp] theorem State.flashWrite_gw (s : State) (a : Nat) (l : Frame) : (s.flashWrite a l).gw = s.gw := rfl
@[simp] theorem State.flashWrite_img (s : State) (a : Nat) (l : Frame) : (s.flashWrite a l).img = s.img := rfl
@[simp] theorem State.flashWrite_boot (s : State) (a : Nat) (l : Frame) : (s.flashWrite a l).boot = s.boot := rfl
@[simp] theorem State.flashWrite_di (s : State) (a : Nat) (l : Frame) : (s.flashWrite a l).di = s.di := rfl
@[simp] theorem State.flashWrite_mg (s : State) (a : Nat) (l : Frame) : (s.flashWrite a l).mg = s.mg := rfl
@[simp] theorem State.flashWrite_fl (s : State) (a : Nat) (l : Frame) : (s.flashWrite a l).fl = s.fl := rfl
@[simp] theorem State.flashWrite_tag (s : State) (a : Nat) (l : Frame) : (s.flashWrite a l).tag = s.tag := rfl
@[simp] theorem State.flashWrite_cnt (s : State) (a : Nat) (l : Frame) : (s.flashWrite a l).cnt = s.cnt := rfl
@[simp] theorem State.flashWrite_sram (s : State) (a : Nat) (l : Frame) : (s.flashWrite a l).sram = s.sram := rfl
@[simp] theorem State.flashWrite_dram (s : State) (a : Nat) (l : Frame) : (s.flashWrite a l).dram = s.dram := rfl
@[simp] theorem State.flashWrite_flash (s : State) (a : Nat) (l : Frame) : (s.flashWrite a l).flash = writeBytes flashBlank s.flash a l := rfl
@[simp] theorem State.flashWrite_host (s : State) (a : Nat) (l : Frame) : (s.flashWrite a l).host = s.host := rfl
@[simp] theorem State.flashWrite_pending (s : State) (a : Nat) (l : Frame) : (s.flashWrite a l).pending = s.pending := rfl

/- ## State.hostWrite -/
@[simp] theorem State.hostWrite_regs (s : State) (a : Nat) (l : Frame) : (s.hostWrite a l).regs = s.regs := rfl
@[simp] theorem State.hostWrite_now (s : State) (a : Nat) (l : Frame) : (s.hostWrite a l).now = s.now := rfl
@[simp] theorem State.hostWrite_resp (s : State) (a : Nat) (l : Frame) : (s.hostWrite a l).resp = s.resp := rfl
@[simp] theorem State.hostWrite_out (s : State) (a : Nat) (l : Frame) : (s.hostWrite a l).out = s.out := rfl
@[simp] theorem State.hostWrite_free (s : State) (a : Nat) (l : Frame) : (s.hostWrite a l).free = s.free := rfl
@[simp] theorem State.hostWrite_log (s : State) (a : Nat) (l : Frame) : (s.hostWrite a l).log = s.log := rfl
@[simp] theorem State.hostWrite_chans (s : State) (a : Nat) (l : Frame) : (s.hostWrite a l).chans = s.chans := rfl
@[simp] theorem State.hostWrite_isl (s : State) (a : Nat) (l : Frame) : (s.hostWrite a l).isl = s.isl := rfl
@[simp] theorem State.hostWrite_ports (s : State) (a : Nat) (l : Frame) : (s.hostWrite a l).ports = s.ports := rfl
@[simp] theorem State.hostWrite_i2c (s : State) (a : Nat) (l : Frame) : (s.hostWrite a l).i2c = s.i2c := rfl
@[simp] theorem State.hostWrite_bank0 (s : State) (a : Nat) (l : Frame) : (s.hostWrite a l).bank0 = s.bank0 := rfl
@[simp] theorem State.hostWrite_bank1 (s : State) (a : Nat) (l : Frame) : (s.hostWrite a l).bank1 = s.bank1 := rfl
@[simp] theorem State.hostWrite_curBank (s : State) (a : Nat) (l : Frame) : (s.hostWrite a l).curBank = s.curBank := rfl
@[simp] theorem State.hostWrite_epoch (s : State) (a : Nat) (l : Frame) : (s.hostWrite a l).epoch = s.epoch := rfl
@[simp] theorem State.hostWrite_pa (s : State) (a : Nat) (l : Frame) : (s.hostWrite a l).pa = s.pa := rfl
@[simp] theorem State.hostWrite_pb (s : State) (a : Nat) (l : Frame) : (s.hostWrite a l).pb = s.pb := rfl
@[simp] theorem State.hostWrite_si (s : State) (a : Nat) (l : Frame) : (s.hostWrite a l).si = s.si := rfl
@[simp] theorem State.hostWrite_bi (s : State) (a : Nat) (l : Frame) : (s.hostWrite a l).bi = s.bi := rfl
@[simp] theorem State.hostWrite_ti (s : State) (a : Nat) (l : Frame) : (s.hostWrite a l).ti = s.ti := rfl
@[simp] theorem State.hostWrite_ringE (s : State) (a : Nat) (l : Frame) : (s.hostWrite a l).ringE = s.ringE := rfl
@[simp] theorem State.hostWrite_ringW (s : State) (a : Nat) (l : Frame) : (s.hostWrite a l).ringW = s.ringW := rfl
@[simp] theorem State.hostWrite_rsch (s : State) (a : Nat) (l : Frame) : (s.hostWrite a l).rsch = s.rsch := rfl
@[simp] theorem State.hostWrite_gw (s : State) (a : Nat) (l : Frame) : (s.hostWrite a l).gw = s.gw := rfl
@[simp] theorem State.hostWrite_img (s : State) (a : Nat) (l : Frame) : (s.hostWrite a l).img = s.img := rfl
@[simp] theorem State.hostWrite_boot (s : State) (a : Nat) (l : Frame) : (s.hostWrite a l).boot = s.boot := rfl
@[simp] theorem State.hostWrite_di (s : State) (a : Nat) (l : Frame) : (s.hostWrite a l).di = s.di := rfl
@[simp] theorem State.hostWrite_mg (s : State) (a : Nat) (l : Frame) : (s.hostWrite a l).mg = s.mg := rfl
@[simp] theorem State.hostWrite_fl (s : State) (a : Nat) (l : Frame) : (s.hostWrite a l).fl = s.fl := rfl
@[simp] theorem State.hostWrite_tag (s : State) (a : Nat) (l : Frame) : (s.hostWrite a l).tag = s.tag := rfl
@[simp] theorem State.hostWrite_cnt (s : State) (a : Nat) (l : Frame) : (s.hostWrite a l).cnt = s.cnt := rfl
@[simp] theorem State.hostWrite_sram (s : State) (a : Nat) (l : Frame) : (s.hostWrite a l).sram = s.sram := rfl
@[simp] theorem State.hostWrite_dram (s : State) (a : Nat) (l : Frame) : (s.hostWrite a l).dram = s.dram := rfl
@[simp] theorem State.hostWrite_flash (s : State) (a : Nat) (l : Frame) : (s.hostWrite a l).flash = s.flash := rfl
@[simp] theorem State.hostWrite_host (s : State) (a : Nat) (l : Frame) : (s.hostWrite a l).host = writeBytes ramBlank s.host a l := rfl
@[simp] theorem State.hostWrite_pending (s : State) (a : Nat) (l : Frame) : (s.hostWrite a l).pending = s.pending := rfl

/- ## State.setMac -/
@[simp] theorem State.setMac_regs (s : State) (p : Nat) (m : PortMac) : (s.setMac p m).regs = s.regs := rfl
@[simp] theorem State.setMac_now (s : State) (p : Nat) (m : PortMac) : (s.setMac p m).now = s.now := rfl
@[simp] theorem State.setMac_resp (s : State) (p : Nat) (m : PortMac) : (s.setMac p m).resp = s.resp := rfl
@[simp] theorem State.setMac_out (s : State) (p : Nat) (m : PortMac) : (s.setMac p m).out = s.out := rfl
@[simp] theorem State.setMac_free (s : State) (p : Nat) (m : PortMac) : (s.setMac p m).free = s.free := rfl
@[simp] theorem State.setMac_log (s : State) (p : Nat) (m : PortMac) : (s.setMac p m).log = s.log := rfl
@[simp] theorem State.setMac_chans (s : State) (p : Nat) (m : PortMac) : (s.setMac p m).chans = s.chans := rfl
@[simp] theorem State.setMac_isl (s : State) (p : Nat) (m : PortMac) : (s.setMac p m).isl = s.isl := rfl
@[simp] theorem State.setMac_ports (s : State) (p : Nat) (m : PortMac) : (s.setMac p m).ports = nput PortMac.empty s.ports p m := rfl
@[simp] theorem State.setMac_i2c (s : State) (p : Nat) (m : PortMac) : (s.setMac p m).i2c = s.i2c := rfl
@[simp] theorem State.setMac_bank0 (s : State) (p : Nat) (m : PortMac) : (s.setMac p m).bank0 = s.bank0 := rfl
@[simp] theorem State.setMac_bank1 (s : State) (p : Nat) (m : PortMac) : (s.setMac p m).bank1 = s.bank1 := rfl
@[simp] theorem State.setMac_curBank (s : State) (p : Nat) (m : PortMac) : (s.setMac p m).curBank = s.curBank := rfl
@[simp] theorem State.setMac_epoch (s : State) (p : Nat) (m : PortMac) : (s.setMac p m).epoch = s.epoch := rfl
@[simp] theorem State.setMac_pa (s : State) (p : Nat) (m : PortMac) : (s.setMac p m).pa = s.pa := rfl
@[simp] theorem State.setMac_pb (s : State) (p : Nat) (m : PortMac) : (s.setMac p m).pb = s.pb := rfl
@[simp] theorem State.setMac_si (s : State) (p : Nat) (m : PortMac) : (s.setMac p m).si = s.si := rfl
@[simp] theorem State.setMac_bi (s : State) (p : Nat) (m : PortMac) : (s.setMac p m).bi = s.bi := rfl
@[simp] theorem State.setMac_ti (s : State) (p : Nat) (m : PortMac) : (s.setMac p m).ti = s.ti := rfl
@[simp] theorem State.setMac_ringE (s : State) (p : Nat) (m : PortMac) : (s.setMac p m).ringE = s.ringE := rfl
@[simp] theorem State.setMac_ringW (s : State) (p : Nat) (m : PortMac) : (s.setMac p m).ringW = s.ringW := rfl
@[simp] theorem State.setMac_rsch (s : State) (p : Nat) (m : PortMac) : (s.setMac p m).rsch = s.rsch := rfl
@[simp] theorem State.setMac_gw (s : State) (p : Nat) (m : PortMac) : (s.setMac p m).gw = s.gw := rfl
@[simp] theorem State.setMac_img (s : State) (p : Nat) (m : PortMac) : (s.setMac p m).img = s.img := rfl
@[simp] theorem State.setMac_boot (s : State) (p : Nat) (m : PortMac) : (s.setMac p m).boot = s.boot := rfl
@[simp] theorem State.setMac_di (s : State) (p : Nat) (m : PortMac) : (s.setMac p m).di = s.di := rfl
@[simp] theorem State.setMac_mg (s : State) (p : Nat) (m : PortMac) : (s.setMac p m).mg = s.mg := rfl
@[simp] theorem State.setMac_fl (s : State) (p : Nat) (m : PortMac) : (s.setMac p m).fl = s.fl := rfl
@[simp] theorem State.setMac_tag (s : State) (p : Nat) (m : PortMac) : (s.setMac p m).tag = s.tag := rfl
@[simp] theorem State.setMac_cnt (s : State) (p : Nat) (m : PortMac) : (s.setMac p m).cnt = s.cnt := rfl
@[simp] theorem State.setMac_sram (s : State) (p : Nat) (m : PortMac) : (s.setMac p m).sram = s.sram := rfl
@[simp] theorem State.setMac_dram (s : State) (p : Nat) (m : PortMac) : (s.setMac p m).dram = s.dram := rfl
@[simp] theorem State.setMac_flash (s : State) (p : Nat) (m : PortMac) : (s.setMac p m).flash = s.flash := rfl
@[simp] theorem State.setMac_host (s : State) (p : Nat) (m : PortMac) : (s.setMac p m).host = s.host := rfl
@[simp] theorem State.setMac_pending (s : State) (p : Nat) (m : PortMac) : (s.setMac p m).pending = s.pending := rfl

/- ## State.setChan -/
@[simp] theorem State.setChan_regs (s : State) (c : Chan) (v : Channel) : (s.setChan c v).regs = s.regs := rfl
@[simp] theorem State.setChan_now (s : State) (c : Chan) (v : Channel) : (s.setChan c v).now = s.now := rfl
@[simp] theorem State.setChan_resp (s : State) (c : Chan) (v : Channel) : (s.setChan c v).resp = s.resp := rfl
@[simp] theorem State.setChan_out (s : State) (c : Chan) (v : Channel) : (s.setChan c v).out = s.out := rfl
@[simp] theorem State.setChan_free (s : State) (c : Chan) (v : Channel) : (s.setChan c v).free = s.free := rfl
@[simp] theorem State.setChan_log (s : State) (c : Chan) (v : Channel) : (s.setChan c v).log = s.log := rfl
@[simp] theorem State.setChan_chans (s : State) (c : Chan) (v : Channel) : (s.setChan c v).chans = nset s.chans (chanKey c) v := rfl
@[simp] theorem State.setChan_isl (s : State) (c : Chan) (v : Channel) : (s.setChan c v).isl = s.isl := rfl
@[simp] theorem State.setChan_ports (s : State) (c : Chan) (v : Channel) : (s.setChan c v).ports = s.ports := rfl
@[simp] theorem State.setChan_i2c (s : State) (c : Chan) (v : Channel) : (s.setChan c v).i2c = s.i2c := rfl
@[simp] theorem State.setChan_bank0 (s : State) (c : Chan) (v : Channel) : (s.setChan c v).bank0 = s.bank0 := rfl
@[simp] theorem State.setChan_bank1 (s : State) (c : Chan) (v : Channel) : (s.setChan c v).bank1 = s.bank1 := rfl
@[simp] theorem State.setChan_curBank (s : State) (c : Chan) (v : Channel) : (s.setChan c v).curBank = s.curBank := rfl
@[simp] theorem State.setChan_epoch (s : State) (c : Chan) (v : Channel) : (s.setChan c v).epoch = s.epoch := rfl
@[simp] theorem State.setChan_pa (s : State) (c : Chan) (v : Channel) : (s.setChan c v).pa = s.pa := rfl
@[simp] theorem State.setChan_pb (s : State) (c : Chan) (v : Channel) : (s.setChan c v).pb = s.pb := rfl
@[simp] theorem State.setChan_si (s : State) (c : Chan) (v : Channel) : (s.setChan c v).si = s.si := rfl
@[simp] theorem State.setChan_bi (s : State) (c : Chan) (v : Channel) : (s.setChan c v).bi = s.bi := rfl
@[simp] theorem State.setChan_ti (s : State) (c : Chan) (v : Channel) : (s.setChan c v).ti = s.ti := rfl
@[simp] theorem State.setChan_ringE (s : State) (c : Chan) (v : Channel) : (s.setChan c v).ringE = s.ringE := rfl
@[simp] theorem State.setChan_ringW (s : State) (c : Chan) (v : Channel) : (s.setChan c v).ringW = s.ringW := rfl
@[simp] theorem State.setChan_rsch (s : State) (c : Chan) (v : Channel) : (s.setChan c v).rsch = s.rsch := rfl
@[simp] theorem State.setChan_gw (s : State) (c : Chan) (v : Channel) : (s.setChan c v).gw = s.gw := rfl
@[simp] theorem State.setChan_img (s : State) (c : Chan) (v : Channel) : (s.setChan c v).img = s.img := rfl
@[simp] theorem State.setChan_boot (s : State) (c : Chan) (v : Channel) : (s.setChan c v).boot = s.boot := rfl
@[simp] theorem State.setChan_di (s : State) (c : Chan) (v : Channel) : (s.setChan c v).di = s.di := rfl
@[simp] theorem State.setChan_mg (s : State) (c : Chan) (v : Channel) : (s.setChan c v).mg = s.mg := rfl
@[simp] theorem State.setChan_fl (s : State) (c : Chan) (v : Channel) : (s.setChan c v).fl = s.fl := rfl
@[simp] theorem State.setChan_tag (s : State) (c : Chan) (v : Channel) : (s.setChan c v).tag = s.tag := rfl
@[simp] theorem State.setChan_cnt (s : State) (c : Chan) (v : Channel) : (s.setChan c v).cnt = s.cnt := rfl
@[simp] theorem State.setChan_sram (s : State) (c : Chan) (v : Channel) : (s.setChan c v).sram = s.sram := rfl
@[simp] theorem State.setChan_dram (s : State) (c : Chan) (v : Channel) : (s.setChan c v).dram = s.dram := rfl
@[simp] theorem State.setChan_flash (s : State) (c : Chan) (v : Channel) : (s.setChan c v).flash = s.flash := rfl
@[simp] theorem State.setChan_host (s : State) (c : Chan) (v : Channel) : (s.setChan c v).host = s.host := rfl
@[simp] theorem State.setChan_pending (s : State) (c : Chan) (v : Channel) : (s.setChan c v).pending = s.pending := rfl

/- ## State.setBq -/
@[simp] theorem State.setBq_regs (s : State) (q : Nat) (b : BufQueue) : (s.setBq q b).regs = s.regs := rfl
@[simp] theorem State.setBq_now (s : State) (q : Nat) (b : BufQueue) : (s.setBq q b).now = s.now := rfl
@[simp] theorem State.setBq_resp (s : State) (q : Nat) (b : BufQueue) : (s.setBq q b).resp = s.resp := rfl
@[simp] theorem State.setBq_out (s : State) (q : Nat) (b : BufQueue) : (s.setBq q b).out = s.out := rfl
@[simp] theorem State.setBq_free (s : State) (q : Nat) (b : BufQueue) : (s.setBq q b).free = s.free := rfl
@[simp] theorem State.setBq_log (s : State) (q : Nat) (b : BufQueue) : (s.setBq q b).log = s.log := rfl
@[simp] theorem State.setBq_chans (s : State) (q : Nat) (b : BufQueue) : (s.setBq q b).chans = s.chans := rfl
@[simp] theorem State.setBq_isl (s : State) (q : Nat) (b : BufQueue) : (s.setBq q b).isl = s.isl := rfl
@[simp] theorem State.setBq_ports (s : State) (q : Nat) (b : BufQueue) : (s.setBq q b).ports = s.ports := rfl
@[simp] theorem State.setBq_i2c (s : State) (q : Nat) (b : BufQueue) : (s.setBq q b).i2c = s.i2c := rfl
@[simp] theorem State.setBq_bank0 (s : State) (q : Nat) (b : BufQueue) : (s.setBq q b).bank0 = s.bank0 := rfl
@[simp] theorem State.setBq_bank1 (s : State) (q : Nat) (b : BufQueue) : (s.setBq q b).bank1 = s.bank1 := rfl
@[simp] theorem State.setBq_curBank (s : State) (q : Nat) (b : BufQueue) : (s.setBq q b).curBank = s.curBank := rfl
@[simp] theorem State.setBq_epoch (s : State) (q : Nat) (b : BufQueue) : (s.setBq q b).epoch = s.epoch := rfl
@[simp] theorem State.setBq_pa (s : State) (q : Nat) (b : BufQueue) : (s.setBq q b).pa = s.pa := rfl
@[simp] theorem State.setBq_pb (s : State) (q : Nat) (b : BufQueue) : (s.setBq q b).pb = s.pb := rfl
@[simp] theorem State.setBq_si (s : State) (q : Nat) (b : BufQueue) : (s.setBq q b).si = s.si := rfl
@[simp] theorem State.setBq_ti (s : State) (q : Nat) (b : BufQueue) : (s.setBq q b).ti = s.ti := rfl
@[simp] theorem State.setBq_ringE (s : State) (q : Nat) (b : BufQueue) : (s.setBq q b).ringE = s.ringE := rfl
@[simp] theorem State.setBq_ringW (s : State) (q : Nat) (b : BufQueue) : (s.setBq q b).ringW = s.ringW := rfl
@[simp] theorem State.setBq_rsch (s : State) (q : Nat) (b : BufQueue) : (s.setBq q b).rsch = s.rsch := rfl
@[simp] theorem State.setBq_gw (s : State) (q : Nat) (b : BufQueue) : (s.setBq q b).gw = s.gw := rfl
@[simp] theorem State.setBq_img (s : State) (q : Nat) (b : BufQueue) : (s.setBq q b).img = s.img := rfl
@[simp] theorem State.setBq_boot (s : State) (q : Nat) (b : BufQueue) : (s.setBq q b).boot = s.boot := rfl
@[simp] theorem State.setBq_di (s : State) (q : Nat) (b : BufQueue) : (s.setBq q b).di = s.di := rfl
@[simp] theorem State.setBq_mg (s : State) (q : Nat) (b : BufQueue) : (s.setBq q b).mg = s.mg := rfl
@[simp] theorem State.setBq_fl (s : State) (q : Nat) (b : BufQueue) : (s.setBq q b).fl = s.fl := rfl
@[simp] theorem State.setBq_tag (s : State) (q : Nat) (b : BufQueue) : (s.setBq q b).tag = s.tag := rfl
@[simp] theorem State.setBq_cnt (s : State) (q : Nat) (b : BufQueue) : (s.setBq q b).cnt = s.cnt := rfl
@[simp] theorem State.setBq_sram (s : State) (q : Nat) (b : BufQueue) : (s.setBq q b).sram = s.sram := rfl
@[simp] theorem State.setBq_dram (s : State) (q : Nat) (b : BufQueue) : (s.setBq q b).dram = s.dram := rfl
@[simp] theorem State.setBq_flash (s : State) (q : Nat) (b : BufQueue) : (s.setBq q b).flash = s.flash := rfl
@[simp] theorem State.setBq_host (s : State) (q : Nat) (b : BufQueue) : (s.setBq q b).host = s.host := rfl
@[simp] theorem State.setBq_pending (s : State) (q : Nat) (b : BufQueue) : (s.setBq q b).pending = s.pending := rfl

/- ## State.setBank -/
@[simp] theorem State.setBank_regs (s : State) (b : Bool) (k : Bank) : (s.setBank b k).regs = s.regs := by unfold State.setBank; split <;> rfl
@[simp] theorem State.setBank_now (s : State) (b : Bool) (k : Bank) : (s.setBank b k).now = s.now := by unfold State.setBank; split <;> rfl
@[simp] theorem State.setBank_resp (s : State) (b : Bool) (k : Bank) : (s.setBank b k).resp = s.resp := by unfold State.setBank; split <;> rfl
@[simp] theorem State.setBank_out (s : State) (b : Bool) (k : Bank) : (s.setBank b k).out = s.out := by unfold State.setBank; split <;> rfl
@[simp] theorem State.setBank_free (s : State) (b : Bool) (k : Bank) : (s.setBank b k).free = s.free := by unfold State.setBank; split <;> rfl
@[simp] theorem State.setBank_log (s : State) (b : Bool) (k : Bank) : (s.setBank b k).log = s.log := by unfold State.setBank; split <;> rfl
@[simp] theorem State.setBank_chans (s : State) (b : Bool) (k : Bank) : (s.setBank b k).chans = s.chans := by unfold State.setBank; split <;> rfl
@[simp] theorem State.setBank_isl (s : State) (b : Bool) (k : Bank) : (s.setBank b k).isl = s.isl := by unfold State.setBank; split <;> rfl
@[simp] theorem State.setBank_ports (s : State) (b : Bool) (k : Bank) : (s.setBank b k).ports = s.ports := by unfold State.setBank; split <;> rfl
@[simp] theorem State.setBank_i2c (s : State) (b : Bool) (k : Bank) : (s.setBank b k).i2c = s.i2c := by unfold State.setBank; split <;> rfl
@[simp] theorem State.setBank_curBank (s : State) (b : Bool) (k : Bank) : (s.setBank b k).curBank = s.curBank := by unfold State.setBank; split <;> rfl
@[simp] theorem State.setBank_epoch (s : State) (b : Bool) (k : Bank) : (s.setBank b k).epoch = s.epoch := by unfold State.setBank; split <;> rfl
@[simp] theorem State.setBank_pa (s : State) (b : Bool) (k : Bank) : (s.setBank b k).pa = s.pa := by unfold State.setBank; split <;> rfl
@[simp] theorem State.setBank_pb (s : State) (b : Bool) (k : Bank) : (s.setBank b k).pb = s.pb := by unfold State.setBank; split <;> rfl
@[simp] theorem State.setBank_si (s : State) (b : Bool) (k : Bank) : (s.setBank b k).si = s.si := by unfold State.setBank; split <;> rfl
@[simp] theorem State.setBank_bi (s : State) (b : Bool) (k : Bank) : (s.setBank b k).bi = s.bi := by unfold State.setBank; split <;> rfl
@[simp] theorem State.setBank_ti (s : State) (b : Bool) (k : Bank) : (s.setBank b k).ti = s.ti := by unfold State.setBank; split <;> rfl
@[simp] theorem State.setBank_ringE (s : State) (b : Bool) (k : Bank) : (s.setBank b k).ringE = s.ringE := by unfold State.setBank; split <;> rfl
@[simp] theorem State.setBank_ringW (s : State) (b : Bool) (k : Bank) : (s.setBank b k).ringW = s.ringW := by unfold State.setBank; split <;> rfl
@[simp] theorem State.setBank_rsch (s : State) (b : Bool) (k : Bank) : (s.setBank b k).rsch = s.rsch := by unfold State.setBank; split <;> rfl
@[simp] theorem State.setBank_gw (s : State) (b : Bool) (k : Bank) : (s.setBank b k).gw = s.gw := by unfold State.setBank; split <;> rfl
@[simp] theorem State.setBank_img (s : State) (b : Bool) (k : Bank) : (s.setBank b k).img = s.img := by unfold State.setBank; split <;> rfl
@[simp] theorem State.setBank_boot (s : State) (b : Bool) (k : Bank) : (s.setBank b k).boot = s.boot := by unfold State.setBank; split <;> rfl
@[simp] theorem State.setBank_di (s : State) (b : Bool) (k : Bank) : (s.setBank b k).di = s.di := by unfold State.setBank; split <;> rfl
@[simp] theorem State.setBank_mg (s : State) (b : Bool) (k : Bank) : (s.setBank b k).mg = s.mg := by unfold State.setBank; split <;> rfl
@[simp] theorem State.setBank_fl (s : State) (b : Bool) (k : Bank) : (s.setBank b k).fl = s.fl := by unfold State.setBank; split <;> rfl
@[simp] theorem State.setBank_tag (s : State) (b : Bool) (k : Bank) : (s.setBank b k).tag = s.tag := by unfold State.setBank; split <;> rfl
@[simp] theorem State.setBank_cnt (s : State) (b : Bool) (k : Bank) : (s.setBank b k).cnt = s.cnt := by unfold State.setBank; split <;> rfl
@[simp] theorem State.setBank_sram (s : State) (b : Bool) (k : Bank) : (s.setBank b k).sram = s.sram := by unfold State.setBank; split <;> rfl
@[simp] theorem State.setBank_dram (s : State) (b : Bool) (k : Bank) : (s.setBank b k).dram = s.dram := by unfold State.setBank; split <;> rfl
@[simp] theorem State.setBank_flash (s : State) (b : Bool) (k : Bank) : (s.setBank b k).flash = s.flash := by unfold State.setBank; split <;> rfl
@[simp] theorem State.setBank_host (s : State) (b : Bool) (k : Bank) : (s.setBank b k).host = s.host := by unfold State.setBank; split <;> rfl
@[simp] theorem State.setBank_pending (s : State) (b : Bool) (k : Bank) : (s.setBank b k).pending = s.pending := by unfold State.setBank; split <;> rfl

/- ## State.setPipe -/
@[simp] theorem State.setPipe_regs (s : State) (k : Nat) (p : Pipe) : (s.setPipe k p).regs = s.regs := by unfold State.setPipe; split <;> rfl
@[simp] theorem State.setPipe_now (s : State) (k : Nat) (p : Pipe) : (s.setPipe k p).now = s.now := by unfold State.setPipe; split <;> rfl
@[simp] theorem State.setPipe_resp (s : State) (k : Nat) (p : Pipe) : (s.setPipe k p).resp = s.resp := by unfold State.setPipe; split <;> rfl
@[simp] theorem State.setPipe_out (s : State) (k : Nat) (p : Pipe) : (s.setPipe k p).out = s.out := by unfold State.setPipe; split <;> rfl
@[simp] theorem State.setPipe_free (s : State) (k : Nat) (p : Pipe) : (s.setPipe k p).free = s.free := by unfold State.setPipe; split <;> rfl
@[simp] theorem State.setPipe_log (s : State) (k : Nat) (p : Pipe) : (s.setPipe k p).log = s.log := by unfold State.setPipe; split <;> rfl
@[simp] theorem State.setPipe_chans (s : State) (k : Nat) (p : Pipe) : (s.setPipe k p).chans = s.chans := by unfold State.setPipe; split <;> rfl
@[simp] theorem State.setPipe_isl (s : State) (k : Nat) (p : Pipe) : (s.setPipe k p).isl = s.isl := by unfold State.setPipe; split <;> rfl
@[simp] theorem State.setPipe_ports (s : State) (k : Nat) (p : Pipe) : (s.setPipe k p).ports = s.ports := by unfold State.setPipe; split <;> rfl
@[simp] theorem State.setPipe_i2c (s : State) (k : Nat) (p : Pipe) : (s.setPipe k p).i2c = s.i2c := by unfold State.setPipe; split <;> rfl
@[simp] theorem State.setPipe_bank0 (s : State) (k : Nat) (p : Pipe) : (s.setPipe k p).bank0 = s.bank0 := by unfold State.setPipe; split <;> rfl
@[simp] theorem State.setPipe_bank1 (s : State) (k : Nat) (p : Pipe) : (s.setPipe k p).bank1 = s.bank1 := by unfold State.setPipe; split <;> rfl
@[simp] theorem State.setPipe_curBank (s : State) (k : Nat) (p : Pipe) : (s.setPipe k p).curBank = s.curBank := by unfold State.setPipe; split <;> rfl
@[simp] theorem State.setPipe_epoch (s : State) (k : Nat) (p : Pipe) : (s.setPipe k p).epoch = s.epoch := by unfold State.setPipe; split <;> rfl
@[simp] theorem State.setPipe_si (s : State) (k : Nat) (p : Pipe) : (s.setPipe k p).si = s.si := by unfold State.setPipe; split <;> rfl
@[simp] theorem State.setPipe_bi (s : State) (k : Nat) (p : Pipe) : (s.setPipe k p).bi = s.bi := by unfold State.setPipe; split <;> rfl
@[simp] theorem State.setPipe_ti (s : State) (k : Nat) (p : Pipe) : (s.setPipe k p).ti = s.ti := by unfold State.setPipe; split <;> rfl
@[simp] theorem State.setPipe_ringE (s : State) (k : Nat) (p : Pipe) : (s.setPipe k p).ringE = s.ringE := by unfold State.setPipe; split <;> rfl
@[simp] theorem State.setPipe_ringW (s : State) (k : Nat) (p : Pipe) : (s.setPipe k p).ringW = s.ringW := by unfold State.setPipe; split <;> rfl
@[simp] theorem State.setPipe_rsch (s : State) (k : Nat) (p : Pipe) : (s.setPipe k p).rsch = s.rsch := by unfold State.setPipe; split <;> rfl
@[simp] theorem State.setPipe_gw (s : State) (k : Nat) (p : Pipe) : (s.setPipe k p).gw = s.gw := by unfold State.setPipe; split <;> rfl
@[simp] theorem State.setPipe_img (s : State) (k : Nat) (p : Pipe) : (s.setPipe k p).img = s.img := by unfold State.setPipe; split <;> rfl
@[simp] theorem State.setPipe_boot (s : State) (k : Nat) (p : Pipe) : (s.setPipe k p).boot = s.boot := by unfold State.setPipe; split <;> rfl
@[simp] theorem State.setPipe_di (s : State) (k : Nat) (p : Pipe) : (s.setPipe k p).di = s.di := by unfold State.setPipe; split <;> rfl
@[simp] theorem State.setPipe_mg (s : State) (k : Nat) (p : Pipe) : (s.setPipe k p).mg = s.mg := by unfold State.setPipe; split <;> rfl
@[simp] theorem State.setPipe_fl (s : State) (k : Nat) (p : Pipe) : (s.setPipe k p).fl = s.fl := by unfold State.setPipe; split <;> rfl
@[simp] theorem State.setPipe_tag (s : State) (k : Nat) (p : Pipe) : (s.setPipe k p).tag = s.tag := by unfold State.setPipe; split <;> rfl
@[simp] theorem State.setPipe_cnt (s : State) (k : Nat) (p : Pipe) : (s.setPipe k p).cnt = s.cnt := by unfold State.setPipe; split <;> rfl
@[simp] theorem State.setPipe_sram (s : State) (k : Nat) (p : Pipe) : (s.setPipe k p).sram = s.sram := by unfold State.setPipe; split <;> rfl
@[simp] theorem State.setPipe_dram (s : State) (k : Nat) (p : Pipe) : (s.setPipe k p).dram = s.dram := by unfold State.setPipe; split <;> rfl
@[simp] theorem State.setPipe_flash (s : State) (k : Nat) (p : Pipe) : (s.setPipe k p).flash = s.flash := by unfold State.setPipe; split <;> rfl
@[simp] theorem State.setPipe_host (s : State) (k : Nat) (p : Pipe) : (s.setPipe k p).host = s.host := by unfold State.setPipe; split <;> rfl
@[simp] theorem State.setPipe_pending (s : State) (k : Nat) (p : Pipe) : (s.setPipe k p).pending = s.pending := by unfold State.setPipe; split <;> rfl

/- ## State.setSi -/
@[simp] theorem State.setSi_regs (s : State) (f : Search → Search) : (s.setSi f).regs = s.regs := rfl
@[simp] theorem State.setSi_now (s : State) (f : Search → Search) : (s.setSi f).now = s.now := rfl
@[simp] theorem State.setSi_resp (s : State) (f : Search → Search) : (s.setSi f).resp = s.resp := rfl
@[simp] theorem State.setSi_out (s : State) (f : Search → Search) : (s.setSi f).out = s.out := rfl
@[simp] theorem State.setSi_free (s : State) (f : Search → Search) : (s.setSi f).free = s.free := rfl
@[simp] theorem State.setSi_log (s : State) (f : Search → Search) : (s.setSi f).log = s.log := rfl
@[simp] theorem State.setSi_chans (s : State) (f : Search → Search) : (s.setSi f).chans = s.chans := rfl
@[simp] theorem State.setSi_isl (s : State) (f : Search → Search) : (s.setSi f).isl = s.isl := rfl
@[simp] theorem State.setSi_ports (s : State) (f : Search → Search) : (s.setSi f).ports = s.ports := rfl
@[simp] theorem State.setSi_i2c (s : State) (f : Search → Search) : (s.setSi f).i2c = s.i2c := rfl
@[simp] theorem State.setSi_bank0 (s : State) (f : Search → Search) : (s.setSi f).bank0 = s.bank0 := rfl
@[simp] theorem State.setSi_bank1 (s : State) (f : Search → Search) : (s.setSi f).bank1 = s.bank1 := rfl
@[simp] theorem State.setSi_curBank (s : State) (f : Search → Search) : (s.setSi f).curBank = s.curBank := rfl
@[simp] theorem State.setSi_epoch (s : State) (f : Search → Search) : (s.setSi f).epoch = s.epoch := rfl
@[simp] theorem State.setSi_pa (s : State) (f : Search → Search) : (s.setSi f).pa = s.pa := rfl
@[simp] theorem State.setSi_pb (s : State) (f : Search → Search) : (s.setSi f).pb = s.pb := rfl
@[simp] theorem State.setSi_si (s : State) (f : Search → Search) : (s.setSi f).si = f s.si := rfl
@[simp] theorem State.setSi_bi (s : State) (f : Search → Search) : (s.setSi f).bi = s.bi := rfl
@[simp] theorem State.setSi_ti (s : State) (f : Search → Search) : (s.setSi f).ti = s.ti := rfl
@[simp] theorem State.setSi_ringE (s : State) (f : Search → Search) : (s.setSi f).ringE = s.ringE := rfl
@[simp] theorem State.setSi_ringW (s : State) (f : Search → Search) : (s.setSi f).ringW = s.ringW := rfl
@[simp] theorem State.setSi_rsch (s : State) (f : Search → Search) : (s.setSi f).rsch = s.rsch := rfl
@[simp] theorem State.setSi_gw (s : State) (f : Search → Search) : (s.setSi f).gw = s.gw := rfl
@[simp] theorem State.setSi_img (s : State) (f : Search → Search) : (s.setSi f).img = s.img := rfl
@[simp] theorem State.setSi_boot (s : State) (f : Search → Search) : (s.setSi f).boot = s.boot := rfl
@[simp] theorem State.setSi_di (s : State) (f : Search → Search) : (s.setSi f).di = s.di := rfl
@[simp] theorem State.setSi_mg (s : State) (f : Search → Search) : (s.setSi f).mg = s.mg := rfl
@[simp] theorem State.setSi_fl (s : State) (f : Search → Search) : (s.setSi f).fl = s.fl := rfl
@[simp] theorem State.setSi_tag (s : State) (f : Search → Search) : (s.setSi f).tag = s.tag := rfl
@[simp] theorem State.setSi_cnt (s : State) (f : Search → Search) : (s.setSi f).cnt = s.cnt := rfl
@[simp] theorem State.setSi_sram (s : State) (f : Search → Search) : (s.setSi f).sram = s.sram := rfl
@[simp] theorem State.setSi_dram (s : State) (f : Search → Search) : (s.setSi f).dram = s.dram := rfl
@[simp] theorem State.setSi_flash (s : State) (f : Search → Search) : (s.setSi f).flash = s.flash := rfl
@[simp] theorem State.setSi_host (s : State) (f : Search → Search) : (s.setSi f).host = s.host := rfl
@[simp] theorem State.setSi_pending (s : State) (f : Search → Search) : (s.setSi f).pending = s.pending := rfl

/- ## State.setShaper -/
@[simp] theorem State.setShaper_regs (s : State) (h : Nat) (v : Shaper) : (s.setShaper h v).regs = s.regs := rfl
@[simp] theorem State.setShaper_now (s : State) (h : Nat) (v : Shaper) : (s.setShaper h v).now = s.now := rfl
@[simp] theorem State.setShaper_resp (s : State) (h : Nat) (v : Shaper) : (s.setShaper h v).resp = s.resp := rfl
@[simp] theorem State.setShaper_out (s : State) (h : Nat) (v : Shaper) : (s.setShaper h v).out = s.out := rfl
@[simp] theorem State.setShaper_free (s : State) (h : Nat) (v : Shaper) : (s.setShaper h v).free = s.free := rfl
@[simp] theorem State.setShaper_log (s : State) (h : Nat) (v : Shaper) : (s.setShaper h v).log = s.log := rfl
@[simp] theorem State.setShaper_chans (s : State) (h : Nat) (v : Shaper) : (s.setShaper h v).chans = s.chans := rfl
@[simp] theorem State.setShaper_isl (s : State) (h : Nat) (v : Shaper) : (s.setShaper h v).isl = s.isl := rfl
@[simp] theorem State.setShaper_ports (s : State) (h : Nat) (v : Shaper) : (s.setShaper h v).ports = s.ports := rfl
@[simp] theorem State.setShaper_i2c (s : State) (h : Nat) (v : Shaper) : (s.setShaper h v).i2c = s.i2c := rfl
@[simp] theorem State.setShaper_bank0 (s : State) (h : Nat) (v : Shaper) : (s.setShaper h v).bank0 = s.bank0 := rfl
@[simp] theorem State.setShaper_bank1 (s : State) (h : Nat) (v : Shaper) : (s.setShaper h v).bank1 = s.bank1 := rfl
@[simp] theorem State.setShaper_curBank (s : State) (h : Nat) (v : Shaper) : (s.setShaper h v).curBank = s.curBank := rfl
@[simp] theorem State.setShaper_epoch (s : State) (h : Nat) (v : Shaper) : (s.setShaper h v).epoch = s.epoch := rfl
@[simp] theorem State.setShaper_pa (s : State) (h : Nat) (v : Shaper) : (s.setShaper h v).pa = s.pa := rfl
@[simp] theorem State.setShaper_pb (s : State) (h : Nat) (v : Shaper) : (s.setShaper h v).pb = s.pb := rfl
@[simp] theorem State.setShaper_si (s : State) (h : Nat) (v : Shaper) : (s.setShaper h v).si = s.si := rfl
@[simp] theorem State.setShaper_ti (s : State) (h : Nat) (v : Shaper) : (s.setShaper h v).ti = s.ti := rfl
@[simp] theorem State.setShaper_ringE (s : State) (h : Nat) (v : Shaper) : (s.setShaper h v).ringE = s.ringE := rfl
@[simp] theorem State.setShaper_ringW (s : State) (h : Nat) (v : Shaper) : (s.setShaper h v).ringW = s.ringW := rfl
@[simp] theorem State.setShaper_rsch (s : State) (h : Nat) (v : Shaper) : (s.setShaper h v).rsch = s.rsch := rfl
@[simp] theorem State.setShaper_gw (s : State) (h : Nat) (v : Shaper) : (s.setShaper h v).gw = s.gw := rfl
@[simp] theorem State.setShaper_img (s : State) (h : Nat) (v : Shaper) : (s.setShaper h v).img = s.img := rfl
@[simp] theorem State.setShaper_boot (s : State) (h : Nat) (v : Shaper) : (s.setShaper h v).boot = s.boot := rfl
@[simp] theorem State.setShaper_di (s : State) (h : Nat) (v : Shaper) : (s.setShaper h v).di = s.di := rfl
@[simp] theorem State.setShaper_mg (s : State) (h : Nat) (v : Shaper) : (s.setShaper h v).mg = s.mg := rfl
@[simp] theorem State.setShaper_fl (s : State) (h : Nat) (v : Shaper) : (s.setShaper h v).fl = s.fl := rfl
@[simp] theorem State.setShaper_tag (s : State) (h : Nat) (v : Shaper) : (s.setShaper h v).tag = s.tag := rfl
@[simp] theorem State.setShaper_cnt (s : State) (h : Nat) (v : Shaper) : (s.setShaper h v).cnt = s.cnt := rfl
@[simp] theorem State.setShaper_sram (s : State) (h : Nat) (v : Shaper) : (s.setShaper h v).sram = s.sram := rfl
@[simp] theorem State.setShaper_dram (s : State) (h : Nat) (v : Shaper) : (s.setShaper h v).dram = s.dram := rfl
@[simp] theorem State.setShaper_flash (s : State) (h : Nat) (v : Shaper) : (s.setShaper h v).flash = s.flash := rfl
@[simp] theorem State.setShaper_host (s : State) (h : Nat) (v : Shaper) : (s.setShaper h v).host = s.host := rfl
@[simp] theorem State.setShaper_pending (s : State) (h : Nat) (v : Shaper) : (s.setShaper h v).pending = s.pending := rfl

/- ## State.setCar -/
@[simp] theorem State.setCar_regs (s : State) (p : Nat) (v : CarPort) : (s.setCar p v).regs = s.regs := rfl
@[simp] theorem State.setCar_now (s : State) (p : Nat) (v : CarPort) : (s.setCar p v).now = s.now := rfl
@[simp] theorem State.setCar_resp (s : State) (p : Nat) (v : CarPort) : (s.setCar p v).resp = s.resp := rfl
@[simp] theorem State.setCar_out (s : State) (p : Nat) (v : CarPort) : (s.setCar p v).out = s.out := rfl
@[simp] theorem State.setCar_free (s : State) (p : Nat) (v : CarPort) : (s.setCar p v).free = s.free := rfl
@[simp] theorem State.setCar_log (s : State) (p : Nat) (v : CarPort) : (s.setCar p v).log = s.log := rfl
@[simp] theorem State.setCar_chans (s : State) (p : Nat) (v : CarPort) : (s.setCar p v).chans = s.chans := rfl
@[simp] theorem State.setCar_isl (s : State) (p : Nat) (v : CarPort) : (s.setCar p v).isl = s.isl := rfl
@[simp] theorem State.setCar_ports (s : State) (p : Nat) (v : CarPort) : (s.setCar p v).ports = s.ports := rfl
@[simp] theorem State.setCar_i2c (s : State) (p : Nat) (v : CarPort) : (s.setCar p v).i2c = s.i2c := rfl
@[simp] theorem State.setCar_bank0 (s : State) (p : Nat) (v : CarPort) : (s.setCar p v).bank0 = s.bank0 := rfl
@[simp] theorem State.setCar_bank1 (s : State) (p : Nat) (v : CarPort) : (s.setCar p v).bank1 = s.bank1 := rfl
@[simp] theorem State.setCar_curBank (s : State) (p : Nat) (v : CarPort) : (s.setCar p v).curBank = s.curBank := rfl
@[simp] theorem State.setCar_epoch (s : State) (p : Nat) (v : CarPort) : (s.setCar p v).epoch = s.epoch := rfl
@[simp] theorem State.setCar_pa (s : State) (p : Nat) (v : CarPort) : (s.setCar p v).pa = s.pa := rfl
@[simp] theorem State.setCar_pb (s : State) (p : Nat) (v : CarPort) : (s.setCar p v).pb = s.pb := rfl
@[simp] theorem State.setCar_si (s : State) (p : Nat) (v : CarPort) : (s.setCar p v).si = s.si := rfl
@[simp] theorem State.setCar_ti (s : State) (p : Nat) (v : CarPort) : (s.setCar p v).ti = s.ti := rfl
@[simp] theorem State.setCar_ringE (s : State) (p : Nat) (v : CarPort) : (s.setCar p v).ringE = s.ringE := rfl
@[simp] theorem State.setCar_ringW (s : State) (p : Nat) (v : CarPort) : (s.setCar p v).ringW = s.ringW := rfl
@[simp] theorem State.setCar_rsch (s : State) (p : Nat) (v : CarPort) : (s.setCar p v).rsch = s.rsch := rfl
@[simp] theorem State.setCar_gw (s : State) (p : Nat) (v : CarPort) : (s.setCar p v).gw = s.gw := rfl
@[simp] theorem State.setCar_img (s : State) (p : Nat) (v : CarPort) : (s.setCar p v).img = s.img := rfl
@[simp] theorem State.setCar_boot (s : State) (p : Nat) (v : CarPort) : (s.setCar p v).boot = s.boot := rfl
@[simp] theorem State.setCar_di (s : State) (p : Nat) (v : CarPort) : (s.setCar p v).di = s.di := rfl
@[simp] theorem State.setCar_mg (s : State) (p : Nat) (v : CarPort) : (s.setCar p v).mg = s.mg := rfl
@[simp] theorem State.setCar_fl (s : State) (p : Nat) (v : CarPort) : (s.setCar p v).fl = s.fl := rfl
@[simp] theorem State.setCar_tag (s : State) (p : Nat) (v : CarPort) : (s.setCar p v).tag = s.tag := rfl
@[simp] theorem State.setCar_cnt (s : State) (p : Nat) (v : CarPort) : (s.setCar p v).cnt = s.cnt := rfl
@[simp] theorem State.setCar_sram (s : State) (p : Nat) (v : CarPort) : (s.setCar p v).sram = s.sram := rfl
@[simp] theorem State.setCar_dram (s : State) (p : Nat) (v : CarPort) : (s.setCar p v).dram = s.dram := rfl
@[simp] theorem State.setCar_flash (s : State) (p : Nat) (v : CarPort) : (s.setCar p v).flash = s.flash := rfl
@[simp] theorem State.setCar_host (s : State) (p : Nat) (v : CarPort) : (s.setCar p v).host = s.host := rfl
@[simp] theorem State.setCar_pending (s : State) (p : Nat) (v : CarPort) : (s.setCar p v).pending = s.pending := rfl

/- ## State.setRing -/
@[simp] theorem State.setRing_regs (s : State) (d : Nat) (r : RingPort) : (s.setRing d r).regs = s.regs := by unfold State.setRing; split <;> rfl
@[simp] theorem State.setRing_now (s : State) (d : Nat) (r : RingPort) : (s.setRing d r).now = s.now := by unfold State.setRing; split <;> rfl
@[simp] theorem State.setRing_resp (s : State) (d : Nat) (r : RingPort) : (s.setRing d r).resp = s.resp := by unfold State.setRing; split <;> rfl
@[simp] theorem State.setRing_out (s : State) (d : Nat) (r : RingPort) : (s.setRing d r).out = s.out := by unfold State.setRing; split <;> rfl
@[simp] theorem State.setRing_free (s : State) (d : Nat) (r : RingPort) : (s.setRing d r).free = s.free := by unfold State.setRing; split <;> rfl
@[simp] theorem State.setRing_log (s : State) (d : Nat) (r : RingPort) : (s.setRing d r).log = s.log := by unfold State.setRing; split <;> rfl
@[simp] theorem State.setRing_chans (s : State) (d : Nat) (r : RingPort) : (s.setRing d r).chans = s.chans := by unfold State.setRing; split <;> rfl
@[simp] theorem State.setRing_isl (s : State) (d : Nat) (r : RingPort) : (s.setRing d r).isl = s.isl := by unfold State.setRing; split <;> rfl
@[simp] theorem State.setRing_ports (s : State) (d : Nat) (r : RingPort) : (s.setRing d r).ports = s.ports := by unfold State.setRing; split <;> rfl
@[simp] theorem State.setRing_i2c (s : State) (d : Nat) (r : RingPort) : (s.setRing d r).i2c = s.i2c := by unfold State.setRing; split <;> rfl
@[simp] theorem State.setRing_bank0 (s : State) (d : Nat) (r : RingPort) : (s.setRing d r).bank0 = s.bank0 := by unfold State.setRing; split <;> rfl
@[simp] theorem State.setRing_bank1 (s : State) (d : Nat) (r : RingPort) : (s.setRing d r).bank1 = s.bank1 := by unfold State.setRing; split <;> rfl
@[simp] theorem State.setRing_curBank (s : State) (d : Nat) (r : RingPort) : (s.setRing d r).curBank = s.curBank := by unfold State.setRing; split <;> rfl
@[simp] theorem State.setRing_epoch (s : State) (d : Nat) (r : RingPort) : (s.setRing d r).epoch = s.epoch := by unfold State.setRing; split <;> rfl
@[simp] theorem State.setRing_pa (s : State) (d : Nat) (r : RingPort) : (s.setRing d r).pa = s.pa := by unfold State.setRing; split <;> rfl
@[simp] theorem State.setRing_pb (s : State) (d : Nat) (r : RingPort) : (s.setRing d r).pb = s.pb := by unfold State.setRing; split <;> rfl
@[simp] theorem State.setRing_si (s : State) (d : Nat) (r : RingPort) : (s.setRing d r).si = s.si := by unfold State.setRing; split <;> rfl
@[simp] theorem State.setRing_bi (s : State) (d : Nat) (r : RingPort) : (s.setRing d r).bi = s.bi := by unfold State.setRing; split <;> rfl
@[simp] theorem State.setRing_ti (s : State) (d : Nat) (r : RingPort) : (s.setRing d r).ti = s.ti := by unfold State.setRing; split <;> rfl
@[simp] theorem State.setRing_rsch (s : State) (d : Nat) (r : RingPort) : (s.setRing d r).rsch = s.rsch := by unfold State.setRing; split <;> rfl
@[simp] theorem State.setRing_gw (s : State) (d : Nat) (r : RingPort) : (s.setRing d r).gw = s.gw := by unfold State.setRing; split <;> rfl
@[simp] theorem State.setRing_img (s : State) (d : Nat) (r : RingPort) : (s.setRing d r).img = s.img := by unfold State.setRing; split <;> rfl
@[simp] theorem State.setRing_boot (s : State) (d : Nat) (r : RingPort) : (s.setRing d r).boot = s.boot := by unfold State.setRing; split <;> rfl
@[simp] theorem State.setRing_di (s : State) (d : Nat) (r : RingPort) : (s.setRing d r).di = s.di := by unfold State.setRing; split <;> rfl
@[simp] theorem State.setRing_mg (s : State) (d : Nat) (r : RingPort) : (s.setRing d r).mg = s.mg := by unfold State.setRing; split <;> rfl
@[simp] theorem State.setRing_fl (s : State) (d : Nat) (r : RingPort) : (s.setRing d r).fl = s.fl := by unfold State.setRing; split <;> rfl
@[simp] theorem State.setRing_tag (s : State) (d : Nat) (r : RingPort) : (s.setRing d r).tag = s.tag := by unfold State.setRing; split <;> rfl
@[simp] theorem State.setRing_cnt (s : State) (d : Nat) (r : RingPort) : (s.setRing d r).cnt = s.cnt := by unfold State.setRing; split <;> rfl
@[simp] theorem State.setRing_sram (s : State) (d : Nat) (r : RingPort) : (s.setRing d r).sram = s.sram := by unfold State.setRing; split <;> rfl
@[simp] theorem State.setRing_dram (s : State) (d : Nat) (r : RingPort) : (s.setRing d r).dram = s.dram := by unfold State.setRing; split <;> rfl
@[simp] theorem State.setRing_flash (s : State) (d : Nat) (r : RingPort) : (s.setRing d r).flash = s.flash := by unfold State.setRing; split <;> rfl
@[simp] theorem State.setRing_host (s : State) (d : Nat) (r : RingPort) : (s.setRing d r).host = s.host := by unfold State.setRing; split <;> rfl
@[simp] theorem State.setRing_pending (s : State) (d : Nat) (r : RingPort) : (s.setRing d r).pending = s.pending := by unfold State.setRing; split <;> rfl

/- ## State.rschSet -/
@[simp] theorem State.rschSet_regs (s : State) (f : RingSched → RingSched) : (s.rschSet f).regs = s.regs := rfl
@[simp] theorem State.rschSet_now (s : State) (f : RingSched → RingSched) : (s.rschSet f).now = s.now := rfl
@[simp] theorem State.rschSet_resp (s : State) (f : RingSched → RingSched) : (s.rschSet f).resp = s.resp := rfl
@[simp] theorem State.rschSet_out (s : State) (f : RingSched → RingSched) : (s.rschSet f).out = s.out := rfl
@[simp] theorem State.rschSet_free (s : State) (f : RingSched → RingSched) : (s.rschSet f).free = s.free := rfl
@[simp] theorem State.rschSet_log (s : State) (f : RingSched → RingSched) : (s.rschSet f).log = s.log := rfl
@[simp] theorem State.rschSet_chans (s : State) (f : RingSched → RingSched) : (s.rschSet f).chans = s.chans := rfl
@[simp] theorem State.rschSet_isl (s : State) (f : RingSched → RingSched) : (s.rschSet f).isl = s.isl := rfl
@[simp] theorem State.rschSet_ports (s : State) (f : RingSched → RingSched) : (s.rschSet f).ports = s.ports := rfl
@[simp] theorem State.rschSet_i2c (s : State) (f : RingSched → RingSched) : (s.rschSet f).i2c = s.i2c := rfl
@[simp] theorem State.rschSet_bank0 (s : State) (f : RingSched → RingSched) : (s.rschSet f).bank0 = s.bank0 := rfl
@[simp] theorem State.rschSet_bank1 (s : State) (f : RingSched → RingSched) : (s.rschSet f).bank1 = s.bank1 := rfl
@[simp] theorem State.rschSet_curBank (s : State) (f : RingSched → RingSched) : (s.rschSet f).curBank = s.curBank := rfl
@[simp] theorem State.rschSet_epoch (s : State) (f : RingSched → RingSched) : (s.rschSet f).epoch = s.epoch := rfl
@[simp] theorem State.rschSet_pa (s : State) (f : RingSched → RingSched) : (s.rschSet f).pa = s.pa := rfl
@[simp] theorem State.rschSet_pb (s : State) (f : RingSched → RingSched) : (s.rschSet f).pb = s.pb := rfl
@[simp] theorem State.rschSet_si (s : State) (f : RingSched → RingSched) : (s.rschSet f).si = s.si := rfl
@[simp] theorem State.rschSet_bi (s : State) (f : RingSched → RingSched) : (s.rschSet f).bi = s.bi := rfl
@[simp] theorem State.rschSet_ti (s : State) (f : RingSched → RingSched) : (s.rschSet f).ti = s.ti := rfl
@[simp] theorem State.rschSet_ringE (s : State) (f : RingSched → RingSched) : (s.rschSet f).ringE = s.ringE := rfl
@[simp] theorem State.rschSet_ringW (s : State) (f : RingSched → RingSched) : (s.rschSet f).ringW = s.ringW := rfl
@[simp] theorem State.rschSet_rsch (s : State) (f : RingSched → RingSched) : (s.rschSet f).rsch = f s.rsch := rfl
@[simp] theorem State.rschSet_gw (s : State) (f : RingSched → RingSched) : (s.rschSet f).gw = s.gw := rfl
@[simp] theorem State.rschSet_img (s : State) (f : RingSched → RingSched) : (s.rschSet f).img = s.img := rfl
@[simp] theorem State.rschSet_boot (s : State) (f : RingSched → RingSched) : (s.rschSet f).boot = s.boot := rfl
@[simp] theorem State.rschSet_di (s : State) (f : RingSched → RingSched) : (s.rschSet f).di = s.di := rfl
@[simp] theorem State.rschSet_mg (s : State) (f : RingSched → RingSched) : (s.rschSet f).mg = s.mg := rfl
@[simp] theorem State.rschSet_fl (s : State) (f : RingSched → RingSched) : (s.rschSet f).fl = s.fl := rfl
@[simp] theorem State.rschSet_tag (s : State) (f : RingSched → RingSched) : (s.rschSet f).tag = s.tag := rfl
@[simp] theorem State.rschSet_cnt (s : State) (f : RingSched → RingSched) : (s.rschSet f).cnt = s.cnt := rfl
@[simp] theorem State.rschSet_sram (s : State) (f : RingSched → RingSched) : (s.rschSet f).sram = s.sram := rfl
@[simp] theorem State.rschSet_dram (s : State) (f : RingSched → RingSched) : (s.rschSet f).dram = s.dram := rfl
@[simp] theorem State.rschSet_flash (s : State) (f : RingSched → RingSched) : (s.rschSet f).flash = s.flash := rfl
@[simp] theorem State.rschSet_host (s : State) (f : RingSched → RingSched) : (s.rschSet f).host = s.host := rfl
@[simp] theorem State.rschSet_pending (s : State) (f : RingSched → RingSched) : (s.rschSet f).pending = s.pending := rfl

/- ## State.setTrigQueue -/
@[simp] theorem State.setTrigQueue_regs (s : State) (k : Nat) (l : List (Nat × Frame)) : (s.setTrigQueue k l).regs = s.regs := by unfold State.setTrigQueue; split <;> rfl
@[simp] theorem State.setTrigQueue_now (s : State) (k : Nat) (l : List (Nat × Frame)) : (s.setTrigQueue k l).now = s.now := by unfold State.setTrigQueue; split <;> rfl
@[simp] theorem State.setTrigQueue_resp (s : State) (k : Nat) (l : List (Nat × Frame)) : (s.setTrigQueue k l).resp = s.resp := by unfold State.setTrigQueue; split <;> rfl
@[simp] theorem State.setTrigQueue_out (s : State) (k : Nat) (l : List (Nat × Frame)) : (s.setTrigQueue k l).out = s.out := by unfold State.setTrigQueue; split <;> rfl
@[simp] theorem State.setTrigQueue_free (s : State) (k : Nat) (l : List (Nat × Frame)) : (s.setTrigQueue k l).free = s.free := by unfold State.setTrigQueue; split <;> rfl
@[simp] theorem State.setTrigQueue_log (s : State) (k : Nat) (l : List (Nat × Frame)) : (s.setTrigQueue k l).log = s.log := by unfold State.setTrigQueue; split <;> rfl
@[simp] theorem State.setTrigQueue_chans (s : State) (k : Nat) (l : List (Nat × Frame)) : (s.setTrigQueue k l).chans = s.chans := by unfold State.setTrigQueue; split <;> rfl
@[simp] theorem State.setTrigQueue_isl (s : State) (k : Nat) (l : List (Nat × Frame)) : (s.setTrigQueue k l).isl = s.isl := by unfold State.setTrigQueue; split <;> rfl
@[simp] theorem State.setTrigQueue_ports (s : State) (k : Nat) (l : List (Nat × Frame)) : (s.setTrigQueue k l).ports = s.ports := by unfold State.setTrigQueue; split <;> rfl
@[simp] theorem State.setTrigQueue_i2c (s : State) (k : Nat) (l : List (Nat × Frame)) : (s.setTrigQueue k l).i2c = s.i2c := by unfold State.setTrigQueue; split <;> rfl
@[simp] theorem State.setTrigQueue_bank0 (s : State) (k : Nat) (l : List (Nat × Frame)) : (s.setTrigQueue k l).bank0 = s.bank0 := by unfold State.setTrigQueue; split <;> rfl
@[simp] theorem State.setTrigQueue_bank1 (s : State) (k : Nat) (l : List (Nat × Frame)) : (s.setTrigQueue k l).bank1 = s.bank1 := by unfold State.setTrigQueue; split <;> rfl
@[simp] theorem State.setTrigQueue_curBank (s : State) (k : Nat) (l : List (Nat × Frame)) : (s.setTrigQueue k l).curBank = s.curBank := by unfold State.setTrigQueue; split <;> rfl
@[simp] theorem State.setTrigQueue_epoch (s : State) (k : Nat) (l : List (Nat × Frame)) : (s.setTrigQueue k l).epoch = s.epoch := by unfold State.setTrigQueue; split <;> rfl
@[simp] theorem State.setTrigQueue_pa (s : State) (k : Nat) (l : List (Nat × Frame)) : (s.setTrigQueue k l).pa = s.pa := by unfold State.setTrigQueue; split <;> rfl
@[simp] theorem State.setTrigQueue_pb (s : State) (k : Nat) (l : List (Nat × Frame)) : (s.setTrigQueue k l).pb = s.pb := by unfold State.setTrigQueue; split <;> rfl
@[simp] theorem State.setTrigQueue_si (s : State) (k : Nat) (l : List (Nat × Frame)) : (s.setTrigQueue k l).si = s.si := by unfold State.setTrigQueue; split <;> rfl
@[simp] theorem State.setTrigQueue_bi (s : State) (k : Nat) (l : List (Nat × Frame)) : (s.setTrigQueue k l).bi = s.bi := by unfold State.setTrigQueue; split <;> rfl
@[simp] theorem State.setTrigQueue_ti (s : State) (k : Nat) (l : List (Nat × Frame)) : (s.setTrigQueue k l).ti = s.ti := by unfold State.setTrigQueue; split <;> rfl
@[simp] theorem State.setTrigQueue_ringE (s : State) (k : Nat) (l : List (Nat × Frame)) : (s.setTrigQueue k l).ringE = s.ringE := by unfold State.setTrigQueue; split <;> rfl
@[simp] theorem State.setTrigQueue_ringW (s : State) (k : Nat) (l : List (Nat × Frame)) : (s.setTrigQueue k l).ringW = s.ringW := by unfold State.setTrigQueue; split <;> rfl
@[simp] theorem State.setTrigQueue_rsch (s : State) (k : Nat) (l : List (Nat × Frame)) : (s.setTrigQueue k l).rsch = s.rsch := by unfold State.setTrigQueue; split <;> rfl
@[simp] theorem State.setTrigQueue_img (s : State) (k : Nat) (l : List (Nat × Frame)) : (s.setTrigQueue k l).img = s.img := by unfold State.setTrigQueue; split <;> rfl
@[simp] theorem State.setTrigQueue_boot (s : State) (k : Nat) (l : List (Nat × Frame)) : (s.setTrigQueue k l).boot = s.boot := by unfold State.setTrigQueue; split <;> rfl
@[simp] theorem State.setTrigQueue_di (s : State) (k : Nat) (l : List (Nat × Frame)) : (s.setTrigQueue k l).di = s.di := by unfold State.setTrigQueue; split <;> rfl
@[simp] theorem State.setTrigQueue_mg (s : State) (k : Nat) (l : List (Nat × Frame)) : (s.setTrigQueue k l).mg = s.mg := by unfold State.setTrigQueue; split <;> rfl
@[simp] theorem State.setTrigQueue_fl (s : State) (k : Nat) (l : List (Nat × Frame)) : (s.setTrigQueue k l).fl = s.fl := by unfold State.setTrigQueue; split <;> rfl
@[simp] theorem State.setTrigQueue_tag (s : State) (k : Nat) (l : List (Nat × Frame)) : (s.setTrigQueue k l).tag = s.tag := by unfold State.setTrigQueue; split <;> rfl
@[simp] theorem State.setTrigQueue_cnt (s : State) (k : Nat) (l : List (Nat × Frame)) : (s.setTrigQueue k l).cnt = s.cnt := by unfold State.setTrigQueue; split <;> rfl
@[simp] theorem State.setTrigQueue_sram (s : State) (k : Nat) (l : List (Nat × Frame)) : (s.setTrigQueue k l).sram = s.sram := by unfold State.setTrigQueue; split <;> rfl
@[simp] theorem State.setTrigQueue_dram (s : State) (k : Nat) (l : List (Nat × Frame)) : (s.setTrigQueue k l).dram = s.dram := by unfold State.setTrigQueue; split <;> rfl
@[simp] theorem State.setTrigQueue_flash (s : State) (k : Nat) (l : List (Nat × Frame)) : (s.setTrigQueue k l).flash = s.flash := by unfold State.setTrigQueue; split <;> rfl
@[simp] theorem State.setTrigQueue_host (s : State) (k : Nat) (l : List (Nat × Frame)) : (s.setTrigQueue k l).host = s.host := by unfold State.setTrigQueue; split <;> rfl
@[simp] theorem State.setTrigQueue_pending (s : State) (k : Nat) (l : List (Nat × Frame)) : (s.setTrigQueue k l).pending = s.pending := by unfold State.setTrigQueue; split <;> rfl

/- ## State.tiSet -/
@[simp] theorem State.tiSet_regs (s : State) (f : TimeIsland → TimeIsland) : (s.tiSet f).regs = s.regs := rfl
@[simp] theorem State.tiSet_now (s : State) (f : TimeIsland → TimeIsland) : (s.tiSet f).now = s.now := rfl
@[simp] theorem State.tiSet_resp (s : State) (f : TimeIsland → TimeIsland) : (s.tiSet f).resp = s.resp := rfl
@[simp] theorem State.tiSet_out (s : State) (f : TimeIsland → TimeIsland) : (s.tiSet f).out = s.out := rfl
@[simp] theorem State.tiSet_free (s : State) (f : TimeIsland → TimeIsland) : (s.tiSet f).free = s.free := rfl
@[simp] theorem State.tiSet_log (s : State) (f : TimeIsland → TimeIsland) : (s.tiSet f).log = s.log := rfl
@[simp] theorem State.tiSet_chans (s : State) (f : TimeIsland → TimeIsland) : (s.tiSet f).chans = s.chans := rfl
@[simp] theorem State.tiSet_isl (s : State) (f : TimeIsland → TimeIsland) : (s.tiSet f).isl = s.isl := rfl
@[simp] theorem State.tiSet_ports (s : State) (f : TimeIsland → TimeIsland) : (s.tiSet f).ports = s.ports := rfl
@[simp] theorem State.tiSet_i2c (s : State) (f : TimeIsland → TimeIsland) : (s.tiSet f).i2c = s.i2c := rfl
@[simp] theorem State.tiSet_bank0 (s : State) (f : TimeIsland → TimeIsland) : (s.tiSet f).bank0 = s.bank0 := rfl
@[simp] theorem State.tiSet_bank1 (s : State) (f : TimeIsland → TimeIsland) : (s.tiSet f).bank1 = s.bank1 := rfl
@[simp] theorem State.tiSet_curBank (s : State) (f : TimeIsland → TimeIsland) : (s.tiSet f).curBank = s.curBank := rfl
@[simp] theorem State.tiSet_epoch (s : State) (f : TimeIsland → TimeIsland) : (s.tiSet f).epoch = s.epoch := rfl
@[simp] theorem State.tiSet_pa (s : State) (f : TimeIsland → TimeIsland) : (s.tiSet f).pa = s.pa := rfl
@[simp] theorem State.tiSet_pb (s : State) (f : TimeIsland → TimeIsland) : (s.tiSet f).pb = s.pb := rfl
@[simp] theorem State.tiSet_si (s : State) (f : TimeIsland → TimeIsland) : (s.tiSet f).si = s.si := rfl
@[simp] theorem State.tiSet_bi (s : State) (f : TimeIsland → TimeIsland) : (s.tiSet f).bi = s.bi := rfl
@[simp] theorem State.tiSet_ti (s : State) (f : TimeIsland → TimeIsland) : (s.tiSet f).ti = f s.ti := rfl
@[simp] theorem State.tiSet_ringE (s : State) (f : TimeIsland → TimeIsland) : (s.tiSet f).ringE = s.ringE := rfl
@[simp] theorem State.tiSet_ringW (s : State) (f : TimeIsland → TimeIsland) : (s.tiSet f).ringW = s.ringW := rfl
@[simp] theorem State.tiSet_rsch (s : State) (f : TimeIsland → TimeIsland) : (s.tiSet f).rsch = s.rsch := rfl
@[simp] theorem State.tiSet_gw (s : State) (f : TimeIsland → TimeIsland) : (s.tiSet f).gw = s.gw := rfl
@[simp] theorem State.tiSet_img (s : State) (f : TimeIsland → TimeIsland) : (s.tiSet f).img = s.img := rfl
@[simp] theorem State.tiSet_boot (s : State) (f : TimeIsland → TimeIsland) : (s.tiSet f).boot = s.boot := rfl
@[simp] theorem State.tiSet_di (s : State) (f : TimeIsland → TimeIsland) : (s.tiSet f).di = s.di := rfl
@[simp] theorem State.tiSet_mg (s : State) (f : TimeIsland → TimeIsland) : (s.tiSet f).mg = s.mg := rfl
@[simp] theorem State.tiSet_fl (s : State) (f : TimeIsland → TimeIsland) : (s.tiSet f).fl = s.fl := rfl
@[simp] theorem State.tiSet_tag (s : State) (f : TimeIsland → TimeIsland) : (s.tiSet f).tag = s.tag := rfl
@[simp] theorem State.tiSet_cnt (s : State) (f : TimeIsland → TimeIsland) : (s.tiSet f).cnt = s.cnt := rfl
@[simp] theorem State.tiSet_sram (s : State) (f : TimeIsland → TimeIsland) : (s.tiSet f).sram = s.sram := rfl
@[simp] theorem State.tiSet_dram (s : State) (f : TimeIsland → TimeIsland) : (s.tiSet f).dram = s.dram := rfl
@[simp] theorem State.tiSet_flash (s : State) (f : TimeIsland → TimeIsland) : (s.tiSet f).flash = s.flash := rfl
@[simp] theorem State.tiSet_host (s : State) (f : TimeIsland → TimeIsland) : (s.tiSet f).host = s.host := rfl
@[simp] theorem State.tiSet_pending (s : State) (f : TimeIsland → TimeIsland) : (s.tiSet f).pending = s.pending := rfl

/- ## State.bootSet -/
@[simp] theorem State.bootSet_regs (s : State) (f : Boot → Boot) : (s.bootSet f).regs = s.regs := rfl
@[simp] theorem State.bootSet_now (s : State) (f : Boot → Boot) : (s.bootSet f).now = s.now := rfl
@[simp] theorem State.bootSet_resp (s : State) (f : Boot → Boot) : (s.bootSet f).resp = s.resp := rfl
@[simp] theorem State.bootSet_out (s : State) (f : Boot → Boot) : (s.bootSet f).out = s.out := rfl
@[simp] theorem State.bootSet_free (s : State) (f : Boot → Boot) : (s.bootSet f).free = s.free := rfl
@[simp] theorem State.bootSet_log (s : State) (f : Boot → Boot) : (s.bootSet f).log = s.log := rfl
@[simp] theorem State.bootSet_chans (s : State) (f : Boot → Boot) : (s.bootSet f).chans = s.chans := rfl
@[simp] theorem State.bootSet_isl (s : State) (f : Boot → Boot) : (s.bootSet f).isl = s.isl := rfl
@[simp] theorem State.bootSet_ports (s : State) (f : Boot → Boot) : (s.bootSet f).ports = s.ports := rfl
@[simp] theorem State.bootSet_i2c (s : State) (f : Boot → Boot) : (s.bootSet f).i2c = s.i2c := rfl
@[simp] theorem State.bootSet_bank0 (s : State) (f : Boot → Boot) : (s.bootSet f).bank0 = s.bank0 := rfl
@[simp] theorem State.bootSet_bank1 (s : State) (f : Boot → Boot) : (s.bootSet f).bank1 = s.bank1 := rfl
@[simp] theorem State.bootSet_curBank (s : State) (f : Boot → Boot) : (s.bootSet f).curBank = s.curBank := rfl
@[simp] theorem State.bootSet_epoch (s : State) (f : Boot → Boot) : (s.bootSet f).epoch = s.epoch := rfl
@[simp] theorem State.bootSet_pa (s : State) (f : Boot → Boot) : (s.bootSet f).pa = s.pa := rfl
@[simp] theorem State.bootSet_pb (s : State) (f : Boot → Boot) : (s.bootSet f).pb = s.pb := rfl
@[simp] theorem State.bootSet_si (s : State) (f : Boot → Boot) : (s.bootSet f).si = s.si := rfl
@[simp] theorem State.bootSet_bi (s : State) (f : Boot → Boot) : (s.bootSet f).bi = s.bi := rfl
@[simp] theorem State.bootSet_ti (s : State) (f : Boot → Boot) : (s.bootSet f).ti = s.ti := rfl
@[simp] theorem State.bootSet_ringE (s : State) (f : Boot → Boot) : (s.bootSet f).ringE = s.ringE := rfl
@[simp] theorem State.bootSet_ringW (s : State) (f : Boot → Boot) : (s.bootSet f).ringW = s.ringW := rfl
@[simp] theorem State.bootSet_rsch (s : State) (f : Boot → Boot) : (s.bootSet f).rsch = s.rsch := rfl
@[simp] theorem State.bootSet_gw (s : State) (f : Boot → Boot) : (s.bootSet f).gw = s.gw := rfl
@[simp] theorem State.bootSet_img (s : State) (f : Boot → Boot) : (s.bootSet f).img = s.img := rfl
@[simp] theorem State.bootSet_boot (s : State) (f : Boot → Boot) : (s.bootSet f).boot = f s.boot := rfl
@[simp] theorem State.bootSet_di (s : State) (f : Boot → Boot) : (s.bootSet f).di = s.di := rfl
@[simp] theorem State.bootSet_mg (s : State) (f : Boot → Boot) : (s.bootSet f).mg = s.mg := rfl
@[simp] theorem State.bootSet_fl (s : State) (f : Boot → Boot) : (s.bootSet f).fl = s.fl := rfl
@[simp] theorem State.bootSet_tag (s : State) (f : Boot → Boot) : (s.bootSet f).tag = s.tag := rfl
@[simp] theorem State.bootSet_cnt (s : State) (f : Boot → Boot) : (s.bootSet f).cnt = s.cnt := rfl
@[simp] theorem State.bootSet_sram (s : State) (f : Boot → Boot) : (s.bootSet f).sram = s.sram := rfl
@[simp] theorem State.bootSet_dram (s : State) (f : Boot → Boot) : (s.bootSet f).dram = s.dram := rfl
@[simp] theorem State.bootSet_flash (s : State) (f : Boot → Boot) : (s.bootSet f).flash = s.flash := rfl
@[simp] theorem State.bootSet_host (s : State) (f : Boot → Boot) : (s.bootSet f).host = s.host := rfl
@[simp] theorem State.bootSet_pending (s : State) (f : Boot → Boot) : (s.bootSet f).pending = s.pending := rfl

/- ## State.diSet -/
@[simp] theorem State.diSet_regs (s : State) (f : Dram → Dram) : (s.diSet f).regs = s.regs := rfl
@[simp] theorem State.diSet_now (s : State) (f : Dram → Dram) : (s.diSet f).now = s.now := rfl
@[simp] theorem State.diSet_resp (s : State) (f : Dram → Dram) : (s.diSet f).resp = s.resp := rfl
@[simp] theorem State.diSet_out (s : State) (f : Dram → Dram) : (s.diSet f).out = s.out := rfl
@[simp] theorem State.diSet_free (s : State) (f : Dram → Dram) : (s.diSet f).free = s.free := rfl
@[simp] theorem State.diSet_log (s : State) (f : Dram → Dram) : (s.diSet f).log = s.log := rfl
@[simp] theorem State.diSet_chans (s : State) (f : Dram → Dram) : (s.diSet f).chans = s.chans := rfl
@[simp] theorem State.diSet_isl (s : State) (f : Dram → Dram) : (s.diSet f).isl = s.isl := rfl
@[simp] theorem State.diSet_ports (s : State) (f : Dram → Dram) : (s.diSet f).ports = s.ports := rfl
@[simp] theorem State.diSet_i2c (s : State) (f : Dram → Dram) : (s.diSet f).i2c = s.i2c := rfl
@[simp] theorem State.diSet_bank0 (s : State) (f : Dram → Dram) : (s.diSet f).bank0 = s.bank0 := rfl
@[simp] theorem State.diSet_bank1 (s : State) (f : Dram → Dram) : (s.diSet f).bank1 = s.bank1 := rfl
@[simp] theorem State.diSet_curBank (s : State) (f : Dram → Dram) : (s.diSet f).curBank = s.curBank := rfl
@[simp] theorem State.diSet_epoch (s : State) (f : Dram → Dram) : (s.diSet f).epoch = s.epoch := rfl
@[simp] theorem State.diSet_pa (s : State) (f : Dram → Dram) : (s.diSet f).pa = s.pa := rfl
@[simp] theorem State.diSet_pb (s : State) (f : Dram → Dram) : (s.diSet f).pb = s.pb := rfl
@[simp] theorem State.diSet_si (s : State) (f : Dram → Dram) : (s.diSet f).si = s.si := rfl
@[simp] theorem State.diSet_bi (s : State) (f : Dram → Dram) : (s.diSet f).bi = s.bi := rfl
@[simp] theorem State.diSet_ti (s : State) (f : Dram → Dram) : (s.diSet f).ti = s.ti := rfl
@[simp] theorem State.diSet_ringE (s : State) (f : Dram → Dram) : (s.diSet f).ringE = s.ringE := rfl
@[simp] theorem State.diSet_ringW (s : State) (f : Dram → Dram) : (s.diSet f).ringW = s.ringW := rfl
@[simp] theorem State.diSet_rsch (s : State) (f : Dram → Dram) : (s.diSet f).rsch = s.rsch := rfl
@[simp] theorem State.diSet_gw (s : State) (f : Dram → Dram) : (s.diSet f).gw = s.gw := rfl
@[simp] theorem State.diSet_img (s : State) (f : Dram → Dram) : (s.diSet f).img = s.img := rfl
@[simp] theorem State.diSet_boot (s : State) (f : Dram → Dram) : (s.diSet f).boot = s.boot := rfl
@[simp] theorem State.diSet_di (s : State) (f : Dram → Dram) : (s.diSet f).di = f s.di := rfl
@[simp] theorem State.diSet_mg (s : State) (f : Dram → Dram) : (s.diSet f).mg = s.mg := rfl
@[simp] theorem State.diSet_fl (s : State) (f : Dram → Dram) : (s.diSet f).fl = s.fl := rfl
@[simp] theorem State.diSet_tag (s : State) (f : Dram → Dram) : (s.diSet f).tag = s.tag := rfl
@[simp] theorem State.diSet_cnt (s : State) (f : Dram → Dram) : (s.diSet f).cnt = s.cnt := rfl
@[simp] theorem State.diSet_sram (s : State) (f : Dram → Dram) : (s.diSet f).sram = s.sram := rfl
@[simp] theorem State.diSet_dram (s : State) (f : Dram → Dram) : (s.diSet f).dram = s.dram := rfl
@[simp] theorem State.diSet_flash (s : State) (f : Dram → Dram) : (s.diSet f).flash = s.flash := rfl
@[simp] theorem State.diSet_host (s : State) (f : Dram → Dram) : (s.diSet f).host = s.host := rfl
@[simp] theorem State.diSet_pending (s : State) (f : Dram → Dram) : (s.diSet f).pending = s.pending := rfl

/- ## State.imgSet -/
@[simp] theorem State.imgSet_regs (s : State) (f : Loader → Loader) : (s.imgSet f).regs = s.regs := rfl
@[simp] theorem State.imgSet_now (s : State) (f : Loader → Loader) : (s.imgSet f).now = s.now := rfl
@[simp] theorem State.imgSet_resp (s : State) (f : Loader → Loader) : (s.imgSet f).resp = s.resp := rfl
@[simp] theorem State.imgSet_out (s : State) (f : Loader → Loader) : (s.imgSet f).out = s.out := rfl
@[simp] theorem State.imgSet_free (s : State) (f : Loader → Loader) : (s.imgSet f).free = s.free := rfl
@[simp] theorem State.imgSet_log (s : State) (f : Loader → Loader) : (s.imgSet f).log = s.log := rfl
@[simp] theorem State.imgSet_chans (s : State) (f : Loader → Loader) : (s.imgSet f).chans = s.chans := rfl
@[simp] theorem State.imgSet_isl (s : State) (f : Loader → Loader) : (s.imgSet f).isl = s.isl := rfl
@[simp] theorem State.imgSet_ports (s : State) (f : Loader → Loader) : (s.imgSet f).ports = s.ports := rfl
@[simp] theorem State.imgSet_i2c (s : State) (f : Loader → Loader) : (s.imgSet f).i2c = s.i2c := rfl
@[simp] theorem State.imgSet_bank0 (s : State) (f : Loader → Loader) : (s.imgSet f).bank0 = s.bank0 := rfl
@[simp] theorem State.imgSet_bank1 (s : State) (f : Loader → Loader) : (s.imgSet f).bank1 = s.bank1 := rfl
@[simp] theorem State.imgSet_curBank (s : State) (f : Loader → Loader) : (s.imgSet f).curBank = s.curBank := rfl
@[simp] theorem State.imgSet_epoch (s : State) (f : Loader → Loader) : (s.imgSet f).epoch = s.epoch := rfl
@[simp] theorem State.imgSet_pa (s : State) (f : Loader → Loader) : (s.imgSet f).pa = s.pa := rfl
@[simp] theorem State.imgSet_pb (s : State) (f : Loader → Loader) : (s.imgSet f).pb = s.pb := rfl
@[simp] theorem State.imgSet_si (s : State) (f : Loader → Loader) : (s.imgSet f).si = s.si := rfl
@[simp] theorem State.imgSet_bi (s : State) (f : Loader → Loader) : (s.imgSet f).bi = s.bi := rfl
@[simp] theorem State.imgSet_ti (s : State) (f : Loader → Loader) : (s.imgSet f).ti = s.ti := rfl
@[simp] theorem State.imgSet_ringE (s : State) (f : Loader → Loader) : (s.imgSet f).ringE = s.ringE := rfl
@[simp] theorem State.imgSet_ringW (s : State) (f : Loader → Loader) : (s.imgSet f).ringW = s.ringW := rfl
@[simp] theorem State.imgSet_rsch (s : State) (f : Loader → Loader) : (s.imgSet f).rsch = s.rsch := rfl
@[simp] theorem State.imgSet_gw (s : State) (f : Loader → Loader) : (s.imgSet f).gw = s.gw := rfl
@[simp] theorem State.imgSet_img (s : State) (f : Loader → Loader) : (s.imgSet f).img = f s.img := rfl
@[simp] theorem State.imgSet_boot (s : State) (f : Loader → Loader) : (s.imgSet f).boot = s.boot := rfl
@[simp] theorem State.imgSet_di (s : State) (f : Loader → Loader) : (s.imgSet f).di = s.di := rfl
@[simp] theorem State.imgSet_mg (s : State) (f : Loader → Loader) : (s.imgSet f).mg = s.mg := rfl
@[simp] theorem State.imgSet_fl (s : State) (f : Loader → Loader) : (s.imgSet f).fl = s.fl := rfl
@[simp] theorem State.imgSet_tag (s : State) (f : Loader → Loader) : (s.imgSet f).tag = s.tag := rfl
@[simp] theorem State.imgSet_cnt (s : State) (f : Loader → Loader) : (s.imgSet f).cnt = s.cnt := rfl
@[simp] theorem State.imgSet_sram (s : State) (f : Loader → Loader) : (s.imgSet f).sram = s.sram := rfl
@[simp] theorem State.imgSet_dram (s : State) (f : Loader → Loader) : (s.imgSet f).dram = s.dram := rfl
@[simp] theorem State.imgSet_flash (s : State) (f : Loader → Loader) : (s.imgSet f).flash = s.flash := rfl
@[simp] theorem State.imgSet_host (s : State) (f : Loader → Loader) : (s.imgSet f).host = s.host := rfl
@[simp] theorem State.imgSet_pending (s : State) (f : Loader → Loader) : (s.imgSet f).pending = s.pending := rfl

/- ## State.islSet -/
@[simp] theorem State.islSet_regs (s : State) (f : Islands → Islands) : (s.islSet f).regs = s.regs := rfl
@[simp] theorem State.islSet_now (s : State) (f : Islands → Islands) : (s.islSet f).now = s.now := rfl
@[simp] theorem State.islSet_resp (s : State) (f : Islands → Islands) : (s.islSet f).resp = s.resp := rfl
@[simp] theorem State.islSet_out (s : State) (f : Islands → Islands) : (s.islSet f).out = s.out := rfl
@[simp] theorem State.islSet_free (s : State) (f : Islands → Islands) : (s.islSet f).free = s.free := rfl
@[simp] theorem State.islSet_log (s : State) (f : Islands → Islands) : (s.islSet f).log = s.log := rfl
@[simp] theorem State.islSet_chans (s : State) (f : Islands → Islands) : (s.islSet f).chans = s.chans := rfl
@[simp] theorem State.islSet_isl (s : State) (f : Islands → Islands) : (s.islSet f).isl = f s.isl := rfl
@[simp] theorem State.islSet_ports (s : State) (f : Islands → Islands) : (s.islSet f).ports = s.ports := rfl
@[simp] theorem State.islSet_i2c (s : State) (f : Islands → Islands) : (s.islSet f).i2c = s.i2c := rfl
@[simp] theorem State.islSet_bank0 (s : State) (f : Islands → Islands) : (s.islSet f).bank0 = s.bank0 := rfl
@[simp] theorem State.islSet_bank1 (s : State) (f : Islands → Islands) : (s.islSet f).bank1 = s.bank1 := rfl
@[simp] theorem State.islSet_curBank (s : State) (f : Islands → Islands) : (s.islSet f).curBank = s.curBank := rfl
@[simp] theorem State.islSet_epoch (s : State) (f : Islands → Islands) : (s.islSet f).epoch = s.epoch := rfl
@[simp] theorem State.islSet_pa (s : State) (f : Islands → Islands) : (s.islSet f).pa = s.pa := rfl
@[simp] theorem State.islSet_pb (s : State) (f : Islands → Islands) : (s.islSet f).pb = s.pb := rfl
@[simp] theorem State.islSet_si (s : State) (f : Islands → Islands) : (s.islSet f).si = s.si := rfl
@[simp] theorem State.islSet_bi (s : State) (f : Islands → Islands) : (s.islSet f).bi = s.bi := rfl
@[simp] theorem State.islSet_ti (s : State) (f : Islands → Islands) : (s.islSet f).ti = s.ti := rfl
@[simp] theorem State.islSet_ringE (s : State) (f : Islands → Islands) : (s.islSet f).ringE = s.ringE := rfl
@[simp] theorem State.islSet_ringW (s : State) (f : Islands → Islands) : (s.islSet f).ringW = s.ringW := rfl
@[simp] theorem State.islSet_rsch (s : State) (f : Islands → Islands) : (s.islSet f).rsch = s.rsch := rfl
@[simp] theorem State.islSet_gw (s : State) (f : Islands → Islands) : (s.islSet f).gw = s.gw := rfl
@[simp] theorem State.islSet_img (s : State) (f : Islands → Islands) : (s.islSet f).img = s.img := rfl
@[simp] theorem State.islSet_boot (s : State) (f : Islands → Islands) : (s.islSet f).boot = s.boot := rfl
@[simp] theorem State.islSet_di (s : State) (f : Islands → Islands) : (s.islSet f).di = s.di := rfl
@[simp] theorem State.islSet_mg (s : State) (f : Islands → Islands) : (s.islSet f).mg = s.mg := rfl
@[simp] theorem State.islSet_fl (s : State) (f : Islands → Islands) : (s.islSet f).fl = s.fl := rfl
@[simp] theorem State.islSet_tag (s : State) (f : Islands → Islands) : (s.islSet f).tag = s.tag := rfl
@[simp] theorem State.islSet_cnt (s : State) (f : Islands → Islands) : (s.islSet f).cnt = s.cnt := rfl
@[simp] theorem State.islSet_sram (s : State) (f : Islands → Islands) : (s.islSet f).sram = s.sram := rfl
@[simp] theorem State.islSet_dram (s : State) (f : Islands → Islands) : (s.islSet f).dram = s.dram := rfl
@[simp] theorem State.islSet_flash (s : State) (f : Islands → Islands) : (s.islSet f).flash = s.flash := rfl
@[simp] theorem State.islSet_host (s : State) (f : Islands → Islands) : (s.islSet f).host = s.host := rfl
@[simp] theorem State.islSet_pending (s : State) (f : Islands → Islands) : (s.islSet f).pending = s.pending := rfl

/- ## State.mgSet -/
@[simp] theorem State.mgSet_regs (s : State) (f : Mgmt → Mgmt) : (s.mgSet f).regs = s.regs := rfl
@[simp] theorem State.mgSet_now (s : State) (f : Mgmt → Mgmt) : (s.mgSet f).now = s.now := rfl
@[simp] theorem State.mgSet_resp (s : State) (f : Mgmt → Mgmt) : (s.mgSet f).resp = s.resp := rfl
@[simp] theorem State.mgSet_out (s : State) (f : Mgmt → Mgmt) : (s.mgSet f).out = s.out := rfl
@[simp] theorem State.mgSet_free (s : State) (f : Mgmt → Mgmt) : (s.mgSet f).free = s.free := rfl
@[simp] theorem State.mgSet_log (s : State) (f : Mgmt → Mgmt) : (s.mgSet f).log = s.log := rfl
@[simp] theorem State.mgSet_chans (s : State) (f : Mgmt → Mgmt) : (s.mgSet f).chans = s.chans := rfl
@[simp] theorem State.mgSet_isl (s : State) (f : Mgmt → Mgmt) : (s.mgSet f).isl = s.isl := rfl
@[simp] theorem State.mgSet_ports (s : State) (f : Mgmt → Mgmt) : (s.mgSet f).ports = s.ports := rfl
@[simp] theorem State.mgSet_i2c (s : State) (f : Mgmt → Mgmt) : (s.mgSet f).i2c = s.i2c := rfl
@[simp] theorem State.mgSet_bank0 (s : State) (f : Mgmt → Mgmt) : (s.mgSet f).bank0 = s.bank0 := rfl
@[simp] theorem State.mgSet_bank1 (s : State) (f : Mgmt → Mgmt) : (s.mgSet f).bank1 = s.bank1 := rfl
@[simp] theorem State.mgSet_curBank (s : State) (f : Mgmt → Mgmt) : (s.mgSet f).curBank = s.curBank := rfl
@[simp] theorem State.mgSet_epoch (s : State) (f : Mgmt → Mgmt) : (s.mgSet f).epoch = s.epoch := rfl
@[simp] theorem State.mgSet_pa (s : State) (f : Mgmt → Mgmt) : (s.mgSet f).pa = s.pa := rfl
@[simp] theorem State.mgSet_pb (s : State) (f : Mgmt → Mgmt) : (s.mgSet f).pb = s.pb := rfl
@[simp] theorem State.mgSet_si (s : State) (f : Mgmt → Mgmt) : (s.mgSet f).si = s.si := rfl
@[simp] theorem State.mgSet_bi (s : State) (f : Mgmt → Mgmt) : (s.mgSet f).bi = s.bi := rfl
@[simp] theorem State.mgSet_ti (s : State) (f : Mgmt → Mgmt) : (s.mgSet f).ti = s.ti := rfl
@[simp] theorem State.mgSet_ringE (s : State) (f : Mgmt → Mgmt) : (s.mgSet f).ringE = s.ringE := rfl
@[simp] theorem State.mgSet_ringW (s : State) (f : Mgmt → Mgmt) : (s.mgSet f).ringW = s.ringW := rfl
@[simp] theorem State.mgSet_rsch (s : State) (f : Mgmt → Mgmt) : (s.mgSet f).rsch = s.rsch := rfl
@[simp] theorem State.mgSet_gw (s : State) (f : Mgmt → Mgmt) : (s.mgSet f).gw = s.gw := rfl
@[simp] theorem State.mgSet_img (s : State) (f : Mgmt → Mgmt) : (s.mgSet f).img = s.img := rfl
@[simp] theorem State.mgSet_boot (s : State) (f : Mgmt → Mgmt) : (s.mgSet f).boot = s.boot := rfl
@[simp] theorem State.mgSet_di (s : State) (f : Mgmt → Mgmt) : (s.mgSet f).di = s.di := rfl
@[simp] theorem State.mgSet_mg (s : State) (f : Mgmt → Mgmt) : (s.mgSet f).mg = f s.mg := rfl
@[simp] theorem State.mgSet_fl (s : State) (f : Mgmt → Mgmt) : (s.mgSet f).fl = s.fl := rfl
@[simp] theorem State.mgSet_tag (s : State) (f : Mgmt → Mgmt) : (s.mgSet f).tag = s.tag := rfl
@[simp] theorem State.mgSet_cnt (s : State) (f : Mgmt → Mgmt) : (s.mgSet f).cnt = s.cnt := rfl
@[simp] theorem State.mgSet_sram (s : State) (f : Mgmt → Mgmt) : (s.mgSet f).sram = s.sram := rfl
@[simp] theorem State.mgSet_dram (s : State) (f : Mgmt → Mgmt) : (s.mgSet f).dram = s.dram := rfl
@[simp] theorem State.mgSet_flash (s : State) (f : Mgmt → Mgmt) : (s.mgSet f).flash = s.flash := rfl
@[simp] theorem State.mgSet_host (s : State) (f : Mgmt → Mgmt) : (s.mgSet f).host = s.host := rfl
@[simp] theorem State.mgSet_pending (s : State) (f : Mgmt → Mgmt) : (s.mgSet f).pending = s.pending := rfl

/- ## State.tagSet -/
@[simp] theorem State.tagSet_regs (s : State) (f : Tag → Tag) : (s.tagSet f).regs = s.regs := rfl
@[simp] theorem State.tagSet_now (s : State) (f : Tag → Tag) : (s.tagSet f).now = s.now := rfl
@[simp] theorem State.tagSet_resp (s : State) (f : Tag → Tag) : (s.tagSet f).resp = s.resp := rfl
@[simp] theorem State.tagSet_out (s : State) (f : Tag → Tag) : (s.tagSet f).out = s.out := rfl
@[simp] theorem State.tagSet_free (s : State) (f : Tag → Tag) : (s.tagSet f).free = s.free := rfl
@[simp] theorem State.tagSet_log (s : State) (f : Tag → Tag) : (s.tagSet f).log = s.log := rfl
@[simp] theorem State.tagSet_chans (s : State) (f : Tag → Tag) : (s.tagSet f).chans = s.chans := rfl
@[simp] theorem State.tagSet_isl (s : State) (f : Tag → Tag) : (s.tagSet f).isl = s.isl := rfl
@[simp] theorem State.tagSet_ports (s : State) (f : Tag → Tag) : (s.tagSet f).ports = s.ports := rfl
@[simp] theorem State.tagSet_i2c (s : State) (f : Tag → Tag) : (s.tagSet f).i2c = s.i2c := rfl
@[simp] theorem State.tagSet_bank0 (s : State) (f : Tag → Tag) : (s.tagSet f).bank0 = s.bank0 := rfl
@[simp] theorem State.tagSet_bank1 (s : State) (f : Tag → Tag) : (s.tagSet f).bank1 = s.bank1 := rfl
@[simp] theorem State.tagSet_curBank (s : State) (f : Tag → Tag) : (s.tagSet f).curBank = s.curBank := rfl
@[simp] theorem State.tagSet_epoch (s : State) (f : Tag → Tag) : (s.tagSet f).epoch = s.epoch := rfl
@[simp] theorem State.tagSet_pa (s : State) (f : Tag → Tag) : (s.tagSet f).pa = s.pa := rfl
@[simp] theorem State.tagSet_pb (s : State) (f : Tag → Tag) : (s.tagSet f).pb = s.pb := rfl
@[simp] theorem State.tagSet_si (s : State) (f : Tag → Tag) : (s.tagSet f).si = s.si := rfl
@[simp] theorem State.tagSet_bi (s : State) (f : Tag → Tag) : (s.tagSet f).bi = s.bi := rfl
@[simp] theorem State.tagSet_ti (s : State) (f : Tag → Tag) : (s.tagSet f).ti = s.ti := rfl
@[simp] theorem State.tagSet_ringE (s : State) (f : Tag → Tag) : (s.tagSet f).ringE = s.ringE := rfl
@[simp] theorem State.tagSet_ringW (s : State) (f : Tag → Tag) : (s.tagSet f).ringW = s.ringW := rfl
@[simp] theorem State.tagSet_rsch (s : State) (f : Tag → Tag) : (s.tagSet f).rsch = s.rsch := rfl
@[simp] theorem State.tagSet_gw (s : State) (f : Tag → Tag) : (s.tagSet f).gw = s.gw := rfl
@[simp] theorem State.tagSet_img (s : State) (f : Tag → Tag) : (s.tagSet f).img = s.img := rfl
@[simp] theorem State.tagSet_boot (s : State) (f : Tag → Tag) : (s.tagSet f).boot = s.boot := rfl
@[simp] theorem State.tagSet_di (s : State) (f : Tag → Tag) : (s.tagSet f).di = s.di := rfl
@[simp] theorem State.tagSet_mg (s : State) (f : Tag → Tag) : (s.tagSet f).mg = s.mg := rfl
@[simp] theorem State.tagSet_fl (s : State) (f : Tag → Tag) : (s.tagSet f).fl = s.fl := rfl
@[simp] theorem State.tagSet_tag (s : State) (f : Tag → Tag) : (s.tagSet f).tag = f s.tag := rfl
@[simp] theorem State.tagSet_cnt (s : State) (f : Tag → Tag) : (s.tagSet f).cnt = s.cnt := rfl
@[simp] theorem State.tagSet_sram (s : State) (f : Tag → Tag) : (s.tagSet f).sram = s.sram := rfl
@[simp] theorem State.tagSet_dram (s : State) (f : Tag → Tag) : (s.tagSet f).dram = s.dram := rfl
@[simp] theorem State.tagSet_flash (s : State) (f : Tag → Tag) : (s.tagSet f).flash = s.flash := rfl
@[simp] theorem State.tagSet_host (s : State) (f : Tag → Tag) : (s.tagSet f).host = s.host := rfl
@[simp] theorem State.tagSet_pending (s : State) (f : Tag → Tag) : (s.tagSet f).pending = s.pending := rfl

/- ## Registers through updates that do not write them -/
@[simp] theorem State.quiet_rd (s : State) (g : Field) : s.quiet.rd g = s.rd g := by unfold State.rd; rw [State.quiet_regs]
@[simp] theorem State.quiet_isSet (s : State) (g : Field) : s.quiet.isSet g = s.isSet g := by
  unfold State.isSet; rw [State.quiet_rd]
@[simp] theorem State.emit_rd (s : State) (o : Output) (g : Field) : (s.emit o).rd g = s.rd g := by unfold State.rd; rw [State.emit_regs]
@[simp] theorem State.emit_isSet (s : State) (o : Output) (g : Field) : (s.emit o).isSet g = s.isSet g := by
  unfold State.isSet; rw [State.emit_rd]
@[simp] theorem State.answer_rd (s : State) (v : Nat) (g : Field) : (s.answer v).rd g = s.rd g := by unfold State.rd; rw [State.answer_regs]
@[simp] theorem State.answer_isSet (s : State) (v : Nat) (g : Field) : (s.answer v).isSet g = s.isSet g := by
  unfold State.isSet; rw [State.answer_rd]
@[simp] theorem State.tookFree_rd (s : State) (g : Field) : s.tookFree.rd g = s.rd g := by unfold State.rd; rw [State.tookFree_regs]
@[simp] theorem State.tookFree_isSet (s : State) (g : Field) : s.tookFree.isSet g = s.isSet g := by
  unfold State.isSet; rw [State.tookFree_rd]
@[simp] theorem State.dramAsk_rd (s : State) (w : DramWho) (b : Bool) (a n : Nat) (l : Frame) (g : Field) : (s.dramAsk w b a n l).rd g = s.rd g := by unfold State.rd; rw [State.dramAsk_regs]
@[simp] theorem State.dramAsk_isSet (s : State) (w : DramWho) (b : Bool) (a n : Nat) (l : Frame) (g : Field) : (s.dramAsk w b a n l).isSet g = s.isSet g := by
  unfold State.isSet; rw [State.dramAsk_rd]
@[simp] theorem State.dramWrite_rd (s : State) (a : Nat) (l : Frame) (g : Field) : (s.dramWrite a l).rd g = s.rd g := by unfold State.rd; rw [State.dramWrite_regs]
@[simp] theorem State.dramWrite_isSet (s : State) (a : Nat) (l : Frame) (g : Field) : (s.dramWrite a l).isSet g = s.isSet g := by
  unfold State.isSet; rw [State.dramWrite_rd]
@[simp] theorem State.sramWrite_rd (s : State) (a : Nat) (l : Frame) (g : Field) : (s.sramWrite a l).rd g = s.rd g := by unfold State.rd; rw [State.sramWrite_regs]
@[simp] theorem State.sramWrite_isSet (s : State) (a : Nat) (l : Frame) (g : Field) : (s.sramWrite a l).isSet g = s.isSet g := by
  unfold State.isSet; rw [State.sramWrite_rd]
@[simp] theorem State.flashWrite_rd (s : State) (a : Nat) (l : Frame) (g : Field) : (s.flashWrite a l).rd g = s.rd g := by unfold State.rd; rw [State.flashWrite_regs]
@[simp] theorem State.flashWrite_isSet (s : State) (a : Nat) (l : Frame) (g : Field) : (s.flashWrite a l).isSet g = s.isSet g := by
  unfold State.isSet; rw [State.flashWrite_rd]
@[simp] theorem State.hostWrite_rd (s : State) (a : Nat) (l : Frame) (g : Field) : (s.hostWrite a l).rd g = s.rd g := by unfold State.rd; rw [State.hostWrite_regs]
@[simp] theorem State.hostWrite_isSet (s : State) (a : Nat) (l : Frame) (g : Field) : (s.hostWrite a l).isSet g = s.isSet g := by
  unfold State.isSet; rw [State.hostWrite_rd]
@[simp] theorem State.setMac_rd (s : State) (p : Nat) (m : PortMac) (g : Field) : (s.setMac p m).rd g = s.rd g := by unfold State.rd; rw [State.setMac_regs]
@[simp] theorem State.setMac_isSet (s : State) (p : Nat) (m : PortMac) (g : Field) : (s.setMac p m).isSet g = s.isSet g := by
  unfold State.isSet; rw [State.setMac_rd]
@[simp] theorem State.setChan_rd (s : State) (c : Chan) (v : Channel) (g : Field) : (s.setChan c v).rd g = s.rd g := by unfold State.rd; rw [State.setChan_regs]
@[simp] theorem State.setChan_isSet (s : State) (c : Chan) (v : Channel) (g : Field) : (s.setChan c v).isSet g = s.isSet g := by
  unfold State.isSet; rw [State.setChan_rd]
@[simp] theorem State.setBq_rd (s : State) (q : Nat) (b : BufQueue) (g : Field) : (s.setBq q b).rd g = s.rd g := by unfold State.rd; rw [State.setBq_regs]
@[simp] theorem State.setBq_isSet (s : State) (q : Nat) (b : BufQueue) (g : Field) : (s.setBq q b).isSet g = s.isSet g := by
  unfold State.isSet; rw [State.setBq_rd]
@[simp] theorem State.setBank_rd (s : State) (b : Bool) (k : Bank) (g : Field) : (s.setBank b k).rd g = s.rd g := by unfold State.rd; rw [State.setBank_regs]
@[simp] theorem State.setBank_isSet (s : State) (b : Bool) (k : Bank) (g : Field) : (s.setBank b k).isSet g = s.isSet g := by
  unfold State.isSet; rw [State.setBank_rd]
@[simp] theorem State.setPipe_rd (s : State) (k : Nat) (p : Pipe) (g : Field) : (s.setPipe k p).rd g = s.rd g := by unfold State.rd; rw [State.setPipe_regs]
@[simp] theorem State.setPipe_isSet (s : State) (k : Nat) (p : Pipe) (g : Field) : (s.setPipe k p).isSet g = s.isSet g := by
  unfold State.isSet; rw [State.setPipe_rd]
@[simp] theorem State.setSi_rd (s : State) (f : Search → Search) (g : Field) : (s.setSi f).rd g = s.rd g := by unfold State.rd; rw [State.setSi_regs]
@[simp] theorem State.setSi_isSet (s : State) (f : Search → Search) (g : Field) : (s.setSi f).isSet g = s.isSet g := by
  unfold State.isSet; rw [State.setSi_rd]
@[simp] theorem State.setShaper_rd (s : State) (h : Nat) (v : Shaper) (g : Field) : (s.setShaper h v).rd g = s.rd g := by unfold State.rd; rw [State.setShaper_regs]
@[simp] theorem State.setShaper_isSet (s : State) (h : Nat) (v : Shaper) (g : Field) : (s.setShaper h v).isSet g = s.isSet g := by
  unfold State.isSet; rw [State.setShaper_rd]
@[simp] theorem State.setCar_rd (s : State) (p : Nat) (v : CarPort) (g : Field) : (s.setCar p v).rd g = s.rd g := by unfold State.rd; rw [State.setCar_regs]
@[simp] theorem State.setCar_isSet (s : State) (p : Nat) (v : CarPort) (g : Field) : (s.setCar p v).isSet g = s.isSet g := by
  unfold State.isSet; rw [State.setCar_rd]
@[simp] theorem State.setRing_rd (s : State) (d : Nat) (r : RingPort) (g : Field) : (s.setRing d r).rd g = s.rd g := by unfold State.rd; rw [State.setRing_regs]
@[simp] theorem State.setRing_isSet (s : State) (d : Nat) (r : RingPort) (g : Field) : (s.setRing d r).isSet g = s.isSet g := by
  unfold State.isSet; rw [State.setRing_rd]
@[simp] theorem State.rschSet_rd (s : State) (f : RingSched → RingSched) (g : Field) : (s.rschSet f).rd g = s.rd g := by unfold State.rd; rw [State.rschSet_regs]
@[simp] theorem State.rschSet_isSet (s : State) (f : RingSched → RingSched) (g : Field) : (s.rschSet f).isSet g = s.isSet g := by
  unfold State.isSet; rw [State.rschSet_rd]
@[simp] theorem State.setTrigQueue_rd (s : State) (k : Nat) (l : List (Nat × Frame)) (g : Field) : (s.setTrigQueue k l).rd g = s.rd g := by unfold State.rd; rw [State.setTrigQueue_regs]
@[simp] theorem State.setTrigQueue_isSet (s : State) (k : Nat) (l : List (Nat × Frame)) (g : Field) : (s.setTrigQueue k l).isSet g = s.isSet g := by
  unfold State.isSet; rw [State.setTrigQueue_rd]
@[simp] theorem State.tiSet_rd (s : State) (f : TimeIsland → TimeIsland) (g : Field) : (s.tiSet f).rd g = s.rd g := by unfold State.rd; rw [State.tiSet_regs]
@[simp] theorem State.tiSet_isSet (s : State) (f : TimeIsland → TimeIsland) (g : Field) : (s.tiSet f).isSet g = s.isSet g := by
  unfold State.isSet; rw [State.tiSet_rd]
@[simp] theorem State.bootSet_rd (s : State) (f : Boot → Boot) (g : Field) : (s.bootSet f).rd g = s.rd g := by unfold State.rd; rw [State.bootSet_regs]
@[simp] theorem State.bootSet_isSet (s : State) (f : Boot → Boot) (g : Field) : (s.bootSet f).isSet g = s.isSet g := by
  unfold State.isSet; rw [State.bootSet_rd]
@[simp] theorem State.diSet_rd (s : State) (f : Dram → Dram) (g : Field) : (s.diSet f).rd g = s.rd g := by unfold State.rd; rw [State.diSet_regs]
@[simp] theorem State.diSet_isSet (s : State) (f : Dram → Dram) (g : Field) : (s.diSet f).isSet g = s.isSet g := by
  unfold State.isSet; rw [State.diSet_rd]
@[simp] theorem State.imgSet_rd (s : State) (f : Loader → Loader) (g : Field) : (s.imgSet f).rd g = s.rd g := by unfold State.rd; rw [State.imgSet_regs]
@[simp] theorem State.imgSet_isSet (s : State) (f : Loader → Loader) (g : Field) : (s.imgSet f).isSet g = s.isSet g := by
  unfold State.isSet; rw [State.imgSet_rd]
@[simp] theorem State.islSet_rd (s : State) (f : Islands → Islands) (g : Field) : (s.islSet f).rd g = s.rd g := by unfold State.rd; rw [State.islSet_regs]
@[simp] theorem State.islSet_isSet (s : State) (f : Islands → Islands) (g : Field) : (s.islSet f).isSet g = s.isSet g := by
  unfold State.isSet; rw [State.islSet_rd]
@[simp] theorem State.mgSet_rd (s : State) (f : Mgmt → Mgmt) (g : Field) : (s.mgSet f).rd g = s.rd g := by unfold State.rd; rw [State.mgSet_regs]
@[simp] theorem State.mgSet_isSet (s : State) (f : Mgmt → Mgmt) (g : Field) : (s.mgSet f).isSet g = s.isSet g := by
  unfold State.isSet; rw [State.mgSet_rd]
@[simp] theorem State.tagSet_rd (s : State) (f : Tag → Tag) (g : Field) : (s.tagSet f).rd g = s.rd g := by unfold State.rd; rw [State.tagSet_regs]
@[simp] theorem State.tagSet_isSet (s : State) (f : Tag → Tag) (g : Field) : (s.tagSet f).isSet g = s.isSet g := by
  unfold State.isSet; rw [State.tagSet_rd]

end Sys2Proof.Machine
end

