-- ==== Sys2Proof/Laws/Registers.lean ====
section
/-!
SUPPORT. Register fields: what a field reads after a write of it and of another, and how `regsKept` and `restKept` compose.
-/
namespace Sys2Proof.Machine

/- ## One field -/

@[simp] theorem State.rd_wr_same (s : State) (f : Field) (v : Nat) : (s.wr f v).rd f = v % 2 ^ f.width := by
  simp [State.rd]

theorem State.rd_wr_ne (s : State) {f g : Field} (v : Nat) (h : g.key ≠ f.key) : (s.wr f v).rd g = s.rd g := by
  simp [State.rd, ngetD_nput_ne _ _ _ _ h]

/-- A field reads after a write what its key says: fields that share a key share their value. -/
theorem State.rd_wr (s : State) (f g : Field) (v : Nat) (hr : g.reset = f.reset) :
    (s.wr f v).rd g = if g.key = f.key then v % 2 ^ f.width else s.rd g := by
  split
  · rename_i h; simp [State.rd, h, hr]
  · rename_i h; exact s.rd_wr_ne v h

theorem State.isSet_eq (s : State) (f : Field) : s.isSet f = (s.rd f != 0) := rfl

theorem State.isSet_wr_ne (s : State) {f g : Field} (v : Nat) (h : g.key ≠ f.key) : (s.wr f v).isSet g = s.isSet g := by
  simp [State.isSet, s.rd_wr_ne v h]

theorem State.rd_flag_ne (s : State) {f g : Field} (b : Bool) (h : g.key ≠ f.key) : (s.flag f b).rd g = s.rd g :=
  s.rd_wr_ne _ h

theorem State.rd_orF_ne (s : State) {f g : Field} (m : Nat) (h : g.key ≠ f.key) : (s.orF f m).rd g = s.rd g := s.rd_wr_ne _ h

theorem State.rd_andNotF_ne (s : State) {f g : Field} (m : Nat) (h : g.key ≠ f.key) : (s.andNotF f m).rd g = s.rd g :=
  s.rd_wr_ne _ h

theorem State.rd_addF_ne (s : State) {f g : Field} (n : Nat) (h : g.key ≠ f.key) : (s.addF f n).rd g = s.rd g :=
  s.rd_wr_ne _ h

theorem State.rd_wrS_ne (s : State) {f g : Field} (x : Int) (h : g.key ≠ f.key) : (s.wrS f x).rd g = s.rd g :=
  s.rd_wr_ne _ h

theorem State.rd_rst_ne (s : State) {f g : Field} (h : g.key ≠ f.key) : (s.rst f).rd g = s.rd g := s.rd_wr_ne _ h

@[simp] theorem State.rd_flag_same (s : State) (f : Field) (b : Bool) :
    (s.flag f b).rd f = (if b then 1 else 0) % 2 ^ f.width := s.rd_wr_same f _

@[simp] theorem State.rd_addF_same (s : State) (f : Field) (n : Nat) : (s.addF f n).rd f = (s.rd f + n) % 2 ^ f.width :=
  s.rd_wr_same f _

@[simp] theorem State.rd_orF_same (s : State) (f : Field) (m : Nat) : (s.orF f m).rd f = (s.rd f ||| m) % 2 ^ f.width :=
  s.rd_wr_same f _

@[simp] theorem State.rd_wrS_same (s : State) (f : Field) (x : Int) :
    (s.wrS f x).rd f = unsignedOf f.width x % 2 ^ f.width := s.rd_wr_same f _

/-- A counter with an overflow field counts modulo its width (R546). -/
theorem State.rd_addOvf_same (s : State) {f o : Field} (bits n : Nat) (h : f.key ≠ o.key) :
    (s.addOvf f o bits n).rd f = (s.rd f + n) % 2 ^ f.width := by
  unfold State.addOvf
  split
  · rw [State.rd_orF_ne _ _ h, State.rd_addF_same]
  · rw [State.rd_addF_same]

theorem State.rd_addOvf_ne (s : State) {f o g : Field} (bits n : Nat) (hf : g.key ≠ f.key) (ho : g.key ≠ o.key) :
    (s.addOvf f o bits n).rd g = s.rd g := by
  unfold State.addOvf
  split
  · rw [State.rd_orF_ne _ _ ho, State.rd_addF_ne _ _ hf]
  · rw [State.rd_addF_ne _ _ hf]

/- ## Several fields -/

@[simp] theorem State.wrs_nil (s : State) : s.wrs [] = s := rfl
@[simp] theorem State.wrs_cons (s : State) (p : Field × Nat) (l : List (Field × Nat)) :
    s.wrs (p :: l) = (s.wr p.1 p.2).wrs l := rfl

/-- Writing fields changes the register file only. -/
theorem State.wrs_only (s : State) (l : List (Field × Nat)) : s.wrs l = { s with regs := (s.wrs l).regs } := by
  induction l generalizing s with
  | nil => rfl
  | cons p l ih => rw [State.wrs_cons, ih (s.wr p.1 p.2)]; rfl

theorem State.rd_wrs_ne (s : State) (l : List (Field × Nat)) {g : Field} (h : ∀ p ∈ l, g.key ≠ p.1.key) :
    (s.wrs l).rd g = s.rd g := by
  induction l generalizing s with
  | nil => rfl
  | cons p l ih =>
    rw [State.wrs_cons, ih _ fun q hq => h q (List.mem_cons_of_mem _ hq), State.rd_wr_ne _ _ (h p List.mem_cons_self)]

/- ## Reset -/

/-- After reset every field reads the value of its table. -/
theorem State.rd_reset (f : Field) : State.reset.rd f = f.reset := rfl

/- ## What stays -/

theorem State.regsKept.refl (s : State) (ex : List Field) : s.regsKept s ex := fun _ _ => rfl

theorem State.regsKept.trans {a b c : State} {ex : List Field} (h : a.regsKept b ex) (h' : b.regsKept c ex) :
    a.regsKept c ex := fun f hf => (h' f hf).trans (h f hf)

theorem State.regsKept.mono {a b : State} {ex ex' : List Field} (h : a.regsKept b ex) (hs : ∀ g ∈ ex, g ∈ ex') :
    a.regsKept b ex' := fun f hf => h f fun g hg => hf g (hs g hg)

/-- An update that leaves the register file keeps every register. -/
theorem State.regsKept.of_regs {a b : State} (h : b.regs = a.regs) (ex : List Field) : a.regsKept b ex :=
  fun f _ => by simp [State.rd, h]

theorem State.regsKept.wr {a b : State} {ex : List Field} (h : a.regsKept b ex) {f : Field} (v : Nat) (hf : f ∈ ex) :
    a.regsKept (b.wr f v) ex := fun g hg => (b.rd_wr_ne v (hg f hf)).trans (h g hg)

theorem State.regsKept.wrs {a b : State} {ex : List Field} (h : a.regsKept b ex) {l : List (Field × Nat)}
    (hl : ∀ p ∈ l, p.1 ∈ ex) : a.regsKept (b.wrs l) ex :=
  fun g hg => (b.rd_wrs_ne l fun p hp => hg p.1 (hl p hp)).trans (h g hg)

theorem State.regsKept.rest {a b : State} {ex : List Field} (h : a.regsKept b ex) : a.restKept b ex := fun f _ hf => h f hf

theorem State.restKept.refl (s : State) (ex : List Field) : s.restKept s ex := fun _ _ _ => rfl

theorem State.restKept.trans {a b c : State} {ex : List Field} (h : a.restKept b ex) (h' : b.restKept c ex) :
    a.restKept c ex := fun f hm hf => (h' f hm hf).trans (h f hm hf)

theorem State.restKept.mono {a b : State} {ex ex' : List Field} (h : a.restKept b ex) (hs : ∀ g ∈ ex, g ∈ ex') :
    a.restKept b ex' := fun f hm hf => h f hm fun g hg => hf g (hs g hg)

theorem State.restKept.of_regs {a b : State} (h : b.regs = a.regs) (ex : List Field) : a.restKept b ex :=
  (State.regsKept.of_regs h ex).rest

theorem State.restKept.wr {a b : State} {ex : List Field} (h : a.restKept b ex) {f : Field} (v : Nat)
    (hf : f ∈ ex ∨ f.moving = true) : a.restKept (b.wr f v) ex := by
  intro g hm hg
  refine (b.rd_wr_ne v ?_).trans (h g hm hg)
  rcases hf with hf | hf
  · exact hg f hf
  · intro hk
    have : g.moving = f.moving := by unfold Field.moving; rw [hk]
    rw [this, hf] at hm
    exact Bool.noConfusion hm

theorem State.restKept.wrs {a b : State} {ex : List Field} (h : a.restKept b ex) {l : List (Field × Nat)}
    (hl : ∀ p ∈ l, p.1 ∈ ex) : a.restKept (b.wrs l) ex :=
  fun g hm hg => (b.rd_wrs_ne l fun p hp => hg p.1 (hl p hp)).trans (h g hm hg)

/-- A field that is not among the listed ones reads as before. -/
theorem State.regsKept.rd {a b : State} {ex : List Field} (h : a.regsKept b ex) {f : Field}
    (hf : ∀ g ∈ ex, f.key ≠ g.key) : b.rd f = a.rd f := h f hf

theorem State.restKept.rd {a b : State} {ex : List Field} (h : a.restKept b ex) {f : Field} (hm : f.moving = false)
    (hf : ∀ g ∈ ex, f.key ≠ g.key) : b.rd f = a.rd f := h f hm hf

theorem State.memoriesKept.refl (s : State) : s.memoriesKept s := ⟨rfl, rfl, rfl, rfl, rfl, rfl⟩

theorem State.memoriesKept.trans {a b c : State} (h : a.memoriesKept b) (h' : b.memoriesKept c) : a.memoriesKept c :=
  ⟨h'.1.trans h.1, h'.2.1.trans h.2.1, h'.2.2.1.trans h.2.2.1, h'.2.2.2.1.trans h.2.2.2.1,
    h'.2.2.2.2.1.trans h.2.2.2.2.1, h'.2.2.2.2.2.trans h.2.2.2.2.2⟩

/- ## Completion -/

/-- A command that answers a next state completes with whatever holds of it. -/
theorem Completes.of_eq {c : Instr} {s u : State} {P : State → Prop} (h : exec c s = .next u) (hp : P u) :
    Completes c s P := ⟨u, h, hp⟩

theorem Completes.imp {c : Instr} {s : State} {P Q : State → Prop} (h : Completes c s P) (hi : ∀ u, P u → Q u) :
    Completes c s Q := let ⟨u, hu, hp⟩ := h; ⟨u, hu, hi u hp⟩

theorem Completes.and {c : Instr} {s : State} {P Q : State → Prop} (h : Completes c s P) (h' : Completes c s Q) :
    Completes c s fun u => P u ∧ Q u := by
  obtain ⟨u, hu, hp⟩ := h
  obtain ⟨v, hv, hq⟩ := h'
  obtain rfl : u = v := by rw [hu] at hv; cases hv; rfl
  exact ⟨u, hu, hp, hq⟩

end Sys2Proof.Machine
end

