-- ==== Sys2Proof/Laws/Invariant.lean ====
section
/-!
SUPPORT. The invariant of Safety.lean: it holds after reset, and every operation that writes a register, a memory or
another part of the state keeps it.
-/
namespace Sys2Proof.Machine

/-- The memories after reset are in canonical form: nothing is listed. -/
theorem State.memoriesOk_reset : State.reset.memoriesOk := ⟨rfl, rfl, rfl, rfl⟩

theorem State.registersOk_reset : State.reset.registersOk := rfl

/-- An update that leaves the memories keeps their form. -/
theorem State.memoriesOk.of_kept {a b : State} (h : a.memoriesOk) (hk : a.memoriesKept b) : b.memoriesOk := by
  obtain ⟨h1, h2, h3, h4, -⟩ := hk
  unfold State.memoriesOk
  rw [h1, h2, h3, h4]
  exact h

theorem State.registersOk.of_regs {a b : State} (h : a.registersOk) (hr : b.regs = a.regs) : b.registersOk := by
  unfold State.registersOk
  rw [hr]
  exact h

/-- An update that leaves registers and memories keeps the invariant. -/
theorem State.Inv.of_kept {a b : State} (h : a.Inv) (hk : a.memoriesKept b) (hr : b.regs = a.regs) : b.Inv :=
  ⟨h.1.of_kept hk, h.2.of_regs hr⟩

/-- Every memory operation keeps the canonical form of the memories. -/
theorem State.memoriesOk_sramWrite {s : State} (a : Nat) (l : Frame) (h : s.memoriesOk) : (s.sramWrite a l).memoriesOk :=
  ⟨Memory.wf_writeBytes a _ h.1, h.2.1, h.2.2.1, h.2.2.2⟩

theorem State.memoriesOk_dramWrite {s : State} (a : Nat) (l : Frame) (h : s.memoriesOk) : (s.dramWrite a l).memoriesOk :=
  ⟨h.1, Memory.wf_writeBytes a _ h.2.1, h.2.2.1, h.2.2.2⟩

theorem State.memoriesOk_flashWrite {s : State} (a : Nat) (l : Frame) (h : s.memoriesOk) : (s.flashWrite a l).memoriesOk :=
  ⟨h.1, h.2.1, Memory.wf_writeBytes a l h.2.2.1, h.2.2.2⟩

theorem State.memoriesOk_hostWrite {s : State} (a : Nat) (l : Frame) (h : s.memoriesOk) : (s.hostWrite a l).memoriesOk :=
  ⟨h.1, h.2.1, h.2.2.1, Memory.wf_writeBytes a l h.2.2.2⟩

theorem State.memoriesOk_breaks {s : State} (a n : Nat) (h : s.memoriesOk) : (s.breaks a n).memoriesOk := by
  unfold State.breaks
  split
  · split <;> exact h
  · exact h

theorem State.memoriesOk_busWrite {s : State} (who : DramWho) (a : Nat) (l : Frame) (h : s.memoriesOk) :
    (s.busWrite who a l).memoriesOk := by
  unfold State.busWrite
  split
  · exact State.memoriesOk_breaks _ _ (State.memoriesOk_sramWrite _ _ h)
  · split <;> exact h

/-- Writing a field keeps the form of the register file. -/
theorem State.registersOk_wr {s : State} (f : Field) (v : Nat) (h : s.registersOk) : (s.wr f v).registersOk :=
  nsorted_nput _ _ _ h

theorem State.Inv_wr {s : State} (f : Field) (v : Nat) (h : s.Inv) : (s.wr f v).Inv := ⟨h.1, State.registersOk_wr f v h.2⟩

theorem State.Inv_wrs {s : State} (l : List (Field × Nat)) (h : s.Inv) : (s.wrs l).Inv := by
  induction l generalizing s with
  | nil => exact h
  | cons p l ih => exact ih (State.Inv_wr p.1 p.2 h)

theorem State.Inv_addOvf {s : State} (f o : Field) (bits n : Nat) (h : s.Inv) : (s.addOvf f o bits n).Inv := by
  unfold State.addOvf
  split
  · exact State.Inv_wr _ _ (State.Inv_wr _ _ h)
  · exact State.Inv_wr _ _ h

/-- A fold of operations each of which keeps a property keeps it. -/
theorem State.foldl_keeps {α : Type} {P : State → Prop} {f : State → α → State} (hf : ∀ s a, P s → P (f s a)) (l : List α)
    {s : State} (h : P s) : P (l.foldl f s) := by
  induction l generalizing s with
  | nil => exact h
  | cons a l ih => exact ih (hf s a h)

end Sys2Proof.Machine
end

