-- ==== Sys2Proof/Laws/Shared.lean ====
section
/-!
SUPPORT. The operations every family shares, once each: which parts of the state they touch (`…_only`), what they leave in
every other field, that they keep the invariant, and which registers they move.
-/
namespace Sys2Proof.Machine

/- ## Which parts they touch -/

theorem State.advance_only (s : State) (t : Nat) :
    s.advance t = { s with regs := (s.advance t).regs, now := (s.advance t).now } := by
  unfold State.advance; split <;> rfl

theorem State.setPend_only (s : State) (n : Nat) (b : Bool) : s.setPend n b = { s with regs := (s.setPend n b).regs } := by
  unfold State.setPend; split <;> rfl

theorem State.addOvf_only (s : State) (f o : Field) (bits n : Nat) :
    s.addOvf f o bits n = { s with regs := (s.addOvf f o bits n).regs } := by
  unfold State.addOvf; split <;> rfl

theorem State.msix_only (s : State) (v : Nat) : s.msix v = { s with regs := (s.msix v).regs, out := (s.msix v).out } := by
  unfold State.msix; split <;> rfl

theorem State.deliver_only (s : State) (n : Nat) :
    s.deliver n = { s with regs := (s.deliver n).regs, out := (s.deliver n).out } := by
  unfold State.deliver
  split
  · rw [State.msix_only]; simp only [State.wr]; rw [State.setPend_only]
  · rfl

/-- Raising a source writes registers and may put a message out; nothing else. -/
theorem State.raise_only (s : State) (n : Nat) : s.raise n = { s with regs := (s.raise n).regs, out := (s.raise n).out } := by
  unfold State.raise
  split
  · rfl
  · rw [State.deliver_only, State.setPend_only]

theorem State.raiseIf_only (s : State) (b : Bool) (n : Nat) :
    s.raiseIf b n = { s with regs := (s.raiseIf b n).regs, out := (s.raiseIf b n).out } := by
  unfold State.raiseIf
  split
  · exact s.raise_only n
  · rfl

theorem State.bump_only (s : State) (i k n : Nat) :
    s.bump i k n = { s with regs := (s.bump i k n).regs, out := (s.bump i k n).out } := by
  unfold State.bump
  dsimp only
  split
  · split
    · rw [State.raise_only, State.addOvf_only]
    · rw [State.addOvf_only]
  · rw [State.addOvf_only]

theorem State.count1_only (s : State) (i ev n k : Nat) :
    s.count1 i ev n k = { s with regs := (s.count1 i ev n k).regs, out := (s.count1 i ev n k).out } := by
  unfold State.count1
  split
  · exact s.bump_only i k n
  · rfl

theorem State.only_trans {b m u : State} (h : m = { b with regs := m.regs, out := m.out })
    (h' : u = { m with regs := u.regs, out := u.out }) : u = { b with regs := u.regs, out := u.out } := by
  rw [h', h]

/-- A fold of operations that touch registers and output only touches registers and output only. -/
theorem State.foldl_only {α : Type} (f : State → α → State)
    (hf : ∀ s a, f s a = { s with regs := (f s a).regs, out := (f s a).out }) (l : List α) (s : State) :
    l.foldl f s = { s with regs := (l.foldl f s).regs, out := (l.foldl f s).out } := by
  induction l generalizing s with
  | nil => rfl
  | cons a l ih => exact State.only_trans (hf s a) (ih (f s a))

/-- Counting an event writes registers and may put a message out; nothing else. -/
theorem State.count_only (s : State) (i ev n : Nat) :
    s.count i ev n = { s with regs := (s.count i ev n).regs, out := (s.count i ev n).out } := by
  unfold State.count
  split
  · rfl
  · exact State.foldl_only _ (fun s k => s.count1_only i ev n k) _ s

/-- Progress ends a stall of the island and is counted. -/
theorem State.progress_only (s : State) (i : Nat) :
    s.progress i = { s with regs := (s.progress i).regs, out := (s.progress i).out, isl := (s.progress i).isl } := by
  unfold State.progress
  rw [State.count_only]
  rfl

theorem State.counted_only (s : State) (i : Nat) :
    s.counted i = { s with regs := (s.counted i).regs, out := (s.counted i).out } := s.count_only i 5 1

theorem State.unmapped_only (s : State) (src : Src) (i off : Nat) :
    s.unmapped src i off = { s with regs := (s.unmapped src i off).regs } := s.wrs_only _

theorem State.narrowPop_only (s : State) (src : Src) (i off : Nat) :
    s.narrowPop src i off = { s with regs := (s.narrowPop src i off).regs } := s.wrs_only _

/-- Counting cycles writes registers, may put messages out, and keeps which level counters held. -/
theorem State.countCycles_only (s : State) (t1 : Nat) :
    s.countCycles t1 = { s with regs := (s.countCycles t1).regs, out := (s.countCycles t1).out,
                                cnt := (s.countCycles t1).cnt } := by
  have h : ∀ (f : State → Nat → State) (l : List Nat), (∀ s' a, f s' a = { s' with regs := (f s' a).regs, out := (f s' a).out }) →
      l.foldl f s = { s with regs := (l.foldl f s).regs, out := (l.foldl f s).out } :=
    fun f l hf => State.foldl_only f hf l s
  unfold State.countCycles
  dsimp only
  split
  · rw [h _ _ ?_]
    intro s' a
    split_ifs <;> first | rfl | exact State.bump_only _ _ _ _
  · rw [h _ _ ?_]
    intro s' a
    split_ifs <;> first | rfl | exact State.bump_only _ _ _ _

/-- Time passing for the progress monitors writes the stall times only. -/
theorem State.stallTime_only (s : State) (dt : Nat) : s.stallTime dt = { s with isl := (s.stallTime dt).isl } := by
  unfold State.stallTime
  split <;> rfl

/-- Beginning a command lets time run, counts cycles and the time islands are stalled; the output is empty at first. -/
theorem State.begin_only (s : State) (t : Nat) :
    s.begin t = { s with regs := (s.begin t).regs, now := (s.begin t).now, out := (s.begin t).out, cnt := (s.begin t).cnt,
                         isl := (s.begin t).isl } := by
  unfold State.begin
  split
  · rfl
  · rw [State.advance_only, State.stallTime_only, State.countCycles_only]
    rfl

theorem State.logPut_only (s : State) (cause i count : Nat) :
    s.logPut cause i count = { s with regs := (s.logPut cause i count).regs, di := (s.logPut cause i count).di,
                                      free := (s.logPut cause i count).free } := by
  unfold State.logPut
  split
  · rfl
  · split <;> rfl

theorem State.logEvent_only (s : State) (cause i : Nat) :
    s.logEvent cause i = { s with regs := (s.logEvent cause i).regs, di := (s.logEvent cause i).di,
                                  free := (s.logEvent cause i).free, log := (s.logEvent cause i).log } := by
  unfold State.logEvent
  dsimp only
  split <;> split <;> first | rw [State.logPut_only] | rfl

/- ## What every other field reads after them -/

@[simp] theorem State.wrs_now (s : State) (l : List (Field × Nat)) : (s.wrs l).now = s.now := by rw [State.wrs_only]
@[simp] theorem State.wrs_resp (s : State) (l : List (Field × Nat)) : (s.wrs l).resp = s.resp := by rw [State.wrs_only]
@[simp] theorem State.wrs_out (s : State) (l : List (Field × Nat)) : (s.wrs l).out = s.out := by rw [State.wrs_only]
@[simp] theorem State.wrs_free (s : State) (l : List (Field × Nat)) : (s.wrs l).free = s.free := by rw [State.wrs_only]
@[simp] theorem State.wrs_log (s : State) (l : List (Field × Nat)) : (s.wrs l).log = s.log := by rw [State.wrs_only]
@[simp] theorem State.wrs_chans (s : State) (l : List (Field × Nat)) : (s.wrs l).chans = s.chans := by rw [State.wrs_only]
@[simp] theorem State.wrs_isl (s : State) (l : List (Field × Nat)) : (s.wrs l).isl = s.isl := by rw [State.wrs_only]
@[simp] theorem State.wrs_ports (s : State) (l : List (Field × Nat)) : (s.wrs l).ports = s.ports := by rw [State.wrs_only]
@[simp] theorem State.wrs_i2c (s : State) (l : List (Field × Nat)) : (s.wrs l).i2c = s.i2c := by rw [State.wrs_only]
@[simp] theorem State.wrs_bank0 (s : State) (l : List (Field × Nat)) : (s.wrs l).bank0 = s.bank0 := by rw [State.wrs_only]
@[simp] theorem State.wrs_bank1 (s : State) (l : List (Field × Nat)) : (s.wrs l).bank1 = s.bank1 := by rw [State.wrs_only]
@[simp] theorem State.wrs_curBank (s : State) (l : List (Field × Nat)) : (s.wrs l).curBank = s.curBank := by rw [State.wrs_only]
@[simp] theorem State.wrs_epoch (s : State) (l : List (Field × Nat)) : (s.wrs l).epoch = s.epoch := by rw [State.wrs_only]
@[simp] theorem State.wrs_pa (s : State) (l : List (Field × Nat)) : (s.wrs l).pa = s.pa := by rw [State.wrs_only]
@[simp] theorem State.wrs_pb (s : State) (l : List (Field × Nat)) : (s.wrs l).pb = s.pb := by rw [State.wrs_only]
@[simp] theorem State.wrs_si (s : State) (l : List (Field × Nat)) : (s.wrs l).si = s.si := by rw [State.wrs_only]
@[simp] theorem State.wrs_bi (s : State) (l : List (Field × Nat)) : (s.wrs l).bi = s.bi := by rw [State.wrs_only]
@[simp] theorem State.wrs_ti (s : State) (l : List (Field × Nat)) : (s.wrs l).ti = s.ti := by rw [State.wrs_only]
@[simp] theorem State.wrs_ringE (s : State) (l : List (Field × Nat)) : (s.wrs l).ringE = s.ringE := by rw [State.wrs_only]
@[simp] theorem State.wrs_ringW (s : State) (l : List (Field × Nat)) : (s.wrs l).ringW = s.ringW := by rw [State.wrs_only]
@[simp] theorem State.wrs_rsch (s : State) (l : List (Field × Nat)) : (s.wrs l).rsch = s.rsch := by rw [State.wrs_only]
@[simp] theorem State.wrs_gw (s : State) (l : List (Field × Nat)) : (s.wrs l).gw = s.gw := by rw [State.wrs_only]
@[simp] theorem State.wrs_img (s : State) (l : List (Field × Nat)) : (s.wrs l).img = s.img := by rw [State.wrs_only]
@[simp] theorem State.wrs_boot (s : State) (l : List (Field × Nat)) : (s.wrs l).boot = s.boot := by rw [State.wrs_only]
@[simp] theorem State.wrs_di (s : State) (l : List (Field × Nat)) : (s.wrs l).di = s.di := by rw [State.wrs_only]
@[simp] theorem State.wrs_mg (s : State) (l : List (Field × Nat)) : (s.wrs l).mg = s.mg := by rw [State.wrs_only]
@[simp] theorem State.wrs_fl (s : State) (l : List (Field × Nat)) : (s.wrs l).fl = s.fl := by rw [State.wrs_only]
@[simp] theorem State.wrs_tag (s : State) (l : List (Field × Nat)) : (s.wrs l).tag = s.tag := by rw [State.wrs_only]
@[simp] theorem State.wrs_cnt (s : State) (l : List (Field × Nat)) : (s.wrs l).cnt = s.cnt := by rw [State.wrs_only]
@[simp] theorem State.wrs_sram (s : State) (l : List (Field × Nat)) : (s.wrs l).sram = s.sram := by rw [State.wrs_only]
@[simp] theorem State.wrs_dram (s : State) (l : List (Field × Nat)) : (s.wrs l).dram = s.dram := by rw [State.wrs_only]
@[simp] theorem State.wrs_flash (s : State) (l : List (Field × Nat)) : (s.wrs l).flash = s.flash := by rw [State.wrs_only]
@[simp] theorem State.wrs_host (s : State) (l : List (Field × Nat)) : (s.wrs l).host = s.host := by rw [State.wrs_only]
@[simp] theorem State.wrs_pending (s : State) (l : List (Field × Nat)) : (s.wrs l).pending = s.pending := by rw [State.wrs_only]

@[simp] theorem State.advance_resp (s : State) (t : Nat) : (s.advance t).resp = s.resp := by rw [State.advance_only]
@[simp] theorem State.advance_out (s : State) (t : Nat) : (s.advance t).out = s.out := by rw [State.advance_only]
@[simp] theorem State.advance_free (s : State) (t : Nat) : (s.advance t).free = s.free := by rw [State.advance_only]
@[simp] theorem State.advance_log (s : State) (t : Nat) : (s.advance t).log = s.log := by rw [State.advance_only]
@[simp] theorem State.advance_chans (s : State) (t : Nat) : (s.advance t).chans = s.chans := by rw [State.advance_only]
@[simp] theorem State.advance_isl (s : State) (t : Nat) : (s.advance t).isl = s.isl := by rw [State.advance_only]
@[simp] theorem State.advance_ports (s : State) (t : Nat) : (s.advance t).ports = s.ports := by rw [State.advance_only]
@[simp] theorem State.advance_i2c (s : State) (t : Nat) : (s.advance t).i2c = s.i2c := by rw [State.advance_only]
@[simp] theorem State.advance_bank0 (s : State) (t : Nat) : (s.advance t).bank0 = s.bank0 := by rw [State.advance_only]
@[simp] theorem State.advance_bank1 (s : State) (t : Nat) : (s.advance t).bank1 = s.bank1 := by rw [State.advance_only]
@[simp] theorem State.advance_curBank (s : State) (t : Nat) : (s.advance t).curBank = s.curBank := by rw [State.advance_only]
@[simp] theorem State.advance_epoch (s : State) (t : Nat) : (s.advance t).epoch = s.epoch := by rw [State.advance_only]
@[simp] theorem State.advance_pa (s : State) (t : Nat) : (s.advance t).pa = s.pa := by rw [State.advance_only]
@[simp] theorem State.advance_pb (s : State) (t : Nat) : (s.advance t).pb = s.pb := by rw [State.advance_only]
@[simp] theorem State.advance_si (s : State) (t : Nat) : (s.advance t).si = s.si := by rw [State.advance_only]
@[simp] theorem State.advance_bi (s : State) (t : Nat) : (s.advance t).bi = s.bi := by rw [State.advance_only]
@[simp] theorem State.advance_ti (s : State) (t : Nat) : (s.advance t).ti = s.ti := by rw [State.advance_only]
@[simp] theorem State.advance_ringE (s : State) (t : Nat) : (s.advance t).ringE = s.ringE := by rw [State.advance_only]
@[simp] theorem State.advance_ringW (s : State) (t : Nat) : (s.advance t).ringW = s.ringW := by rw [State.advance_only]
@[simp] theorem State.advance_rsch (s : State) (t : Nat) : (s.advance t).rsch = s.rsch := by rw [State.advance_only]
@[simp] theorem State.advance_gw (s : State) (t : Nat) : (s.advance t).gw = s.gw := by rw [State.advance_only]
@[simp] theorem State.advance_img (s : State) (t : Nat) : (s.advance t).img = s.img := by rw [State.advance_only]
@[simp] theorem State.advance_boot (s : State) (t : Nat) : (s.advance t).boot = s.boot := by rw [State.advance_only]
@[simp] theorem State.advance_di (s : State) (t : Nat) : (s.advance t).di = s.di := by rw [State.advance_only]
@[simp] theorem State.advance_mg (s : State) (t : Nat) : (s.advance t).mg = s.mg := by rw [State.advance_only]
@[simp] theorem State.advance_fl (s : State) (t : Nat) : (s.advance t).fl = s.fl := by rw [State.advance_only]
@[simp] theorem State.advance_tag (s : State) (t : Nat) : (s.advance t).tag = s.tag := by rw [State.advance_only]
@[simp] theorem State.advance_cnt (s : State) (t : Nat) : (s.advance t).cnt = s.cnt := by rw [State.advance_only]
@[simp] theorem State.advance_sram (s : State) (t : Nat) : (s.advance t).sram = s.sram := by rw [State.advance_only]
@[simp] theorem State.advance_dram (s : State) (t : Nat) : (s.advance t).dram = s.dram := by rw [State.advance_only]
@[simp] theorem State.advance_flash (s : State) (t : Nat) : (s.advance t).flash = s.flash := by rw [State.advance_only]
@[simp] theorem State.advance_host (s : State) (t : Nat) : (s.advance t).host = s.host := by rw [State.advance_only]
@[simp] theorem State.advance_pending (s : State) (t : Nat) : (s.advance t).pending = s.pending := by rw [State.advance_only]

@[simp] theorem State.msix_now (s : State) (v : Nat) : (s.msix v).now = s.now := by rw [State.msix_only]
@[simp] theorem State.msix_resp (s : State) (v : Nat) : (s.msix v).resp = s.resp := by rw [State.msix_only]
@[simp] theorem State.msix_free (s : State) (v : Nat) : (s.msix v).free = s.free := by rw [State.msix_only]
@[simp] theorem State.msix_log (s : State) (v : Nat) : (s.msix v).log = s.log := by rw [State.msix_only]
@[simp] theorem State.msix_chans (s : State) (v : Nat) : (s.msix v).chans = s.chans := by rw [State.msix_only]
@[simp] theorem State.msix_isl (s : State) (v : Nat) : (s.msix v).isl = s.isl := by rw [State.msix_only]
@[simp] theorem State.msix_ports (s : State) (v : Nat) : (s.msix v).ports = s.ports := by rw [State.msix_only]
@[simp] theorem State.msix_i2c (s : State) (v : Nat) : (s.msix v).i2c = s.i2c := by rw [State.msix_only]
@[simp] theorem State.msix_bank0 (s : State) (v : Nat) : (s.msix v).bank0 = s.bank0 := by rw [State.msix_only]
@[simp] theorem State.msix_bank1 (s : State) (v : Nat) : (s.msix v).bank1 = s.bank1 := by rw [State.msix_only]
@[simp] theorem State.msix_curBank (s : State) (v : Nat) : (s.msix v).curBank = s.curBank := by rw [State.msix_only]
@[simp] theorem State.msix_epoch (s : State) (v : Nat) : (s.msix v).epoch = s.epoch := by rw [State.msix_only]
@[simp] theorem State.msix_pa (s : State) (v : Nat) : (s.msix v).pa = s.pa := by rw [State.msix_only]
@[simp] theorem State.msix_pb (s : State) (v : Nat) : (s.msix v).pb = s.pb := by rw [State.msix_only]
@[simp] theorem State.msix_si (s : State) (v : Nat) : (s.msix v).si = s.si := by rw [State.msix_only]
@[simp] theorem State.msix_bi (s : State) (v : Nat) : (s.msix v).bi = s.bi := by rw [State.msix_only]
@[simp] theorem State.msix_ti (s : State) (v : Nat) : (s.msix v).ti = s.ti := by rw [State.msix_only]
@[simp] theorem State.msix_ringE (s : State) (v : Nat) : (s.msix v).ringE = s.ringE := by rw [State.msix_only]
@[simp] theorem State.msix_ringW (s : State) (v : Nat) : (s.msix v).ringW = s.ringW := by rw [State.msix_only]
@[simp] theorem State.msix_rsch (s : State) (v : Nat) : (s.msix v).rsch = s.rsch := by rw [State.msix_only]
@[simp] theorem State.msix_gw (s : State) (v : Nat) : (s.msix v).gw = s.gw := by rw [State.msix_only]
@[simp] theorem State.msix_img (s : State) (v : Nat) : (s.msix v).img = s.img := by rw [State.msix_only]
@[simp] theorem State.msix_boot (s : State) (v : Nat) : (s.msix v).boot = s.boot := by rw [State.msix_only]
@[simp] theorem State.msix_di (s : State) (v : Nat) : (s.msix v).di = s.di := by rw [State.msix_only]
@[simp] theorem State.msix_mg (s : State) (v : Nat) : (s.msix v).mg = s.mg := by rw [State.msix_only]
@[simp] theorem State.msix_fl (s : State) (v : Nat) : (s.msix v).fl = s.fl := by rw [State.msix_only]
@[simp] theorem State.msix_tag (s : State) (v : Nat) : (s.msix v).tag = s.tag := by rw [State.msix_only]
@[simp] theorem State.msix_cnt (s : State) (v : Nat) : (s.msix v).cnt = s.cnt := by rw [State.msix_only]
@[simp] theorem State.msix_sram (s : State) (v : Nat) : (s.msix v).sram = s.sram := by rw [State.msix_only]
@[simp] theorem State.msix_dram (s : State) (v : Nat) : (s.msix v).dram = s.dram := by rw [State.msix_only]
@[simp] theorem State.msix_flash (s : State) (v : Nat) : (s.msix v).flash = s.flash := by rw [State.msix_only]
@[simp] theorem State.msix_host (s : State) (v : Nat) : (s.msix v).host = s.host := by rw [State.msix_only]
@[simp] theorem State.msix_pending (s : State) (v : Nat) : (s.msix v).pending = s.pending := by rw [State.msix_only]

@[simp] theorem State.deliver_now (s : State) (n : Nat) : (s.deliver n).now = s.now := by rw [State.deliver_only]
@[simp] theorem State.deliver_resp (s : State) (n : Nat) : (s.deliver n).resp = s.resp := by rw [State.deliver_only]
@[simp] theorem State.deliver_free (s : State) (n : Nat) : (s.deliver n).free = s.free := by rw [State.deliver_only]
@[simp] theorem State.deliver_log (s : State) (n : Nat) : (s.deliver n).log = s.log := by rw [State.deliver_only]
@[simp] theorem State.deliver_chans (s : State) (n : Nat) : (s.deliver n).chans = s.chans := by rw [State.deliver_only]
@[simp] theorem State.deliver_isl (s : State) (n : Nat) : (s.deliver n).isl = s.isl := by rw [State.deliver_only]
@[simp] theorem State.deliver_ports (s : State) (n : Nat) : (s.deliver n).ports = s.ports := by rw [State.deliver_only]
@[simp] theorem State.deliver_i2c (s : State) (n : Nat) : (s.deliver n).i2c = s.i2c := by rw [State.deliver_only]
@[simp] theorem State.deliver_bank0 (s : State) (n : Nat) : (s.deliver n).bank0 = s.bank0 := by rw [State.deliver_only]
@[simp] theorem State.deliver_bank1 (s : State) (n : Nat) : (s.deliver n).bank1 = s.bank1 := by rw [State.deliver_only]
@[simp] theorem State.deliver_curBank (s : State) (n : Nat) : (s.deliver n).curBank = s.curBank := by rw [State.deliver_only]
@[simp] theorem State.deliver_epoch (s : State) (n : Nat) : (s.deliver n).epoch = s.epoch := by rw [State.deliver_only]
@[simp] theorem State.deliver_pa (s : State) (n : Nat) : (s.deliver n).pa = s.pa := by rw [State.deliver_only]
@[simp] theorem State.deliver_pb (s : State) (n : Nat) : (s.deliver n).pb = s.pb := by rw [State.deliver_only]
@[simp] theorem State.deliver_si (s : State) (n : Nat) : (s.deliver n).si = s.si := by rw [State.deliver_only]
@[simp] theorem State.deliver_bi (s : State) (n : Nat) : (s.deliver n).bi = s.bi := by rw [State.deliver_only]
@[simp] theorem State.deliver_ti (s : State) (n : Nat) : (s.deliver n).ti = s.ti := by rw [State.deliver_only]
@[simp] theorem State.deliver_ringE (s : State) (n : Nat) : (s.deliver n).ringE = s.ringE := by rw [State.deliver_only]
@[simp] theorem State.deliver_ringW (s : State) (n : Nat) : (s.deliver n).ringW = s.ringW := by rw [State.deliver_only]
@[simp] theorem State.deliver_rsch (s : State) (n : Nat) : (s.deliver n).rsch = s.rsch := by rw [State.deliver_only]
@[simp] theorem State.deliver_gw (s : State) (n : Nat) : (s.deliver n).gw = s.gw := by rw [State.deliver_only]
@[simp] theorem State.deliver_img (s : State) (n : Nat) : (s.deliver n).img = s.img := by rw [State.deliver_only]
@[simp] theorem State.deliver_boot (s : State) (n : Nat) : (s.deliver n).boot = s.boot := by rw [State.deliver_only]
@[simp] theorem State.deliver_di (s : State) (n : Nat) : (s.deliver n).di = s.di := by rw [State.deliver_only]
@[simp] theorem State.deliver_mg (s : State) (n : Nat) : (s.deliver n).mg = s.mg := by rw [State.deliver_only]
@[simp] theorem State.deliver_fl (s : State) (n : Nat) : (s.deliver n).fl = s.fl := by rw [State.deliver_only]
@[simp] theorem State.deliver_tag (s : State) (n : Nat) : (s.deliver n).tag = s.tag := by rw [State.deliver_only]
@[simp] theorem State.deliver_cnt (s : State) (n : Nat) : (s.deliver n).cnt = s.cnt := by rw [State.deliver_only]
@[simp] theorem State.deliver_sram (s : State) (n : Nat) : (s.deliver n).sram = s.sram := by rw [State.deliver_only]
@[simp] theorem State.deliver_dram (s : State) (n : Nat) : (s.deliver n).dram = s.dram := by rw [State.deliver_only]
@[simp] theorem State.deliver_flash (s : State) (n : Nat) : (s.deliver n).flash = s.flash := by rw [State.deliver_only]
@[simp] theorem State.deliver_host (s : State) (n : Nat) : (s.deliver n).host = s.host := by rw [State.deliver_only]
@[simp] theorem State.deliver_pending (s : State) (n : Nat) : (s.deliver n).pending = s.pending := by rw [State.deliver_only]

@[simp] theorem State.raise_now (s : State) (n : Nat) : (s.raise n).now = s.now := by rw [State.raise_only]
@[simp] theorem State.raise_resp (s : State) (n : Nat) : (s.raise n).resp = s.resp := by rw [State.raise_only]
@[simp] theorem State.raise_free (s : State) (n : Nat) : (s.raise n).free = s.free := by rw [State.raise_only]
@[simp] theorem State.raise_log (s : State) (n : Nat) : (s.raise n).log = s.log := by rw [State.raise_only]
@[simp] theorem State.raise_chans (s : State) (n : Nat) : (s.raise n).chans = s.chans := by rw [State.raise_only]
@[simp] theorem State.raise_isl (s : State) (n : Nat) : (s.raise n).isl = s.isl := by rw [State.raise_only]
@[simp] theorem State.raise_ports (s : State) (n : Nat) : (s.raise n).ports = s.ports := by rw [State.raise_only]
@[simp] theorem State.raise_i2c (s : State) (n : Nat) : (s.raise n).i2c = s.i2c := by rw [State.raise_only]
@[simp] theorem State.raise_bank0 (s : State) (n : Nat) : (s.raise n).bank0 = s.bank0 := by rw [State.raise_only]
@[simp] theorem State.raise_bank1 (s : State) (n : Nat) : (s.raise n).bank1 = s.bank1 := by rw [State.raise_only]
@[simp] theorem State.raise_curBank (s : State) (n : Nat) : (s.raise n).curBank = s.curBank := by rw [State.raise_only]
@[simp] theorem State.raise_epoch (s : State) (n : Nat) : (s.raise n).epoch = s.epoch := by rw [State.raise_only]
@[simp] theorem State.raise_pa (s : State) (n : Nat) : (s.raise n).pa = s.pa := by rw [State.raise_only]
@[simp] theorem State.raise_pb (s : State) (n : Nat) : (s.raise n).pb = s.pb := by rw [State.raise_only]
@[simp] theorem State.raise_si (s : State) (n : Nat) : (s.raise n).si = s.si := by rw [State.raise_only]
@[simp] theorem State.raise_bi (s : State) (n : Nat) : (s.raise n).bi = s.bi := by rw [State.raise_only]
@[simp] theorem State.raise_ti (s : State) (n : Nat) : (s.raise n).ti = s.ti := by rw [State.raise_only]
@[simp] theorem State.raise_ringE (s : State) (n : Nat) : (s.raise n).ringE = s.ringE := by rw [State.raise_only]
@[simp] theorem State.raise_ringW (s : State) (n : Nat) : (s.raise n).ringW = s.ringW := by rw [State.raise_only]
@[simp] theorem State.raise_rsch (s : State) (n : Nat) : (s.raise n).rsch = s.rsch := by rw [State.raise_only]
@[simp] theorem State.raise_gw (s : State) (n : Nat) : (s.raise n).gw = s.gw := by rw [State.raise_only]
@[simp] theorem State.raise_img (s : State) (n : Nat) : (s.raise n).img = s.img := by rw [State.raise_only]
@[simp] theorem State.raise_boot (s : State) (n : Nat) : (s.raise n).boot = s.boot := by rw [State.raise_only]
@[simp] theorem State.raise_di (s : State) (n : Nat) : (s.raise n).di = s.di := by rw [State.raise_only]
@[simp] theorem State.raise_mg (s : State) (n : Nat) : (s.raise n).mg = s.mg := by rw [State.raise_only]
@[simp] theorem State.raise_fl (s : State) (n : Nat) : (s.raise n).fl = s.fl := by rw [State.raise_only]
@[simp] theorem State.raise_tag (s : State) (n : Nat) : (s.raise n).tag = s.tag := by rw [State.raise_only]
@[simp] theorem State.raise_cnt (s : State) (n : Nat) : (s.raise n).cnt = s.cnt := by rw [State.raise_only]
@[simp] theorem State.raise_sram (s : State) (n : Nat) : (s.raise n).sram = s.sram := by rw [State.raise_only]
@[simp] theorem State.raise_dram (s : State) (n : Nat) : (s.raise n).dram = s.dram := by rw [State.raise_only]
@[simp] theorem State.raise_flash (s : State) (n : Nat) : (s.raise n).flash = s.flash := by rw [State.raise_only]
@[simp] theorem State.raise_host (s : State) (n : Nat) : (s.raise n).host = s.host := by rw [State.raise_only]
@[simp] theorem State.raise_pending (s : State) (n : Nat) : (s.raise n).pending = s.pending := by rw [State.raise_only]

@[simp] theorem State.raiseIf_now (s : State) (b : Bool) (n : Nat) : (s.raiseIf b n).now = s.now := by rw [State.raiseIf_only]
@[simp] theorem State.raiseIf_resp (s : State) (b : Bool) (n : Nat) : (s.raiseIf b n).resp = s.resp := by rw [State.raiseIf_only]
@[simp] theorem State.raiseIf_free (s : State) (b : Bool) (n : Nat) : (s.raiseIf b n).free = s.free := by rw [State.raiseIf_only]
@[simp] theorem State.raiseIf_log (s : State) (b : Bool) (n : Nat) : (s.raiseIf b n).log = s.log := by rw [State.raiseIf_only]
@[simp] theorem State.raiseIf_chans (s : State) (b : Bool) (n : Nat) : (s.raiseIf b n).chans = s.chans := by rw [State.raiseIf_only]
@[simp] theorem State.raiseIf_isl (s : State) (b : Bool) (n : Nat) : (s.raiseIf b n).isl = s.isl := by rw [State.raiseIf_only]
@[simp] theorem State.raiseIf_ports (s : State) (b : Bool) (n : Nat) : (s.raiseIf b n).ports = s.ports := by rw [State.raiseIf_only]
@[simp] theorem State.raiseIf_i2c (s : State) (b : Bool) (n : Nat) : (s.raiseIf b n).i2c = s.i2c := by rw [State.raiseIf_only]
@[simp] theorem State.raiseIf_bank0 (s : State) (b : Bool) (n : Nat) : (s.raiseIf b n).bank0 = s.bank0 := by rw [State.raiseIf_only]
@[simp] theorem State.raiseIf_bank1 (s : State) (b : Bool) (n : Nat) : (s.raiseIf b n).bank1 = s.bank1 := by rw [State.raiseIf_only]
@[simp] theorem State.raiseIf_curBank (s : State) (b : Bool) (n : Nat) : (s.raiseIf b n).curBank = s.curBank := by rw [State.raiseIf_only]
@[simp] theorem State.raiseIf_epoch (s : State) (b : Bool) (n : Nat) : (s.raiseIf b n).epoch = s.epoch := by rw [State.raiseIf_only]
@[simp] theorem State.raiseIf_pa (s : State) (b : Bool) (n : Nat) : (s.raiseIf b n).pa = s.pa := by rw [State.raiseIf_only]
@[simp] theorem State.raiseIf_pb (s : State) (b : Bool) (n : Nat) : (s.raiseIf b n).pb = s.pb := by rw [State.raiseIf_only]
@[simp] theorem State.raiseIf_si (s : State) (b : Bool) (n : Nat) : (s.raiseIf b n).si = s.si := by rw [State.raiseIf_only]
@[simp] theorem State.raiseIf_bi (s : State) (b : Bool) (n : Nat) : (s.raiseIf b n).bi = s.bi := by rw [State.raiseIf_only]
@[simp] theorem State.raiseIf_ti (s : State) (b : Bool) (n : Nat) : (s.raiseIf b n).ti = s.ti := by rw [State.raiseIf_only]
@[simp] theorem State.raiseIf_ringE (s : State) (b : Bool) (n : Nat) : (s.raiseIf b n).ringE = s.ringE := by rw [State.raiseIf_only]
@[simp] theorem State.raiseIf_ringW (s : State) (b : Bool) (n : Nat) : (s.raiseIf b n).ringW = s.ringW := by rw [State.raiseIf_only]
@[simp] theorem State.raiseIf_rsch (s : State) (b : Bool) (n : Nat) : (s.raiseIf b n).rsch = s.rsch := by rw [State.raiseIf_only]
@[simp] theorem State.raiseIf_gw (s : State) (b : Bool) (n : Nat) : (s.raiseIf b n).gw = s.gw := by rw [State.raiseIf_only]
@[simp] theorem State.raiseIf_img (s : State) (b : Bool) (n : Nat) : (s.raiseIf b n).img = s.img := by rw [State.raiseIf_only]
@[simp] theorem State.raiseIf_boot (s : State) (b : Bool) (n : Nat) : (s.raiseIf b n).boot = s.boot := by rw [State.raiseIf_only]
@[simp] theorem State.raiseIf_di (s : State) (b : Bool) (n : Nat) : (s.raiseIf b n).di = s.di := by rw [State.raiseIf_only]
@[simp] theorem State.raiseIf_mg (s : State) (b : Bool) (n : Nat) : (s.raiseIf b n).mg = s.mg := by rw [State.raiseIf_only]
@[simp] theorem State.raiseIf_fl (s : State) (b : Bool) (n : Nat) : (s.raiseIf b n).fl = s.fl := by rw [State.raiseIf_only]
@[simp] theorem State.raiseIf_tag (s : State) (b : Bool) (n : Nat) : (s.raiseIf b n).tag = s.tag := by rw [State.raiseIf_only]
@[simp] theorem State.raiseIf_cnt (s : State) (b : Bool) (n : Nat) : (s.raiseIf b n).cnt = s.cnt := by rw [State.raiseIf_only]
@[simp] theorem State.raiseIf_sram (s : State) (b : Bool) (n : Nat) : (s.raiseIf b n).sram = s.sram := by rw [State.raiseIf_only]
@[simp] theorem State.raiseIf_dram (s : State) (b : Bool) (n : Nat) : (s.raiseIf b n).dram = s.dram := by rw [State.raiseIf_only]
@[simp] theorem State.raiseIf_flash (s : State) (b : Bool) (n : Nat) : (s.raiseIf b n).flash = s.flash := by rw [State.raiseIf_only]
@[simp] theorem State.raiseIf_host (s : State) (b : Bool) (n : Nat) : (s.raiseIf b n).host = s.host := by rw [State.raiseIf_only]
@[simp] theorem State.raiseIf_pending (s : State) (b : Bool) (n : Nat) : (s.raiseIf b n).pending = s.pending := by rw [State.raiseIf_only]

@[simp] theorem State.bump_now (s : State) (i k n : Nat) : (s.bump i k n).now = s.now := by rw [State.bump_only]
@[simp] theorem State.bump_resp (s : State) (i k n : Nat) : (s.bump i k n).resp = s.resp := by rw [State.bump_only]
@[simp] theorem State.bump_free (s : State) (i k n : Nat) : (s.bump i k n).free = s.free := by rw [State.bump_only]
@[simp] theorem State.bump_log (s : State) (i k n : Nat) : (s.bump i k n).log = s.log := by rw [State.bump_only]
@[simp] theorem State.bump_chans (s : State) (i k n : Nat) : (s.bump i k n).chans = s.chans := by rw [State.bump_only]
@[simp] theorem State.bump_isl (s : State) (i k n : Nat) : (s.bump i k n).isl = s.isl := by rw [State.bump_only]
@[simp] theorem State.bump_ports (s : State) (i k n : Nat) : (s.bump i k n).ports = s.ports := by rw [State.bump_only]
@[simp] theorem State.bump_i2c (s : State) (i k n : Nat) : (s.bump i k n).i2c = s.i2c := by rw [State.bump_only]
@[simp] theorem State.bump_bank0 (s : State) (i k n : Nat) : (s.bump i k n).bank0 = s.bank0 := by rw [State.bump_only]
@[simp] theorem State.bump_bank1 (s : State) (i k n : Nat) : (s.bump i k n).bank1 = s.bank1 := by rw [State.bump_only]
@[simp] theorem State.bump_curBank (s : State) (i k n : Nat) : (s.bump i k n).curBank = s.curBank := by rw [State.bump_only]
@[simp] theorem State.bump_epoch (s : State) (i k n : Nat) : (s.bump i k n).epoch = s.epoch := by rw [State.bump_only]
@[simp] theorem State.bump_pa (s : State) (i k n : Nat) : (s.bump i k n).pa = s.pa := by rw [State.bump_only]
@[simp] theorem State.bump_pb (s : State) (i k n : Nat) : (s.bump i k n).pb = s.pb := by rw [State.bump_only]
@[simp] theorem State.bump_si (s : State) (i k n : Nat) : (s.bump i k n).si = s.si := by rw [State.bump_only]
@[simp] theorem State.bump_bi (s : State) (i k n : Nat) : (s.bump i k n).bi = s.bi := by rw [State.bump_only]
@[simp] theorem State.bump_ti (s : State) (i k n : Nat) : (s.bump i k n).ti = s.ti := by rw [State.bump_only]
@[simp] theorem State.bump_ringE (s : State) (i k n : Nat) : (s.bump i k n).ringE = s.ringE := by rw [State.bump_only]
@[simp] theorem State.bump_ringW (s : State) (i k n : Nat) : (s.bump i k n).ringW = s.ringW := by rw [State.bump_only]
@[simp] theorem State.bump_rsch (s : State) (i k n : Nat) : (s.bump i k n).rsch = s.rsch := by rw [State.bump_only]
@[simp] theorem State.bump_gw (s : State) (i k n : Nat) : (s.bump i k n).gw = s.gw := by rw [State.bump_only]
@[simp] theorem State.bump_img (s : State) (i k n : Nat) : (s.bump i k n).img = s.img := by rw [State.bump_only]
@[simp] theorem State.bump_boot (s : State) (i k n : Nat) : (s.bump i k n).boot = s.boot := by rw [State.bump_only]
@[simp] theorem State.bump_di (s : State) (i k n : Nat) : (s.bump i k n).di = s.di := by rw [State.bump_only]
@[simp] theorem State.bump_mg (s : State) (i k n : Nat) : (s.bump i k n).mg = s.mg := by rw [State.bump_only]
@[simp] theorem State.bump_fl (s : State) (i k n : Nat) : (s.bump i k n).fl = s.fl := by rw [State.bump_only]
@[simp] theorem State.bump_tag (s : State) (i k n : Nat) : (s.bump i k n).tag = s.tag := by rw [State.bump_only]
@[simp] theorem State.bump_cnt (s : State) (i k n : Nat) : (s.bump i k n).cnt = s.cnt := by rw [State.bump_only]
@[simp] theorem State.bump_sram (s : State) (i k n : Nat) : (s.bump i k n).sram = s.sram := by rw [State.bump_only]
@[simp] theorem State.bump_dram (s : State) (i k n : Nat) : (s.bump i k n).dram = s.dram := by rw [State.bump_only]
@[simp] theorem State.bump_flash (s : State) (i k n : Nat) : (s.bump i k n).flash = s.flash := by rw [State.bump_only]
@[simp] theorem State.bump_host (s : State) (i k n : Nat) : (s.bump i k n).host = s.host := by rw [State.bump_only]
@[simp] theorem State.bump_pending (s : State) (i k n : Nat) : (s.bump i k n).pending = s.pending := by rw [State.bump_only]

@[simp] theorem State.count1_now (s : State) (i ev n k : Nat) : (s.count1 i ev n k).now = s.now := by rw [State.count1_only]
@[simp] theorem State.count1_resp (s : State) (i ev n k : Nat) : (s.count1 i ev n k).resp = s.resp := by rw [State.count1_only]
@[simp] theorem State.count1_free (s : State) (i ev n k : Nat) : (s.count1 i ev n k).free = s.free := by rw [State.count1_only]
@[simp] theorem State.count1_log (s : State) (i ev n k : Nat) : (s.count1 i ev n k).log = s.log := by rw [State.count1_only]
@[simp] theorem State.count1_chans (s : State) (i ev n k : Nat) : (s.count1 i ev n k).chans = s.chans := by rw [State.count1_only]
@[simp] theorem State.count1_isl (s : State) (i ev n k : Nat) : (s.count1 i ev n k).isl = s.isl := by rw [State.count1_only]
@[simp] theorem State.count1_ports (s : State) (i ev n k : Nat) : (s.count1 i ev n k).ports = s.ports := by rw [State.count1_only]
@[simp] theorem State.count1_i2c (s : State) (i ev n k : Nat) : (s.count1 i ev n k).i2c = s.i2c := by rw [State.count1_only]
@[simp] theorem State.count1_bank0 (s : State) (i ev n k : Nat) : (s.count1 i ev n k).bank0 = s.bank0 := by rw [State.count1_only]
@[simp] theorem State.count1_bank1 (s : State) (i ev n k : Nat) : (s.count1 i ev n k).bank1 = s.bank1 := by rw [State.count1_only]
@[simp] theorem State.count1_curBank (s : State) (i ev n k : Nat) : (s.count1 i ev n k).curBank = s.curBank := by rw [State.count1_only]
@[simp] theorem State.count1_epoch (s : State) (i ev n k : Nat) : (s.count1 i ev n k).epoch = s.epoch := by rw [State.count1_only]
@[simp] theorem State.count1_pa (s : State) (i ev n k : Nat) : (s.count1 i ev n k).pa = s.pa := by rw [State.count1_only]
@[simp] theorem State.count1_pb (s : State) (i ev n k : Nat) : (s.count1 i ev n k).pb = s.pb := by rw [State.count1_only]
@[simp] theorem State.count1_si (s : State) (i ev n k : Nat) : (s.count1 i ev n k).si = s.si := by rw [State.count1_only]
@[simp] theorem State.count1_bi (s : State) (i ev n k : Nat) : (s.count1 i ev n k).bi = s.bi := by rw [State.count1_only]
@[simp] theorem State.count1_ti (s : State) (i ev n k : Nat) : (s.count1 i ev n k).ti = s.ti := by rw [State.count1_only]
@[simp] theorem State.count1_ringE (s : State) (i ev n k : Nat) : (s.count1 i ev n k).ringE = s.ringE := by rw [State.count1_only]
@[simp] theorem State.count1_ringW (s : State) (i ev n k : Nat) : (s.count1 i ev n k).ringW = s.ringW := by rw [State.count1_only]
@[simp] theorem State.count1_rsch (s : State) (i ev n k : Nat) : (s.count1 i ev n k).rsch = s.rsch := by rw [State.count1_only]
@[simp] theorem State.count1_gw (s : State) (i ev n k : Nat) : (s.count1 i ev n k).gw = s.gw := by rw [State.count1_only]
@[simp] theorem State.count1_img (s : State) (i ev n k : Nat) : (s.count1 i ev n k).img = s.img := by rw [State.count1_only]
@[simp] theorem State.count1_boot (s : State) (i ev n k : Nat) : (s.count1 i ev n k).boot = s.boot := by rw [State.count1_only]
@[simp] theorem State.count1_di (s : State) (i ev n k : Nat) : (s.count1 i ev n k).di = s.di := by rw [State.count1_only]
@[simp] theorem State.count1_mg (s : State) (i ev n k : Nat) : (s.count1 i ev n k).mg = s.mg := by rw [State.count1_only]
@[simp] theorem State.count1_fl (s : State) (i ev n k : Nat) : (s.count1 i ev n k).fl = s.fl := by rw [State.count1_only]
@[simp] theorem State.count1_tag (s : State) (i ev n k : Nat) : (s.count1 i ev n k).tag = s.tag := by rw [State.count1_only]
@[simp] theorem State.count1_cnt (s : State) (i ev n k : Nat) : (s.count1 i ev n k).cnt = s.cnt := by rw [State.count1_only]
@[simp] theorem State.count1_sram (s : State) (i ev n k : Nat) : (s.count1 i ev n k).sram = s.sram := by rw [State.count1_only]
@[simp] theorem State.count1_dram (s : State) (i ev n k : Nat) : (s.count1 i ev n k).dram = s.dram := by rw [State.count1_only]
@[simp] theorem State.count1_flash (s : State) (i ev n k : Nat) : (s.count1 i ev n k).flash = s.flash := by rw [State.count1_only]
@[simp] theorem State.count1_host (s : State) (i ev n k : Nat) : (s.count1 i ev n k).host = s.host := by rw [State.count1_only]
@[simp] theorem State.count1_pending (s : State) (i ev n k : Nat) : (s.count1 i ev n k).pending = s.pending := by rw [State.count1_only]

@[simp] theorem State.count_now (s : State) (i ev n : Nat) : (s.count i ev n).now = s.now := by rw [State.count_only]
@[simp] theorem State.count_resp (s : State) (i ev n : Nat) : (s.count i ev n).resp = s.resp := by rw [State.count_only]
@[simp] theorem State.count_free (s : State) (i ev n : Nat) : (s.count i ev n).free = s.free := by rw [State.count_only]
@[simp] theorem State.count_log (s : State) (i ev n : Nat) : (s.count i ev n).log = s.log := by rw [State.count_only]
@[simp] theorem State.count_chans (s : State) (i ev n : Nat) : (s.count i ev n).chans = s.chans := by rw [State.count_only]
@[simp] theorem State.count_isl (s : State) (i ev n : Nat) : (s.count i ev n).isl = s.isl := by rw [State.count_only]
@[simp] theorem State.count_ports (s : State) (i ev n : Nat) : (s.count i ev n).ports = s.ports := by rw [State.count_only]
@[simp] theorem State.count_i2c (s : State) (i ev n : Nat) : (s.count i ev n).i2c = s.i2c := by rw [State.count_only]
@[simp] theorem State.count_bank0 (s : State) (i ev n : Nat) : (s.count i ev n).bank0 = s.bank0 := by rw [State.count_only]
@[simp] theorem State.count_bank1 (s : State) (i ev n : Nat) : (s.count i ev n).bank1 = s.bank1 := by rw [State.count_only]
@[simp] theorem State.count_curBank (s : State) (i ev n : Nat) : (s.count i ev n).curBank = s.curBank := by rw [State.count_only]
@[simp] theorem State.count_epoch (s : State) (i ev n : Nat) : (s.count i ev n).epoch = s.epoch := by rw [State.count_only]
@[simp] theorem State.count_pa (s : State) (i ev n : Nat) : (s.count i ev n).pa = s.pa := by rw [State.count_only]
@[simp] theorem State.count_pb (s : State) (i ev n : Nat) : (s.count i ev n).pb = s.pb := by rw [State.count_only]
@[simp] theorem State.count_si (s : State) (i ev n : Nat) : (s.count i ev n).si = s.si := by rw [State.count_only]
@[simp] theorem State.count_bi (s : State) (i ev n : Nat) : (s.count i ev n).bi = s.bi := by rw [State.count_only]
@[simp] theorem State.count_ti (s : State) (i ev n : Nat) : (s.count i ev n).ti = s.ti := by rw [State.count_only]
@[simp] theorem State.count_ringE (s : State) (i ev n : Nat) : (s.count i ev n).ringE = s.ringE := by rw [State.count_only]
@[simp] theorem State.count_ringW (s : State) (i ev n : Nat) : (s.count i ev n).ringW = s.ringW := by rw [State.count_only]
@[simp] theorem State.count_rsch (s : State) (i ev n : Nat) : (s.count i ev n).rsch = s.rsch := by rw [State.count_only]
@[simp] theorem State.count_gw (s : State) (i ev n : Nat) : (s.count i ev n).gw = s.gw := by rw [State.count_only]
@[simp] theorem State.count_img (s : State) (i ev n : Nat) : (s.count i ev n).img = s.img := by rw [State.count_only]
@[simp] theorem State.count_boot (s : State) (i ev n : Nat) : (s.count i ev n).boot = s.boot := by rw [State.count_only]
@[simp] theorem State.count_di (s : State) (i ev n : Nat) : (s.count i ev n).di = s.di := by rw [State.count_only]
@[simp] theorem State.count_mg (s : State) (i ev n : Nat) : (s.count i ev n).mg = s.mg := by rw [State.count_only]
@[simp] theorem State.count_fl (s : State) (i ev n : Nat) : (s.count i ev n).fl = s.fl := by rw [State.count_only]
@[simp] theorem State.count_tag (s : State) (i ev n : Nat) : (s.count i ev n).tag = s.tag := by rw [State.count_only]
@[simp] theorem State.count_cnt (s : State) (i ev n : Nat) : (s.count i ev n).cnt = s.cnt := by rw [State.count_only]
@[simp] theorem State.count_sram (s : State) (i ev n : Nat) : (s.count i ev n).sram = s.sram := by rw [State.count_only]
@[simp] theorem State.count_dram (s : State) (i ev n : Nat) : (s.count i ev n).dram = s.dram := by rw [State.count_only]
@[simp] theorem State.count_flash (s : State) (i ev n : Nat) : (s.count i ev n).flash = s.flash := by rw [State.count_only]
@[simp] theorem State.count_host (s : State) (i ev n : Nat) : (s.count i ev n).host = s.host := by rw [State.count_only]
@[simp] theorem State.count_pending (s : State) (i ev n : Nat) : (s.count i ev n).pending = s.pending := by rw [State.count_only]

@[simp] theorem State.progress_now (s : State) (i : Nat) : (s.progress i).now = s.now := by rw [State.progress_only]
@[simp] theorem State.progress_resp (s : State) (i : Nat) : (s.progress i).resp = s.resp := by rw [State.progress_only]
@[simp] theorem State.progress_free (s : State) (i : Nat) : (s.progress i).free = s.free := by rw [State.progress_only]
@[simp] theorem State.progress_log (s : State) (i : Nat) : (s.progress i).log = s.log := by rw [State.progress_only]
@[simp] theorem State.progress_chans (s : State) (i : Nat) : (s.progress i).chans = s.chans := by rw [State.progress_only]
@[simp] theorem State.progress_ports (s : State) (i : Nat) : (s.progress i).ports = s.ports := by rw [State.progress_only]
@[simp] theorem State.progress_i2c (s : State) (i : Nat) : (s.progress i).i2c = s.i2c := by rw [State.progress_only]
@[simp] theorem State.progress_bank0 (s : State) (i : Nat) : (s.progress i).bank0 = s.bank0 := by rw [State.progress_only]
@[simp] theorem State.progress_bank1 (s : State) (i : Nat) : (s.progress i).bank1 = s.bank1 := by rw [State.progress_only]
@[simp] theorem State.progress_curBank (s : State) (i : Nat) : (s.progress i).curBank = s.curBank := by rw [State.progress_only]
@[simp] theorem State.progress_epoch (s : State) (i : Nat) : (s.progress i).epoch = s.epoch := by rw [State.progress_only]
@[simp] theorem State.progress_pa (s : State) (i : Nat) : (s.progress i).pa = s.pa := by rw [State.progress_only]
@[simp] theorem State.progress_pb (s : State) (i : Nat) : (s.progress i).pb = s.pb := by rw [State.progress_only]
@[simp] theorem State.progress_si (s : State) (i : Nat) : (s.progress i).si = s.si := by rw [State.progress_only]
@[simp] theorem State.progress_bi (s : State) (i : Nat) : (s.progress i).bi = s.bi := by rw [State.progress_only]
@[simp] theorem State.progress_ti (s : State) (i : Nat) : (s.progress i).ti = s.ti := by rw [State.progress_only]
@[simp] theorem State.progress_ringE (s : State) (i : Nat) : (s.progress i).ringE = s.ringE := by rw [State.progress_only]
@[simp] theorem State.progress_ringW (s : State) (i : Nat) : (s.progress i).ringW = s.ringW := by rw [State.progress_only]
@[simp] theorem State.progress_rsch (s : State) (i : Nat) : (s.progress i).rsch = s.rsch := by rw [State.progress_only]
@[simp] theorem State.progress_gw (s : State) (i : Nat) : (s.progress i).gw = s.gw := by rw [State.progress_only]
@[simp] theorem State.progress_img (s : State) (i : Nat) : (s.progress i).img = s.img := by rw [State.progress_only]
@[simp] theorem State.progress_boot (s : State) (i : Nat) : (s.progress i).boot = s.boot := by rw [State.progress_only]
@[simp] theorem State.progress_di (s : State) (i : Nat) : (s.progress i).di = s.di := by rw [State.progress_only]
@[simp] theorem State.progress_mg (s : State) (i : Nat) : (s.progress i).mg = s.mg := by rw [State.progress_only]
@[simp] theorem State.progress_fl (s : State) (i : Nat) : (s.progress i).fl = s.fl := by rw [State.progress_only]
@[simp] theorem State.progress_tag (s : State) (i : Nat) : (s.progress i).tag = s.tag := by rw [State.progress_only]
@[simp] theorem State.progress_cnt (s : State) (i : Nat) : (s.progress i).cnt = s.cnt := by rw [State.progress_only]
@[simp] theorem State.progress_sram (s : State) (i : Nat) : (s.progress i).sram = s.sram := by rw [State.progress_only]
@[simp] theorem State.progress_dram (s : State) (i : Nat) : (s.progress i).dram = s.dram := by rw [State.progress_only]
@[simp] theorem State.progress_flash (s : State) (i : Nat) : (s.progress i).flash = s.flash := by rw [State.progress_only]
@[simp] theorem State.progress_host (s : State) (i : Nat) : (s.progress i).host = s.host := by rw [State.progress_only]
@[simp] theorem State.progress_pending (s : State) (i : Nat) : (s.progress i).pending = s.pending := by rw [State.progress_only]

@[simp] theorem State.counted_now (s : State) (i : Nat) : (s.counted i).now = s.now := by rw [State.counted_only]
@[simp] theorem State.counted_resp (s : State) (i : Nat) : (s.counted i).resp = s.resp := by rw [State.counted_only]
@[simp] theorem State.counted_free (s : State) (i : Nat) : (s.counted i).free = s.free := by rw [State.counted_only]
@[simp] theorem State.counted_log (s : State) (i : Nat) : (s.counted i).log = s.log := by rw [State.counted_only]
@[simp] theorem State.counted_chans (s : State) (i : Nat) : (s.counted i).chans = s.chans := by rw [State.counted_only]
@[simp] theorem State.counted_isl (s : State) (i : Nat) : (s.counted i).isl = s.isl := by rw [State.counted_only]
@[simp] theorem State.counted_ports (s : State) (i : Nat) : (s.counted i).ports = s.ports := by rw [State.counted_only]
@[simp] theorem State.counted_i2c (s : State) (i : Nat) : (s.counted i).i2c = s.i2c := by rw [State.counted_only]
@[simp] theorem State.counted_bank0 (s : State) (i : Nat) : (s.counted i).bank0 = s.bank0 := by rw [State.counted_only]
@[simp] theorem State.counted_bank1 (s : State) (i : Nat) : (s.counted i).bank1 = s.bank1 := by rw [State.counted_only]
@[simp] theorem State.counted_curBank (s : State) (i : Nat) : (s.counted i).curBank = s.curBank := by rw [State.counted_only]
@[simp] theorem State.counted_epoch (s : State) (i : Nat) : (s.counted i).epoch = s.epoch := by rw [State.counted_only]
@[simp] theorem State.counted_pa (s : State) (i : Nat) : (s.counted i).pa = s.pa := by rw [State.counted_only]
@[simp] theorem State.counted_pb (s : State) (i : Nat) : (s.counted i).pb = s.pb := by rw [State.counted_only]
@[simp] theorem State.counted_si (s : State) (i : Nat) : (s.counted i).si = s.si := by rw [State.counted_only]
@[simp] theorem State.counted_bi (s : State) (i : Nat) : (s.counted i).bi = s.bi := by rw [State.counted_only]
@[simp] theorem State.counted_ti (s : State) (i : Nat) : (s.counted i).ti = s.ti := by rw [State.counted_only]
@[simp] theorem State.counted_ringE (s : State) (i : Nat) : (s.counted i).ringE = s.ringE := by rw [State.counted_only]
@[simp] theorem State.counted_ringW (s : State) (i : Nat) : (s.counted i).ringW = s.ringW := by rw [State.counted_only]
@[simp] theorem State.counted_rsch (s : State) (i : Nat) : (s.counted i).rsch = s.rsch := by rw [State.counted_only]
@[simp] theorem State.counted_gw (s : State) (i : Nat) : (s.counted i).gw = s.gw := by rw [State.counted_only]
@[simp] theorem State.counted_img (s : State) (i : Nat) : (s.counted i).img = s.img := by rw [State.counted_only]
@[simp] theorem State.counted_boot (s : State) (i : Nat) : (s.counted i).boot = s.boot := by rw [State.counted_only]
@[simp] theorem State.counted_di (s : State) (i : Nat) : (s.counted i).di = s.di := by rw [State.counted_only]
@[simp] theorem State.counted_mg (s : State) (i : Nat) : (s.counted i).mg = s.mg := by rw [State.counted_only]
@[simp] theorem State.counted_fl (s : State) (i : Nat) : (s.counted i).fl = s.fl := by rw [State.counted_only]
@[simp] theorem State.counted_tag (s : State) (i : Nat) : (s.counted i).tag = s.tag := by rw [State.counted_only]
@[simp] theorem State.counted_cnt (s : State) (i : Nat) : (s.counted i).cnt = s.cnt := by rw [State.counted_only]
@[simp] theorem State.counted_sram (s : State) (i : Nat) : (s.counted i).sram = s.sram := by rw [State.counted_only]
@[simp] theorem State.counted_dram (s : State) (i : Nat) : (s.counted i).dram = s.dram := by rw [State.counted_only]
@[simp] theorem State.counted_flash (s : State) (i : Nat) : (s.counted i).flash = s.flash := by rw [State.counted_only]
@[simp] theorem State.counted_host (s : State) (i : Nat) : (s.counted i).host = s.host := by rw [State.counted_only]
@[simp] theorem State.counted_pending (s : State) (i : Nat) : (s.counted i).pending = s.pending := by rw [State.counted_only]

@[simp] theorem State.unmapped_now (s : State) (src : Src) (i off : Nat) : (s.unmapped src i off).now = s.now := by rw [State.unmapped_only]
@[simp] theorem State.unmapped_resp (s : State) (src : Src) (i off : Nat) : (s.unmapped src i off).resp = s.resp := by rw [State.unmapped_only]
@[simp] theorem State.unmapped_out (s : State) (src : Src) (i off : Nat) : (s.unmapped src i off).out = s.out := by rw [State.unmapped_only]
@[simp] theorem State.unmapped_free (s : State) (src : Src) (i off : Nat) : (s.unmapped src i off).free = s.free := by rw [State.unmapped_only]
@[simp] theorem State.unmapped_log (s : State) (src : Src) (i off : Nat) : (s.unmapped src i off).log = s.log := by rw [State.unmapped_only]
@[simp] theorem State.unmapped_chans (s : State) (src : Src) (i off : Nat) : (s.unmapped src i off).chans = s.chans := by rw [State.unmapped_only]
@[simp] theorem State.unmapped_isl (s : State) (src : Src) (i off : Nat) : (s.unmapped src i off).isl = s.isl := by rw [State.unmapped_only]
@[simp] theorem State.unmapped_ports (s : State) (src : Src) (i off : Nat) : (s.unmapped src i off).ports = s.ports := by rw [State.unmapped_only]
@[simp] theorem State.unmapped_i2c (s : State) (src : Src) (i off : Nat) : (s.unmapped src i off).i2c = s.i2c := by rw [State.unmapped_only]
@[simp] theorem State.unmapped_bank0 (s : State) (src : Src) (i off : Nat) : (s.unmapped src i off).bank0 = s.bank0 := by rw [State.unmapped_only]
@[simp] theorem State.unmapped_bank1 (s : State) (src : Src) (i off : Nat) : (s.unmapped src i off).bank1 = s.bank1 := by rw [State.unmapped_only]
@[simp] theorem State.unmapped_curBank (s : State) (src : Src) (i off : Nat) : (s.unmapped src i off).curBank = s.curBank := by rw [State.unmapped_only]
@[simp] theorem State.unmapped_epoch (s : State) (src : Src) (i off : Nat) : (s.unmapped src i off).epoch = s.epoch := by rw [State.unmapped_only]
@[simp] theorem State.unmapped_pa (s : State) (src : Src) (i off : Nat) : (s.unmapped src i off).pa = s.pa := by rw [State.unmapped_only]
@[simp] theorem State.unmapped_pb (s : State) (src : Src) (i off : Nat) : (s.unmapped src i off).pb = s.pb := by rw [State.unmapped_only]
@[simp] theorem State.unmapped_si (s : State) (src : Src) (i off : Nat) : (s.unmapped src i off).si = s.si := by rw [State.unmapped_only]
@[simp] theorem State.unmapped_bi (s : State) (src : Src) (i off : Nat) : (s.unmapped src i off).bi = s.bi := by rw [State.unmapped_only]
@[simp] theorem State.unmapped_ti (s : State) (src : Src) (i off : Nat) : (s.unmapped src i off).ti = s.ti := by rw [State.unmapped_only]
@[simp] theorem State.unmapped_ringE (s : State) (src : Src) (i off : Nat) : (s.unmapped src i off).ringE = s.ringE := by rw [State.unmapped_only]
@[simp] theorem State.unmapped_ringW (s : State) (src : Src) (i off : Nat) : (s.unmapped src i off).ringW = s.ringW := by rw [State.unmapped_only]
@[simp] theorem State.unmapped_rsch (s : State) (src : Src) (i off : Nat) : (s.unmapped src i off).rsch = s.rsch := by rw [State.unmapped_only]
@[simp] theorem State.unmapped_gw (s : State) (src : Src) (i off : Nat) : (s.unmapped src i off).gw = s.gw := by rw [State.unmapped_only]
@[simp] theorem State.unmapped_img (s : State) (src : Src) (i off : Nat) : (s.unmapped src i off).img = s.img := by rw [State.unmapped_only]
@[simp] theorem State.unmapped_boot (s : State) (src : Src) (i off : Nat) : (s.unmapped src i off).boot = s.boot := by rw [State.unmapped_only]
@[simp] theorem State.unmapped_di (s : State) (src : Src) (i off : Nat) : (s.unmapped src i off).di = s.di := by rw [State.unmapped_only]
@[simp] theorem State.unmapped_mg (s : State) (src : Src) (i off : Nat) : (s.unmapped src i off).mg = s.mg := by rw [State.unmapped_only]
@[simp] theorem State.unmapped_fl (s : State) (src : Src) (i off : Nat) : (s.unmapped src i off).fl = s.fl := by rw [State.unmapped_only]
@[simp] theorem State.unmapped_tag (s : State) (src : Src) (i off : Nat) : (s.unmapped src i off).tag = s.tag := by rw [State.unmapped_only]
@[simp] theorem State.unmapped_cnt (s : State) (src : Src) (i off : Nat) : (s.unmapped src i off).cnt = s.cnt := by rw [State.unmapped_only]
@[simp] theorem State.unmapped_sram (s : State) (src : Src) (i off : Nat) : (s.unmapped src i off).sram = s.sram := by rw [State.unmapped_only]
@[simp] theorem State.unmapped_dram (s : State) (src : Src) (i off : Nat) : (s.unmapped src i off).dram = s.dram := by rw [State.unmapped_only]
@[simp] theorem State.unmapped_flash (s : State) (src : Src) (i off : Nat) : (s.unmapped src i off).flash = s.flash := by rw [State.unmapped_only]
@[simp] theorem State.unmapped_host (s : State) (src : Src) (i off : Nat) : (s.unmapped src i off).host = s.host := by rw [State.unmapped_only]
@[simp] theorem State.unmapped_pending (s : State) (src : Src) (i off : Nat) : (s.unmapped src i off).pending = s.pending := by rw [State.unmapped_only]

@[simp] theorem State.narrowPop_now (s : State) (src : Src) (i off : Nat) : (s.narrowPop src i off).now = s.now := by rw [State.narrowPop_only]
@[simp] theorem State.narrowPop_resp (s : State) (src : Src) (i off : Nat) : (s.narrowPop src i off).resp = s.resp := by rw [State.narrowPop_only]
@[simp] theorem State.narrowPop_out (s : State) (src : Src) (i off : Nat) : (s.narrowPop src i off).out = s.out := by rw [State.narrowPop_only]
@[simp] theorem State.narrowPop_free (s : State) (src : Src) (i off : Nat) : (s.narrowPop src i off).free = s.free := by rw [State.narrowPop_only]
@[simp] theorem State.narrowPop_log (s : State) (src : Src) (i off : Nat) : (s.narrowPop src i off).log = s.log := by rw [State.narrowPop_only]
@[simp] theorem State.narrowPop_chans (s : State) (src : Src) (i off : Nat) : (s.narrowPop src i off).chans = s.chans := by rw [State.narrowPop_only]
@[simp] theorem State.narrowPop_isl (s : State) (src : Src) (i off : Nat) : (s.narrowPop src i off).isl = s.isl := by rw [State.narrowPop_only]
@[simp] theorem State.narrowPop_ports (s : State) (src : Src) (i off : Nat) : (s.narrowPop src i off).ports = s.ports := by rw [State.narrowPop_only]
@[simp] theorem State.narrowPop_i2c (s : State) (src : Src) (i off : Nat) : (s.narrowPop src i off).i2c = s.i2c := by rw [State.narrowPop_only]
@[simp] theorem State.narrowPop_bank0 (s : State) (src : Src) (i off : Nat) : (s.narrowPop src i off).bank0 = s.bank0 := by rw [State.narrowPop_only]
@[simp] theorem State.narrowPop_bank1 (s : State) (src : Src) (i off : Nat) : (s.narrowPop src i off).bank1 = s.bank1 := by rw [State.narrowPop_only]
@[simp] theorem State.narrowPop_curBank (s : State) (src : Src) (i off : Nat) : (s.narrowPop src i off).curBank = s.curBank := by rw [State.narrowPop_only]
@[simp] theorem State.narrowPop_epoch (s : State) (src : Src) (i off : Nat) : (s.narrowPop src i off).epoch = s.epoch := by rw [State.narrowPop_only]
@[simp] theorem State.narrowPop_pa (s : State) (src : Src) (i off : Nat) : (s.narrowPop src i off).pa = s.pa := by rw [State.narrowPop_only]
@[simp] theorem State.narrowPop_pb (s : State) (src : Src) (i off : Nat) : (s.narrowPop src i off).pb = s.pb := by rw [State.narrowPop_only]
@[simp] theorem State.narrowPop_si (s : State) (src : Src) (i off : Nat) : (s.narrowPop src i off).si = s.si := by rw [State.narrowPop_only]
@[simp] theorem State.narrowPop_bi (s : State) (src : Src) (i off : Nat) : (s.narrowPop src i off).bi = s.bi := by rw [State.narrowPop_only]
@[simp] theorem State.narrowPop_ti (s : State) (src : Src) (i off : Nat) : (s.narrowPop src i off).ti = s.ti := by rw [State.narrowPop_only]
@[simp] theorem State.narrowPop_ringE (s : State) (src : Src) (i off : Nat) : (s.narrowPop src i off).ringE = s.ringE := by rw [State.narrowPop_only]
@[simp] theorem State.narrowPop_ringW (s : State) (src : Src) (i off : Nat) : (s.narrowPop src i off).ringW = s.ringW := by rw [State.narrowPop_only]
@[simp] theorem State.narrowPop_rsch (s : State) (src : Src) (i off : Nat) : (s.narrowPop src i off).rsch = s.rsch := by rw [State.narrowPop_only]
@[simp] theorem State.narrowPop_gw (s : State) (src : Src) (i off : Nat) : (s.narrowPop src i off).gw = s.gw := by rw [State.narrowPop_only]
@[simp] theorem State.narrowPop_img (s : State) (src : Src) (i off : Nat) : (s.narrowPop src i off).img = s.img := by rw [State.narrowPop_only]
@[simp] theorem State.narrowPop_boot (s : State) (src : Src) (i off : Nat) : (s.narrowPop src i off).boot = s.boot := by rw [State.narrowPop_only]
@[simp] theorem State.narrowPop_di (s : State) (src : Src) (i off : Nat) : (s.narrowPop src i off).di = s.di := by rw [State.narrowPop_only]
@[simp] theorem State.narrowPop_mg (s : State) (src : Src) (i off : Nat) : (s.narrowPop src i off).mg = s.mg := by rw [State.narrowPop_only]
@[simp] theorem State.narrowPop_fl (s : State) (src : Src) (i off : Nat) : (s.narrowPop src i off).fl = s.fl := by rw [State.narrowPop_only]
@[simp] theorem State.narrowPop_tag (s : State) (src : Src) (i off : Nat) : (s.narrowPop src i off).tag = s.tag := by rw [State.narrowPop_only]
@[simp] theorem State.narrowPop_cnt (s : State) (src : Src) (i off : Nat) : (s.narrowPop src i off).cnt = s.cnt := by rw [State.narrowPop_only]
@[simp] theorem State.narrowPop_sram (s : State) (src : Src) (i off : Nat) : (s.narrowPop src i off).sram = s.sram := by rw [State.narrowPop_only]
@[simp] theorem State.narrowPop_dram (s : State) (src : Src) (i off : Nat) : (s.narrowPop src i off).dram = s.dram := by rw [State.narrowPop_only]
@[simp] theorem State.narrowPop_flash (s : State) (src : Src) (i off : Nat) : (s.narrowPop src i off).flash = s.flash := by rw [State.narrowPop_only]
@[simp] theorem State.narrowPop_host (s : State) (src : Src) (i off : Nat) : (s.narrowPop src i off).host = s.host := by rw [State.narrowPop_only]
@[simp] theorem State.narrowPop_pending (s : State) (src : Src) (i off : Nat) : (s.narrowPop src i off).pending = s.pending := by rw [State.narrowPop_only]

@[simp] theorem State.countCycles_now (s : State) (t1 : Nat) : (s.countCycles t1).now = s.now := by rw [State.countCycles_only]
@[simp] theorem State.countCycles_resp (s : State) (t1 : Nat) : (s.countCycles t1).resp = s.resp := by rw [State.countCycles_only]
@[simp] theorem State.countCycles_free (s : State) (t1 : Nat) : (s.countCycles t1).free = s.free := by rw [State.countCycles_only]
@[simp] theorem State.countCycles_log (s : State) (t1 : Nat) : (s.countCycles t1).log = s.log := by rw [State.countCycles_only]
@[simp] theorem State.countCycles_chans (s : State) (t1 : Nat) : (s.countCycles t1).chans = s.chans := by rw [State.countCycles_only]
@[simp] theorem State.countCycles_isl (s : State) (t1 : Nat) : (s.countCycles t1).isl = s.isl := by rw [State.countCycles_only]
@[simp] theorem State.countCycles_ports (s : State) (t1 : Nat) : (s.countCycles t1).ports = s.ports := by rw [State.countCycles_only]
@[simp] theorem State.countCycles_i2c (s : State) (t1 : Nat) : (s.countCycles t1).i2c = s.i2c := by rw [State.countCycles_only]
@[simp] theorem State.countCycles_bank0 (s : State) (t1 : Nat) : (s.countCycles t1).bank0 = s.bank0 := by rw [State.countCycles_only]
@[simp] theorem State.countCycles_bank1 (s : State) (t1 : Nat) : (s.countCycles t1).bank1 = s.bank1 := by rw [State.countCycles_only]
@[simp] theorem State.countCycles_curBank (s : State) (t1 : Nat) : (s.countCycles t1).curBank = s.curBank := by rw [State.countCycles_only]
@[simp] theorem State.countCycles_epoch (s : State) (t1 : Nat) : (s.countCycles t1).epoch = s.epoch := by rw [State.countCycles_only]
@[simp] theorem State.countCycles_pa (s : State) (t1 : Nat) : (s.countCycles t1).pa = s.pa := by rw [State.countCycles_only]
@[simp] theorem State.countCycles_pb (s : State) (t1 : Nat) : (s.countCycles t1).pb = s.pb := by rw [State.countCycles_only]
@[simp] theorem State.countCycles_si (s : State) (t1 : Nat) : (s.countCycles t1).si = s.si := by rw [State.countCycles_only]
@[simp] theorem State.countCycles_bi (s : State) (t1 : Nat) : (s.countCycles t1).bi = s.bi := by rw [State.countCycles_only]
@[simp] theorem State.countCycles_ti (s : State) (t1 : Nat) : (s.countCycles t1).ti = s.ti := by rw [State.countCycles_only]
@[simp] theorem State.countCycles_ringE (s : State) (t1 : Nat) : (s.countCycles t1).ringE = s.ringE := by rw [State.countCycles_only]
@[simp] theorem State.countCycles_ringW (s : State) (t1 : Nat) : (s.countCycles t1).ringW = s.ringW := by rw [State.countCycles_only]
@[simp] theorem State.countCycles_rsch (s : State) (t1 : Nat) : (s.countCycles t1).rsch = s.rsch := by rw [State.countCycles_only]
@[simp] theorem State.countCycles_gw (s : State) (t1 : Nat) : (s.countCycles t1).gw = s.gw := by rw [State.countCycles_only]
@[simp] theorem State.countCycles_img (s : State) (t1 : Nat) : (s.countCycles t1).img = s.img := by rw [State.countCycles_only]
@[simp] theorem State.countCycles_boot (s : State) (t1 : Nat) : (s.countCycles t1).boot = s.boot := by rw [State.countCycles_only]
@[simp] theorem State.countCycles_di (s : State) (t1 : Nat) : (s.countCycles t1).di = s.di := by rw [State.countCycles_only]
@[simp] theorem State.countCycles_mg (s : State) (t1 : Nat) : (s.countCycles t1).mg = s.mg := by rw [State.countCycles_only]
@[simp] theorem State.countCycles_fl (s : State) (t1 : Nat) : (s.countCycles t1).fl = s.fl := by rw [State.countCycles_only]
@[simp] theorem State.countCycles_tag (s : State) (t1 : Nat) : (s.countCycles t1).tag = s.tag := by rw [State.countCycles_only]
@[simp] theorem State.countCycles_sram (s : State) (t1 : Nat) : (s.countCycles t1).sram = s.sram := by rw [State.countCycles_only]
@[simp] theorem State.countCycles_dram (s : State) (t1 : Nat) : (s.countCycles t1).dram = s.dram := by rw [State.countCycles_only]
@[simp] theorem State.countCycles_flash (s : State) (t1 : Nat) : (s.countCycles t1).flash = s.flash := by rw [State.countCycles_only]
@[simp] theorem State.countCycles_host (s : State) (t1 : Nat) : (s.countCycles t1).host = s.host := by rw [State.countCycles_only]
@[simp] theorem State.countCycles_pending (s : State) (t1 : Nat) : (s.countCycles t1).pending = s.pending := by rw [State.countCycles_only]

@[simp] theorem State.stallTime_regs (s : State) (dt : Nat) : (s.stallTime dt).regs = s.regs := by rw [State.stallTime_only]
@[simp] theorem State.stallTime_now (s : State) (dt : Nat) : (s.stallTime dt).now = s.now := by rw [State.stallTime_only]
@[simp] theorem State.stallTime_resp (s : State) (dt : Nat) : (s.stallTime dt).resp = s.resp := by rw [State.stallTime_only]
@[simp] theorem State.stallTime_out (s : State) (dt : Nat) : (s.stallTime dt).out = s.out := by rw [State.stallTime_only]
@[simp] theorem State.stallTime_free (s : State) (dt : Nat) : (s.stallTime dt).free = s.free := by rw [State.stallTime_only]
@[simp] theorem State.stallTime_log (s : State) (dt : Nat) : (s.stallTime dt).log = s.log := by rw [State.stallTime_only]
@[simp] theorem State.stallTime_chans (s : State) (dt : Nat) : (s.stallTime dt).chans = s.chans := by rw [State.stallTime_only]
@[simp] theorem State.stallTime_ports (s : State) (dt : Nat) : (s.stallTime dt).ports = s.ports := by rw [State.stallTime_only]
@[simp] theorem State.stallTime_i2c (s : State) (dt : Nat) : (s.stallTime dt).i2c = s.i2c := by rw [State.stallTime_only]
@[simp] theorem State.stallTime_bank0 (s : State) (dt : Nat) : (s.stallTime dt).bank0 = s.bank0 := by rw [State.stallTime_only]
@[simp] theorem State.stallTime_bank1 (s : State) (dt : Nat) : (s.stallTime dt).bank1 = s.bank1 := by rw [State.stallTime_only]
@[simp] theorem State.stallTime_curBank (s : State) (dt : Nat) : (s.stallTime dt).curBank = s.curBank := by rw [State.stallTime_only]
@[simp] theorem State.stallTime_epoch (s : State) (dt : Nat) : (s.stallTime dt).epoch = s.epoch := by rw [State.stallTime_only]
@[simp] theorem State.stallTime_pa (s : State) (dt : Nat) : (s.stallTime dt).pa = s.pa := by rw [State.stallTime_only]
@[simp] theorem State.stallTime_pb (s : State) (dt : Nat) : (s.stallTime dt).pb = s.pb := by rw [State.stallTime_only]
@[simp] theorem State.stallTime_si (s : State) (dt : Nat) : (s.stallTime dt).si = s.si := by rw [State.stallTime_only]
@[simp] theorem State.stallTime_bi (s : State) (dt : Nat) : (s.stallTime dt).bi = s.bi := by rw [State.stallTime_only]
@[simp] theorem State.stallTime_ti (s : State) (dt : Nat) : (s.stallTime dt).ti = s.ti := by rw [State.stallTime_only]
@[simp] theorem State.stallTime_ringE (s : State) (dt : Nat) : (s.stallTime dt).ringE = s.ringE := by rw [State.stallTime_only]
@[simp] theorem State.stallTime_ringW (s : State) (dt : Nat) : (s.stallTime dt).ringW = s.ringW := by rw [State.stallTime_only]
@[simp] theorem State.stallTime_rsch (s : State) (dt : Nat) : (s.stallTime dt).rsch = s.rsch := by rw [State.stallTime_only]
@[simp] theorem State.stallTime_gw (s : State) (dt : Nat) : (s.stallTime dt).gw = s.gw := by rw [State.stallTime_only]
@[simp] theorem State.stallTime_img (s : State) (dt : Nat) : (s.stallTime dt).img = s.img := by rw [State.stallTime_only]
@[simp] theorem State.stallTime_boot (s : State) (dt : Nat) : (s.stallTime dt).boot = s.boot := by rw [State.stallTime_only]
@[simp] theorem State.stallTime_di (s : State) (dt : Nat) : (s.stallTime dt).di = s.di := by rw [State.stallTime_only]
@[simp] theorem State.stallTime_mg (s : State) (dt : Nat) : (s.stallTime dt).mg = s.mg := by rw [State.stallTime_only]
@[simp] theorem State.stallTime_fl (s : State) (dt : Nat) : (s.stallTime dt).fl = s.fl := by rw [State.stallTime_only]
@[simp] theorem State.stallTime_tag (s : State) (dt : Nat) : (s.stallTime dt).tag = s.tag := by rw [State.stallTime_only]
@[simp] theorem State.stallTime_cnt (s : State) (dt : Nat) : (s.stallTime dt).cnt = s.cnt := by rw [State.stallTime_only]
@[simp] theorem State.stallTime_sram (s : State) (dt : Nat) : (s.stallTime dt).sram = s.sram := by rw [State.stallTime_only]
@[simp] theorem State.stallTime_dram (s : State) (dt : Nat) : (s.stallTime dt).dram = s.dram := by rw [State.stallTime_only]
@[simp] theorem State.stallTime_flash (s : State) (dt : Nat) : (s.stallTime dt).flash = s.flash := by rw [State.stallTime_only]
@[simp] theorem State.stallTime_host (s : State) (dt : Nat) : (s.stallTime dt).host = s.host := by rw [State.stallTime_only]
@[simp] theorem State.stallTime_pending (s : State) (dt : Nat) : (s.stallTime dt).pending = s.pending := by rw [State.stallTime_only]

@[simp] theorem State.begin_resp (s : State) (t : Nat) : (s.begin t).resp = s.resp := by rw [State.begin_only]
@[simp] theorem State.begin_free (s : State) (t : Nat) : (s.begin t).free = s.free := by rw [State.begin_only]
@[simp] theorem State.begin_log (s : State) (t : Nat) : (s.begin t).log = s.log := by rw [State.begin_only]
@[simp] theorem State.begin_chans (s : State) (t : Nat) : (s.begin t).chans = s.chans := by rw [State.begin_only]
@[simp] theorem State.begin_ports (s : State) (t : Nat) : (s.begin t).ports = s.ports := by rw [State.begin_only]
@[simp] theorem State.begin_i2c (s : State) (t : Nat) : (s.begin t).i2c = s.i2c := by rw [State.begin_only]
@[simp] theorem State.begin_bank0 (s : State) (t : Nat) : (s.begin t).bank0 = s.bank0 := by rw [State.begin_only]
@[simp] theorem State.begin_bank1 (s : State) (t : Nat) : (s.begin t).bank1 = s.bank1 := by rw [State.begin_only]
@[simp] theorem State.begin_curBank (s : State) (t : Nat) : (s.begin t).curBank = s.curBank := by rw [State.begin_only]
@[simp] theorem State.begin_epoch (s : State) (t : Nat) : (s.begin t).epoch = s.epoch := by rw [State.begin_only]
@[simp] theorem State.begin_pa (s : State) (t : Nat) : (s.begin t).pa = s.pa := by rw [State.begin_only]
@[simp] theorem State.begin_pb (s : State) (t : Nat) : (s.begin t).pb = s.pb := by rw [State.begin_only]
@[simp] theorem State.begin_si (s : State) (t : Nat) : (s.begin t).si = s.si := by rw [State.begin_only]
@[simp] theorem State.begin_bi (s : State) (t : Nat) : (s.begin t).bi = s.bi := by rw [State.begin_only]
@[simp] theorem State.begin_ti (s : State) (t : Nat) : (s.begin t).ti = s.ti := by rw [State.begin_only]
@[simp] theorem State.begin_ringE (s : State) (t : Nat) : (s.begin t).ringE = s.ringE := by rw [State.begin_only]
@[simp] theorem State.begin_ringW (s : State) (t : Nat) : (s.begin t).ringW = s.ringW := by rw [State.begin_only]
@[simp] theorem State.begin_rsch (s : State) (t : Nat) : (s.begin t).rsch = s.rsch := by rw [State.begin_only]
@[simp] theorem State.begin_gw (s : State) (t : Nat) : (s.begin t).gw = s.gw := by rw [State.begin_only]
@[simp] theorem State.begin_img (s : State) (t : Nat) : (s.begin t).img = s.img := by rw [State.begin_only]
@[simp] theorem State.begin_boot (s : State) (t : Nat) : (s.begin t).boot = s.boot := by rw [State.begin_only]
@[simp] theorem State.begin_di (s : State) (t : Nat) : (s.begin t).di = s.di := by rw [State.begin_only]
@[simp] theorem State.begin_mg (s : State) (t : Nat) : (s.begin t).mg = s.mg := by rw [State.begin_only]
@[simp] theorem State.begin_fl (s : State) (t : Nat) : (s.begin t).fl = s.fl := by rw [State.begin_only]
@[simp] theorem State.begin_tag (s : State) (t : Nat) : (s.begin t).tag = s.tag := by rw [State.begin_only]
@[simp] theorem State.begin_sram (s : State) (t : Nat) : (s.begin t).sram = s.sram := by rw [State.begin_only]
@[simp] theorem State.begin_dram (s : State) (t : Nat) : (s.begin t).dram = s.dram := by rw [State.begin_only]
@[simp] theorem State.begin_flash (s : State) (t : Nat) : (s.begin t).flash = s.flash := by rw [State.begin_only]
@[simp] theorem State.begin_host (s : State) (t : Nat) : (s.begin t).host = s.host := by rw [State.begin_only]
@[simp] theorem State.begin_pending (s : State) (t : Nat) : (s.begin t).pending = s.pending := by rw [State.begin_only]

@[simp] theorem State.logPut_now (s : State) (cause i n : Nat) : (s.logPut cause i n).now = s.now := by rw [State.logPut_only]
@[simp] theorem State.logPut_resp (s : State) (cause i n : Nat) : (s.logPut cause i n).resp = s.resp := by rw [State.logPut_only]
@[simp] theorem State.logPut_out (s : State) (cause i n : Nat) : (s.logPut cause i n).out = s.out := by rw [State.logPut_only]
@[simp] theorem State.logPut_log (s : State) (cause i n : Nat) : (s.logPut cause i n).log = s.log := by rw [State.logPut_only]
@[simp] theorem State.logPut_chans (s : State) (cause i n : Nat) : (s.logPut cause i n).chans = s.chans := by rw [State.logPut_only]
@[simp] theorem State.logPut_isl (s : State) (cause i n : Nat) : (s.logPut cause i n).isl = s.isl := by rw [State.logPut_only]
@[simp] theorem State.logPut_ports (s : State) (cause i n : Nat) : (s.logPut cause i n).ports = s.ports := by rw [State.logPut_only]
@[simp] theorem State.logPut_i2c (s : State) (cause i n : Nat) : (s.logPut cause i n).i2c = s.i2c := by rw [State.logPut_only]
@[simp] theorem State.logPut_bank0 (s : State) (cause i n : Nat) : (s.logPut cause i n).bank0 = s.bank0 := by rw [State.logPut_only]
@[simp] theorem State.logPut_bank1 (s : State) (cause i n : Nat) : (s.logPut cause i n).bank1 = s.bank1 := by rw [State.logPut_only]
@[simp] theorem State.logPut_curBank (s : State) (cause i n : Nat) : (s.logPut cause i n).curBank = s.curBank := by rw [State.logPut_only]
@[simp] theorem State.logPut_epoch (s : State) (cause i n : Nat) : (s.logPut cause i n).epoch = s.epoch := by rw [State.logPut_only]
@[simp] theorem State.logPut_pa (s : State) (cause i n : Nat) : (s.logPut cause i n).pa = s.pa := by rw [State.logPut_only]
@[simp] theorem State.logPut_pb (s : State) (cause i n : Nat) : (s.logPut cause i n).pb = s.pb := by rw [State.logPut_only]
@[simp] theorem State.logPut_si (s : State) (cause i n : Nat) : (s.logPut cause i n).si = s.si := by rw [State.logPut_only]
@[simp] theorem State.logPut_bi (s : State) (cause i n : Nat) : (s.logPut cause i n).bi = s.bi := by rw [State.logPut_only]
@[simp] theorem State.logPut_ti (s : State) (cause i n : Nat) : (s.logPut cause i n).ti = s.ti := by rw [State.logPut_only]
@[simp] theorem State.logPut_ringE (s : State) (cause i n : Nat) : (s.logPut cause i n).ringE = s.ringE := by rw [State.logPut_only]
@[simp] theorem State.logPut_ringW (s : State) (cause i n : Nat) : (s.logPut cause i n).ringW = s.ringW := by rw [State.logPut_only]
@[simp] theorem State.logPut_rsch (s : State) (cause i n : Nat) : (s.logPut cause i n).rsch = s.rsch := by rw [State.logPut_only]
@[simp] theorem State.logPut_gw (s : State) (cause i n : Nat) : (s.logPut cause i n).gw = s.gw := by rw [State.logPut_only]
@[simp] theorem State.logPut_img (s : State) (cause i n : Nat) : (s.logPut cause i n).img = s.img := by rw [State.logPut_only]
@[simp] theorem State.logPut_boot (s : State) (cause i n : Nat) : (s.logPut cause i n).boot = s.boot := by rw [State.logPut_only]
@[simp] theorem State.logPut_mg (s : State) (cause i n : Nat) : (s.logPut cause i n).mg = s.mg := by rw [State.logPut_only]
@[simp] theorem State.logPut_fl (s : State) (cause i n : Nat) : (s.logPut cause i n).fl = s.fl := by rw [State.logPut_only]
@[simp] theorem State.logPut_tag (s : State) (cause i n : Nat) : (s.logPut cause i n).tag = s.tag := by rw [State.logPut_only]
@[simp] theorem State.logPut_cnt (s : State) (cause i n : Nat) : (s.logPut cause i n).cnt = s.cnt := by rw [State.logPut_only]
@[simp] theorem State.logPut_sram (s : State) (cause i n : Nat) : (s.logPut cause i n).sram = s.sram := by rw [State.logPut_only]
@[simp] theorem State.logPut_dram (s : State) (cause i n : Nat) : (s.logPut cause i n).dram = s.dram := by rw [State.logPut_only]
@[simp] theorem State.logPut_flash (s : State) (cause i n : Nat) : (s.logPut cause i n).flash = s.flash := by rw [State.logPut_only]
@[simp] theorem State.logPut_host (s : State) (cause i n : Nat) : (s.logPut cause i n).host = s.host := by rw [State.logPut_only]
@[simp] theorem State.logPut_pending (s : State) (cause i n : Nat) : (s.logPut cause i n).pending = s.pending := by rw [State.logPut_only]

@[simp] theorem State.logEvent_now (s : State) (cause i : Nat) : (s.logEvent cause i).now = s.now := by rw [State.logEvent_only]
@[simp] theorem State.logEvent_resp (s : State) (cause i : Nat) : (s.logEvent cause i).resp = s.resp := by rw [State.logEvent_only]
@[simp] theorem State.logEvent_out (s : State) (cause i : Nat) : (s.logEvent cause i).out = s.out := by rw [State.logEvent_only]
@[simp] theorem State.logEvent_chans (s : State) (cause i : Nat) : (s.logEvent cause i).chans = s.chans := by rw [State.logEvent_only]
@[simp] theorem State.logEvent_isl (s : State) (cause i : Nat) : (s.logEvent cause i).isl = s.isl := by rw [State.logEvent_only]
@[simp] theorem State.logEvent_ports (s : State) (cause i : Nat) : (s.logEvent cause i).ports = s.ports := by rw [State.logEvent_only]
@[simp] theorem State.logEvent_i2c (s : State) (cause i : Nat) : (s.logEvent cause i).i2c = s.i2c := by rw [State.logEvent_only]
@[simp] theorem State.logEvent_bank0 (s : State) (cause i : Nat) : (s.logEvent cause i).bank0 = s.bank0 := by rw [State.logEvent_only]
@[simp] theorem State.logEvent_bank1 (s : State) (cause i : Nat) : (s.logEvent cause i).bank1 = s.bank1 := by rw [State.logEvent_only]
@[simp] theorem State.logEvent_curBank (s : State) (cause i : Nat) : (s.logEvent cause i).curBank = s.curBank := by rw [State.logEvent_only]
@[simp] theorem State.logEvent_epoch (s : State) (cause i : Nat) : (s.logEvent cause i).epoch = s.epoch := by rw [State.logEvent_only]
@[simp] theorem State.logEvent_pa (s : State) (cause i : Nat) : (s.logEvent cause i).pa = s.pa := by rw [State.logEvent_only]
@[simp] theorem State.logEvent_pb (s : State) (cause i : Nat) : (s.logEvent cause i).pb = s.pb := by rw [State.logEvent_only]
@[simp] theorem State.logEvent_si (s : State) (cause i : Nat) : (s.logEvent cause i).si = s.si := by rw [State.logEvent_only]
@[simp] theorem State.logEvent_bi (s : State) (cause i : Nat) : (s.logEvent cause i).bi = s.bi := by rw [State.logEvent_only]
@[simp] theorem State.logEvent_ti (s : State) (cause i : Nat) : (s.logEvent cause i).ti = s.ti := by rw [State.logEvent_only]
@[simp] theorem State.logEvent_ringE (s : State) (cause i : Nat) : (s.logEvent cause i).ringE = s.ringE := by rw [State.logEvent_only]
@[simp] theorem State.logEvent_ringW (s : State) (cause i : Nat) : (s.logEvent cause i).ringW = s.ringW := by rw [State.logEvent_only]
@[simp] theorem State.logEvent_rsch (s : State) (cause i : Nat) : (s.logEvent cause i).rsch = s.rsch := by rw [State.logEvent_only]
@[simp] theorem State.logEvent_gw (s : State) (cause i : Nat) : (s.logEvent cause i).gw = s.gw := by rw [State.logEvent_only]
@[simp] theorem State.logEvent_img (s : State) (cause i : Nat) : (s.logEvent cause i).img = s.img := by rw [State.logEvent_only]
@[simp] theorem State.logEvent_boot (s : State) (cause i : Nat) : (s.logEvent cause i).boot = s.boot := by rw [State.logEvent_only]
@[simp] theorem State.logEvent_mg (s : State) (cause i : Nat) : (s.logEvent cause i).mg = s.mg := by rw [State.logEvent_only]
@[simp] theorem State.logEvent_fl (s : State) (cause i : Nat) : (s.logEvent cause i).fl = s.fl := by rw [State.logEvent_only]
@[simp] theorem State.logEvent_tag (s : State) (cause i : Nat) : (s.logEvent cause i).tag = s.tag := by rw [State.logEvent_only]
@[simp] theorem State.logEvent_cnt (s : State) (cause i : Nat) : (s.logEvent cause i).cnt = s.cnt := by rw [State.logEvent_only]
@[simp] theorem State.logEvent_sram (s : State) (cause i : Nat) : (s.logEvent cause i).sram = s.sram := by rw [State.logEvent_only]
@[simp] theorem State.logEvent_dram (s : State) (cause i : Nat) : (s.logEvent cause i).dram = s.dram := by rw [State.logEvent_only]
@[simp] theorem State.logEvent_flash (s : State) (cause i : Nat) : (s.logEvent cause i).flash = s.flash := by rw [State.logEvent_only]
@[simp] theorem State.logEvent_host (s : State) (cause i : Nat) : (s.logEvent cause i).host = s.host := by rw [State.logEvent_only]
@[simp] theorem State.logEvent_pending (s : State) (cause i : Nat) : (s.logEvent cause i).pending = s.pending := by rw [State.logEvent_only]

/- ## The invariant -/

theorem State.Inv_setPend {s : State} (n : Nat) (b : Bool) (h : s.Inv) : (s.setPend n b).Inv := by
  unfold State.setPend; split <;> exact State.Inv_wr _ _ h

theorem State.Inv_msix {s : State} (v : Nat) (h : s.Inv) : (s.msix v).Inv := by
  unfold State.msix
  split
  · exact h
  · exact State.Inv_wr _ _ h

theorem State.Inv_deliver {s : State} (n : Nat) (h : s.Inv) : (s.deliver n).Inv := by
  unfold State.deliver
  split
  · exact State.Inv_msix _ (State.Inv_wr _ _ (State.Inv_setPend _ _ h))
  · exact h

theorem State.Inv_raise {s : State} (n : Nat) (h : s.Inv) : (s.raise n).Inv := by
  unfold State.raise
  split
  · exact h
  · exact State.Inv_deliver _ (State.Inv_setPend _ _ h)

theorem State.Inv_raiseIf {s : State} (b : Bool) (n : Nat) (h : s.Inv) : (s.raiseIf b n).Inv := by
  unfold State.raiseIf
  split
  · exact State.Inv_raise n h
  · exact h

theorem State.Inv_bump {s : State} (i k n : Nat) (h : s.Inv) : (s.bump i k n).Inv := by
  unfold State.bump
  dsimp only
  split
  · split
    · exact State.Inv_raise _ (State.Inv_addOvf _ _ _ _ h)
    · exact State.Inv_addOvf _ _ _ _ h
  · exact State.Inv_addOvf _ _ _ _ h

theorem State.Inv_count {s : State} (i ev n : Nat) (h : s.Inv) : (s.count i ev n).Inv := by
  unfold State.count
  split
  · exact h
  · refine State.foldl_keeps (P := State.Inv) (fun s k hs => ?_) _ h
    unfold State.count1
    split
    · exact State.Inv_bump _ _ _ hs
    · exact hs

theorem State.Inv_advance {s : State} (t : Nat) (h : s.Inv) : (s.advance t).Inv := by
  unfold State.advance
  split
  · exact State.Inv_wr _ _ h
  · exact h

theorem State.Inv_countCycles {s : State} (t1 : Nat) (h : s.Inv) : (s.countCycles t1).Inv := by
  have hf : ∀ (f : State → Nat → State) (l : List Nat), (∀ s' a, s'.Inv → (f s' a).Inv) → (l.foldl f s).Inv :=
    fun f l hk => State.foldl_keeps hk l h
  unfold State.countCycles
  dsimp only
  split
  · refine hf _ _ fun s' a hs => ?_
    split_ifs <;> first | exact hs | exact State.Inv_bump _ _ _ hs
  · refine State.Inv.of_kept (a := List.foldl _ s _) (hf _ _ fun s' a hs => ?_) (State.memoriesKept.refl _) rfl
    split_ifs <;> first | exact hs | exact State.Inv_bump _ _ _ hs

/-- Beginning a command keeps the invariant. -/
theorem State.Inv_begin {s : State} (t : Nat) (h : s.Inv) : (s.begin t).Inv := by
  unfold State.begin
  split
  · exact h
  · refine State.Inv_advance _ ?_
    rw [State.stallTime_only]
    exact State.Inv_countCycles _ h

theorem State.Inv_logEvent {s : State} (cause i : Nat) (h : s.Inv) : (s.logEvent cause i).Inv := by
  have hp : ∀ (u : State) (n : Nat), u.Inv → (u.logPut cause i n).Inv := by
    intro u n hu
    unfold State.logPut
    split
    · exact hu
    · split
      · exact State.Inv_wr _ _ (State.Inv_wr _ _ hu)
      · refine State.Inv_wr _ _ ?_
        exact hu
  unfold State.logEvent
  dsimp only
  split <;> split <;> first | exact hp _ _ h | exact h

/- ## Which registers they move -/

/-- The pending bits of a source of the device are what interrupts move. -/
theorem pend_moving {n : Nat} (h : n < 128) : (MI.IC_PEND.PEND (n / 64)).moving = true := by
  have : n / 64 = 0 ∨ n / 64 = 1 := by omega
  rcases this with e | e <;> rw [e] <;> decide

theorem insvc_moving {n : Nat} (h : n < 128) : (MI.IC_CFG.INSVC n).moving = true := by
  interval_cases n <;> decide

theorem cnt_moving {i k : Nat} (hk : k < 32) : (C.CNT.COUNT i k).moving = true := by
  have h1 : (C.CNT.COUNT i k).key / 64 = i * 0x100000 + (0xF0100 + 8 * k) := by
    simp only [C.CNT.COUNT, Field.key]; omega
  simp only [Field.moving, h1, Bool.or_eq_true, Bool.and_eq_true, decide_eq_true_eq]
  omega

theorem cntOvf_moving {i : Nat} (hi : i < 16) : (C.CNT_OVF.OVF i).moving = true := by
  interval_cases i <;> decide

theorem State.restKept_setPend (s : State) {n : Nat} (b : Bool) (h : n < 128) : s.restKept (s.setPend n b) [] := by
  unfold State.setPend
  split <;> exact (State.restKept.refl s []).wr _ (.inr (pend_moving h))

theorem State.restKept_msix (s : State) (v : Nat) : s.restKept (s.msix v) [] := by
  unfold State.msix
  split
  · exact State.restKept.of_regs rfl []
  · exact (State.restKept.refl s []).wr _ (.inr (by decide))

/-- Raising a source moves pending bits, the in-service bit and the PBA only (R476, R478). -/
theorem State.restKept_raise (s : State) {n : Nat} (h : n < 128) : s.restKept (s.raise n) [] := by
  unfold State.raise
  split
  · exact State.restKept.refl s []
  · refine (s.restKept_setPend true h).trans ?_
    unfold State.deliver
    split
    · refine (((s.setPend n true).restKept_setPend false h).wr 1 (.inr (insvc_moving h))).trans ?_
      exact State.restKept_msix _ _
    · exact State.restKept.refl _ []

theorem State.restKept_raiseIf (s : State) (b : Bool) {n : Nat} (h : n < 128) : s.restKept (s.raiseIf b n) [] := by
  unfold State.raiseIf
  split
  · exact s.restKept_raise h
  · exact State.restKept.refl s []

theorem State.restKept_addOvf (s : State) {f o : Field} (bits n : Nat) (hf : f.moving = true) (ho : o.moving = true) :
    s.restKept (s.addOvf f o bits n) [] := by
  have h := (State.restKept.refl s []).wr (s.rd f + n) (.inr hf)
  unfold State.addOvf
  split
  · exact h.wr _ (.inr ho)
  · exact h

theorem State.restKept_bump (s : State) {i k : Nat} (n : Nat) (hi : i < 16) (hk : k < 32) : s.restKept (s.bump i k n) [] := by
  have h := s.restKept_addOvf (2 ^ k) n (cnt_moving (i := i) hk) (cntOvf_moving hi)
  unfold State.bump
  dsimp only
  split
  · split
    · rename_i q hq
      refine h.trans (State.restKept_raise _ ?_)
      unfold cntIrq at hq
      split at hq
      · cases hq
      · cases hq; omega
    · exact h
  · exact h

/-- Counting an event moves the counters, and what a counter's overflow raises, only (R541, R546). -/
theorem State.restKept_count (s : State) {i : Nat} (ev n : Nat) (hi : i < 16) : s.restKept (s.count i ev n) [] := by
  unfold State.count
  split
  · exact State.restKept.refl s []
  · have : ∀ (l : List Nat) (b : State), (∀ k ∈ l, k < 32) → s.restKept b [] →
        s.restKept (l.foldl (fun s k => s.count1 i ev n k) b) [] := by
      intro l
      induction l with
      | nil => exact fun b _ h => h
      | cons k l ih =>
        intro b hl h
        refine ih _ (fun j hj => hl j (List.mem_cons_of_mem _ hj)) (h.trans ?_)
        show b.restKept (b.count1 i ev n k) []
        unfold State.count1
        split
        · exact State.restKept_bump _ _ hi (hl k List.mem_cons_self)
        · exact State.restKept.refl _ []
    exact this _ s (fun k hk => List.mem_range.1 hk) (State.restKept.refl s [])

theorem State.restKept_progress (s : State) {i : Nat} (hi : i < 16) : s.restKept (s.progress i) [] := by
  unfold State.progress
  exact (State.restKept.of_regs (State.islSet_regs s _) []).trans (State.restKept_count _ 1 1 hi)

theorem State.restKept_counted (s : State) {i : Nat} (hi : i < 16) : s.restKept (s.counted i) [] := s.restKept_count 5 1 hi

/-- Counting an access leaves a register that is no counter and no pending bit as it was. -/
theorem State.counted_rd (s : State) {i : Nat} (hi : i < 16) {g : Field} (hg : g.moving = false) :
    (s.counted i).rd g = s.rd g := (s.restKept_counted hi).rd hg (by simp)

@[simp] theorem State.counted_isl? (s : State) {i : Nat} (hi : i < 16) (j : Nat) : (s.counted i).isl? j = s.isl? j := by
  unfold State.isl?
  rw [s.counted_rd hi (by decide)]

@[simp] theorem State.counted_islUp (s : State) {i : Nat} (hi : i < 16) (j : Nat) : (s.counted i).islUp j = s.islUp j := by
  unfold State.islUp
  rw [s.counted_isl? hi]

/-- What PMP lets through depends on the core's PMP registers only. -/
theorem State.reaches_of_mg {s u : State} (h : u.mg = s.mg) (src : Src) (k : AccKind) (i off : Nat) :
    u.reaches src k i off = s.reaches src k i off := by
  have hr : u.pmpRange = s.pmpRange := by funext i; unfold State.pmpRange; rw [h]
  have ha : u.pmpAllows = s.pmpAllows := by funext src k a n; unfold State.pmpAllows; rw [hr, h]
  unfold State.reaches
  rw [ha]

/-- What PMP lets through does not depend on what is counted. -/
@[simp] theorem State.counted_reaches (s : State) (i : Nat) (src : Src) (k : AccKind) (j off : Nat) :
    (s.counted i).reaches src k j off = s.reaches src k j off := by
  exact State.reaches_of_mg (State.count_mg s i 0x005 1) src k j off

/-- An access that reaches nothing changes MI.ACC_STAT only (R10, R17). -/
theorem State.regsKept_unmapped (s : State) (src : Src) (i off : Nat) :
    s.regsKept (s.unmapped src i off) [MI.ACC_STAT.UNMAPPED, MI.ACC_STAT.LAST_ADDR, MI.ACC_STAT.LAST_ISLAND,
      MI.ACC_STAT.LAST_SRC] :=
  (State.regsKept.refl s _).wrs (by simp)

/-- What MI.ACC_STAT shows of it. -/
theorem State.unmapped_rd (s : State) (src : Src) (i off : Nat) :
    (s.unmapped src i off).rd MI.ACC_STAT.UNMAPPED = 1 ∧ (s.unmapped src i off).rd MI.ACC_STAT.LAST_ADDR = off % 2 ^ 20
      ∧ (s.unmapped src i off).rd MI.ACC_STAT.LAST_ISLAND = i % 16
      ∧ (s.unmapped src i off).rd MI.ACC_STAT.LAST_SRC = if src = .host then 1 else 0 := by
  simp only [State.unmapped, State.wrs_cons, State.wrs_nil]
  refine ⟨?_, ?_, ?_, ?_⟩
  · rw [State.rd_wr_ne _ _ (by decide), State.rd_wr_ne _ _ (by decide), State.rd_wr_ne _ _ (by decide), State.rd_wr_same]
    rfl
  · rw [State.rd_wr_ne _ _ (by decide), State.rd_wr_ne _ _ (by decide), State.rd_wr_same]; rfl
  · rw [State.rd_wr_ne _ _ (by decide), State.rd_wr_same]; rfl
  · rw [State.rd_wr_same]; split <;> rfl

/- ## Commands of registers -/

/-- The four outcomes of a command that is the write of a register (R10, R47, R473). -/
theorem State.regCmd_cases (s : State) (src : Src) (i off : Nat) (hostMay : Bool) (k : State → State) :
    (s.reaches src .store i off = false ∧ s.regCmd src i off hostMay k = s.emit (.coreFault 7 (regAddr i off)))
      ∨ (s.reaches src .store i off = true ∧ s.islUp i = false ∧ s.regCmd src i off hostMay k = s)
      ∨ (s.reaches src .store i off = true ∧ s.islUp i = true ∧ src = .host ∧ hostMay = false
          ∧ s.regCmd src i off hostMay k = s.unmapped src i off)
      ∨ (s.reaches src .store i off = true ∧ s.islUp i = true ∧ (src ≠ .host ∨ hostMay = true)
          ∧ s.regCmd src i off hostMay k = k (s.counted i)) := by
  unfold State.regCmd
  cases hr : s.reaches src .store i off
  · exact .inl ⟨rfl, by simp⟩
  · cases hu : s.islUp i
    · exact .inr (.inl ⟨rfl, rfl, by simp⟩)
    · by_cases hs : src = .host ∧ hostMay = false
      · exact .inr (.inr (.inl ⟨rfl, rfl, hs.1, hs.2, by simp [hs]⟩))
      · refine .inr (.inr (.inr ⟨rfl, rfl, ?_, by simp [hs]⟩))
        by_cases h : src = .host
        · exact .inr (by simpa [h] using hs)
        · exact .inl h

/-- By the core, at an island that answers, the command is counted and has its effect. -/
theorem State.regCmd_core {s : State} {src : Src} {i off : Nat} {hostMay : Bool} {k : State → State} (hs : src ≠ .host)
    (hr : s.reaches src .store i off = true) (hu : s.islUp i = true) :
    s.regCmd src i off hostMay k = k (s.counted i) := by
  simp [State.regCmd, hs, hr, hu]

/-- The host reaches every register (R473). -/
@[simp] theorem State.reaches_host (s : State) (k : AccKind) (i off : Nat) : s.reaches .host k i off = true := by
  simp [State.reaches]

theorem State.regCmd_host {s : State} {i off : Nat} {k : State → State} (hu : s.islUp i = true) :
    s.regCmd .host i off false k = s.unmapped .host i off := by
  simp [State.regCmd, hu]

theorem State.regCmd_down {s : State} {src : Src} {i off : Nat} {hostMay : Bool} {k : State → State}
    (hr : s.reaches src .store i off = true) (hu : s.islUp i = false) : s.regCmd src i off hostMay k = s := by
  simp [State.regCmd, hr, hu]

theorem State.regCmd_denied {s : State} {src : Src} {i off : Nat} {hostMay : Bool} {k : State → State}
    (hr : s.reaches src .store i off = false) :
    s.regCmd src i off hostMay k = s.emit (.coreFault 7 (regAddr i off)) := by
  simp [State.regCmd, hr]

end Sys2Proof.Machine
end

