-- ==== Sys2Proof/Tests/Slice0.lean ====
section
/-!
SUPPORT. Tests of the model: ill-formed commands, the manual's worked cases, and for each statement of
Certificates/Slice0/Obligations.lean concrete states and operands that meet the hypotheses of each of its clauses. The states
below are small changes of the state after reset.
-/
open Sys2Proof Sys2Proof.Machine

namespace Sys2Proof.Tests

set_option linter.unusedVariables false
set_option Elab.async false


/- ## States -/

/-- Every island runs. -/
def up : State := State.reset.wr MI.ISL_STAT.STATE 0x55555555
/-- The PCI Express link is up, with messages enabled. -/
def linked : State := up.wrs [(MI.PCIE_STAT.LINK_UP, 1), (MI.PCIE_STAT.BME, 1), (MI.PCIE_STAT.MSIX_EN, 1)]
/-- One PMP entry lets user mode reach every register. -/
def userOk (s : State) : State := { s with mg := { s.mg with pmpCfg := [0x1F], pmpAddr := [0xFFFFFFFF] } }
def chanState : State := up.setChan ⟨1, 4, 5⟩ ⟨7, [.header 0 0], [], 2⟩
def aDesc : Desc := ⟨3, 7, 7, 0, 0, List.replicate 200 9, 0, 0, 0, none, false, false, none, true, 0⟩
def evt : State := linked.wrs [(MI.IC_CFG.TARGET 127, 1), (MI.IC_CFG.PRIO 127, 7), (MI.IC_CFG.VEC 127, 31)]
def claims : State := (up.wrs [(MI.IC_CFG.PRIO 127, 3), (MI.IC_PEND.PEND 1, 2 ^ 63), (MI.IC_CFG.PRIO 5, 2), (MI.IC_PEND.PEND 0, 32)])
def dmaState : State := (linked.wrs [(MI.DMA_CTL.EN 3, 1), (MI.DMA_PROD.PROD 3, 1), (MI.DMA_BASE.ADDR 3, 0x10000000)]).sramWrite 0
  (leBytes 8 0x1000 ++ leBytes 4 0x10001000 ++ leBytes 4 64 ++ leBytes 4 3 ++ leBytes 4 0 ++ leBytes 8 0)
def dmaRun : State := { dmaState.sramWrite 0x1000 [1, 2, 3] with mg := { dmaState.mg with dma := [(3, ⟨0x1000, 0x10001000, 64, true, true, 0⟩)] } }
def dmaIn : State := { dmaRun.hostWrite 0x1000 [9] with mg := { dmaState.mg with dma := [(3, ⟨0x1000, 0x10001000, 64, false, true, 0⟩)] } }
def dmaWaits : State := { dmaRun with di := { dmaRun.di with queue := [⟨.dma 3, 0, 64, false, [], 0⟩] } }
def wrReq : PcieReq := ⟨true, 2, 0x3FFFC, [1, 2, 3, 4], [true, true, true, true], false⟩
def snapping : State := { up.wrs [(MI.SNAP_STAT.BUSY, 1), (C.CNT.COUNT 15 3, 9)] with cnt := { up.cnt with waiting := [15] } }
def dmem : State := up.wrs [(DI.CFG.CAPACITY, 0x100000), (DI.TRN_STAT.INIT_DONE, 1), (MI.MODE_COND.DRAM_READY, 1)]
def wrq : DramReq := ⟨.host, 64, 8, true, [1, 2, 3, 4, 5, 6, 7, 8], 0⟩
def badRead : DramReq := ⟨.core .fetch 0x80000040, 64, 4, false, [], 0⟩
def train : State := up.wrs [(DI.CTL.TRAIN_MODE, 1), (DI.CFG.CAPACITY, 0x100000)]
def slicing : State := up.wrs [(DI.CTL.PERIODIC_EN, 1), (DI.CFG.CAPACITY, 0x100000)]
def sideErr : Errs := [((0x40000000 - 65536) / 4, 2 ^ 40 - 1)]
/-- A 64 MiB flash part, the hold-up check passing, the journal head located. -/
def flash : State :=
  let s := up.wrs [(MI.FLASH_STAT.SIZE_MIB, 64), (MI.BOOT_STAT.SLOT_LOADED, 2), (MI.HU_CFG.CAP_UF, 65535), (MI.HU_CFG.SCALE, 65535), (MI.FLASH_SRC.ADDR, 0x10000000)]
  { s with mg := { s.mg with sense := [4095, 4095] }, fl := { s.fl with head := some 5, inUse := 1, oldest := 0, nextSeq := 9 } }
def recA : Frame := recFill (recNew 2 [5]) 3 0 true
def programming : State := { flash with flash := [(7, 0x0F), (8, 0x33)], fl := { flash.fl with op := some (.program true 7 [0x3C, 0, 0xFF]) } }
def erasing : State := { flash.wr MI.WDT_STAT.ERASE_SUSP 1 with flash := [(7, 0x0F), (4095, 1), (4096, 0x33)], fl := { flash.fl with op := some (.erase true 0 4096) } }
def record : State := flash.wr (MI.JNL_REC.DATA 0) 0x0000000100000000
def copyable : State := { flash.wr MI.JNL_COPY.OFS 64 with flash := (((recFill (recNew 2 [5]) 3 0 true).zipIdx).map fun x => (0x2000040 + x.2, x.1)).filter fun x => x.2 != 0xFF }
def oldestA : State := { flash with fl := { flash.fl with oldest := 63, inUse := 2 } }
def oldestB : State := { flash with fl := { flash.fl with head := some 1024, oldest := 0, inUse := 2 } }
/-- The tag sees a field, and its interrupts go to the host. -/
def field : State := ((linked.wrs [(AO.TAG_STAT.FIELD, 1), (AO.TAG_UID.UID, 0xE0123456789ABCDE)]).wrs
  ((List.range 4).flatMap fun i => [(MI.IC_CFG.TARGET (8 + i), 1), (MI.IC_CFG.PRIO (8 + i), 1)]))
def page (x : Byte) : Frame := let d := x :: List.replicate 251 0; d ++ leBytes 4 (crc32c d)
/-- The field holds page 5, the wired side page 6. -/
def held : State := { field.wrs [(AO.TAG_OWN.FIELD, 0x20), (AO.TAG_OWN.WIRED, 0x40), (AO.TAG_STAT.SESSION, 1)] with tag := { field.tag with shadows := [(5, page 9)] } }
def committing : State := { held with tag := { held.tag with ops := [.field 5 (page 9), .fieldEnd] } }
def rehearsal : State := up.wrs [(MI.MODE_STAT.MODE, 1), (MI.MODE_COND.REPLAY_DONE, 1), (MI.MODE_COND.DRAM_READY, 1), (MI.MODE_COND.IMAGE_OK, 1), (MI.MODE_COND.TIME_OK, 1), (MI.MODE_COND.RING_USED, 1), (MI.MODE_COND.JOIN_OK, 1)]
def performance : State := rehearsal.wr MI.MODE_STAT.MODE 2
def transit (g n : Nat) (s : State) : State := (s.wrs [(MI.MODE_STAT.IN_TRANSIT, 1), (MI.MODE_REQ_STAT.PENDING, 1)]).bootSet fun b => { b with goal := g, bounds := n, reqAt := 1 }
def quietRing (s : State) : State := { s.wr MI.MODE_COND.JOIN_OK 0 with rsch := { s.rsch with graceSince := some 0 } }
def busyDev : State := { rehearsal.wrs [(RI.NODE_CFG.NODE, 5), (AO.RST_CAUSE.LAST, 3), (AO.RST_CAUSE.SEEN, 5), (DI.TRN_STAT.INIT_DONE, 1), (MI.WDT_EVID_PC.PC, 4), (coilDrive 0, 1)] with sram := [(3, 4)], dram := [(5, 6)], flash := [(7, 8)], host := [(1, 2)], boot := { rehearsal.boot with held := false }, fl := { rehearsal.fl with op := some (.program true 6 [1, 2]) } }
def inReset : State := { State.reset with boot := { State.reset.boot with held := true, aoPor := false } }
def starting (d : Nat) : State := { State.reset with boot := { State.reset.boot with held := false, aoPor := false }, isl := { State.reset.isl with relock := [0] }, fl := { State.reset.fl with density := d } }
def islStarting (i : Nat) : State := { (starting 64).wr MI.ISL_STAT.STATE (1 + 2 * 4 ^ i) with isl := { (starting 64).isl with relock := [i] } }
def live : State := { busyDev.wrs ((MI.SN_CFG.FATAL_LIMIT, 0) :: (MI.SN_CFG.TRIP_LIMIT, 0) :: (MI.PLL_STAT.LOCK, 0xFFFF) :: (List.range 16).flatMap fun i => [(MI.PMON_CFG.EN i, 1), (MI.PMON_CFG.ACTION i, 1)]) with fl := rehearsal.fl }
def copied (p : Nat) (s : State) : State := s.setMac p { s.mac p with copies := [⟨0, List.replicate 64 0, p, 0, 0, none, false, 0, false⟩] }
def stalled (i p : Nat) (s : State) : State := let u := copied p s; { u with isl := { u.isl with stall := [(i, 10 ^ 12)] } }
def tripping (i v : Nat) : State := let s := live.setIsl i v; { s with isl := { s.isl with tripAt := [(i, 0)] } }
def used : State := { live with img := { live.img with bodies := [(1, List.replicate 0x190 3)] } }
def image : State := live.wrs [(MI.IMG_SRC.ADDR, 0x10000000), (MI.IMG_SRC.LEN, 64)]
def loaded (c e : Nat) : State := { image.wrs [(MI.IMG_STAT.BUSY, 1), (MI.IMG_STAT.LAST_CMD, c)] with img := { image.img with error := e } }
def loading : State := let s := { loaded 2 0 with sram := (List.range 256).map fun i => (i, 1) }; { s with img := { s.img with addr := 0x10000000, source := List.replicate 256 1 } }
def withHead : State := { rehearsal with fl := { rehearsal.fl with head := some 0 } }
def settled : State := { withHead.wrs [(MI.BOOT_STAT.PHASE, 6), (TI.SEL_STAT.SCHED_VALID, 1)] with boot := { withHead.boot with waitAt := some 0 } }
def mem4 : State := { userOk live with sram := [(0, 1), (3, 7), (4, 9)] }
/-- Every Ethernet port is enabled, with link at 1 Gb/s, and honours PAUSE. -/
def ported : State := linked.wrs ([0, 95, 98, 99, 100].flatMap fun p => [(portEn p, 1), (portLink p, 1), (portSpeed p, 1), (portHonour p, 1)])
def frameOf (n : Nat) (x : Byte) : Frame := withFcs (List.replicate 12 x ++ [8, 0] ++ List.replicate (n - 18) x)
def aCopy (n : Nat) (l : Frame) : Copy := ⟨n, l, 95, 0, 0, none, false, 0, false⟩
def someDesc (p : Nat) : Desc := plainDesc p 0 0 0 0 0 0 0 false (frameOf 64 2)
def holding : State := (ported.setMac 95 { ported.mac 95 with hold := some ⟨1, 3⟩ }).wr (portHeld 95) 1
def i2c : State := { up with i2c := [(3, ⟨false, 0, 5, 2, 1⟩)] }
/-- In Rehearsal, two banks of one content, an epoch retiring since 0. -/
def reh : State := linked.wrs [(MI.MODE_STAT.MODE, 1), (MI.IC_CFG.PRIO 3, 1), (MI.IC_CFG.TARGET 3, 1)]
def retiring : State := { reh.wrs [(MI.EPOCH_STAT.RETIRING_VALID, 1), (MI.EPOCH_STAT.RETIRING, 15)] with curBank := true }
def heldCopy (e : Option Nat) (trial : Bool) : Copy := ⟨0, [], 3, 0, 0, e, trial, 4, false⟩
def pausing : State := let s := reh.wrs [(MI.TUPD_STAT.PAUSE_RUNNING, 1), (MI.TUPD_STAT.BATCH_LEN, 1)]; { s.pauseSources [3, 100] true with epoch := { s.epoch with pauseAt := 50, pausePorts := [3, 100], batch := [⟨false, 8, 0, 2 ^ 128 + 5⟩] } }
def dirty : State := reh.wrs [(MI.EPOCH_STAT.STAGED_DIRTY, 1), (MI.EPOCH_CFG.ALIGN, 2), (MI.EPOCH_AT.TIME, 77)]
def pendingAt (a t : Nat) : State := let s := (dirty.wr MI.EPOCH_STAT.PENDING 1).wrs [(SI.FRAG_CFG.FLUSH_ON_COMMIT, 0), (MI.EPOCH_STAT.CURRENT, 15)]; { s with epoch := { s.epoch with align := a, atTime := t } }
def slot8 : State := reh.wrs [(MI.TUPD_ADDR.TABLE, 8), (MI.TBL_MODE.PAUSE, 0), (MI.TUPD_DATA.DATA 0, 5), (MI.TUPD_DATA.DATA 2, 1)]
def leaf (next : Nat) : GraphNode := ⟨12, 16, 0, some 0, 0, 0, 0, 0, 14, next, [(0x0800, 0xFFFF, 0x85), (0x8100, 0xFFFF, 0)]⟩
/-- Port 3 of pipeline PA runs a graph of one node and the routines 5 and 9. -/
def pipes : State :=
  let b := { ported.bank0 with pa := { ported.bank0.pa with graph := ⟨0, [leaf 0x89]⟩, routines := ⟨false, [(5, ⟨7, 300, false, 1⟩), (9, ⟨8, 30, false, 1⟩)]⟩ } }
  { ported.wr (P.JUG_CTL.EN 0 13) 1 with bank0 := b, bank1 := b }
def seen (l : Frame) : State :=
  (pipes.setMac 3 { pipes.mac 3 with copies := [⟨4, l, 3, 0, 0, none, false, 1, false⟩, ⟨5, [], 3, 0, 0, none, false, 0, false⟩] }).setChan (ingressChan 3) ⟨0, [], [.header 3 4], 0⟩
def walked (l : Frame) : WalkRec := match walk ((pipes.bank0.pipe 0).graph) l ((seen l).begin 0).freeVal 24 0 0 WalkRec.empty with | .result _ _ r => r | .depth _ _ => WalkRec.empty
def fragNode : GraphNode := ⟨0, 8, 0, none, 0, 1, 0, 0, 14, 0x85, []⟩
def slowFrag : State := let l := (frameOf 64 1).set 20 0x20; let b := { pipes.bank0 with pa := { pipes.bank0.pa with graph := ⟨0, [⟨12, 16, 0, some 0, 0, 0, 0, 0, 14, 1, []⟩, fragNode]⟩ } }; { (seen l).wr (P.PARSE_FRAG_MODE.SLOW 0) 8 with bank0 := b, bank1 := b }
def fragWalk : WalkRec := match walk ((slowFrag.bank0.pipe 0).graph) ((frameOf 64 1).set 20 0x20) (slowFrag.begin 0).freeVal 24 0 0 WalkRec.empty with | .result _ _ r => r | .depth _ _ => WalkRec.empty
def fragCode : Nat × Nat := match walk ((slowFrag.bank0.pipe 0).graph) ((frameOf 64 1).set 20 0x20) (slowFrag.begin 0).freeVal 24 0 0 WalkRec.empty with | .result c v _ => (c, v) | .depth _ _ => (0, 0)
def deep : Frame := (List.range 64).flatMap fun _ => [0x81, 0]
def loops (n : Nat) : GraphNode := ⟨0, 8, 0, none, 0, 0, 0, 0, 0, n, []⟩
def looping : State := let b := { pipes.bank0 with pa := { pipes.bank0.pa with graph := ⟨0, [loops 0]⟩ } }; { seen deep with bank0 := b, bank1 := b }
def fkey (n : Nat) : FragKey := ⟨[1, 2, 3, 4], [5, 6, 7, 8], n, 17⟩
def frags : State := pipes.setFrags [⟨fkey 1, none, 5, 0⟩, ⟨fkey 2, none, 6, 1000⟩]
def headOf (src n code : Nat) : Parsed := { parsedOf src ⟨n, frameOf 64 1, src, 0, 0, some 0, false, 3, false⟩ 0 0 with result := code }
def waiting : State := (pipes.setMac 3 { pipes.mac 3 with copies := [⟨4, frameOf 64 1, 3, 0, 0, some 0, false, 3, false⟩] }).setPipe 0 { pipes.pa with heads := [headOf 3 4 5, headOf 2 4 9, headOf 3 5 5] }
/-- A micro-instruction word. -/
def uword (op rd ra rb off wm1 boff sub target imm : Nat) : Nat := op * 2 ^ 122 + rd * 2 ^ 114 + ra * 2 ^ 110 + rb * 2 ^ 106 + off * 2 ^ 96 + wm1 * 2 ^ 91 + boff * 2 ^ 88 + sub * 2 ^ 80 + target * 2 ^ 64 + imm
def xA : CtxId := ⟨0, 13, 3⟩
/-- A context at address 8191 with known registers. -/
def ctxA : Ctx := { Ctx.start (some (headOf 3 4 5)) (phvOf (headOf 3 4 5) 0 0) 5 0 false ⟨8191, 300, false, 1⟩ 0 none with g := (List.range 16).map fun i => BitVec.ofNat 32 (0xFFFFFFFF - i * 3) }
/-- Pipeline PA with that context, the given word at its address. -/
def runs (w : Nat) (c : Ctx) : State :=
  let b := { pipes.bank0 with pa := { pipes.bank0.pa with store := [(8191, w)] } }
  (({ pipes with bank0 := b, bank1 := b }.setMac 3 { pipes.mac 3 with copies := [⟨4, frameOf 64 1, 3, 0, 0, some 0, false, 4, false⟩] }).setCtx xA c).markBusy xA true
def alus (v : BitVec 32) (k : Bool) : Ctx := { ctxA with g := setAt ctxA.g 4 v, z := v == 0, c := k }
def slotted : Ctx := { ctxA.setSlot 3 1 (2 ^ 62 + 2 ^ 61 + 5 * 2 ^ 32) 77 2 with issuedSlots := [3] }
def unslotted : Ctx := { ctxA.setSlot 3 0xFF 0 0 0 with issuedSlots := [3] }
def asked (st : Nat) (res : Option (Nat × Nat × Nat × Nat)) : SearchReq := ⟨7, xA, 3, st, List.replicate 8 1, 0, false, 3, 0, true, res⟩
def answered : State := let s := runs 0 { unslotted with outstanding := [(3, 7), (1, 8)] }; { s with si := { s.si with reqs := [asked 8 (some (1, 5, 6, 2))] } }
def forwards (p : Nat) : Ctx := ctxA.setAcc (2 ^ 62 + p * 2 ^ 32)
def composedOf (c : Ctx) : Composed := match pipes.compose xA c (headOf 3 4 5) with | .ok k => k | .error _ => ⟨0, none, [], 0, 0, 0⟩
def noCredit (s : State) : State := s.setChan (admitChan 0) ⟨0, [], [], 0⟩
def staging (s : State) : State := s.wr MI.MODE_STAT.MODE 1
def searching (r : SearchReq) (s : State) : State := { s with si := { s.si with reqs := [r] } }.setChan ⟨2, 5, 7⟩ ⟨3, [], [.search 9, .search 7], 0⟩
def tcams : State :=
  let b := { pipes.bank0 with tcam := pipes.bank0.tcam.set 7 [(3, 1 * 2 ^ 240 + 9 * 2 ^ 224 + 55 * 2 ^ 160), (5, 1 * 2 ^ 240 + 8 * 2 ^ 224 + 66 * 2 ^ 160)] }
  { pipes.wr (SI.SLICE_CFG.DEPTH 7) 6 with bank0 := b, bank1 := b }
def bkey : Frame := [0, 5, 1, 1, 1, 1, 1, 1]
def hashed (ov : Bool) : State :=
  let b := { pipes.bank0 with bridge := ⟨[⟨bkey, 44, true, ov, 17, 5⟩], [bucket1 true bkey]⟩ }
  { pipes.wr SI.HASH_CFG.LEARN_EN 0 with bank0 := b, bank1 := b }
def askedKey : SearchReq := { asked 8 none with key := bkey }
/-- A member of a cascade of four at a position, in a state. -/
def member (pos st : Nat) : State := tcams.wrs [(SI.CAS_CFG.POSITION, pos), (SI.CAS_CFG.COUNT, 4), (SI.CAS_STAT.STATE, st), (UI.PORT_STAT.LINK 2, 1)]
def aProbe (b t : Nat) (k : Frame) (r : Option SearchResult) : Probe := ⟨9, b, t, k, r, none⟩
def probing (p : Probe) (s : State) : State := { s with si := { s.si with probe1 := some p } }
def sent (kind origin : Nat) : CasMsg := ⟨kind, origin, 1, 2, 5, 7, 40, List.replicate 14 1, 77, 9⟩
def rx (m : CasMsg) : List CodeBlock := (1, [0xD2, 1, 2, 3, 4, 5, 6, 7]) :: casBlocks m
def msg (kind origin : Nat) : CasMsg := (casMessage (rx (sent kind origin))).getD (sent 0 0)
def msgAll (kind origin : Nat) : CasMsg := { msg kind origin with seen := 15 }
def bad : List CodeBlock := (casBlocks (sent 7 0)).drop 1
def cas (origin : Nat) (own : Option (Nat × Nat)) : CasSearch := ⟨.search 7, origin, 5, 7, [], 0, 32, 1, own, false, none⟩
def casAll (origin : Nat) (o : Option (Option (Nat × Nat))) : CasSearch := ⟨.search 7, origin, 5, 7, [], 0, 32, 7, none, false, o⟩
def casing (pos : Nat) (c : CasSearch) : State := { member pos 2 with si := { tcams.si with casc := [c], reqs := [asked 7 none] } }
def fr (p q n : Nat) : Desc := { plainDesc p q q 0 3 5 9 77 true (frameOf n 2) with commits := none }
def pool : State := ported.wrs [(BI.BUF_STAT.FREE_SHARED, 1000), (portEn 96, 1), (portEn 97, 1), (portEn 3, 1), (portLink 3, 1)]
def admits (d : Desc) : State := pool.setChan (admitChan 0) ⟨3, [], [.admission d], 0⟩
def lastFrame : Desc := { fr 96 1 100 with commits := some (3, 4), colour := 2 }
def commits : State := ((admits lastFrame).wrs [(BI.BUF_STAT.FREE_SHARED, 1), (BI.Q_CFG.MIN_CELLS 769, 0), (BI.Q_CFG.RED 769, 0), (BI.Q_CFG.ALPHA 769, 9), (portEn 96, 1)]).setMac 3 { ported.mac 3 with copies := [⟨4, frameOf 64 1, 3, 0, 0, some 0, false, 4, false⟩] }
def spills (a b : Nat) : State := let s := (admits (fr 98 0 200)).wrs [(BI.SPILL_CTL.EN 0, a), (BI.SPILL_CTL.ON 0, 0), (BI.SPILL_STAT.ACTIVE 0, b), (BI.BUF_CFG.STAGE_MAX, 100)]; { s with bi := { s.bi with spillMib := [(0, 1)] } }
def spilled (l : List Spilled) (tl : List Desc) : State := (up.wrs [(BI.BUF_STAT.STAGE_USED, 10), (BI.SPILL_STAT.DRAM_CELLS 0, 9), (BI.SPILL_STAT.ACTIVE 0, 1), (BI.SPILL_CTL.OFF 0, 100), (BI.BUF_STAT.RESERVE_USED, 510), (BI.SPILL_STAT.HELD_TAIL 0, 1), (BI.Q_OCC.FRAMES 784, 5)]).setBq 784 ⟨[fr 98 0 90], l, tl⟩
def sp (n : Nat) (asked acked reading : Bool) : Spilled := ⟨fr 98 0 n, asked, acked, reading⟩
def mib (s : State) : State := { s with bi := { s.bi with spillMib := [(0, 1)] } }
def badly (s : State) : State := { s with di := { s.di with spillBad := [0, 3] } }
def queued (p : Nat) (l : List (Nat × Desc)) : State := l.foldl (fun s e => s.setBq (8 * p + e.1) { s.bq (8 * p + e.1) with head := (s.bq (8 * p + e.1)).head ++ [e.2] }) (pool.setChan (egressChan p) ⟨2, [], [], 0⟩)
def shaped (l : List (Nat × Shaper)) : State := { up.wrs [(BI.SHP_CTL.EN 5, 1), (BI.SHP_CIR.RATE 5, 2500), (BI.SHP_CBS.BURST 5, 100), (BI.SHP_LVL.CB 5, 2 ^ 32 - 7), (BI.SHP_CTL.EN 917, 1), (BI.SHP_CIR.RATE 917, 3125001), (BI.SHP_CBS.BURST 917, 1000), (BI.SHP_LVL.CB 917, 5000)] with bi := { up.bi with shapers := l } }
def bodyOf (start len : Nat) : Frame := [1, 0, 1] ++ List.replicate (0x43D) 0 ++ List.replicate 16 0xFF ++ leBytes 4 start ++ leBytes 4 len ++ List.replicate 8 0xFF
def perfOf (start len : Nat) : State := let s := ported.wrs [(MI.MODE_STAT.MODE, 2), (BI.SCH_LOCAL.RUNNING, 1)]; let w := [(1, bodyOf start len)]; { s with bank0 := { s.bank0 with modes := w }, bank1 := { s.bank1 with modes := w } }
def opened (p : Nat) (l : List Desc) (d : Bool) : State := (((perfOf 7000 20000).setCar p ⟨1, 2, none, some 3, true, true, 7000, 27000, d⟩).wr (BI.CAR_PORT.WIN_OPEN p) 1).setMac p { ported.mac p with sched := l, ordin := [fr p 2 100] }
def onWire (p : Nat) (d : Desc) : State := (ported.setMac p { ported.mac p with wire := some ⟨d, 5, 100⟩ }).wrs [(BI.Q_OCC.CELLS d.q, 1), (BI.Q_OCC.FRAMES d.q, 1)]
def sm : SideMeta := ⟨3, 8, 4, 200, 0xFFFF, false⟩
def sd (n : Nat) : Desc := { fr 101 5 n with side := some sm, charged := false }
def sring (d : Desc) : State := { linked.wrs [(BI.SS_RING_CFG.EN 5, 1), (BI.SS_RING_CFG.TARGET 5, 1), (BI.SS_RING_BASE.BASE 5, 0x1010), (BI.SS_RING_PROD.INDEX 5, 3)] with bi := { linked.bi with ringWriter := [d, fr 101 3 64], ringSeq := [(5, 2 ^ 32 - 1)] }, host := [(0x1300, 9), (0x13E8, 1)] }
def inj (l : Frame) : State := { linked.wrs [(BI.SS_RING_CFG.EN 9, 1), (BI.SS_RING_CFG.TARGET 9, 1), (BI.SS_RING_BASE.BASE 9, 0x1000), (BI.SS_RING_PROD.INDEX 9, 0), (BI.SS_RING_CONS.INDEX 9, 2 ^ 32 - 1)] with host := l.zipIdx.map (fun e => (0x1F00 + e.2, e.1)) |>.filter (fun e => e.2 ≠ 0) }
def desc (b1 inp len : Nat) : Frame := [0x10, BitVec.ofNat 8 b1, BitVec.ofNat 8 inp, 4, 0, 0, BitVec.ofNat 8 (len / 256), BitVec.ofNat 8 len] ++ List.replicate 24 0 ++ (List.range len).map (fun i => BitVec.ofNat 8 i)
def refOf (f1 : Option Int) (err : Int) : RefHist := { RefHist.fresh with cur := ⟨2, 2000, 20, 2000000, 30000⟩, past := [⟨1, 1, 2, 3, 4⟩], f1 := f1, err := err, since := some 0, seenAt := some 1000 }
def timed : State := (up.wrs [(TI.REF_CFG.EN 0, 1), (TI.REF_CFG.EN 3, 1), (TI.PPS_CFG.OUT_EN, 1), (TI.SEL_STAT.SCHED_VALID, 1)]).tiSet fun t => { t with refs := [refOf (some 50) (-7), refOf none 0, refOf none 0, refOf (some 5) 70000] }
def steered (err : Int) : State := (timed.wrs [(TI.SEL_STAT.SELECTED, 3), (TI.SEL_STAT.ROLE, 0), (TI.REF_STAT.STATE 3, 1), (TI.REF_STAT.STATE 0, 0), (TI.CFG.STEP_US, 10), (TI.CFG.SLEW_PPM, 7), (TI.CFG.FSTEP_PPB, 3), (MI.SN_CFG.TIME_EN, 0), (TI.WALL_OFS.OFS, 2 ^ 64 - 3)]).tiSet fun t => { t with refs := [refOf (some 50) (-7), refOf none 0, refOf none 0, { refOf (some 5) err with changedAt := 5 }] }
def mk (c time rm : Nat) : Marker := { mode := 1, cycle := c, matrixId := 9, dir := 0, rmNode := rm, members := 3, vote := 5, schedTime := time, correction := 2 ^ 32 - 1, hops := 2, reqValid := false, reqMode := 0, reqNode := 0, reqAge := 0 }
/-- Both coils are energised and both ports have block lock; node 4, schedule mode 1 with the given windows. -/
def winOf (start len kind owner slots pay : Nat) : Frame := leBytes 4 start ++ leBytes 4 len ++ [BitVec.ofNat 8 kind, BitVec.ofNat 8 owner, BitVec.ofNat 8 slots, 0] ++ leBytes 2 pay ++ [0, 0] ++ List.replicate 8 0xFF ++ List.replicate 8 0
def modeOf (ws : List Frame) : Frame := [9, BitVec.ofNat 8 ws.length, 0] ++ List.replicate 61 0 ++ ws.flatten
def ringed (ws : List Frame) : State :=
  let s := linked.wrs [(MI.MODE_STAT.MODE, 2), (MI.MODE_COND.RING_USED, 1), (MI.MODE_COND.JOIN_OK, 1), (RI.NODE_CFG.NODE, 4), (RI.BYP_STAT.DRIVE_E, 1), (RI.BYP_STAT.DRIVE_W, 1), (RI.RING_STAT.BLOCK_LOCK 0, 1), (RI.RING_STAT.BLOCK_LOCK 1, 1), (RI.RING_CTL.EN 0, 1), (RI.RING_CTL.EN 1, 1), (RI.SCHED_STAT.MODE, 1), (RI.RING_DLY.HOP_NS 0, 300), (RI.SCHED_CFG.REQ_EN, 1), (RI.SFP_IO.TX_DISABLE 0, 0), (RI.SFP_IO.TX_DISABLE 1, 0), (MI.SN_CFG.TIME_EN, 0)]
  let m := [(1, modeOf ws), (2, modeOf [])]
  { s with bank0 := { s.bank0 with modes := m }, bank1 := { s.bank1 with modes := m } }
def hunting (l : List Train) : State := (ringed []).setRing 0 { (ringed []).ring 0 with trains := l }
def lockedRing (ws : List Frame) (miss : Nat) : State := ((ringed ws).wrs [(RI.RING_STAT.MARKER_LOCK 0, 1), (RI.RING_STAT.MARKER_LOCK 1, 1), (TI.SEL_STAT.SCHED_VALID, 1)]).setRing 0 { (ringed ws).ring 0 with last := some (mk 2 500000 1), missed := miss, lastAt := 77, sent := [(5, 1000), (2, 500)], samples := List.replicate 16 10 }
def master (y : Bool) : State := ((lockedRing [] 0).wr RI.SCHED_STAT.CS_STATE 2).rschSet fun r => { r with yield := y }
def lsOf (n c : Nat) : Frame := let l := beBytes 8 2000 ++ beBytes 8 2600 ++ beBytes 4 (n * 2 ^ 27 + 2 ^ 26 + c * 2 ^ 18); l ++ beBytes 4 (crc32c l)
def hd (sch : Bool) (src dst len : Nat) : ConHead := { scheduled := sch, cls := 7, src := src, dst := dst, cycle := 63, index := 7, window := 31, hops := 30, length := len }
def inserting (ws : List Frame) (t3 : Nat) : State := (lockedRing ws 0).setRing 0 { (lockedRing ws 0).ring 0 with sent := [(7, t3)], copies := [] }
def blockedSend : State := ((inserting [winOf 70 20 0 4 0 0] 0).setRing 0 { (inserting [] 0).ring 0 with busyUntil := 560 }).rschSet fun r => { r with queue := [fr 96 7 70] }
def cold (a : Option Nat) : State := ((ringed []).wrs [(RI.CS_PRIO.ELIGIBLE 4, 1), (RI.SCHED_CFG.CS_EN, 1), (RI.SCHED_CFG.CS_MODE, 1), (RI.SCHED_CFG.COLD_MS, 3), (TI.SEL_STAT.SCHED_VALID, 0)]).rschSet fun r => { r with quietSince := a }
def xG : CtxId := ⟨0, 14, 1⟩
def le4 (n : Nat) : Frame := leBytes 4 n
/-- Two maps, the first of the receive bank into template 2's field 3, the second of the received frame. -/
def maps : Frame := le4 (2 ^ 28 + 15 * 2 ^ 23 + 3 * 2 ^ 18 + 8) ++ le4 (2 * 2 ^ 11 + 3) ++ le4 (2 ^ 32 - 65536) ++ le4 5 ++ le4 (2 ^ 30 + 7 * 2 ^ 23) ++ le4 (2 ^ 31 + 7 * 2 ^ 23) ++ le4 65536 ++ le4 0 ++ le4 (2 ^ 31 + 7 * 2 ^ 23) ++ le4 (2 ^ 30 + 2 ^ 18 + 7 * 2 ^ 23 + 16) ++ le4 (4 * 65536) ++ le4 0
def tplOf (kind : Nat) : Frame := leBytes 2 60 ++ leBytes 1 kind ++ [3] ++ leBytes 16 (2 ^ 100 + 5) ++ [16, 0, 1, 0] ++ le4 7 ++ List.replicate 4 0 ++ List.replicate 12 0 ++ leBytes 2 9 ++ [8, 2] ++ List.replicate 48 0 ++ (List.range 416).map fun i => BitVec.ofNat 8 (i + 1)
def tpls : Frame := [4] ++ List.replicate 63 0 ++ tplOf 0 ++ tplOf 1 ++ tplOf 0
def ctxG (p : Option Parsed) (tpl : Option Nat) : Ctx := { Ctx.start p [] 5 0 false ⟨8191, 300, false, 1⟩ 0 none with gw := some ⟨[], tpl, List.replicate 416 0x11, [], 0⟩, phv := List.replicate 1024 0x22 }
def gwRuns (w : Nat) (c : Ctx) : State :=
  let b := { pipes.bank0 with pa := { pipes.bank0.pa with store := [(8191, w)], routines := ⟨true, [(5, ⟨7, 300, false, 1⟩), (131, ⟨70, 30, false, 1⟩)]⟩ }, maps := [(0, maps)], templates := [(0, tpls)] }
  (({ pipes with bank0 := b, bank1 := b }.setMac 3 { pipes.mac 3 with copies := [⟨4, frameOf 64 1, 3, 0, 0, some 0, false, 4, false⟩] }).setCtx xG c).markBusy xG true
def enabled (w : Nat) (c : Ctx) : State := (gwRuns w c).wrs [(RI.GW_MAP_CTL.EN 0, 1), (RI.GW_MAP_CTL.EN 1, 1), (RI.GW_MAP_CTL.EN 2, 1), (RI.SIG_RX.DATA 3 0, 0x0080050000000000)]
def gxltOf (n : Nat) : Nat := uword 0x18 0 0 0 0 0 0 0 0 n
def triggered (i : Nat) : State := { (gwRuns 0 (ctxG none none)).wr MI.MODE_STAT.MODE 2 with gw := { up.gw with queueA := [(i, [1, 2, 3]), (0, [])], queueB := [(1, [])] } }
def gemit : Nat := uword 0x1A 0 0 0 0 0 0 0 0 0
def emits (m : Nat) (t : Option Nat) : State := ((gwRuns gemit (ctxG none t)).wr MI.MODE_STAT.MODE m).setChan (admitChan 0) ⟨2, [], [], 0⟩
def burning : State := ported.wrs [(AO.SIDEBAND.FA, 1), (RI.GW_EMERG.EN, 1), (RI.GW_EMERG.REPEAT_S, 1), (MI.MODE_STAT.MODE, 2), (RI.GW_STAT.EMERG_SENT, 65535)]
def three : List Nat := [0x40, 0x280, 0x30]
def fV : Func := .port 100
def aReq (n : Nat) : CasMsg := { kind := 1, origin := 3, sender := 2, seen := 9, tag := 4095, table := 7, execSlot := 65535, key := List.replicate n 0xEE, action := 0, index := 0 }

/- ## Ill-formed commands are refused by `Instr.wf`, one for each check -/

theorem test_wf_refuses_a_register_write :
    (Instr.registerWrite .coreM 16 0 8 0).wf = false ∧ (Instr.registerWrite .coreM 0 0x100000 8 0).wf = false
    ∧ (Instr.registerWrite .coreM 0 0 3 0).wf = false ∧ (Instr.registerWrite .coreM 0 0 8 (2 ^ 64)).wf = false
    ∧ (Instr.registerWrite .coreM 0 0x40 8 0).wf = true := by decide +kernel

theorem test_wf_refuses_shapes :
    sizeOk 3 = false ∧ portOk 101 = false ∧ ctxOk ⟨2, 0, 0⟩ = false ∧ ctxOk ⟨0, 16, 0⟩ = false ∧ ctxOk ⟨0, 0, 4⟩ = false
    ∧ chanOk ⟨0, 4, 5⟩ = false ∧ chanOk ⟨1, 5, 5⟩ = false ∧ funcOk (.port 97) = false ∧ funcOk (.shaper 918) = false
    ∧ funcOk (.spill 24) = false ∧ funcOk (.gwMap 4096) = false ∧ funcOk (.dma 4) = false
    ∧ codeOk [(4, List.replicate 8 0)] = false ∧ codeOk [(2, [0xD2])] = false := by decide +kernel

/-- 08_search.md, R268 and R269: a HELLO of chip 2, whose block begins 0xD2 with TYPE 4 and ORIGIN and SENDER 2, and its
trailer. -/
theorem test_cascade_blocks :
    (casBlocks { kind := 4, origin := 2, sender := 2, seen := 0, tag := 0, table := 0, execSlot := 0, key := [], action := 0, index := 0 }).map
      (fun b => (b.1, b.2.take 4)) = [(2, [0xD2, 0x4A, 0, 0]), (2, [0xD2, 0, 0, 0])] := by decide +kernel

theorem test_wf_refuses_ranges :
    (Instr.fwReset .coreM 256 0).wf = false ∧ (Instr.modeReqGo .coreM 4 0).wf = false
    ∧ (Instr.islCmdReset .coreM 0x10000 0).wf = false ∧ (Instr.coreAccessFault (2 ^ 32) .load false 0).wf = false
    ∧ (Instr.hostBar4Access (2 ^ 28) 4 false [] 0).wf = false ∧ (Instr.fuseRevoke .coreM 2 0).wf = false := by decide +kernel

/- ## The words of a row: no row of the table gives bits -/

theorem test_no_word_decodes : decodeTableWord 0 0 = none ∧ decodeTableWord 128 5 = none := by decide +kernel

/- ## The manual's worked cases -/

/-- 00_scope.md: MI.CHIP_ID reads 0x4B53_0F96_2001_0000. -/
theorem test_chip_id : (up.regRead .coreM 0 0).1 = 0x4B530F9620010000 := by decide +kernel

/-- 00_scope.md, step 3: a narrow read of a pop window. -/
theorem test_narrow_pop :
    (match exec (.popWindowRead .host 2 0x800 4) up with
      | .next t => (t.resp, t.rd MI.ACC_STAT.NARROW_POP, t.rd MI.ACC_STAT.LAST_ISLAND, t.rd MI.ACC_STAT.LAST_SRC)
      | _ => (1, 0, 0, 0)) = (0, 1, 2, 1) := by decide +kernel

/-- 01_architecture.md: PI1's monitor trips: interrupt 88, STATE[11] = 0b10, LAST_CAUSE 0b01. -/
theorem test_island_trip :
    (match exec (.progressMonitorTrip 11 0) (stalled 11 16 (up.wrs [(MI.PMON_CFG.EN 11, 1), (MI.PMON_CFG.ACTION 11, 1)])) with
      | .next t => (t.pend 88, t.isl? 11, t.rd (MI.PMON_STAT.LAST_CAUSE 11))
      | _ => (false, 0, 0)) = (true, 2, 1) := by decide +kernel

/-- 01_architecture.md: with PAGE = 4 on 4 GiB, the access at 0xC000_0000 is out of range. -/
theorem test_dram_window_out_of_range :
    (match exec (.coreDramAccess .coreM .load 0xC0000000 8 0 0)
        (up.wrs [(DI.CFG.CAPACITY, 0x100000), (MI.MODE_COND.DRAM_READY, 1), (DI.TRN_STAT.INIT_DONE, 1), (MI.DRAM_WIN.PAGE, 4)]) with
      | .next t => (t.resp, t.rd MI.DRAM_WIN.OOR)
      | _ => (1, 0)) = (0, 1) := by decide +kernel

/-- 05_ports.md: ΔE of a full rise at LP_FULL 80; RISE_MAX 6,000 holds 21 of them; the 22nd takes the next slot. -/
theorem test_power_rises :
    rise 400 65535 19661 = 280
    ∧ (PowerCoord.mk [(0, [(18000, 20 * 280)])] []).find 0 280 6000 18000 65 = some 18000
    ∧ (PowerCoord.mk [(0, [(18000, 21 * 280)])] []).find 0 280 6000 18000 65 = some 18001 := by decide +kernel

/-- 06_parse_and_classify.md: FWD, COPY and SET_CLASS with CLASS 6, PORT 0xFF. -/
theorem test_action_word :
    actFwd 0x6E0000FF00000000 = true ∧ actCopy 0x6E0000FF00000000 = true ∧ actDrop 0x6E0000FF00000000 = false
    ∧ actClass 0x6E0000FF00000000 = 6 ∧ actPort 0x6E0000FF00000000 = 0xFF := by decide +kernel

/-- 07_jugglers.md: CMP G3, IMM 0x4CCD. -/
theorem test_micro_word :
    microOf 0x1800C000008000000000000000004CCD = ⟨6, 0, 0, 3, 0, 0, 0, 0, 0x80, 0, 19661⟩ := by decide +kernel

/-- Slice 4 of closet 12-W with its two routes, and the probe of 10.12.0.10. -/
def routes : State :=
  let s := (up.wrs [(SI.SLICE_CFG.TYPE 4, 1), (SI.SLICE_CFG.DEPTH 4, 1024)]).setProbe 1 (some ⟨7, 0, 4, [0, 1, 10, 12, 0, 10, 0, 0, 0, 0], none, none⟩)
  let b := { s.bank0 with tcam := s.bank0.tcam.set 4 [(0x10, 2 ^ 240 + 0xFFFFFFFF000000000000 * 2 ^ 80 + 0x00010A0C000000000000),
      (0x11, 2 ^ 240 + 0x4000006200000000 * 2 ^ 160 + 0xFFFFFFFFFF0000000000 * 2 ^ 80 + 0x00010A0C000000000000)] }
  { s with bank0 := b, bank1 := b }

/-- 08_search.md: the route probe. The /24 entry, 40 mask bits, beats the /16 entry. -/
theorem test_route_probe :
    (match exec (.probeComplete 1 224) routes with
      | .next t => ((t.regRead .host 7 0x4B0).1, (t.regRead .host 7 0x4B8).1)
      | _ => (0, 0)) = (0x8000000701000011, 0x4000006200000000) := by decide +kernel

/-- 08_search.md: chip 2 of four issues at slot 1,000 and executes at slot 1,034. -/
theorem test_execute_slot : execSlotFor 4 2 1000 = 1034 := by decide +kernel

/-- Queue 784 of closet 12-W with 40,000 free cells. -/
def q784 (cells : Nat) : State := ported.wrs [(BI.BUF_STAT.FREE_SHARED, 40000), (BI.Q_CFG.MIN_CELLS 784, 128), (BI.Q_CFG.ALPHA 784, 3), (BI.Q_CFG.YEL 784, 4), (BI.Q_CFG.RED 784, 2), (BI.Q_OCC.CELLS 784, cells), (portEn 98, 1), (portLink 98, 1)]
def big (colour : Nat) : Desc := { fr 98 0 1518 with colour := colour }

/-- 09_buffer_and_admission.md, steps 1 and 2: green admitted, red refused for its colour. -/
theorem test_queue_784 :
    (big 0).cells = 12 ∧ (q784 1900).queueLimit 784 0 = 5000 ∧ (q784 1900).queueLimit 784 2 = 1250
    ∧ (q784 1900).r281 784 12 0 = true ∧ (q784 1912).r281 784 12 2 = false ∧ (q784 1912).r282 (big 2) = .colourDrop := by
  decide +kernel

/-- 09, step 4: at SPILL_ON cells the next frame is spill-bound. -/
theorem test_spill_bound :
    (let s := (q784 2056).wrs [(BI.SPILL_CTL.EN 0, 1), (BI.SPILL_CTL.ON 0, 2048), (BI.BUF_CFG.STAGE_MAX, 2048)]
     match ({ s with bi := { s.bi with spillMib := [(0, 128)] } }).decide' (big 0) with
     | .ok p => some p
     | .error _ => none) = some .spill := by decide +kernel

/-- 10_carousel_and_shaping.md: the tick at 1 µs after the rate cut, without and with FORGIVE. -/
theorem test_rate_cut :
    tickBucket (-1038) 0 12500 32000 false false = (-1026, 500) ∧ tickBucket (-1038) 0 12500 32000 true false = (12, 500) := by
  decide +kernel

/-- 11_dram.md: offset 0x0_8000_0000 of 4 GiB in x16 16 Gb parts is bank 0, row 65,536. -/
theorem test_dram_row :
    (let s := up.wrs [(DI.CFG.WIDTH, 1), (DI.CFG.DENSITY, 2)]
     (s.dramNb, s.dramNr, s.dramBank 0x80000000, s.dramRow 0x80000000, s.dramRow 0x80000000 / 1024)) = (3, 17, 0, 65536, 64) := by
  decide +kernel

/-- 12_time.md, steps 5 to 7: the interval after a step of 0.7 s is 1.300 s and IRREGULAR. -/
theorem test_pps_interval :
    (match exec (.ppsOutEdge 3601550000000) { (timed.wrs [(TI.SCHED.TIME, 3601000000000), (TI.PPS_LAST.TIME, 3600250000000), (TI.PPS_OFS.OFS, 450000000)]) with
          now := 3601000000000, ti := { timed.ti with ppsAny := true, ppsIrregular := true } } with
      | .next t => (t.rd TI.PPS_INTV.INTV, t.rd TI.PPS_INTV.IRREG, t.pend 20)
      | _ => (0, 0, false)) = (1300000000, 1, true) := by decide +kernel

/-- 13_gwevik_ring_link.md: the link-service sample of 180 ns, and the marker's phase of −30 ns. -/
theorem test_link_delay :
    lsSample 120000000200 120000000417 120000000900 120000001043 0 = 2 * 180
    ∧ ((up.wr (RI.RING_DLY.HOP_NS 1) 180).markerTime 1 { mk 0 120000000000 0 with correction := 9020 } : Int) - 120000009230 = -30 := by
  decide +kernel

/-- 13: node 12 repeats the eastbound marker with HOPS 12 and CORRECTION 9,840. -/
theorem test_marker_repeat :
    (match (((ringed []).wrs [(RI.RING_DLY.HOP_NS 1, 180), (TI.SCHED.TIME, 120000009230)]).repeatMarker 1 120000009230 640
        { mk 0 120000000000 0 with correction := 9020, hops := 11 }).out.getLast? with
      | some (.ringBlocks 0 l) => (markerOf (l.take 32)).map fun m => (m.hops, m.correction)
      | _ => none) = some (12, 9840) := by decide +kernel

/-- 15_gateway.md: 45 per cent is level 29,491. -/
theorem test_map_value : mapValue 45 0x028F599A 0 = 29491 := by decide +kernel

/-- 15_gateway.md: the payload of each copy. -/
theorem test_poran_payload :
    (let r : Frame := leBytes 2 60 ++ [0, 6] ++ leBytes 16 (2 ^ 84 - 1) ++ [14, 2, 0, 0] ++ leBytes 4 2000000 ++ List.replicate 484 0
     let buf : Frame := List.replicate 14 0 ++ [0x11, 0, 0, 0, 0x0C, 0x20, 0, 0, 0x73, 0x33, 0x0D, 0xAC, 0x07, 0xD0, 0, 0] ++ List.replicate 386 0
     let s := up.wrs [(RI.GW_SEQ.GROUP 0, 0x0C20), (RI.GW_SEQ.NEXT 0, 0x1A2B), (RI.GW_SEQ.VALID 0, 1)]
     let c : Ctx := { ctxG none (some 5) with phv := patchAt (List.replicate 1024 0) 0x0C8 (beBytes 8 150000000000) }
     let o := s.completeOut c r buf
     (sliceAt o.1 14 24, o.2.rd (RI.GW_SEQ.NEXT 0)))
      = ([0x11, 0, 0x1A, 0x2B, 0x0C, 0x20, 0, 0, 0x73, 0x33, 0x0D, 0xAC, 0x07, 0xD0, 0, 0, 0, 0, 0, 0x22, 0xEC, 0xD0, 0xE0, 0x80], 0x1A2C) := by
  decide +kernel

/-- 16_management_core.md, step 8: the evidence register after the expiry reset. -/
theorem test_watchdog_evidence :
    (match exec (.watchdogExpiry 0x20014A3C true 0) ({ up with boot := { up.boot with held := false } }.wrs [(MI.WDT_CFG.EN, 1), (MI.WDT_STAT.REMAIN, 0)]) with
      | .next t => (t.rd AO.RST_CAUSE.LAST, t.rd MI.WDT_STAT.EXPIRED_CNT,
          t.rd MI.WDT_EVID_PC.VALID * 2 ^ 34 + t.rd MI.WDT_EVID_PC.DEBUG_HALTED * 2 ^ 33 + t.rd MI.WDT_EVID_PC.PRIV * 2 ^ 32 + t.rd MI.WDT_EVID_PC.PC)
      | _ => (0, 0, 0)) = (4, 1, 0x520014A3C) := by decide +kernel

/-- Closet 12-W's hold-up store at a sense voltage. -/
def sensed (mv : Nat) : State := { up.wrs [(MI.HU_CFG.CAP_UF, 62000), (MI.HU_CFG.VMIN_MV, 24000), (MI.HU_CFG.SCALE, 20000)] with mg := { up.mg with sense := [mv, mv] } }

/-- 18_persistence.md: 82,863 mJ at 2,850 mV, enough for a 64 KiB erase; 81,103 mJ at 2,825 mV, not enough. -/
theorem test_hold_up :
    (sensed 2850).energy2 / 2000000000000000 = 82863 ∧ ((sensed 2850).holdup .erase64k).1 = true
    ∧ (sensed 2825).energy2 / 2000000000000000 = 81103 ∧ ((sensed 2825).holdup .erase64k).1 = false
    ∧ ((sensed 2825).holdup .erase64k).2.rd MI.HU_STAT.DEFER_CNT = 1 := by decide +kernel

/-- 19_counters.md: PS_BUF[217]. -/
theorem test_sample_entry :
    sampleEntry ⟨0, 3, 1⟩ { ctxA with epoch := 3, issued := 7, packet := some { headOf 3 4 5 with handle := 0x12A4F0 }, z := false, c := false, hit := true, csr := false, readyAt := 120402000310 - 122, stall := [(2, 61)] } 0x416 0 120402000310
      = 0x20B19A070012A4F0 * 2 ^ 64 + 0x003E20040884B9B6 := by decide +kernel

/-- CRC-32C and the FCS of the check string "123456789" (their published check values), and SHA-256 of "abc". -/
theorem test_checks :
    crc32c [0x31, 0x32, 0x33, 0x34, 0x35, 0x36, 0x37, 0x38, 0x39] = 0xE3069283
    ∧ beNat (sha256 [0x61, 0x62, 0x63]) = 0xBA7816BF8F01CFEA414140DE5DAE2223B00361A396177A9CB410FF61F20015AD := by decide +kernel

/- ## The hypotheses of the statements are met -/

theorem witness_AccessesThatReachNoRegister :
    (∃ (src : Src) (isl off : Nat) (s : State), isl < 16 ∧ s.islUp isl = true ∧ regAt isl (off / 8 * 8) = none ∧ s.reaches src .load isl off = true)
    ∧ (∃ (src : Src) (isl off : Nat) (wr : Bool) (s : State), s.islUp isl = false ∧ s.reaches src (if wr then .store else .load) isl off = true)
    ∧ (∃ (src : Src) (isl off size : Nat) (s : State), isl < 16 ∧ s.islUp isl = false ∧ isPop isl (off / 8 * 8) = true ∧ (src = .host ∨ off % max 1 size = 0) ∧ s.reaches src .load isl off = true)
    ∧ (∃ (src : Src) (isl off size : Nat) (wr : Bool) (s : State), isl < 16 ∧ s.reaches src (if wr then .store else .load) isl off = false) :=
  ⟨⟨.host, 5, 0xFFFF8, up, by decide +kernel⟩,
   ⟨.coreM, 15, 0, false, State.reset, by decide +kernel⟩,
   ⟨.host, 2, 0x800, 8, State.reset, by decide +kernel⟩,
   ⟨.coreU, 2, 0x800, 8, false, up, by decide +kernel⟩⟩

theorem witness_RegisterReadsPopAndWritesReachTheirBits :
    (∃ (src : Src) (isl off : Nat) (l : List Nat) (s : State), (isl, off, l) ∈ [(2, 0x800, s.ti.txts), (5, 0x540, s.pa.faults), (6, 0x540, s.pb.faults), (9, 0x808, s.di.eccLog),
        (0, 0x9310, s.fl.late)] ∧ s.islUp isl = true ∧ s.reaches src .load isl off = true)
    ∧ (∃ (src : Src) (isl off size : Nat) (s : State), isl < 16 ∧ s.islUp isl = true ∧ isPop isl (off / 8 * 8) = true ∧ (¬ (size = 8 ∧ off % 8 = 0)) ∧ (src = .host ∨ off % max 1 size = 0) ∧ s.reaches src .load isl off = true)
    ∧ (∃ (src : Src) (data : Nat) (s : State), src ≠ .host ∧ s.islUp 0 = true ∧ s.reaches src .store 0 0x40 = true)
    ∧ (∃ (src : Src) (k data : Nat) (s : State), src ≠ .host ∧ k < 32 ∧ s.islUp 5 = true ∧ s.reaches src .store 5 (0xF0004 + 8 * k) = true)
    ∧ (∃ (src : Src) (isl off size data : Nat) (s : State), isl < 16 ∧ off < 0x100000 ∧ src ≠ .host) :=
  ⟨⟨.coreM, 2, 0x800, [5, 6], ({ up with ti := { up.ti with txts := [5, 6] } }), by decide +kernel⟩,
   ⟨.host, 2, 0x804, 4, up, by decide +kernel⟩,
   ⟨.coreU, 0x105, (userOk (up.wrs [(MI.DRAM_WIN.OOR, 1)])), by decide +kernel⟩,
   ⟨.coreM, 31, 7, up, by decide +kernel⟩,
   ⟨.coreU, 0, 0x42, 2, 5, up, by decide +kernel⟩⟩

theorem witness_ChannelItemsAndCreditsAreConserved :
    (∃ (c : Chan) (i : Item) (r : List Item) (s : State), (s.chan c).inFlight = i :: r ∧ s.isl? c.dst ≠ 2)
    ∧ (∃ (c : Chan) (s : State), ((s.chan c).inFlight = [] ∨ s.isl? c.dst = 2))
    ∧ (∃ (c : Chan) (s : State), 0 < (s.chan c).returning)
    ∧ (∃ (c : Chan) (s : State), 0 < (s.chan c).returning ∧ (∀ p ∈ sourcesOf c, (s.mac p).unsent = []) ∧ (c.rank = 4 → (s.pipe (c.src - 5)).toBi = []) ∧ c ≠ spillChan)
    ∧ (∃ (k : Nat) (d : Desc) (l : List Desc) (s : State), k < 2 ∧ 0 < (s.chan (admitChan k)).returning ∧ (s.chan (admitChan k)).credits = 0 ∧ (s.pipe k).toBi = d :: l ∧ s.isl? 8 ≠ 2)
    ∧ (∃ (p : Nat) (q : Copy) (s : State), p < 112 ∧ (nget s.ports p).isSome = true ∧ 0 < (s.chan (ingressChan p)).returning ∧ (s.chan (ingressChan p)).credits = 0 ∧ (s.mac p).unsent.head? = some q ∧ s.headersGo p = true ∧ (s.mac p).waiting < 8 ∧ (∀ r ∈ sourcesOf (ingressChan p), r ≠ p → (s.mac r).unsent = []))
    ∧ (∃ (c : Chan) (s : State), (s.chan c).returning = 0) :=
  ⟨⟨⟨1, 4, 5⟩, .header 0 0, [], chanState, by decide +kernel⟩,
   ⟨⟨1, 4, 5⟩, chanState.setIsl 5 2, by decide +kernel⟩,
   ⟨⟨1, 4, 5⟩, chanState, by decide +kernel⟩,
   ⟨⟨1, 4, 5⟩, chanState, by decide +kernel⟩,
   ⟨1, aDesc, [aDesc], { (up.setChan (admitChan 1) ⟨0, [], [.admission aDesc], 1⟩) with pb := { up.pb with toBi := [aDesc, aDesc] } }, by decide +kernel⟩,
   ⟨3, ⟨0, [], 0, 0, 0, none, false, 0, false⟩, ((up.setChan (ingressChan 3) ⟨0, [], [], 1⟩).setMac 3 { PortMac.empty with copies := [⟨0, [], 0, 0, 0, none, false, 0, false⟩] }), by decide +kernel⟩,
   ⟨⟨1, 4, 5⟩, up, by decide +kernel⟩⟩

theorem witness_InterruptsPendAndLeave :
    (∃ (n t : Nat) (s : State), n < 128 ∧ (n % 8 = 0 ∨ (s.begin t).islUp (n / 8) = true) ∧ (s.begin t).isSet (MI.IC_CFG.TARGET n) = false)
    ∧ (∃ (n t : Nat) (s : State), n < 128 ∧ ((s.begin t).counted 0).claimable n = true ∧ (∀ m, m < 128 → ((s.begin t).counted 0).claimable m = true →
        ((s.begin t).counted 0).rd (MI.IC_CFG.PRIO m) < ((s.begin t).counted 0).rd (MI.IC_CFG.PRIO n)
          ∨ ((s.begin t).counted 0).rd (MI.IC_CFG.PRIO m) = ((s.begin t).counted 0).rd (MI.IC_CFG.PRIO n) ∧ n ≤ m))
    ∧ (∃ (t : Nat) (s : State), (∀ n, n < 128 → ((s.begin t).counted 0).claimable n = false))
    ∧ (∃ (src : Src) (n t : Nat) (s : State), n < 128 ∧ src ≠ .host ∧ ((s.begin t).counted 0).islUp 0 = true ∧ ((s.begin t).counted 0).isSet (MI.IC_CFG.TARGET n) = false ∧ ((s.begin t).counted 0).isSet (MI.IC_CFG.INSVC n) = true ∧ ((s.begin t).counted 0).reaches src .store 0 0x1420 = true)
    ∧ (∃ (n t : Nat) (s : State), n < 128 ∧ (n % 8 = 0 ∨ (s.begin t).islUp (n / 8) = true) ∧ (s.begin t).isSet (MI.IC_CFG.TARGET n) = true ∧ (s.begin t).isSet (MI.IC_CFG.PRIO n) = true ∧ (s.begin t).isSet (MI.IC_CFG.INSVC n) = false)
    ∧ (∃ (n mask t : Nat) (s : State), n < 128 ∧ ((s.begin t).counted 0).isSet (MI.IC_CFG.TARGET n) = true ∧ bitOf mask (((s.begin t).counted 0).rd (MI.IC_CFG.VEC n)) = true ∧ ((s.begin t).counted 0).lineActive n = false ∧ ((s.begin t).counted 0).pend n = false)
    ∧ (∃ (c : MsixChange) (t : Nat) (s : State), (s.begin t).isSet MI.PCIE_STAT.LINK_UP = true) :=
  ⟨⟨127, 0, up, by decide +kernel⟩,
   ⟨127, 0, claims, by decide +kernel⟩,
   ⟨0, State.reset, by decide +kernel⟩,
   ⟨.coreM, 127, 0, (up.wrs [(MI.IC_CFG.INSVC 127, 1)]), by decide +kernel⟩,
   ⟨127, 0, evt, by decide +kernel⟩,
   ⟨127, 2 ^ 31, 0, (evt.wrs [(MI.IC_CFG.INSVC 127, 1)]), by decide +kernel⟩,
   ⟨.control true true false, 0, (linked.wrs [(MI.MSIX_PBA.PBA, 5)]), by decide +kernel⟩⟩

theorem witness_CoreTimersDoorbellsSensorsAndWatchdog :
    (∃ (src : Src) (mask t : Nat) (s : State), src ≠ .host ∧ ((s.begin t).counted 0).islUp 0 = true ∧ ((s.begin t).counted 0).reaches src .store 0 0x7F10 = true)
    ∧ (∃ (ch value t : Nat) (s : State), ch ≤ 12)
    ∧ (∃ (src : Src) (mask t : Nat) (s : State), src ≠ .host ∧ ((s.begin t).counted 0).islUp 0 = true ∧ ((s.begin t).counted 0).reaches src .store 0 0x5100 = true)
    ∧ (∃ (t : Nat) (s b : State), b = (s.begin t).counted 0 ∧ b.reaches .coreM .store 0 0x4008 = true)
    ∧ (∃ (src : Src) (size key t : Nat) (s : State), (¬ (src = .coreM ∧ size = 8 ∧ key = 0xC3)) ∧ (s.begin t).reaches src .store 0 0x4008 = true)
    ∧ (∃ (timeout warn grace t : Nat) (en : Bool) (s b : State), b = (s.begin t).counted 0 ∧ b.reaches .coreM .store 0 0x4000 = true ∧ (en || b.policy 3) = true)
    ∧ (∃ (src : Src) (timeout warn grace t : Nat) (en : Bool) (s : State), (s.begin t).reaches src .store 0 0x4000 = true ∧ (¬ (src = .coreM ∧ (en || (s.begin t).policy 3) = true)))
    ∧ (∃ (t : Nat) (s : State), (s.begin t).wdtSync.rd MI.WDT_STAT.REMAIN ≤ (s.begin t).rd MI.WDT_CFG.WARN_MS ∧ (s.begin t).mg.warned = false ∧ (s.begin t).isSet MI.WDT_CFG.EN = true ∧ (s.begin t).isSet (MI.IC_CFG.TARGET 0) = false)
    ∧ (∃ (t : Nat) (s : State), (s.begin t).isSet MI.WDT_STAT.ERASE_SUSP = true ∧ (s.begin t).fl.opSince + 2000000000 ≤ (s.begin t).now)
    ∧ (∃ (t : Nat) (s : State), (s.begin t).debugOpen = true ∧ (s.begin t).mg.halted = false)
    ∧ (∃ (t : Nat) (s : State), (s.begin t).mg.halted = true) :=
  ⟨⟨.coreM, 2 ^ 31 + 1, 0, up, by decide +kernel⟩,
   ⟨12, 65535, 0, up, by decide +kernel⟩,
   ⟨.coreM, 4096, 0, up, by decide +kernel⟩,
   ⟨5000000, up, (up.begin 5000000).counted 0, by decide +kernel⟩,
   ⟨.host, 4, 0xC3, 5000000, up, by decide +kernel⟩,
   ⟨65535, 50, 5, 0, true, up, (up.begin 0).counted 0, by decide +kernel⟩,
   ⟨.coreM, 20, 50, 5, 0, false, up, by decide +kernel⟩,
   ⟨0, (up.wrs [(MI.WDT_CFG.EN, 1), (MI.WDT_STAT.REMAIN, 5), (MI.WDT_CFG.WARN_MS, 5)]), by decide +kernel⟩,
   ⟨2000000000, (up.wrs [(MI.WDT_STAT.ERASE_SUSP, 1)]), by decide +kernel⟩,
   ⟨0, up, by decide +kernel⟩,
   ⟨0, ({ up with mg := { up.mg with halted := true } }), by decide +kernel⟩⟩

theorem witness_DmaAndPcieRequestsComplete :
    (∃ (c t : Nat) (s : State), c < 4 ∧ (s.begin t).isSet (MI.DMA_CTL.EN c) = true ∧ (s.begin t).isSet (MI.DMA_STAT.HALTED c) = false ∧ nget (s.begin t).mg.dma c = none ∧ (s.begin t).busWaits (.dma c) = false ∧ (s.begin t).rd (MI.DMA_STAT.CONS c) ≠ (s.begin t).rd (MI.DMA_PROD.PROD c))
    ∧ (∃ (c t : Nat) (e : DmaEnd) (o : DmaOp) (s b : State), nget (s.begin t).mg.dma c = some o ∧ (s.begin t).busWaits (.dma c) = false ∧ (e = .ok ∨ e = .corrected) ∧ b = (if e = .corrected ∧ (o.toHost && inSram o.localAddr o.len) = true then (s.begin t).sramCheck .corrected
        else s.begin t))
    ∧ (∃ (c t : Nat) (e : DmaEnd) (o : DmaOp) (s : State), nget (s.begin t).mg.dma c = some o ∧ (s.begin t).busWaits (.dma c) = true ∧ (e = .ok ∨ e = .corrected))
    ∧ (∃ (c t : Nat) (e : DmaEnd) (o : DmaOp) (s : State), nget (s.begin t).mg.dma c = some o ∧ e ≠ .ok ∧ e ≠ .corrected)
    ∧ (∃ (c t : Nat) (o : DmaOp) (s : State), nget (s.begin t).mg.dma c = some o ∧ o.toHost = false ∧ o.since + 50000000 ≤ (s.begin t).now)
    ∧ (∃ (r : PcieReq) (ecc : Ecc) (t : Nat) (s : State), (s.begin t).isSet MI.PCIE_STAT.LINK_UP = true ∧ r.bar = 2 ∧ r.wr = true ∧ r.poisoned = false ∧ r.off + r.enable.length ≤ 0x40000 ∧ r.off % 4 = 0 ∧ r.enable.length % 4 = 0 ∧ r.enable.all (fun e => e) = true)
    ∧ (∃ (r : PcieReq) (ecc : Ecc) (t : Nat) (s : State), (s.begin t).isSet MI.PCIE_STAT.LINK_UP = true ∧ (r.bar = 0 ∧ 0x1000000 < r.off + r.enable.length ∨ r.bar = 2 ∧ 0x100000 < r.off + r.enable.length
        ∨ r.bar = 4 ∧ 0x10000000 < r.off + r.enable.length))
    ∧ (∃ (off n : Nat) (data : Frame) (ecc : Ecc) (t : Nat) (s : State), (s.begin t).isSet MI.PCIE_STAT.LINK_UP = true ∧ off + n ≤ 0x40000 ∧ ecc ≠ .uncorrectable)
    ∧ (∃ (isl off : Nat) (data : Frame) (ecc : Ecc) (t : Nat) (s : State), (s.begin t).isSet MI.PCIE_STAT.LINK_UP = true ∧ isl < 16 ∧ off < 0x100000 ∧ off % 8 = 0 ∧ isPop isl off = false)
    ∧ (∃ (addr t : Nat) (k : AccKind) (user : Bool) (s : State), coreMapped addr = false)
    ∧ (∃ (addr t : Nat) (k : AccKind) (user : Bool) (s : State), coreMapped addr = true ∧ (addr < 0x10000 ∧ (user = true ∨ k ≠ .load ∧ k ≠ .fetch)
        ∨ 0x20000000 ≤ addr ∧ addr < 0x28000000 ∧ k ≠ .load ∧ k ≠ .fetch
        ∨ isAtomic k = true ∧ inSram addr 4 = false
        ∨ (s.begin t).pmpAllows (if user then .coreU else .coreM) k addr 1 = false)) :=
  ⟨⟨3, 0, dmaState, by decide +kernel⟩,
   ⟨3, 0, .ok, ⟨0x1000, 0x10001000, 64, true, true, 0⟩, dmaRun, dmaRun.begin 0, by decide +kernel⟩,
   ⟨3, 0, .ok, ⟨0x1000, 0x10001000, 64, true, true, 0⟩, dmaWaits, by decide +kernel⟩,
   ⟨3, 0, .localEcc, ⟨0x1000, 0x10001000, 64, true, true, 0⟩, dmaRun, by decide +kernel⟩,
   ⟨3, 50000000, ⟨0x1000, 0x10001000, 64, false, true, 0⟩, { dmaRun with mg := { dmaState.mg with dma := [(3, ⟨0x1000, 0x10001000, 64, false, true, 0⟩)] } }, by decide +kernel⟩,
   ⟨wrReq, .clean, 0, linked, by decide +kernel⟩,
   ⟨⟨false, 2, 0xFFFFF, [], [true, true], false⟩, .clean, 0, linked, by decide +kernel⟩,
   ⟨0x3FFF0, 16, [], .corrected, 0, linked.sramWrite 0x3FFF0 [1, 2], by decide +kernel⟩,
   ⟨2, 0x8, [], .clean, 0, linked, by decide +kernel⟩,
   ⟨0x10000, 0, .load, true, up, by decide +kernel⟩,
   ⟨0x100, 0, .store, false, up, by decide +kernel⟩⟩

theorem witness_CountersAndDebugAccess :
    (∃ (src : Src) (isl : Nat) (s : State), src ≠ .host ∧ isl < 16 ∧ (s.quiet.counted isl).islUp isl = true ∧ (s.quiet.counted isl).reaches src .store isl 0xF0208 = true)
    ∧ (∃ (src : Src) (atEn : Bool) (t : Nat) (s : State), src ≠ .host ∧ ((s.begin t).counted 0).islUp 0 = true ∧ ((s.begin t).counted 0).isSet MI.SNAP_STAT.BUSY = false ∧ ((s.begin t).counted 0).reaches src .store 0 0xA000 = true)
    ∧ (∃ (isl t : Nat) (s : State), (s.begin t).cnt.waiting.contains isl = true ∧ (s.begin t).rd MI.SNAP_TIME.TIME ≤ (s.begin t).time)
    ∧ (∃ (src : Src) (k data : Nat) (s : State), src ≠ .host ∧ k < 2 ∧ (s.quiet.counted (5 + k)).islUp (5 + k) = true ∧ data % 2 = 1 ∧ (s.quiet.counted (5 + k)).isSet (P.PS_CFG.EN k) = false ∧ (s.quiet.counted (5 + k)).reaches src .store (5 + k) 0x700 = true)
    ∧ (∃ (i : TapInstr) (t : Nat) (s : State), i ≠ .idcode ∧ (s.begin t).isSet AO.FUSE_STAT.FIELD_SEAL = true)
    ∧ (∃ (wr : Bool) (addr data t : Nat) (s : State), (s.begin t).debugOpen = false)
    ∧ (∃ (addr data t : Nat) (s : State), (s.begin t).debugOpen = true)
    ∧ (∃ (data t : Nat) (s : State), (s.begin t).debugOpen = true ∧ (s.begin t).mg.halted = false ∧ bitOf data 0 = true ∧ bitOf data 31 = true) :=
  ⟨⟨.coreM, 15, (up.wrs [(C.CNT.COUNT 15 31, 4), (C.CNT_OVF.OVF 15, 2)]), by decide +kernel⟩,
   ⟨.coreM, true, 0, (up.wrs [(MI.SNAP_AT.TIME, 1000)]), by decide +kernel⟩,
   ⟨15, 0, snapping, by decide +kernel⟩,
   ⟨.coreM, 1, 1, up, by decide +kernel⟩,
   ⟨.dmi, 0, State.reset.wr AO.FUSE_STAT.FIELD_SEAL 1, by decide +kernel⟩,
   ⟨false, 0, 0, 0, State.reset.wr AO.FUSE_STAT.FIELD_SEAL 1, by decide +kernel⟩,
   ⟨0x11, 0, 0, up, by decide +kernel⟩,
   ⟨2 ^ 31 + 1, 0, up, by decide +kernel⟩⟩

theorem witness_DramServesItsClients :
    (∃ (errs : Errs) (t : Nat) (r : DramReq) (s : State), (s.begin t).islRuns 9 = true ∧ (s.begin t).isSet DI.CTL.TRAIN_MODE = false ∧ (s.begin t).dramPick = some r ∧ r.wr = true ∧ (r.addr % 4 = 0 ∧ r.len % 4 = 0 ∨ (s.begin t).di.flips = [] ∧ errs = [] ∧ r.data.length = r.len))
    ∧ (∃ (t a : Nat) (k : AccKind) (r : DramReq) (s : State), (s.begin t).islRuns 9 = true ∧ (s.begin t).isSet DI.CTL.TRAIN_MODE = false ∧ (s.begin t).dramPick = some r ∧ r.wr = false ∧ (s.begin t).di.flips = [])
    ∧ (∃ (t a m : Nat) (k : AccKind) (r : DramReq) (s : State), (s.begin t).islRuns 9 = true ∧ (s.begin t).isSet DI.CTL.TRAIN_MODE = false ∧ (s.begin t).dramPick = some r ∧ r.wr = false ∧ r.who = .core k a ∧ r.addr % 4 = 0 ∧ r.len = 4 ∧ (s.begin t).di.flips = [] ∧ beatErr (syndrome m) = .bad)
    ∧ (∃ (errs : Errs) (t : Nat) (s : State), ((s.begin t).islRuns 9 = false ∨ (s.begin t).isSet DI.CTL.TRAIN_MODE = true
        ∨ (s.begin t).now < (s.begin t).di.sliceEnd ∧ ∀ r ∈ (s.begin t).di.queue, r.who.num ≠ 0))
    ∧ (∃ (rank t : Nat) (s : State), (s.begin t).islRuns 9 = true ∧ rank ≤ (s.begin t).rd DI.CFG.RANKS_M1 ∧ (s.begin t).refreshDue rank = true)
    ∧ (∃ (rank t a : Nat) (s : State), nget (s.begin t).di.refreshAt rank = some a ∧ (s.begin t).now < a + (if (s.begin t).isSet DI.CTL.REF_2X then 3900 else 7800))
    ∧ (∃ (src : Src) (k : AccKind) (addr n data t : Nat) (s : State), src ≠ .host ∧ 0x80000000 ≤ addr ∧ addr + n ≤ 0x100000000 ∧ accMisaligned k addr n = false ∧ isAtomic k = false ∧ (s.begin t).pmpAllows src k addr n = true)
    ∧ (∃ (src : Src) (k : AccKind) (addr n data t : Nat) (s : State), src ≠ .host ∧ 0x80000000 ≤ addr ∧ addr + n ≤ 0x100000000 ∧ (accMisaligned k addr n = true ∨ isAtomic k = true ∨ (s.begin t).pmpAllows src k addr n = false)) :=
  ⟨⟨[], 0, wrq, { dmem with di := { dmem.di with queue := [wrq] } }, by decide +kernel⟩,
   ⟨0, 0x80000040, .load, ⟨.core .load 0x80000040, 64, 4, false, [], 0⟩, { dmem.dramWrite 64 [1, 2] with di := { dmem.di with queue := [⟨.core .load 0x80000040, 64, 4, false, [], 0⟩] } }, by decide +kernel⟩,
   ⟨0, 0x80000040, 3, .fetch, badRead, { dmem with di := { dmem.di with queue := [badRead] } }, by decide +kernel⟩,
   ⟨[], 0, { dmem with di := { dmem.di with queue := [badRead], sliceEnd := 5 } }, by decide +kernel⟩,
   ⟨0, 0, { dmem with di := { dmem.di with rows := [(0, 1), (16, 2)], refreshes := 8191 } }, by decide +kernel⟩,
   ⟨0, 3899, 0, { (dmem.wr DI.CTL.REF_2X 1) with di := { dmem.di with refreshAt := [(0, 0)] } }, by decide +kernel⟩,
   ⟨.coreM, .store, 0x80000000, 8, 5, 0, dmem, by decide +kernel⟩,
   ⟨.coreM, .amo 0, 0x80000000, 4, 5, 0, dmem, by decide +kernel⟩⟩

theorem witness_DramIsBroughtUp :
    (∃ (src : Src) (v : Bool) (t : Nat) (s : State), src ≠ .host ∧ ((s.begin t).counted 9).islUp 9 = true ∧ ((s.begin t).counted 9).reaches src .store 9 8 = true)
    ∧ (∃ (src : Src) (t : Nat) (s : State), src ≠ .host ∧ ((s.begin t).counted 9).islUp 9 = true ∧ ((s.begin t).counted 9).reaches src .store 9 8 = true)
    ∧ (∃ (t : Nat) (s : State), (s.begin t).di.initRun = true)
    ∧ (∃ (src : Src) (value mr rank t : Nat) (s : State), src ≠ .host ∧ ((s.begin t).counted 9).islUp 9 = true ∧ ((s.begin t).counted 9).reaches src .store 9 0x200 = true)
    ∧ (∃ (src : Src) (pattern rank burst len t : Nat) (s : State), src ≠ .host ∧ ((s.begin t).counted 9).islUp 9 = true ∧ ((s.begin t).counted 9).isSet DI.CTL.TRAIN_MODE = true ∧ ((s.begin t).counted 9).isSet DI.TRN_STAT.BUSY = false ∧ ((s.begin t).counted 9).reaches src .store 9 0x300 = true)
    ∧ (∃ (src : Src) (pattern rank burst len t : Nat) (errs : Errs) (s : State), src ≠ .host ∧ ((s.begin t).counted 9).islUp 9 = true ∧ ((s.begin t).counted 9).isSet DI.CTL.TRAIN_MODE = true ∧ ((s.begin t).counted 9).isSet DI.TRN_STAT.BUSY = false ∧ ((s.begin t).counted 9).reaches src .store 9 0x300 = true)
    ∧ (∃ (src : Src) (pattern rank burst len t : Nat) (s : State), src ≠ .host ∧ ((s.begin t).counted 9).islUp 9 = true ∧ ((s.begin t).counted 9).isSet DI.CTL.TRAIN_MODE = true ∧ ((s.begin t).counted 9).isSet DI.TRN_STAT.BUSY = false ∧ ((s.begin t).counted 9).reaches src .store 9 0x300 = true)
    ∧ (∃ (src : Src) (rank n t : Nat) (s : State), src ≠ .host ∧ ((s.begin t).counted 9).islUp 9 = true ∧ ((s.begin t).counted 9).isSet DI.CTL.TRAIN_MODE = true ∧ ((s.begin t).counted 9).isSet DI.TRN_STAT.BUSY = false)
    ∧ (∃ (t : Nat) (s : State), (s.begin t).isSet DI.TRN_STAT.BUSY = true)
    ∧ (∃ (low high : Errs) (ns t : Nat) (s : State), (s.begin t).islRuns 9 = true ∧ (s.begin t).isSet DI.CTL.PERIODIC_EN = true ∧ (s.begin t).isSet DI.CTL.TRAIN_MODE = false ∧ ns ≤ 20000 ∧ (s.begin t).di.sliceAt + max 1 ((s.begin t).rd DI.CTL.PERIOD_MS) * 1000000 ≤ (s.begin t).now) :=
  ⟨⟨.coreM, true, 0, dmem, by decide +kernel⟩,
   ⟨.coreM, 0, dmem.dramWrite 4 [7], by decide +kernel⟩,
   ⟨0, { dmem with di := { dmem.di with initRun := true, mrInit := [1, 2, 3, 4, 5, 6, 7] } }, by decide +kernel⟩,
   ⟨.coreM, 0x3FFFF, 7, 1, 0, up, by decide +kernel⟩,
   ⟨.coreM, 3, 1, 511, 2, 0, train, by decide +kernel⟩,
   ⟨.coreM, 1, 0, 0, 1, 0, [(0, 1)], train, by decide +kernel⟩,
   ⟨.coreM, 0, 0, 0, 1, 0, train, by decide +kernel⟩,
   ⟨.coreM, 1, 5, 0, train, by decide +kernel⟩,
   ⟨0, train.wr DI.TRN_STAT.BUSY 1, by decide +kernel⟩,
   ⟨sideErr, sideErr, 99, 2000000000, slicing, by decide +kernel⟩⟩

theorem witness_FlashControllerRunsCommands :
    (∃ (src : Src) (lenM1 t o : Nat) (cmd : Instr) (s b : State), b = (s.begin t).counted 0 ∧ (src ≠ .host ∨ b.inRecovery = true) ∧ b.reaches src .store 0 0x9000 = true ∧ b.islUp 0 = true ∧ (o = 1 ∧ cmd = .flashProgram src lenM1 t ∨ o = 2 ∧ cmd = .flashErase4k src lenM1 t
        ∨ o = 3 ∧ cmd = .flashErase64k src lenM1 t))
    ∧ (∃ (src : Src) (lenM1 t o : Nat) (cmd : Instr) (s b : State), b = (s.begin t).counted 0 ∧ (src ≠ .host ∨ b.inRecovery = true) ∧ b.reaches src .store 0 0x9000 = true ∧ b.islUp 0 = true ∧ (o = 1 ∧ cmd = .flashProgram src lenM1 t ∨ o = 2 ∧ cmd = .flashErase4k src lenM1 t
        ∨ o = 3 ∧ cmd = .flashErase64k src lenM1 t) ∧ b.isSet MI.FLASH_STAT.BUSY = false ∧ b.flashRefusal src o (b.rd MI.FLASH_ADDR.ADDR)
        (if o = 1 then lenM1 % 256 + 1 else if o = 2 then 4096 else 65536) (b.rd MI.FLASH_SRC.ADDR / 4 * 4) = none)
    ∧ (∃ (t a : Nat) (fw : Bool) (l : Frame) (s : State), (s.begin t).fl.op = some (.program fw a l))
    ∧ (∃ (t a n : Nat) (fw : Bool) (s : State), (s.begin t).fl.op = some (.erase fw a n)) :=
  ⟨⟨.coreM, 255, 0, 1, .flashProgram .coreM 255 0, flash.wr MI.FLASH_ADDR.ADDR 1, ((flash.wr MI.FLASH_ADDR.ADDR 1).begin 0).counted 0, by decide +kernel⟩,
   ⟨.coreM, 255, 0, 1, .flashProgram .coreM 255 0, flash, ((flash).begin 0).counted 0, by decide +kernel⟩,
   ⟨0, 7, true, [0x3C, 0, 0xFF], programming, by decide +kernel⟩,
   ⟨0, 0, 4096, true, erasing, by decide +kernel⟩⟩

theorem witness_JournalKeepsRecords :
    (∃ (t : Nat) (s : State), ((s.begin t).counted 0).islUp 0 = true ∧ ((s.begin t).counted 0).reaches .coreM .store 0 0x9240 = true)
    ∧ (∃ (t : Nat) (s : State), ((s.begin t).counted 0).islUp 0 = true ∧ ((s.begin t).counted 0).reaches .coreM .store 0 0x9240 = true)
    ∧ (∃ (t h : Nat) (s b : State), b = (s.begin t).counted 0 ∧ b.islUp 0 = true ∧ b.fl.head = some h ∧ b.reaches .coreM .store 0 0x9240 = true)
    ∧ (∃ (t : Nat) (c : Instr) (s b : State), b = (s.begin t).counted 0 ∧ b.islUp 0 = true ∧ b.reaches .coreU .store 0 0x9240 = true ∧ (c = .jnlAppend .coreU t ∨ c = .jnlCopy .coreU t ∨ c = .jnlEraseOldest .coreU t))
    ∧ (∃ (t h : Nat) (bad : Blocks) (recs : List Frame) (s : State), (s.begin t).fl.op = some (.journal h recs))
    ∧ (∃ (t : Nat) (o : FlashOp) (s : State), (s.begin t).fl.op = none ∧ ({ s.begin t with fl := { (s.begin t).fl with jWait := false } } : State).jnlNext = some o ∧ ((s.begin t).holdup ((s.begin t).storeOf o)).1 = true)
    ∧ (∃ (t : Nat) (s : State), (s.begin t).isSet MI.HU_STAT.PF = false) :=
  ⟨⟨0, record, by decide +kernel⟩,
   ⟨0, copyable, by decide +kernel⟩,
   ⟨0, 5, oldestA, (oldestA.begin 0).counted 0, by decide +kernel⟩,
   ⟨0, .jnlCopy .coreU 0, userOk flash, ((userOk flash).begin 0).counted 0, by decide +kernel⟩,
   ⟨0, 5, [], [recA], { flash with fl := { flash.fl with queue := [⟨3, recA, false⟩], op := some (.journal 5 [recA]) } }, by decide +kernel⟩,
   ⟨0, .journal 5 [recA], { flash with fl := { flash.fl with queue := [⟨3, recA, false⟩], jWait := true } }, by decide +kernel⟩,
   ⟨0, flash, by decide +kernel⟩⟩

theorem witness_FusesAreBlownOnce :
    (∃ (src : Src) (slot t : Nat) (s b : State), b = (s.begin t).counted 1 ∧ src ≠ .host ∧ b.islUp 1 = true ∧ b.reaches src .store 1 0x180 = true)
    ∧ (∃ (src : Src) (slot t : Nat) (s b : State), b = (s.begin t).counted 1 ∧ src ≠ .host ∧ b.islUp 1 = true ∧ b.reaches src .store 1 0x180 = true)
    ∧ (∃ (src : Src) (t : Nat) (s b : State), b = (s.begin t).counted 1 ∧ src ≠ .host ∧ b.islUp 1 = true ∧ b.reaches src .store 1 0x198 = true)
    ∧ (∃ (src : Src) (key t : Nat) (s b : State), b = (s.begin t).counted 1 ∧ src ≠ .host ∧ b.islUp 1 = true ∧ b.reaches src .store 1 0x1A0 = true)
    ∧ (∃ (t q a : Nat) (s : State), (s.begin t).fl.sealWait = some (q, a) ∧ a + 100000000 ≤ (s.begin t).now)
    ∧ (∃ (t : Nat) (o : FuseOp) (r : List FuseOp) (s : State), (s.begin t).fl.fuses = o :: r)
    ∧ (∃ (t : Nat) (o : FuseOp) (r : List FuseOp) (s : State), (s.begin t).fl.fuses = o :: r) :=
  ⟨⟨.coreM, 1, 0, flash, ((flash).begin 0).counted 1, by decide +kernel⟩,
   ⟨.coreM, 1, 0, flash, ((flash).begin 0).counted 1, by decide +kernel⟩,
   ⟨.coreM, 0, flash.wrs [(AO.ROLLBACK_ADV.VALUE, 3), (MI.IMG_ROLLBACK.VER, 3), (AO.ROLLBACK_CTL.ADV_LEFT, 1)], ((flash.wrs [(AO.ROLLBACK_ADV.VALUE, 3), (MI.IMG_ROLLBACK.VER, 3), (AO.ROLLBACK_CTL.ADV_LEFT, 1)]).begin 0).counted 1, by decide +kernel⟩,
   ⟨.coreM, 0x5A, 0, flash.wr AO.FUSE_STAT.KEY1_PROG 1, ((flash.wr AO.FUSE_STAT.KEY1_PROG 1).begin 0).counted 1, by decide +kernel⟩,
   ⟨100000000, 3, 0, { flash.wr AO.SEAL_CMD.BUSY 1 with fl := { flash.fl with sealWait := some (3, 0) } }, by decide +kernel⟩,
   ⟨0, .keyHash 1 [1, 2, 3, 4], [], { flash with fl := { flash.fl with fuses := [.keyHash 1 [1, 2, 3, 4]] } }, by decide +kernel⟩,
   ⟨0, .keyHash 1 [1, 2, 3, 4], [], { flash with fl := { flash.fl with fuses := [.keyHash 1 [1, 2, 3, 4]] } }, by decide +kernel⟩⟩

theorem witness_TagAnswersReaders :
    (∃ (oneSlot : Bool) (afi : Option Nat) (maskLen mask t : Nat) (s : State), (s.begin t).isSet AO.TAG_STAT.FIELD = true ∧ (s.begin t).tag.mode ≠ .quiet ∧ (afi = none ∨ afi = some 0) ∧ (s.begin t).rd AO.TAG_UID.UID % 2 ^ maskLen = mask % 2 ^ maskLen)
    ∧ (∃ (t : Nat) (s : State), (s.begin t).isSet AO.TAG_STAT.FIELD = true)
    ∧ (∃ (t v : Nat) (s : State), (s.begin t).isSet AO.TAG_STAT.FIELD = true)
    ∧ (∃ (who : TagWho) (t : Nat) (s : State), (s.begin t).tagHears who = true)
    ∧ (∃ (who : TagWho) (security : Bool) (block t : Nat) (s : State), (s.begin t).tagHears who = true)
    ∧ (∃ (who : TagWho) (security : Bool) (first countM1 t : Nat) (s : State), (s.begin t).tagHears who = true) :=
  ⟨⟨false, none, 8, 0xDE, 0, field, by decide +kernel⟩,
   ⟨0, field, by decide +kernel⟩,
   ⟨0, 7, { field with tag := { field.tag with mode := .selected } }, by decide +kernel⟩,
   ⟨.any, 0, field, by decide +kernel⟩,
   ⟨.any, true, 255, 0, field, by decide +kernel⟩,
   ⟨.any, true, 248, 7, 0, field, by decide +kernel⟩⟩

theorem witness_TagFieldSessionsClaimAndCommit :
    (∃ (who : TagWho) (block t : Nat) (data : Frame) (s : State), (s.begin t).tagHears who = true ∧ block < 256 ∧ data.length = 32 ∧ (s.begin t).tagSealed (block / 8) = false ∧ (4 ≤ block / 8 → (s.begin t).page4Locked = false) ∧ (s.begin t).wiredKeeps (block / 8) = false)
    ∧ (∃ (who : TagWho) (pages t : Nat) (s : State), (s.begin t).tagHears who = true ∧ (∀ p, p < 32 → bitOf pages p = true → (s.begin t).tagSealed p = false) ∧ (∃ p, p < 32 ∧ bitOf pages p = true ∧ (s.begin t).wiredKeeps p = false))
    ∧ (∃ (who : TagWho) (pages t : Nat) (s : State), (s.begin t).tagHears who = true)
    ∧ (∃ (who : TagWho) (pages t : Nat) (s : State), (s.begin t).tagHears who = true ∧ (s.begin t).tag.ops = [] ∧ (∃ p, p < 32 ∧ bitOf pages p = true ∧ (s.begin t).fieldHolds p = true) ∧ (∀ p, p < 32 → bitOf pages p = true → (s.begin t).fieldHolds p = true →
        pageGood ((nget (s.begin t).tag.shadows p).getD []) = true))
    ∧ (∃ (t p : Nat) (ok : Bool) (d : Frame) (r : List TagOp) (s : State), p < 32 ∧ ((s.begin t).tag.ops = .field p d :: r ∨ (s.begin t).tag.ops = .wired p d :: r))
    ∧ (∃ (t : Nat) (s : State), (s.begin t).isSet AO.TAG_STAT.FIELD = false)
    ∧ (∃ (t : Nat) (s : State), (s.begin t).isSet AO.TAG_STAT.FIELD = true)
    ∧ (∃ (t : Nat) (s : State), (s.begin t).isSet AO.TAG_STAT.SESSION = true ∧ (s.begin t).tag.heardAt + 2000000000 ≤ (s.begin t).now) :=
  ⟨⟨.any, 40, 0, List.replicate 32 3, held, by decide +kernel⟩,
   ⟨.any, 0x80000060, 0, held, by decide +kernel⟩,
   ⟨.any, 0x80000060, 0, held, by decide +kernel⟩,
   ⟨.any, 0x80000060, 0, held, by decide +kernel⟩,
   ⟨0, 5, true, page 9, [.fieldEnd], committing, ⟨by decide, .inl rfl⟩⟩,
   ⟨0, held.wr AO.TAG_STAT.FIELD 0, by decide +kernel⟩,
   ⟨0, committing, by decide +kernel⟩,
   ⟨2000000000, committing, by decide +kernel⟩⟩

theorem witness_TagWiredSideClaimsAndCommits :
    (∃ (src : Src) (p t : Nat) (token : Bool) (s : State), src ≠ .host ∧ p < 32 ∧ ((s.begin t).counted 1).islUp 1 = true ∧ ((s.begin t).counted 1).isSet AO.TAG_STAT.BUSY = false ∧ ((s.begin t).counted 1).reaches src .store 1 0x418 = true)
    ∧ (∃ (p t : Nat) (r : List Nat) (s : State), (s.begin t).tag.reads = p :: r)
    ∧ (∃ (src : Src) (mask t : Nat) (s : State), src ≠ .host ∧ ((s.begin t).counted 1).islUp 1 = true ∧ ((s.begin t).counted 1).rd AO.TAG_PEND.PEND &&& mask ≠ 0 ∧ ((s.begin t).counted 1).reaches src .store 1 0x410 = true)
    ∧ (∃ (t : Nat) (r : List TagOp) (s : State), (s.begin t).tag.ops = .pendWrite :: r) :=
  ⟨⟨.coreM, 5, 0, false, held, by decide +kernel⟩,
   ⟨5, 0, [6], { held with tag := { held.tag with reads := [5, 6] } }, by decide +kernel⟩,
   ⟨.coreM, 0x80000001, 0, held.wr AO.TAG_PEND.PEND 0x80000010, by decide +kernel⟩,
   ⟨0, [.fieldEnd], { held with tag := { held.tag with ops := [.pendWrite, .fieldEnd] } }, by decide +kernel⟩⟩

theorem witness_ModesChangeByRequestAndTrigger :
    (∃ (src : Src) (target t c : Nat) (s : State), src ≠ .host ∧ ((s.begin t).counted 0).islUp 0 = true ∧ (((s.begin t).counted 0).isSet MI.MODE_STAT.IN_TRANSIT = true ∧ c = 2
        ∨ ((s.begin t).counted 0).isSet MI.MODE_STAT.IN_TRANSIT = false ∧ permitted ((s.begin t).counted 0).mode (target % 4) = false ∧ c = 1
        ∨ ((s.begin t).counted 0).isSet MI.MODE_STAT.IN_TRANSIT = false ∧ permitted ((s.begin t).counted 0).mode (target % 4) = true
          ∧ ((s.begin t).counted 0).unmetNow (target % 4) = some c) ∧ ((s.begin t).counted 0).reaches src .store 0 0x30 = true)
    ∧ (∃ (src : Src) (t : Nat) (s : State), src ≠ .host ∧ ((s.begin t).counted 0).islUp 0 = true ∧ ((s.begin t).counted 0).isSet MI.MODE_STAT.IN_TRANSIT = false ∧ ((s.begin t).counted 0).mode = 1 ∧ ((s.begin t).counted 0).unmetNow 2 = none ∧ ((s.begin t).counted 0).reaches src .store 0 0x30 = true)
    ∧ (∃ (src : Src) (t : Nat) (s : State), src ≠ .host ∧ ((s.begin t).counted 0).islUp 0 = true ∧ ((s.begin t).counted 0).isSet MI.MODE_STAT.IN_TRANSIT = false ∧ ((s.begin t).counted 0).mode = 3 ∧ ((s.begin t).counted 0).isSet AO.SIDEBAND.FA = false ∧ ((s.begin t).counted 0).reaches src .store 0 0x30 = true)
    ∧ (∃ (t : Nat) (s : State), (s.begin t).isSet MI.MODE_STAT.IN_TRANSIT = true ∧ (s.begin t).completes = true ∧ (s.begin t).boot.goal ≤ 2)
    ∧ (∃ (t : Nat) (s : State), (s.begin t).isSet MI.MODE_STAT.IN_TRANSIT = true ∧ (s.begin t).boot.goal = 2 ∧ 4 ≤ (s.begin t).boot.bounds ∧ (s.begin t).completes = false)
    ∧ (∃ (t a : Nat) (s : State), (s.begin t).rsch.opticsAt = some a ∧ (s.begin t).mode ≠ 0 ∧ a + 10000000 ≤ (s.begin t).now ∧ (s.begin t).ringUsed = true ∧ (s.begin t).closing = false ∧ (s.begin t).isSet (RI.RING_CTL.FORCE_BYP 0) = false)
    ∧ (∃ (t a : Nat) (s : State), (s.begin t).rsch.heldEAt = some a ∧ ((s.begin t).locked 0 = true ∨ a + 100000000 ≤ (s.begin t).now) ∧ (s.begin t).mode ≠ 0 ∧ (s.begin t).ringUsed = true ∧ (s.begin t).rsch.opticsAt = none ∧ (s.begin t).closing = false ∧ (s.begin t).isSet (RI.RING_CTL.FORCE_BYP 1) = false)
    ∧ (∃ (t a : Nat) (s : State), (s.begin t).rsch.releasedWAt = some a ∧ a + 20000000 ≤ (s.begin t).now)
    ∧ (∃ (t a : Nat) (s : State), (s.begin t).rsch.graceSince = some a ∧ (s.begin t).ringUsed = true ∧ (s.begin t).isSet MI.MODE_COND.JOIN_OK = false ∧ a + (s.begin t).graceNs ≤ (s.begin t).now)
    ∧ (∃ (src : Src) (t : Nat) (s : State), src ≠ .host ∧ ((s.begin t).counted 0).islUp 0 = true ∧ ((s.begin t).counted 0).isSet MI.MODE_STAT.IN_TRANSIT = false ∧ ((s.begin t).counted 0).mode = 2 ∧ ((s.begin t).counted 0).reaches src .store 0 0x30 = true) :=
  ⟨⟨.coreM, 2, 0, 2, transit 2 0 rehearsal, by decide +kernel⟩,
   ⟨.coreM, 0, rehearsal, by decide +kernel⟩,
   ⟨.coreM, 0, performance.wr MI.MODE_STAT.MODE 3, by decide +kernel⟩,
   ⟨0, transit 2 1 rehearsal, by decide +kernel⟩,
   ⟨5, transit 2 4 rehearsal, by decide +kernel⟩,
   ⟨10000000, 0, { rehearsal with rsch := { rehearsal.rsch with opticsAt := some 0 } }, by decide +kernel⟩,
   ⟨100000000, 0, { rehearsal with rsch := { rehearsal.rsch with heldEAt := some 0 } }, by decide +kernel⟩,
   ⟨20000000, 0, { rehearsal with rsch := { rehearsal.rsch with releasedWAt := some 0 } }, by decide +kernel⟩,
   ⟨1000000000000, 0, (quietRing performance).wr MI.SN_CFG.RING_EN 1, by decide +kernel⟩,
   ⟨.coreM, 0, performance, by decide +kernel⟩⟩

theorem witness_DeviceResetsClearWhatTheTableSays :
    (∃ (t : Nat) (s : State), (s.begin t).joinsReset = false)
    ∧ (∃ (pc t : Nat) (machine : Bool) (s : State), (s.begin t).joinsReset = false ∧ (s.begin t).isSet MI.WDT_CFG.EN = true ∧ (s.begin t).wdtSync.rd MI.WDT_STAT.REMAIN = 0)
    ∧ (∃ (src : Src) (key t : Nat) (s : State), (s.begin t).joinsReset = false ∧ (s.begin t).reaches src .store 0 0x58 = true)
    ∧ (∃ (src : Src) (key t : Nat) (s : State), (s.begin t).reaches src .store 0 0x58 = false)
    ∧ (∃ (t : Nat) (s : State), (s.begin t).joinsReset = true)
    ∧ (∃ (src : Src) (key t : Nat) (s : State), (s.begin t).joinsReset = false ∧ (s.begin t).reaches src .store 0 0x58 = true)
    ∧ (∃ (t : Nat) (s : State), (s.begin t).joinsReset = false ∧ (s.begin t).debugOpen = true)
    ∧ (∃ (t : Nat) (s : State), (s.begin t).joinsReset = false) :=
  ⟨⟨0, busyDev, by decide +kernel⟩,
   ⟨0x80000000, 0, true, busyDev.wrs [(MI.WDT_CFG.EN, 1), (MI.WDT_STAT.REMAIN, 0)], by decide +kernel⟩,
   ⟨.coreM, 0xA5, 0, busyDev, by decide +kernel⟩,
   ⟨.coreU, 0xA5, 0, busyDev, by decide +kernel⟩,
   ⟨5, { busyDev with boot := { busyDev.boot with held := true } }, by decide +kernel⟩,
   ⟨.host, 0xA5, 0, { busyDev with mg := { busyDev.mg with security := List.replicate 64 0xFF } }, by decide +kernel⟩,
   ⟨0, busyDev, by decide +kernel⟩,
   ⟨0, busyDev, by decide +kernel⟩⟩

theorem witness_StartUpFollowsTheReleases :
    (∃ (t : Nat) (s : State), (s.begin t).boot.held = true ∧ (s.begin t).boot.aoPor = false)
    ∧ (∃ (t : Nat) (s : State), (s.begin t).boot.held = true)
    ∧ (∃ (t : Nat) (s : State), (s.begin t).boot.held = false ∧ (s.begin t).isl.relock.contains 0 = true)
    ∧ (∃ (i t : Nat) (s : State), 2 ≤ i ∧ i < 16 ∧ (s.begin t).boot.held = false ∧ (s.begin t).isl.relock.contains i = true ∧ (s.begin t).isl? i = 2 ∧ (s.begin t).tripped i = false) :=
  ⟨⟨0, inReset, by decide +kernel⟩,
   ⟨0, State.reset, by decide +kernel⟩,
   ⟨0, starting 16, by decide +kernel⟩,
   ⟨15, 0, islStarting 15, by decide +kernel⟩⟩

theorem witness_IslandsTripResetAndReplay :
    (∃ (i t : Nat) (s : State), 2 ≤ i ∧ i < 16 ∧ (s.begin t).isSet (MI.PMON_CFG.EN i) = true ∧ (s.begin t).islUp i = true ∧ (s.begin t).stuck i = true ∧ (s.begin t).fatalTrip i = false)
    ∧ (∃ (i t : Nat) (s : State), 2 ≤ i ∧ i < 16 ∧ bitOf ((s.begin t).rd MI.PLL_STAT.LOCK) i = true ∧ (s.begin t).fatalTrip i = false)
    ∧ (∃ (i t : Nat) (s : State), 2 ≤ i ∧ i < 16 ∧ (s.begin t).fatalTrip i = true ∧ (s.begin t).joinsReset = false)
    ∧ (∃ (t : Nat) (s : State), (s.begin t).joinsReset = false ∧ bitOf ((s.begin t).rd MI.PLL_STAT.LOCK) 0 = true)
    ∧ (∃ (src : Src) (mask t : Nat) (s : State), src ≠ .host ∧ ((s.begin t).counted 0).islUp 0 = true ∧ ((s.begin t).counted 0).reaches src .store 0 0x280 = true)
    ∧ (∃ (i t a : Nat) (s : State), i < 16 ∧ nget (s.begin t).isl.tripAt i = some a ∧ (s.begin t).isl? i = 2 ∧ a + holdNs i ≤ (s.begin t).now ∧ (s.begin t).isl.relock.contains i = false)
    ∧ (∃ (i t a : Nat) (s : State), i < 16 ∧ nget (s.begin t).isl.tripAt i = some a ∧ (s.begin t).isl? i = 3) :=
  ⟨⟨15, 0, stalled 15 95 live, by decide +kernel⟩,
   ⟨3, 0, live, by decide +kernel⟩,
   ⟨15, 0, stalled 15 95 (live.wr MI.SN_CFG.FATAL_LIMIT 1), by decide +kernel⟩,
   ⟨0, live, by decide +kernel⟩,
   ⟨.coreM, 0x8000, 0, live, by decide +kernel⟩,
   ⟨15, 1000, 0, tripping 15 2, by decide +kernel⟩,
   ⟨15, 1000, 0, tripping 15 3, by decide +kernel⟩⟩

theorem witness_FunctionsStopDrainAndStart :
    (∃ (src : Src) (f : Func) (s : State), src ≠ .host ∧ funcValid f = true ∧ (s.quiet.counted (funcIsl f)).reaches src .store (funcIsl f) (funcEn f).off = true ∧ (s.quiet.counted (funcIsl f)).islUp (funcIsl f) = true)
    ∧ (∃ (src : Src) (f : Func) (s : State), src ≠ .host ∧ funcValid f = true ∧ s.quiet.reaches src .store (funcIsl f) (funcEn f).off = true ∧ s.quiet.isl? (funcIsl f) = 2 ∧ s.quiet.tripped (funcIsl f) = true)
    ∧ (∃ (f : Func) (s : State), funcValid f = true ∧ s.isl.draining.contains f = true ∧ s.islRuns (funcIsl f) = true ∧ s.drained f = true)
    ∧ (∃ (src : Src) (f : Func) (s : State), src ≠ .host ∧ (s.quiet.counted (funcIsl f)).islUp (funcIsl f) = true ∧ (s.quiet.counted (funcIsl f)).reaches src .store (funcIsl f) (funcEn f).off = true)
    ∧ (∃ (src : Src) (i : Nat) (s : State), src ≠ .host ∧ 2 ≤ i ∧ i < 16 ∧ (s.quiet.counted 0).islUp 0 = true ∧ (s.quiet.counted 0).reaches src .store 0 0x280 = true) :=
  ⟨⟨.coreM, .port 95, live.wr (portEn 95) 1, by decide +kernel⟩,
   ⟨.coreM, .port 95, (let s := tripping 15 2; s.wr (portEn 95) 1), by decide +kernel⟩,
   ⟨.port 95, { live with isl := { live.isl with draining := [.port 95] } }, by decide +kernel⟩,
   ⟨.coreM, .port 95, used, by decide +kernel⟩,
   ⟨.coreM, 15, live, by decide +kernel⟩⟩

theorem witness_LoaderCommandsAndTheirEnd :
    (∃ (src : Src) (t cmd : Nat) (c : Instr) (s : State), src ≠ .host ∧ ((s.begin t).counted 0).islUp 0 = true ∧ ((s.begin t).counted 0).reaches src .store 0 0x408 = true ∧ (cmd = 1 ∧ c = .imgCheck src t ∨ cmd = 2 ∧ c = .imgLoad src t ∨ cmd = 3 ∧ c = .imgStage src t
        ∨ cmd = 4 ∧ c = .imgCommit src t ∨ cmd = 5 ∧ c = .imgAbort src t))
    ∧ (∃ (t : Nat) (s : State), (s.begin t).isSet MI.IMG_STAT.BUSY = true ∧ (s.begin t).boot.loading = false ∧ (s.begin t).boot.staging = false ∧ (s.begin t).phase ≠ 6 ∧ (s.begin t).img.error ≠ 0)
    ∧ (∃ (t : Nat) (s : State), (s.begin t).isSet MI.IMG_STAT.BUSY = true ∧ (s.begin t).boot.loading = false ∧ (s.begin t).boot.staging = false ∧ (s.begin t).phase ≠ 6 ∧ (s.begin t).img.error = 0 ∧ (s.begin t).rd MI.IMG_STAT.LAST_CMD = 1)
    ∧ (∃ (t : Nat) (s : State), (s.begin t).isSet MI.IMG_STAT.BUSY = true ∧ (s.begin t).boot.loading = false ∧ (s.begin t).boot.staging = false ∧ (s.begin t).phase ≠ 6 ∧ (s.begin t).img.error = 0 ∧ (s.begin t).rd MI.IMG_STAT.LAST_CMD = 2 ∧ (s.begin t).sourceChanged = false) :=
  ⟨⟨.coreM, 0, 1, .imgCheck .coreM 0, image, by decide +kernel⟩,
   ⟨0, loaded 1 5, by decide +kernel⟩,
   ⟨0, loaded 1 0, by decide +kernel⟩,
   ⟨0, loaded 2 0, by decide +kernel⟩⟩

theorem witness_ReplayEngineAndSram :
    (∃ (t a : Nat) (s : State), (s.begin t).boot.waitAt = some a ∧ (s.begin t).phase = 6 ∧ (s.begin t).isSet TI.SEL_STAT.SCHED_VALID = true ∧ max a (s.begin t).ti.validAt + (s.begin t).rd MI.RPLY_CFG.SETTLE_MS * 1000000 ≤ (s.begin t).now)
    ∧ (∃ (t a : Nat) (s : State), (s.begin t).boot.waitAt = some a ∧ (s.begin t).phase = 6 ∧ (s.begin t).isSet TI.SEL_STAT.SCHED_VALID = false ∧ a + (s.begin t).rd MI.RPLY_CFG.SCHED_WAIT_S * 1000000000 ≤ (s.begin t).now)
    ∧ (∃ (src : Src) (k : AccKind) (addr n data t : Nat) (ecc : Ecc) (s : State), src ≠ .host ∧ inSram addr n = true)
    ∧ (∃ (src : Src) (addr n data t : Nat) (ecc : Ecc) (s : State), src ≠ .host ∧ inSram addr n = true ∧ accMisaligned .store addr n = false ∧ (s.begin t).pmpAllows src .store addr n = true ∧ (ecc ≠ .uncorrectable ∨ n % 4 = 0))
    ∧ (∃ (src : Src) (k : AccKind) (addr n data t : Nat) (ecc : Ecc) (s : State), src ≠ .host ∧ inSram addr n = true ∧ (k = .load ∨ k = .fetch) ∧ accMisaligned k addr n = false ∧ (s.begin t).pmpAllows src k addr n = true ∧ ecc ≠ .uncorrectable)
    ∧ (∃ (src : Src) (addr n data t : Nat) (s : State), src ≠ .host ∧ inSram addr n = true ∧ accMisaligned .load addr n = false ∧ (s.begin t).pmpAllows src .load addr n = true)
    ∧ (∃ (src : Src) (addr data t : Nat) (ecc : Ecc) (s : State), src ≠ .host ∧ inSram addr 4 = true ∧ addr % 4 = 0 ∧ ecc ≠ .uncorrectable)
    ∧ (∃ (src : Src) (addr data t op v : Nat) (ecc : Ecc) (s : State), src ≠ .host ∧ inSram addr 4 = true ∧ addr % 4 = 0 ∧ ecc ≠ .uncorrectable ∧ (s.begin t).pmpAllows src (.amo op) addr 4 = true ∧ (let old := leNat ((s.begin t).sramRead (addr - 0x10000000) 4)
      amoResult op old (data % 2 ^ 32) = some v))
    ∧ (∃ (mask t : Nat) (s : State), bitOf mask 31 = false)
    ∧ (∃ (src : Src) (mask t : Nat) (s : State), src ≠ .host ∧ (s.begin t).reaches src .store 0 0x7F00 = true) :=
  ⟨⟨1000000000, 0, settled, by decide +kernel⟩,
   ⟨2000000000000, 0, settled.wr TI.SEL_STAT.SCHED_VALID 0, by decide +kernel⟩,
   ⟨.coreM, .load, 0x10000002, 4, 0, 0, .clean, live, by decide +kernel⟩,
   ⟨.coreM, 0x10000002, 2, 0xFF0102, 0, .clean, mem4, by decide +kernel⟩,
   ⟨.coreM, .load, 0x10000004, 4, 0, 0, .corrected, mem4, by decide +kernel⟩,
   ⟨.coreM, 0x10000004, 2, 0, 0, mem4, by decide +kernel⟩,
   ⟨.coreM, 0x10000004, 0xFFFFFFFF, 0, .clean, { mem4 with mg := { mem4.mg with reservation := some 0x10000004 } }, by decide +kernel⟩,
   ⟨.coreM, 0x10000004, 0xFFFFFFFF, 0, 0, 8, .clean, mem4, by dsimp only; decide +kernel⟩,
   ⟨0x7FFFFFFF, 0, live.wr MI.MBX_H2C_BELL.BELL 0x80000000, by decide +kernel⟩,
   ⟨.coreM, 0xFFFFFFFF, 0, live, by decide +kernel⟩⟩

theorem witness_PortsReceiveAndPause :
    (∃ (p t c : Nat) (l : Frame) (ce : Bool) (s : State), (s.begin t).receives p l.length = true ∧ (l.length < 64 ∧ c = 2 ∨ 64 ≤ l.length ∧ portMax p < l.length ∧ c = 3
        ∨ 64 ≤ l.length ∧ l.length ≤ portMax p ∧ fcsGood l = false ∧ c = 4
        ∨ 64 ≤ l.length ∧ l.length ≤ portMax p ∧ fcsGood l = true ∧ ce = true ∧ c = 5
        ∨ 64 ≤ l.length ∧ l.length ≤ portMax p ∧ fcsGood l = true ∧ ce = false ∧ etherType l ≠ 0x8808 ∧ c = 6
          ∧ fifoSize p < (((s.begin t).mac p).copies.map fun k => k.bytes.length).sum + l.length))
    ∧ (∃ (p t : Nat) (l : Frame) (s : State), (s.begin t).receives p l.length = true ∧ 64 ≤ l.length ∧ l.length ≤ portMax p ∧ fcsGood l = true ∧ etherType l ≠ 0x8808 ∧ (((s.begin t).mac p).copies.map fun k => k.bytes.length).sum + l.length ≤ fifoSize p)
    ∧ (∃ (p t : Nat) (l : Frame) (ce : Bool) (s : State), (s.begin t).receives p l.length = false)
    ∧ (∃ (p t : Nat) (l : Frame) (s : State), (s.begin t).receives p l.length = true ∧ 64 ≤ l.length ∧ l.length ≤ portMax p ∧ fcsGood l = true ∧ etherType l = 0x8808)
    ∧ (∃ (p q t : Nat) (s : State), (s.begin t).honours p = true ∧ (((s.begin t).mac p).owesFrame = false ∨ (s.begin t).queuedFor p = 0) ∧ q ≠ 0)
    ∧ (∃ (p t : Nat) (h : Hold) (c : Instr) (s : State), ((s.begin t).mac p).hold = some h ∧ p < 101 ∧ isEthPort p = true ∧ (c = .pauseRx p 0 t ∧ (s.begin t).honours p = true ∧ (((s.begin t).mac p).owesFrame = false ∨ (s.begin t).queuedFor p = 0)
        ∨ c = .pauseHoldEnd p t ∧ h.endAt ≤ (s.begin t).time
        ∨ c = .pauseHoldLimit p t ∧ h.startAt + (s.begin t).quantaNs p 65535 ≤ (s.begin t).time))
    ∧ (∃ (p q t : Nat) (s : State), ((s.begin t).honours p = false
        ∨ ((s.begin t).mac p).owesFrame = true ∧ 0 < (s.begin t).queuedFor p ∨ q = 0 ∧ ((s.begin t).mac p).hold = none)) :=
  ⟨⟨95, 0, 2, List.replicate 63 0, false, ported, by decide +kernel⟩,
   ⟨95, 0, frameOf 64 1, ported, by decide +kernel⟩,
   ⟨96, 0, frameOf 64 1, false, ported, by decide +kernel⟩,
   ⟨100, 0, withFcs (List.replicate 12 1 ++ [0x88, 8] ++ List.replicate 46 0), ported, by decide +kernel⟩,
   ⟨95, 65535, 0, ported, by decide +kernel⟩,
   ⟨95, 1000000000, ⟨1, 3⟩, .pauseRx 95 0 1000000000, holding, by decide +kernel⟩,
   ⟨100, 5, 0, ported, by decide +kernel⟩⟩

theorem witness_LinksComeAndGo :
    (∃ (p t : Nat) (s : State), isEthPort p = true ∧ (s.begin t).isSet (portLink p) = true ∧ p ≠ 100 ∧ ((s.begin t).isSet (portEn p) = false ∨ (s.begin t).isSet (portFlush p) = false ∧ ((s.begin t).mac p).wire = none))
    ∧ (∃ (p t : Nat) (w : OnWire) (s : State), isEthPort p = true ∧ (s.begin t).isSet (portLink p) = true ∧ p ≠ 100 ∧ (s.begin t).isSet (portEn p) = true ∧ (s.begin t).isSet (portFlush p) = false ∧ ((s.begin t).mac p).wire = some w)
    ∧ (∃ (p t : Nat) (s : State), isEthPort p = true ∧ (s.begin t).isSet (portLink p) = true ∧ p ≠ 100 ∧ (s.begin t).isSet (portEn p) = true ∧ (s.begin t).isSet (portFlush p) = true)
    ∧ (∃ (t : Nat) (s : State), (s.begin t).isSet (portLink 100) = true ∧ (s.begin t).isSet (portEn 100) = false ∧ (s.begin t).islRuns 7 = true ∧ ((s.begin t).rd SI.CAS_STAT.STATE = 1 ∨ (s.begin t).rd SI.CAS_STAT.STATE = 2))
    ∧ (∃ (p speed t : Nat) (s : State), p < 96 ∧ (s.begin t).isSet (portLink p) = false)
    ∧ (∃ (p speed t : Nat) (half : Bool) (s : State), p < 96 ∧ (s.begin t).isSet (portLink p) = true)
    ∧ (∃ (p speed t : Nat) (s : State), p < 96 ∧ (s.begin t).isSet (portLink p) = false)
    ∧ (∃ (p speed t : Nat) (half : Bool) (s : State), (p = 98 ∨ p = 99 ∨ p = 100) ∧ (s.begin t).isSet (portLink p) = false) :=
  ⟨⟨95, 0, ported.wr (portEn 95) 0, by decide +kernel⟩,
   ⟨95, 0, ⟨{ someDesc 95 with charged := false }, 0, 1000⟩, (ported.wr (portFlush 95) 0).setMac 95 { ported.mac 95 with wire := some ⟨{ someDesc 95 with charged := false }, 0, 1000⟩ }, by decide +kernel⟩,
   ⟨95, 0, (ported.wr (portFlush 95) 1).setMac 95 { ported.mac 95 with wire := some ⟨someDesc 95, 0, 1000⟩, sched := [someDesc 95] }, by decide +kernel⟩,
   ⟨0, ported.wrs [(portEn 100, 0), (SI.CAS_STAT.STATE, 2)], by decide +kernel⟩,
   ⟨1, 2, 0, ported, by decide +kernel⟩,
   ⟨95, 2, 0, false, ported, by decide +kernel⟩,
   ⟨1, 2, 0, ported, by decide +kernel⟩,
   ⟨100, 0, 0, false, ported.wr (portLink 100) 0, by decide +kernel⟩⟩

theorem witness_I2cTransfersAndPowerStaysInBudget :
    (∃ (src : Src) (k a r w : Nat) (s : State), src ≠ .host ∧ k < 4 ∧ (s.quiet.counted 0).islUp 0 = true ∧ (s.quiet.counted 0).reaches src .store 0 (0x820 + 8 * k) = true)
    ∧ (∃ (src : Src) (k : Nat) (s : State), src ≠ .host ∧ (s.quiet.counted 0).islUp 0 = true ∧ (s.quiet.counted 0).reaches src .store 0 (0x820 + 8 * k) = true)
    ∧ (∃ (k : Nat) (op : I2cOp) (o : I2cEnd) (data : Frame) (s : State), k < 4 ∧ nget s.i2c k = some op)
    ∧ (∃ (k low t : Nat) (op : I2cOp) (data : Frame) (s : State), k < 4 ∧ nget (s.begin t).i2c k = some op ∧ max 1 ((s.begin t).rd (MI.I2C_CFG.TIMEOUT k)) * 1000000 < low ∧ op.since + low ≤ (s.begin t).now)
    ∧ (∃ (src : Src) (k a f : Nat) (s : State), src ≠ .host ∧ k < 96 ∧ (s.quiet.counted 8).islUp 8 = true ∧ (s.quiet.counted 8).reaches src .store 8 (0xF100 + 8 * k) = true)
    ∧ (∃ (src : Src) (d v r : Nat) (s : State), src ≠ .host ∧ d < 8 ∧ (s.quiet.counted 8).islUp 8 = true ∧ (s.quiet.counted 8).reaches src .store 8 (0xF008 + 8 * d) = true) :=
  ⟨⟨.coreM, 3, 0x50, 32, 5, up.wr (MI.I2C_CFG.EN 3) 1, by decide +kernel⟩,
   ⟨.coreM, 3, up.wr (MI.I2C_CFG.EN 3) 1, by decide +kernel⟩,
   ⟨3, ⟨false, 0, 5, 2, 1⟩, .nack 1, [1, 2], i2c, by decide +kernel⟩,
   ⟨3, 1000001, 2000000, ⟨false, 0, 5, 2, 1⟩, [1, 2, 3], i2c.wr (MI.I2C_CFG.TIMEOUT 3) 1, by decide +kernel⟩,
   ⟨.coreM, 95, 100, 100, up.wr (BI.PWR_DOM.BUDGET 0) 100, by decide +kernel⟩,
   ⟨.coreM, 7, 500, 3, up, by decide +kernel⟩⟩

theorem witness_SlowRetirementIsReportedOnly :
    (∃ (t : Nat) (s : State), (s.begin t).isSet MI.EPOCH_STAT.RETIRING_VALID = true ∧ (s.begin t).epoch.retireSince + max 1 ((s.begin t).rd MI.EPOCH_CFG.RETIRE_WARN) * 1000000 < (s.begin t).now)
    ∧ (∃ (t : Nat) (s : State), ((s.begin t).isSet MI.EPOCH_STAT.RETIRING_VALID = false
        ∨ (s.begin t).now ≤ (s.begin t).epoch.retireSince + max 1 ((s.begin t).rd MI.EPOCH_CFG.RETIRE_WARN) * 1000000))
    ∧ (∃ (t : Nat) (s : State), (s.begin t).phase ≠ 6 ∧ (s.begin t).inFlightAll ((s.begin t).rd MI.EPOCH_STAT.RETIRING) ≠ 0) :=
  ⟨⟨1000000000000000, retiring, by decide +kernel⟩,
   ⟨0, retiring, by decide +kernel⟩,
   ⟨0, retiring.setMac 3 { retiring.mac 3 with copies := [heldCopy (some 15) false] }, by decide +kernel⟩⟩

theorem witness_PauseTimeoutUndoesTheUpdate :
    (∃ (t : Nat) (s : State), (s.begin t).isSet MI.TUPD_STAT.PAUSE_RUNNING = true ∧ (s.begin t).epoch.pauseAt + 100000 ≤ (s.begin t).time)
    ∧ (∃ (t : Nat) (s : State), ((s.begin t).isSet MI.TUPD_STAT.PAUSE_RUNNING = false
        ∨ (s.begin t).time < (s.begin t).epoch.pauseAt + 100000)) :=
  ⟨⟨100050, pausing, by decide +kernel⟩,
   ⟨100049, pausing, by decide +kernel⟩⟩

theorem witness_EpochsCommitAbortAndSwitch :
    (∃ (src : Src) (t e : Nat) (s : State), src ≠ .host ∧ ((s.begin t).counted 0).islUp 0 = true ∧ ((((s.begin t).counted 0).mode = 0 ∨ ((s.begin t).counted 0).mode = 3) ∧ e = 1
        ∨ (((s.begin t).counted 0).mode = 1 ∨ ((s.begin t).counted 0).mode = 2) ∧ ((s.begin t).counted 0).somethingStaged = false ∧ e = 2
        ∨ (((s.begin t).counted 0).mode = 1 ∨ ((s.begin t).counted 0).mode = 2) ∧ ((s.begin t).counted 0).isSet MI.IMG_STAT.STAGED = true ∧ e = 3
        ∨ (((s.begin t).counted 0).mode = 1 ∨ ((s.begin t).counted 0).mode = 2) ∧ ((s.begin t).counted 0).isSet MI.IMG_STAT.STAGED = false
          ∧ ((s.begin t).counted 0).isSet MI.EPOCH_STAT.STAGED_DIRTY = true ∧ ((s.begin t).counted 0).isSet MI.EPOCH_STAT.PENDING = true ∧ e = 4) ∧ ((s.begin t).counted 0).reaches src .store 0 0x510 = true)
    ∧ (∃ (src : Src) (t : Nat) (s : State), src ≠ .host ∧ ((s.begin t).counted 0).islUp 0 = true ∧ (((s.begin t).counted 0).mode = 1 ∨ ((s.begin t).counted 0).mode = 2) ∧ ((s.begin t).counted 0).isSet MI.EPOCH_STAT.STAGED_DIRTY = true ∧ ((s.begin t).counted 0).isSet MI.IMG_STAT.STAGED = false ∧ ((s.begin t).counted 0).isSet MI.EPOCH_STAT.PENDING = false ∧ ((s.begin t).counted 0).reaches src .store 0 0x510 = true)
    ∧ (∃ (t : Nat) (s : State), (s.begin t).switchPoint (s.begin t).time = true ∧ (s.begin t).servingRun = true)
    ∧ (∃ (t : Nat) (s : State), (s.begin t).switchPoint (s.begin t).time = true ∧ (s.begin t).servingRun = false)
    ∧ (∃ (t : Nat) (s : State), (s.begin t).isSet MI.EPOCH_STAT.RETIRING_VALID = true ∧ (s.begin t).inFlightAll ((s.begin t).rd MI.EPOCH_STAT.RETIRING) = 0 ∧ (s.begin t).phase ≠ 6)
    ∧ (∃ (src : Src) (t : Nat) (s : State), src ≠ .host ∧ ((s.begin t).counted 0).islUp 0 = true ∧ ((s.begin t).counted 0).reaches src .store 0 0x510 = true ∧ ((s.begin t).counted 0).somethingStaged = false)
    ∧ (∃ (src : Src) (t : Nat) (s : State), src ≠ .host ∧ ((s.begin t).counted 0).islUp 0 = true ∧ ((s.begin t).counted 0).reaches src .store 0 0x510 = true ∧ ((s.begin t).counted 0).somethingStaged = true)
    ∧ (∃ (t : Nat) (s : State), (s.begin t).epoch.aborting = true ∧ (s.begin t).abortLeft = 0) :=
  ⟨⟨.coreM, 0, 2, reh, by decide +kernel⟩,
   ⟨.coreM, 76, dirty, by decide +kernel⟩,
   ⟨32000000, pendingAt 2 32000000, by decide +kernel⟩,
   ⟨32000000, (pendingAt 1 0).setIsl 7 2, by decide +kernel⟩,
   ⟨0, { retiring with bank0 := { retiring.bank0 with modes := [(1, [2])] } }, by decide +kernel⟩,
   ⟨.coreM, 0, reh, by decide +kernel⟩,
   ⟨.coreM, 0, { dirty.wr MI.IMG_STAT.STAGED 1 with bank1 := { reh.bank1 with modes := [(1, [2])] } }, by decide +kernel⟩,
   ⟨0, { reh with epoch := { reh.epoch with aborting := true } }, by decide +kernel⟩⟩

theorem witness_TablesAndStoresAreUpdated :
    (∃ (src : Src) (inv : Bool) (e : Nat) (s : State), src ≠ .host ∧ (s.quiet.counted 0).islUp 0 = true ∧ (s.quiet.counted 0).reaches src .store 0 0x598 = true ∧ (let b := s.quiet.counted 0
      (b.isSet MI.TUPD_STAT.PAUSE_RUNNING = true ∧ e = 0x0D
        ∨ b.isSet MI.TUPD_STAT.PAUSE_RUNNING = false ∧ 9 < b.rd MI.TUPD_ADDR.TABLE ∧ e = 5
        ∨ b.isSet MI.TUPD_STAT.PAUSE_RUNNING = false ∧ b.rd MI.TUPD_ADDR.TABLE ≤ 9
          ∧ bitOf (b.rd MI.TBL_MODE.PAUSE) (b.rd MI.TUPD_ADDR.TABLE) = false ∧ b.stageRefusal = e ∧ e ≠ 0
        ∨ b.isSet MI.TUPD_STAT.PAUSE_RUNNING = false ∧ b.rd MI.TUPD_ADDR.TABLE ≤ 9
          ∧ (bitOf (b.rd MI.TBL_MODE.PAUSE) (b.rd MI.TUPD_ADDR.TABLE) = true ∨ b.stageRefusal = 0)
          ∧ b.tupdIndexOk (b.rd MI.TUPD_ADDR.TABLE) (b.rd MI.TUPD_ADDR.INDEX) = false ∧ e = 6)))
    ∧ (∃ (src : Src) (inv : Bool) (k : Bank) (s : State), src ≠ .host ∧ (s.quiet.counted 0).islUp 0 = true ∧ (s.quiet.counted 0).reaches src .store 0 0x598 = true ∧ (let b := s.quiet.counted 0
      b.isSet MI.TUPD_STAT.PAUSE_RUNNING = false ∧ b.rd MI.TUPD_ADDR.TABLE ≤ 9 ∧ bitOf (b.rd MI.TBL_MODE.PAUSE) (b.rd MI.TUPD_ADDR.TABLE) = false ∧ b.stageRefusal = 0 ∧ b.tupdIndexOk (b.rd MI.TUPD_ADDR.TABLE) (b.rd MI.TUPD_ADDR.INDEX) = true ∧ b.applyEntry (b.bank (!b.curBank)) ⟨inv, b.rd MI.TUPD_ADDR.TABLE, b.rd MI.TUPD_ADDR.INDEX, b.tupdRecord⟩ = .ok k))
    ∧ (∃ (src : Src) (inv : Bool) (s : State), src ≠ .host ∧ (s.quiet.counted 0).islUp 0 = true ∧ (s.quiet.counted 0).reaches src .store 0 0x598 = true ∧ (let b := s.quiet.counted 0
      let op : BatchOp := ⟨inv, b.rd MI.TUPD_ADDR.TABLE, b.rd MI.TUPD_ADDR.INDEX, b.tupdRecord⟩
      b.isSet MI.TUPD_STAT.PAUSE_RUNNING = false ∧ op.table ≤ 9 ∧ b.tupdIndexOk op.table op.index = true ∧ bitOf (b.rd MI.TBL_MODE.PAUSE) op.table = true))
    ∧ (∃ (src : Src) (t : Nat) (s : State), src ≠ .host ∧ ((s.begin t).counted 0).islUp 0 = true ∧ ((s.begin t).counted 0).reaches src .store 0 0x598 = true)
    ∧ (∃ (src : Src) (s : State), src ≠ .host ∧ (s.quiet.counted 0).islUp 0 = true ∧ (s.quiet.counted 0).reaches src .store 0 0x598 = true)
    ∧ (∃ (t : Nat) (s : State), (s.begin t).isSet MI.TUPD_STAT.PAUSE_RUNNING = true ∧ (s.begin t).pauseDrained = true ∧ (s.begin t).time < (s.begin t).epoch.pauseAt + 100000)
    ∧ (∃ (x : CtxId) (ecc : Ecc) (t : Nat) (c : Ctx) (s : State), (s.begin t).issues x c ecc ∧ (let b := s.begin t
      let m := microOf (b.fetch x c)
      m.op = 0x11 ∧ phvInRange m.off 16 = true ∧ c.trial = false))
    ∧ (∃ (src : Src) (k : Nat) (s : State), src ≠ .host ∧ k < 2 ∧ (s.quiet.counted (5 + k)).islUp (5 + k) = true ∧ (s.quiet.counted (5 + k)).reaches src .store (5 + k) 0x618 = true)
    ∧ (∃ (src : Src) (k : Nat) (s : State), src ≠ .host ∧ k < 2 ∧ (s.quiet.counted (5 + k)).islUp (5 + k) = true ∧ (s.quiet.counted (5 + k)).reaches src .store (5 + k) 0x618 = true) :=
  ⟨⟨.coreM, true, 6, slot8.wr MI.TUPD_ADDR.INDEX 1, by dsimp only; decide +kernel⟩,
   ⟨.coreM, true, slot8.bank1, slot8, by dsimp only; decide +kernel⟩,
   ⟨.coreM, false, slot8.wr MI.TBL_MODE.PAUSE 0x100, by dsimp only; decide +kernel⟩,
   ⟨.coreM, 9, reh.wrs [(MI.TUPD_PORTS.PORTS 0, 9), (MI.TUPD_PORTS.PORTS 1, 2 ^ 36)], by decide +kernel⟩,
   ⟨.coreM, { reh.wr MI.TUPD_STAT.BATCH_LEN 1 with epoch := { reh.epoch with batch := [⟨true, 8, 0, 0⟩] } }, by decide +kernel⟩,
   ⟨100049, pausing, by decide +kernel⟩,
   ⟨xA, .clean, 0, ctxA, staging (runs (uword 0x11 0 3 0 0 0 0 0 0 0) ctxA), by dsimp only [State.issues]; decide +kernel⟩,
   ⟨.coreM, 1, staging (pipes.wrs [(P.CS_ADDR.ADDR 1, 9), (P.CS_DATA.DATA 1 0, 5), (P.CS_DATA.DATA 1 1, 6)]), by decide +kernel⟩,
   ⟨.coreM, 0, (runs (2 ^ 127 + 5) ctxA).wr (P.CS_ADDR.ADDR 0) 8191, by decide +kernel⟩⟩

theorem witness_ParsingClassifiesFrames :
    (∃ (src seq t code v : Nat) (c : Copy) (r : WalkRec) (s : State), src < 112 ∧ (s.begin t).arrivedHeader src = some seq ∧ ((s.begin t).mac src).copies.find? (fun c => c.seq = seq) = some c ∧ c.stage ≠ 0 ∧ (s.begin t).islUp (5 + pipeOf src) = true ∧ (c.trial = false ∨ c.epoch ≠ none ∨ (s.begin t).somethingStaged = true) ∧ (s.begin t).isAborted src seq = false ∧ walk (((s.begin t).epochBank ((s.begin t).stampFor c)).pipe (pipeOf src)).graph c.bytes (s.begin t).freeVal 24
        (((s.begin t).epochBank ((s.begin t).stampFor c)).pipe (pipeOf src)).graph.start 0 WalkRec.empty = .result code v r ∧ (r.frag = 0 ∨ (s.begin t).slowMode c.ingress = false))
    ∧ (∃ (src seq t code v : Nat) (c : Copy) (r : WalkRec) (s : State), src < 112 ∧ (s.begin t).arrivedHeader src = some seq ∧ ((s.begin t).mac src).copies.find? (fun c => c.seq = seq) = some c ∧ c.stage ≠ 0 ∧ (s.begin t).islUp (5 + pipeOf src) = true ∧ c.trial = false ∧ (s.begin t).isAborted src seq = false ∧ walk (((s.begin t).epochBank ((s.begin t).stampFor c)).pipe (pipeOf src)).graph c.bytes (s.begin t).freeVal 24
        (((s.begin t).epochBank ((s.begin t).stampFor c)).pipe (pipeOf src)).graph.start 0 WalkRec.empty = .result code v r ∧ r.frag ≠ 0 ∧ (s.begin t).slowMode c.ingress = true)
    ∧ (∃ (src seq t node : Nat) (bad : Bool) (c : Copy) (s : State), src < 112 ∧ (s.begin t).arrivedHeader src = some seq ∧ ((s.begin t).mac src).copies.find? (fun c => c.seq = seq) = some c ∧ c.stage ≠ 0 ∧ (s.begin t).islUp (5 + pipeOf src) = true ∧ c.trial = false ∧ (s.begin t).isAborted src seq = false ∧ walk (((s.begin t).epochBank ((s.begin t).stampFor c)).pipe (pipeOf src)).graph c.bytes (s.begin t).freeVal 24
        (((s.begin t).epochBank ((s.begin t).stampFor c)).pipe (pipeOf src)).graph.start 0 WalkRec.empty = .depth node bad)
    ∧ (∃ (src t : Nat) (s : State), (s.begin t).arrivedHeader src = none) :=
  ⟨⟨3, 4, 0, 5, 1, ⟨4, frameOf 64 1, 3, 0, 0, none, false, 1, false⟩, walked (frameOf 64 1), seen (frameOf 64 1), by decide +kernel⟩,
   ⟨3, 4, 0, fragCode.1, fragCode.2, ⟨4, (frameOf 64 1).set 20 0x20, 3, 0, 0, none, false, 1, false⟩, fragWalk, slowFrag, by decide +kernel⟩,
   ⟨3, 4, 0, 0, false, ⟨4, deep, 3, 0, 0, none, false, 1, false⟩, looping, by decide +kernel⟩,
   ⟨4, 0, seen deep, by decide +kernel⟩⟩

theorem witness_TurnstileDispatchesAndFragmentsExpire :
    (∃ (k t : Nat) (gw res : Bool) (x : CtxId) (h : Parsed) (r : Routine) (s : State), k < 2 ∧ (s.begin t).dispatchHeld k = false ∧ (s.begin t).freeCtx k gw = some x ∧ (s.begin t).grantHead k gw = some (h, res) ∧ h.frag = 0 ∧ (s.begin t).routine? k h.epoch ((s.begin t).entryFor h) = some r)
    ∧ (∃ (k t : Nat) (h : Parsed) (s : State), k < 2 ∧ (s.begin t).dispatchHeld k = false ∧ (s.begin t).shedWait k < ((s.begin t).oldestWait k).getD 0 ∧ (s.begin t).shedHead k = some h)
    ∧ (∃ (k t : Nat) (s : State), k < 2 ∧ (s.begin t).dispatchHeld k = false ∧ ((s.begin t).oldestWait k).getD 0 ≤ (s.begin t).shedWait k)
    ∧ (∃ (key : FragKey) (t : Nat) (e : FragEntry) (s : State), (s.begin t).frag? key = some e ∧ e.hitAt + max 1 ((s.begin t).rd SI.FRAG_CFG.AGE_MS) * 1000000 ≤ (s.begin t).now ∧ (s.begin t).fragWaiters key = [])
    ∧ (∃ (key : FragKey) (t : Nat) (e : FragEntry) (s : State), (s.begin t).frag? key = some e ∧ (s.begin t).now < e.hitAt + max 1 ((s.begin t).rd SI.FRAG_CFG.AGE_MS) * 1000000) :=
  ⟨⟨0, 0, false, false, ⟨0, 0, 0⟩, headOf 3 4 5, ⟨7, 300, false, 1⟩, { waiting with pa := { waiting.pa with rrAny := 2 } }, by decide +kernel⟩,
   ⟨0, 65000, headOf 2 4 9, waiting, by decide +kernel⟩,
   ⟨0, 2000, waiting, by decide +kernel⟩,
   ⟨fkey 1, 1000000000000, ⟨fkey 1, none, 5, 0⟩, frags, by decide +kernel⟩,
   ⟨fkey 2, 1000, ⟨fkey 2, none, 6, 1000⟩, frags, by decide +kernel⟩⟩

theorem witness_JugglersMoveComputeAndBranch :
    (∃ (x : CtxId) (ecc : Ecc) (t : Nat) (c c' : Ctx) (cmd : Instr) (s : State), (s.begin t).issues x c ecc ∧ (let m := microOf ((s.begin t).fetch x c)
      let a := c.reg m.ra
      let b := c.operand m
      let alu := fun (v : BitVec 32) (k : Bool) => { c with g := setAt c.g m.rd v, z := v == 0, c := k }
      let w := m.wm1 + 1
      (m.op = 0x01 ∧ cmd = .nop x ecc t ∧ c' = c
        ∨ m.op = 0x02 ∧ cmd = .ldf x ecc t ∧ m.off + (m.boff + w + 7) / 8 ≤ 0x180
          ∧ c' = { c with g := setAt c.g m.rd (BitVec.ofNat 32 (getField c.phv m.off m.boff w)) }
        ∨ m.op = 0x03 ∧ cmd = .stf x ecc t ∧ phvMayWrite m.off ((m.boff + w + 7) / 8) = true
          ∧ c' = { c with phv := putField c.phv m.off m.boff w a.toNat }
        ∨ m.op = 0x04 ∧ cmd = .ldi x ecc t ∧ c' = { c with g := setAt c.g m.rd (BitVec.ofNat 32 m.imm) }
        ∨ m.op = 0x05 ∧ m.sub % 16 = 0 ∧ cmd = .aluAdd x ecc t ∧ c' = alu (a + b) (decide (2 ^ 32 ≤ a.toNat + b.toNat))
        ∨ m.op = 0x05 ∧ m.sub % 16 = 1 ∧ cmd = .aluSubtract x ecc t ∧ c' = alu (a - b) (decide (a.toNat < b.toNat))
        ∨ m.op = 0x05 ∧ m.sub % 16 = 2 ∧ cmd = .aluAnd x ecc t ∧ c' = alu (a &&& b) false
        ∨ m.op = 0x05 ∧ m.sub % 16 = 3 ∧ cmd = .aluOr x ecc t ∧ c' = alu (a ||| b) false
        ∨ m.op = 0x05 ∧ m.sub % 16 = 4 ∧ cmd = .aluXor x ecc t ∧ c' = alu (a ^^^ b) false
        ∨ m.op = 0x05 ∧ m.sub % 16 = 5 ∧ cmd = .aluShiftLeft x ecc t ∧ c' = alu (BitVec.ofNat 32 (a.toNat * 2 ^ b.toNat)) false
        ∨ m.op = 0x05 ∧ m.sub % 16 = 6 ∧ cmd = .aluShiftRight x ecc t ∧ c' = alu (BitVec.ofNat 32 (a.toNat / 2 ^ b.toNat)) false
        ∨ m.op = 0x05 ∧ m.sub % 16 = 7 ∧ cmd = .aluMinimum x ecc t ∧ c' = alu (BitVec.ofNat 32 (min a.toNat b.toNat)) false
        ∨ m.op = 0x05 ∧ m.sub % 16 = 8 ∧ cmd = .aluMaximum x ecc t ∧ c' = alu (BitVec.ofNat 32 (max a.toNat b.toNat)) false
        ∨ m.op = 0x06 ∧ cmd = .cmp x ecc t ∧ c' = { c with z := a == b, c := decide (a.toNat < b.toNat) })))
    ∧ (∃ (x : CtxId) (ecc : Ecc) (t : Nat) (c c' : Ctx) (cmd : Instr) (s : State), (s.begin t).issues x c ecc ∧ (let m := microOf ((s.begin t).fetch x c)
      (m.op = 0x07 ∧ cmd = .jmp x ecc t ∧ c' = { c with pc := m.target }
        ∨ m.op = 0x08 ∧ cmd = .call x ecc t ∧ c.stack.length < 4
          ∧ c' = { c with stack := (c.pc + 1) % 8192 :: c.stack, pc := m.target }
        ∨ m.op = 0x09 ∧ cmd = .ret x ecc t ∧ c.stack ≠ []
          ∧ c' = { c with stack := c.stack.tail, pc := c.stack.headD 0 })))
    ∧ (∃ (x : CtxId) (ecc : Ecc) (t : Nat) (c : Ctx) (cmd : Instr) (s : State), (s.begin t).ctx? x = some c ∧ (s.begin t).mayIssue x c = true ∧ ecc ≠ .uncorrectable ∧ (let m := microOf ((s.begin t).fetch x c)
      m.condListed = true ∧ c.holds m.cond = false ∧ (m.op, cmd) ∈ [(0x01, Instr.nop x ecc t), (0x02, .ldf x ecc t), (0x03, .stf x ecc t), (0x04, .ldi x ecc t),
        (0x06, .cmp x ecc t), (0x07, .jmp x ecc t), (0x08, .call x ecc t), (0x09, .ret x ecc t), (0x0A, .srch x ecc t),
        (0x0B, .swait x ecc t), (0x0D, .ins x ecc t), (0x0E, .del x ecc t), (0x0F, .csum x ecc t), (0x10, .time x ecc t),
        (0x11, .csw x ecc t), (0x12, .fault x ecc t), (0x13, .endRoutine x ecc t)]))
    ∧ (∃ (x : CtxId) (ecc : Ecc) (t code data : Nat) (c : Ctx) (cmd : Instr) (s : State), (s.begin t).ctx? x = some c ∧ (s.begin t).mayIssue x c = true ∧ c.outstanding = [] ∧ c.gw = none ∧ (let m := microOf ((s.begin t).fetch x c)
      (ecc = .uncorrectable ∧ m.op = 0x01 ∧ cmd = .nop x ecc t ∧ code = 0x08 ∧ data = 0
        ∨ ecc ≠ .uncorrectable ∧ m.condListed = false ∧ m.op = 0x01 ∧ cmd = .nop x ecc t ∧ code = 0x01 ∧ data = 0
        ∨ (s.begin t).issues x c ecc ∧ m.op = 0x12 ∧ cmd = .fault x ecc t ∧ code = 0x0B ∧ data = m.imm % 256
        ∨ (s.begin t).issues x c ecc ∧ m.op = 0x08 ∧ cmd = .call x ecc t ∧ 4 ≤ c.stack.length ∧ code = 0x03 ∧ data = 0
        ∨ (s.begin t).issues x c ecc ∧ m.op = 0x09 ∧ cmd = .ret x ecc t ∧ c.stack = [] ∧ code = 0x03 ∧ data = 0
        ∨ ecc ≠ .uncorrectable ∧ (m.op = 0 ∨ 0x14 ≤ m.op ∧ m.op < 0x18 ∨ 0x1C ≤ m.op) ∧ cmd = .illegalOpcode x ecc t
          ∧ code = 0x01 ∧ data = 0))) :=
  ⟨⟨xA, .clean, 0, ctxA, ctxA, .nop xA .clean 0, runs (uword 1 0 0 0 0 0 0 0 0 0) ctxA, by dsimp only [State.issues]; decide +kernel⟩,
   ⟨xA, .clean, 0, { ctxA with stack := [1, 2, 3] }, { ctxA with stack := [0, 1, 2, 3], pc := 17 }, .call xA .clean 0, runs (uword 8 0 0 0 0 0 0 0 17 0) { ctxA with stack := [1, 2, 3] }, by dsimp only [State.issues]; decide +kernel⟩,
   ⟨xA, .clean, 0, ctxA, .fault xA .clean 0, runs (uword 0x12 0 0 0 0 0 0 0 0 0 + 2 ^ 118) ctxA, by dsimp only; decide +kernel⟩,
   ⟨xA, .clean, 0, 0x0B, 255, ctxA, .fault xA .clean 0, runs (uword 0x12 0 0 0 0 0 0 0 0 0x1FF) ctxA, by dsimp only [State.issues]; decide +kernel⟩⟩

theorem witness_JugglerRewritesFrames :
    (∃ (x : CtxId) (ecc : Ecc) (t : Nat) (c c' : Ctx) (cmd : Instr) (s : State), (s.begin t).issues x c ecc ∧ (let m := microOf ((s.begin t).fetch x c)
      (m.op = 0x0C ∧ m.sub % 2 = 1 ∧ cmd = .actFromImm x ecc t ∧ actBad m.imm = false
          ∧ c' = { c with phv := patchAt c.phv 0xE0 (beBytes 8 (mergeAct c.acc m.imm)),
                          copyIndex := if actCopy m.imm then 0xFFFF else c.copyIndex,
                          mirrorIndex := if actMirror m.imm then 0xFFFF else c.mirrorIndex }
        ∨ m.op = 0x0C ∧ m.sub % 2 = 0 ∧ cmd = .actFromSlot x ecc t ∧ c.slotStatus m.slot = 1
          ∧ actBad (c.slotAction m.slot) = false
          ∧ c' = { c with phv := patchAt c.phv 0xE0 (beBytes 8 (mergeAct c.acc (c.slotAction m.slot))),
                          copyIndex := if actCopy (c.slotAction m.slot) then c.slotIndex m.slot else c.copyIndex,
                          mirrorIndex := if actMirror (c.slotAction m.slot) then c.slotIndex m.slot else c.mirrorIndex }
        ∨ m.op = 0x0C ∧ m.sub % 2 = 0 ∧ cmd = .actFromSlot x ecc t ∧ c.slotStatus m.slot ≠ 1 ∧ c' = c
        ∨ m.op = 0x0F ∧ cmd = .csum x ecc t ∧ phvMayWrite m.off 2 = true
          ∧ c' = { c with phv := patchAt c.phv m.off (beBytes 2 (csumUpdate (beNat (sliceAt c.phv m.off 2))
              ((c.reg m.ra).toNat % 65536) ((c.reg m.rb).toNat % 65536))) }
        ∨ m.op = 0x10 ∧ cmd = .time x ecc t ∧ phvMayWrite m.off 8 = true
          ∧ c' = { c with phv := patchAt c.phv m.off (beBytes 8 (s.begin t).time) })))
    ∧ (∃ (x : CtxId) (ecc : Ecc) (t : Nat) (c : Ctx) (s : State), (s.begin t).issues x c ecc ∧ c.phv.length = 0x180 ∧ (let m := microOf ((s.begin t).fetch x c)
      let n := m.imm % 64
      m.op = 0x0D ∧ 1 ≤ n ∧ n ≤ 32 ∧ m.off ≤ c.emit ∧ c.emit + n ≤ 160))
    ∧ (∃ (x : CtxId) (ecc : Ecc) (t : Nat) (c : Ctx) (s : State), (s.begin t).issues x c ecc ∧ c.phv.length = 0x180 ∧ (let m := microOf ((s.begin t).fetch x c)
      let n := m.imm % 64
      m.op = 0x0E ∧ 1 ≤ n ∧ n ≤ 32 ∧ m.off + n ≤ c.emit ∧ c.emit ≤ 160)) :=
  ⟨⟨xA, .clean, 9, ctxA, { ctxA with phv := patchAt ctxA.phv 8 (beBytes 8 9) }, .time xA .clean 9, runs (uword 0x10 0 0 0 8 0 0 0 0 0) ctxA, by dsimp only [State.issues]; decide +kernel⟩,
   ⟨xA, .clean, 9, ctxA, runs (uword 0x0D 0 0 0 12 0 0 0 0 32) ctxA, by dsimp only [State.issues]; decide +kernel⟩,
   ⟨xA, .clean, 9, ctxA, runs (uword 0x0E 0 0 0 12 0 0 0 0 32) ctxA, by dsimp only [State.issues]; decide +kernel⟩⟩

theorem witness_JugglerSearches :
    (∃ (x : CtxId) (ecc : Ecc) (t : Nat) (c : Ctx) (s : State), (s.begin t).issues x c ecc ∧ (let b := s.begin t
      let m := microOf (b.fetch x c)
      m.op = 0x0A ∧ m.sub ≤ 9 ∧ c.outstanding.all (fun o => o.1 != m.slot) = true ∧ phvInRange m.off (b.keyLen m.sub) = true))
    ∧ (∃ (x : CtxId) (ecc : Ecc) (t : Nat) (c : Ctx) (s : State), (s.begin t).issues x c ecc ∧ (let m := microOf ((s.begin t).fetch x c)
      m.op = 0x0B ∧ m.slot ∈ c.issuedSlots ∧ c.slotStatus m.slot = 0xFF))
    ∧ (∃ (x : CtxId) (ecc : Ecc) (t : Nat) (c : Ctx) (s : State), (s.begin t).issues x c ecc ∧ (let m := microOf ((s.begin t).fetch x c)
      m.op = 0x0B ∧ m.slot ∈ c.issuedSlots ∧ c.slotStatus m.slot ≠ 0xFF ∧ c.slotStatus m.slot ≠ 2))
    ∧ (∃ (x : CtxId) (ecc : Ecc) (t : Nat) (c : Ctx) (s : State), (s.begin t).issues x c ecc ∧ c.outstanding = [] ∧ c.gw = none ∧ (let m := microOf ((s.begin t).fetch x c)
      m.op = 0x0B ∧ m.slot ∈ c.issuedSlots ∧ c.slotStatus m.slot = 2))
    ∧ (∃ (id t st a i l : Nat) (r : SearchReq) (c : Ctx) (s : State), (s.begin t).si.reqs.find? (fun r => r.id = id) = some r ∧ r.result = some (st, a, i, l) ∧ (s.begin t).ctx? r.ctx = some c ∧ c.done = false ∧ c.swait ≠ some r.slot) :=
  ⟨⟨xA, .clean, 0, ctxA, runs (uword 0x0A 3 0 0 0 0 0 8 0 0) ctxA, by dsimp only [State.issues]; decide +kernel⟩,
   ⟨xA, .clean, 0, unslotted, runs (uword 0x0B 3 0 0 0 0 0 8 0 0) unslotted, by dsimp only [State.issues]; decide +kernel⟩,
   ⟨xA, .clean, 0, slotted, runs (uword 0x0B 3 0 0 0 0 0 8 0 0) slotted, by dsimp only [State.issues]; decide +kernel⟩,
   ⟨xA, .clean, 0, slotted.setSlot 3 2 1 2 3, runs (uword 0x0B 3 0 0 0 0 0 8 0 0) (slotted.setSlot 3 2 1 2 3), by dsimp only [State.issues]; decide +kernel⟩,
   ⟨7, 0, 1, 5, 6, 2, asked 8 (some (1, 5, 6, 2)), { unslotted with outstanding := [(3, 7), (1, 8)] }, answered, by decide +kernel⟩⟩

theorem witness_RoutinesEndAndForward :
    (∃ (x : CtxId) (ecc : Ecc) (t e : Nat) (c : Ctx) (p : Parsed) (k : Composed) (h : Copy) (s : State), (s.begin t).issues x c ecc ∧ (microOf ((s.begin t).fetch x c)).op = 0x13 ∧ c.packet = some p ∧ c.outstanding = [] ∧ c.gw = none ∧ p.trial = false ∧ p.frag = 0 ∧ (s.begin t).compose x c p = .ok k ∧ k.egress = some e ∧ actCopy k.acc = false ∧ actMirror k.acc = false ∧ ((s.begin t).mac p.source).copies = [h] ∧ h.seq = p.seq ∧ h.passed = false ∧ ((s.begin t).mac p.source).committed ≤ p.seq ∧ ((s.begin t).pipe x.pipe).ended.all (fun g => g.source != p.source) = true ∧ (s.begin t).canSend (admitChan x.pipe) = false)
    ∧ (∃ (x : CtxId) (c : Ctx) (p : Parsed) (s : State), p.bytes.length ≤ portMax (actPort (s.endAction x c)) ∧ c.emit ≤ c.cut ∧ actFwd (s.endAction x c) = true ∧ actDrop (s.endAction x c) = false ∧ actPort (s.endAction x c) ≤ 100)
    ∧ (∃ (x : CtxId) (ecc : Ecc) (t : Nat) (c : Ctx) (p : Parsed) (k : Composed) (h : Copy) (s : State), (s.begin t).issues x c ecc ∧ (microOf ((s.begin t).fetch x c)).op = 0x13 ∧ c.packet = some p ∧ c.outstanding = [] ∧ c.gw = none ∧ p.trial = false ∧ p.frag = 0 ∧ (s.begin t).compose x c p = .ok k ∧ k.egress = none ∧ actCopy k.acc = false ∧ actMirror k.acc = false ∧ ((s.begin t).mac p.source).copies = [h] ∧ h.seq = p.seq ∧ h.passed = false ∧ ((s.begin t).mac p.source).committed ≤ p.seq ∧ (s.begin t).isl? (portIsl p.source) ≠ 2 ∧ ((s.begin t).pipe x.pipe).ended.all (fun g => g.source != p.source) = true)
    ∧ (∃ (x : CtxId) (t : Nat) (c : Ctx) (s : State), (s.begin t).ctx? x = some c ∧ x.pipe < 2 ∧ x.jug < 16 ∧ x.ctx < 4 ∧ c.done = false ∧ c.swait = none ∧ c.waitFrag = none ∧ c.budget ≤ c.issued ∧ (s.begin t).islUp (5 + x.pipe) = true ∧ c.outstanding = [] ∧ c.gw = none) :=
  ⟨⟨xA, .clean, 0, 100, forwards 100, headOf 3 4 5, composedOf (forwards 100), ⟨4, frameOf 64 1, 3, 0, 0, some 0, false, 4, false⟩, noCredit (runs (uword 0x13 3 0 0 0 0 0 8 0 0) (forwards 100)), by dsimp only [State.issues]; decide +kernel⟩,
   ⟨xA, forwards 100, headOf 3 4 5, runs 0 ctxA, by decide +kernel⟩,
   ⟨xA, .clean, 0, ctxA.setAcc (2 ^ 63), headOf 3 4 5, composedOf (ctxA.setAcc (2 ^ 63)), ⟨4, frameOf 64 1, 3, 0, 0, some 0, false, 4, false⟩, noCredit (runs (uword 0x13 3 0 0 0 0 0 8 0 0) (ctxA.setAcc (2 ^ 63))), by dsimp only [State.issues]; decide +kernel⟩,
   ⟨xA, 0, { ctxA with issued := 300 }, runs 0 { ctxA with issued := 300 }, by decide +kernel⟩⟩

theorem witness_SearchesAndProbesAnswer :
    (∃ (id t : Nat) (r : SearchReq) (s : State), (s.begin t).si.reqs.find? (fun r => r.id = id) = some r ∧ (s.begin t).islRuns 7 = true ∧ ((s.begin t).chan (searchChan r.ctx.pipe)).arrived.contains (.search id) = true ∧ r.table < 8 ∧ (s.begin t).isCascade r.table = false)
    ∧ (∃ (id t : Nat) (r : SearchReq) (s : State), (s.begin t).si.reqs.find? (fun r => r.id = id) = some r ∧ (s.begin t).islRuns 7 = true ∧ ((s.begin t).chan (searchChan r.ctx.pipe)).arrived.contains (.search id) = true ∧ r.table < 8 ∧ (s.begin t).isCascade r.table = true ∧ (s.begin t).casUp = true)
    ∧ (∃ (id t : Nat) (r : SearchReq) (s : State), (s.begin t).si.reqs.find? (fun r => r.id = id) = some r ∧ (s.begin t).islRuns 7 = true ∧ ((s.begin t).chan (searchChan r.ctx.pipe)).arrived.contains (.search id) = true ∧ 8 ≤ r.table ∧ (s.begin t).isSet SI.HASH_CFG.LEARN_EN = false ∧ (((s.begin t).epochBank r.epoch).hash (r.table == 8)).readsOverflow (r.table == 8) (hashKey (r.table == 8) r.key) = false)
    ∧ (∃ (id t : Nat) (r : SearchReq) (s : State), (s.begin t).si.reqs.find? (fun r => r.id = id) = some r ∧ (s.begin t).islRuns 7 = true ∧ ((s.begin t).chan (searchChan r.ctx.pipe)).arrived.contains (.search id) = true ∧ 8 ≤ r.table ∧ (s.begin t).islRuns 9 = true ∧ (((s.begin t).epochBank r.epoch).hash (r.table == 8)).readsOverflow (r.table == 8) (hashKey (r.table == 8) r.key) = true)
    ∧ (∃ (vm t : Nat) (s : State), (s.begin t).rd SI.HASH_CFG.AGE_S ≠ 0 ∧ ((s.begin t).bank (s.begin t).curBank).bridge.entries.any (fun e => decide (e.key = bridgeKey (beBytes 8 vm)
        ∧ e.learned = true ∧ e.hitAt + (s.begin t).rd SI.HASH_CFG.AGE_S * 1000000000 ≤ (s.begin t).now)) = true)
    ∧ (∃ (vm t : Nat) (s : State), (s.begin t).rd SI.HASH_CFG.AGE_S = 0)
    ∧ (∃ (src : Src) (p seq bk tb t : Nat) (s : State), p < 2 ∧ (src = .host ↔ p = 1) ∧ ((s.begin t).counted 7).islUp 7 = true ∧ ((s.begin t).counted 7).reaches src .store 7 (0x428 + 0x80 * p) = true ∧ ((s.begin t).counted 7).isCascade (tb % 16) = false)
    ∧ (∃ (src : Src) (p seq bk tb t : Nat) (s : State), p < 2 ∧ (¬ (src = .host ↔ p = 1)) ∧ (s.begin t).islUp 7 = true ∧ (s.begin t).reaches src .store 7 (0x428 + 0x80 * p) = true)
    ∧ (∃ (p t : Nat) (q : Probe) (s : State), p < 2 ∧ (s.begin t).probe? p = some q ∧ (s.begin t).islRuns 7 = true ∧ (q.result.isSome = true ∨ (s.begin t).isCascade q.table = false ∧ q.asked = none)) :=
  ⟨⟨7, 0, asked 7 none, searching (asked 7 none) tcams, by decide +kernel⟩,
   ⟨7, 0, asked 7 none, searching (asked 7 none) ((member 3 2).wr (SI.SLICE_CFG.MODE 7) 1), by decide +kernel⟩,
   ⟨7, 0, askedKey, searching askedKey (hashed false), by decide +kernel⟩,
   ⟨7, 0, askedKey, searching askedKey (hashed true), by decide +kernel⟩,
   ⟨0x0005010101010101, 2000000000005, (hashed false).wr SI.HASH_CFG.AGE_S 300, by decide +kernel⟩,
   ⟨0x0005010101010101, 2000000000005, (hashed false).wr SI.HASH_CFG.AGE_S 0, by decide +kernel⟩,
   ⟨.host, 1, 0x12345, 3, 0x17, 0, tcams, by decide +kernel⟩,
   ⟨.host, 0, 5, 0, 0, 0, tcams, by decide +kernel⟩,
   ⟨1, 0, aProbe 1 7 (List.replicate 10 1) none, probing (aProbe 1 7 (List.replicate 10 1) none) tcams, by decide +kernel⟩⟩

theorem witness_CascadeTrainsFallsAndAnswers :
    (∃ (t : Nat) (s : State), (s.begin t).islRuns 7 = true ∧ 1 < (s.begin t).casCount ∧ (s.begin t).isSet (UI.PORT_STAT.LINK 2) = true ∧ ((s.begin t).rd SI.CAS_STAT.STATE = 0 ∨ (s.begin t).rd SI.CAS_STAT.STATE = 1
        ∧ (s.begin t).si.helloAt + 1000000 ≤ (s.begin t).now + 1))
    ∧ (∃ (t : Nat) (w : List CodeBlock) (m : CasMsg) (s : State), (s.begin t).islRuns 7 = true ∧ casMessage w = some m ∧ m.kind = 4 ∧ m.origin = (s.begin t).casPos)
    ∧ (∃ (t : Nat) (s : State), (s.begin t).islRuns 7 = true ∧ (s.begin t).rd SI.CAS_STAT.STATE = 1 ∧ 1 ≤ (s.begin t).casPos)
    ∧ (∃ (t : Nat) (w : List CodeBlock) (m : CasMsg) (s : State), (s.begin t).islRuns 7 = true ∧ casMessage w = some m ∧ m.kind = 5 ∧ (s.begin t).casPos = 0 ∧ (s.begin t).rd SI.CAS_STAT.STATE = 1)
    ∧ (∃ (t : Nat) (w : List CodeBlock) (m : CasMsg) (s : State), (s.begin t).islRuns 7 = true ∧ casMessage w = some m ∧ m.kind = 6 ∧ (s.begin t).rd SI.CAS_STAT.STATE = 1)
    ∧ (∃ (t : Nat) (w : List CodeBlock) (m : CasMsg) (s : State), (s.begin t).islRuns 7 = true ∧ casMessage w = some m ∧ m.kind = 7 ∧ ((s.begin t).rd SI.CAS_STAT.STATE = 1 ∨ (s.begin t).rd SI.CAS_STAT.STATE = 2))
    ∧ (∃ (src : Src) (t : Nat) (s : State), src ≠ .host ∧ ((s.begin t).counted 7).islUp 7 = true ∧ ((s.begin t).counted 7).reaches src .store 7 0x58 = true ∧ (((s.begin t).counted 7).rd SI.CAS_STAT.STATE = 1 ∨ ((s.begin t).counted 7).rd SI.CAS_STAT.STATE = 2))
    ∧ (∃ (t k lane : Nat) (w : List CodeBlock) (c : Instr) (s : State), (s.begin t).islRuns 7 = true ∧ (k, c) ∈ ([(1, .casReqRx lane w t), (2, .casResultRx lane w t), (3, .casMissRx lane w t), (4, .casHelloRx lane w t),
        (5, .casReadyRx lane w t), (6, .casUpRx lane w t), (7, .casDownRx lane w t)] : List (Nat × Instr)))
    ∧ (∃ (t : Nat) (w : List CodeBlock) (m : CasMsg) (s : State), (s.begin t).islRuns 7 = true ∧ casMessage w = some m ∧ m.kind = 1 ∧ m.origin ≠ (s.begin t).casPos ∧ (s.begin t).casUp = true ∧ (s.begin t).slotNow < nearSlot (s.begin t).slotNow m.execSlot)
    ∧ (∃ (t : Nat) (w : List CodeBlock) (m : CasMsg) (s : State), (s.begin t).islRuns 7 = true ∧ casMessage w = some m ∧ m.kind = 1 ∧ m.origin ≠ (s.begin t).casPos ∧ nearSlot (s.begin t).slotNow m.execSlot ≤ (s.begin t).slotNow)
    ∧ (∃ (t : Nat) (w : List CodeBlock) (m : CasMsg) (c : Instr) (s : State), (s.begin t).islRuns 7 = true ∧ casMessage w = some m ∧ m.origin ≠ (s.begin t).casPos ∧ (c = .casResultRx 1 w t ∧ m.kind = 2 ∨ c = .casMissRx 1 w t ∧ m.kind = 3))
    ∧ (∃ (t : Nat) (w : List CodeBlock) (m : CasMsg) (c : Instr) (o : Option (Nat × Nat)) (x : CasSearch) (s : State), (s.begin t).islRuns 7 = true ∧ casMessage w = some m ∧ m.origin = (s.begin t).casPos ∧ (s.begin t).casFind (s.begin t).casPos m.tag = some x ∧ (c = .casResultRx 1 w t ∧ m.kind = 2 ∧ o = some (m.action, m.index) ∨ c = .casMissRx 1 w t ∧ m.kind = 3 ∧ o = none))
    ∧ (∃ (t : Nat) (w : List CodeBlock) (m : CasMsg) (x : CasSearch) (s : State), (s.begin t).islRuns 7 = true ∧ casMessage w = some m ∧ m.kind = 1 ∧ m.origin = (s.begin t).casPos ∧ (s.begin t).casFind (s.begin t).casPos m.tag = some x)
    ∧ (∃ (origin tag t : Nat) (low : Bool) (x : CasSearch) (s : State), (s.begin t).islRuns 7 = true ∧ (s.begin t).casFind origin tag = some x ∧ x.executed = false ∧ x.execSlot + (s.begin t).casPos ≤ (s.begin t).slotNow)
    ∧ (∃ (origin tag t : Nat) (low : Bool) (x : CasSearch) (s : State), (s.begin t).casFind origin tag = some x ∧ (s.begin t).slotNow < x.execSlot + (s.begin t).casPos)
    ∧ (∃ (tag t : Nat) (x : CasSearch) (s : State), (s.begin t).islRuns 7 = true ∧ (s.begin t).casFind (s.begin t).casPos tag = some x ∧ x.issueSlot + 96 ≤ (s.begin t).slotNow) :=
  ⟨⟨0, member 3 0, by decide +kernel⟩,
   ⟨0, rx (msg 4 3), msg 4 3, member 3 1, by decide +kernel⟩,
   ⟨0, member 3 1, by decide +kernel⟩,
   ⟨0, rx (msg 5 3), msg 5 3, { member 0 1 with si := { tcams.si with ready := 6 } }, by decide +kernel⟩,
   ⟨0, rx (msg 6 0), msg 6 0, member 3 1, by decide +kernel⟩,
   ⟨0, rx (msg 7 0), msg 7 0, member 3 2, by decide +kernel⟩,
   ⟨.coreM, 0, member 3 1, by decide +kernel⟩,
   ⟨0, 6, 0, bad, .casUpRx 0 bad 0, member 3 2, by decide +kernel⟩,
   ⟨0, rx (msg 1 0), msg 1 0, member 3 2, by decide +kernel⟩,
   ⟨320, rx (msg 1 0), msg 1 0, member 3 2, by decide +kernel⟩,
   ⟨0, rx (msg 2 0), msg 2 0, .casResultRx 1 (rx (msg 2 0)) 0, member 3 2, by decide +kernel⟩,
   ⟨0, rx (msg 2 3), msg 2 3, .casResultRx 1 (rx (msg 2 3)) 0, some (77, 9), cas 3 none, casing 3 (cas 3 none), by decide +kernel⟩,
   ⟨0, rx (msgAll 1 3), msgAll 1 3, casAll 3 (some none), casing 3 (casAll 3 (some none)), by decide +kernel⟩,
   ⟨0, 5, 280, true, cas 0 none, casing 3 (cas 0 none), by decide +kernel⟩,
   ⟨0, 5, 279, false, cas 0 (some (1, 2)), casing 3 (cas 0 (some (1, 2))), by decide +kernel⟩,
   ⟨5, 768, cas 3 none, casing 3 (cas 3 none), by decide +kernel⟩⟩

theorem witness_BufferAdmissionFollowsItsLimits :
    (∃ (k t : Nat) (d : Desc) (s : State), k < 2 ∧ (s.begin t).turnOf k = true ∧ (s.begin t).islRuns 8 = true ∧ (s.begin t).arrivedAdmit k = some d ∧ 96 ≤ d.port ∧ d.port < 102 ∧ d.queue < 8 ∧ (d.copy = true ∨ 100 < d.ingress) ∧ d.commits = none ∧ (s.begin t).decide' d = .ok .head)
    ∧ (∃ (k t : Nat) (d : Desc) (r : DropReason) (s : State), k < 2 ∧ (s.begin t).turnOf k = true ∧ (s.begin t).islRuns 8 = true ∧ (s.begin t).arrivedAdmit k = some d ∧ d.port < 102 ∧ d.queue < 8 ∧ d.commits = none ∧ (s.begin t).decide' d = .error r)
    ∧ (∃ (k t src seq : Nat) (d : Desc) (r : DropReason) (s : State), k < 2 ∧ (s.begin t).turnOf k = true ∧ (s.begin t).islRuns 8 = true ∧ (s.begin t).arrivedAdmit k = some d ∧ d.port < 102 ∧ d.queue < 8 ∧ d.commits = some (src, seq) ∧ (s.begin t).abortDrops d = false ∧ (s.begin t).decide' d = .error r ∧ (((s.begin t).take (admitChan k) (.admission d)).moreToCome k (src, seq)) = false ∧ (s.begin t).isl? (portIsl src) ≠ 2)
    ∧ (∃ (k t i : Nat) (d : Desc) (s : State), k < 2 ∧ (s.begin t).turnOf k = true ∧ (s.begin t).islRuns 8 = true ∧ (s.begin t).arrivedAdmit k = some d ∧ 96 ≤ d.port ∧ d.port < 102 ∧ d.queue < 8 ∧ (d.copy = true ∨ 100 < d.ingress) ∧ d.commits = none ∧ spillOf d.q = some i)
    ∧ (∃ (k t : Nat) (d : Desc) (s : State), k < 2 ∧ (s.begin t).turnOf k = true ∧ (s.begin t).islRuns 8 = true ∧ (s.begin t).arrivedAdmit k = some d ∧ (s.begin t).abortDrops d = true)
    ∧ (∃ (k t : Nat) (s : State), ((s.begin t).arrivedAdmit k = none ∨ (s.begin t).turnOf k = false))
    ∧ (∃ (s : State) (d : Desc), (d.port ≤ 100 ∧ (s.portOn d.port = false ∨ (d.queue = 7 ∧ s.mode ≠ 2) ∨ s.linkFlushes d.port = true)))
    ∧ (∃ (s : State) (d : Desc), d.colour < 3 ∧ s.portClosed d = false ∧ spillOf d.q = none) :=
  ⟨⟨0, 0, fr 96 2 200, admits (fr 96 2 200), by decide +kernel⟩,
   ⟨0, 0, fr 3 7 100, .portDisabled, admits (fr 3 7 100), by decide +kernel⟩,
   ⟨0, 0, 3, 4, lastFrame, .colourDrop, commits, by decide +kernel⟩,
   ⟨0, 0, 0, fr 98 0 200, spills 1 0, by decide +kernel⟩,
   ⟨0, 0, lastFrame, { commits with epoch := { commits.epoch with aborting := true, aborted := [(3, 4)] } }, by decide +kernel⟩,
   ⟨1, 0, admits (fr 96 1 100), by decide +kernel⟩,
   ⟨State.reset, fr 0 7 100, by decide +kernel⟩,
   ⟨pool, fr 96 1 100, by decide +kernel⟩⟩

theorem witness_SpilledFramesGoAndComeBack :
    (∃ (i t : Nat) (e : Spilled) (a r : List Spilled) (s : State), i < 24 ∧ (s.begin t).islRuns 8 = true ∧ (s.begin t).islRuns 9 = true ∧ ((s.begin t).bq (spillQueue i)).dram = a ++ e :: r ∧ (∀ x ∈ a, x.acked = true) ∧ e.acked = false ∧ (s.begin t).dramWaiting (.spillWr i) + (s.begin t).spillsUnderWay i
          + (((a ++ e :: r).filter fun x => !x.asked).map fun x => x.desc.cells).sum
        ≤ ((r.filter fun x => !x.acked).map fun x => x.desc.cells).sum)
    ∧ (∃ (i t : Nat) (e : Spilled) (r : List Spilled) (s : State), i < 24 ∧ (s.begin t).islRuns 8 = true ∧ (s.begin t).islRuns 9 = true ∧ ((s.begin t).bq (spillQueue i)).dram = e :: r ∧ e.acked = true ∧ e.reading = false ∧ (s.begin t).rd (BI.Q_OCC.CELLS (spillQueue i)) + (s.begin t).rd (BI.SPILL_STAT.RB i)
        < (s.begin t).rd (BI.SPILL_CTL.OFF i) ∧ (s.begin t).rd BI.BUF_STAT.RESERVE_USED + e.desc.cells ≤ 512 ∧ roundRobin 24 (s.begin t).bi.spillRr (s.begin t).readable = some i)
    ∧ (∃ (i t : Nat) (s : State), i < 24 ∧ roundRobin 24 (s.begin t).bi.spillRr (s.begin t).readable ≠ some i)
    ∧ (∃ (i t : Nat) (e : Spilled) (r : List Spilled) (s : State), i < 24 ∧ (s.begin t).islRuns 8 = true ∧ ((s.begin t).bq (spillQueue i)).dram = e :: r ∧ e.reading = true ∧ (s.begin t).dramWaiting (.spillRd i) = 0 ∧ (s.begin t).di.spillBad.contains i = false)
    ∧ (∃ (i t : Nat) (e : Spilled) (r : List Spilled) (s : State), i < 24 ∧ (s.begin t).islRuns 8 = true ∧ ((s.begin t).bq (spillQueue i)).dram = e :: r ∧ e.reading = true ∧ (s.begin t).dramWaiting (.spillRd i) = 0 ∧ (s.begin t).di.spillBad.contains i = true) :=
  ⟨⟨0, 0, sp 200 true false false, [sp 90 true true false], [sp 300 true false false], spilled [sp 90 true true false, sp 200 true false false, sp 300 true false false] [], by decide +kernel⟩,
   ⟨0, 0, sp 200 true true false, [sp 300 true false false], mib (spilled [sp 200 true true false, sp 300 true false false] []), by decide +kernel⟩,
   ⟨1, 0, mib (spilled [sp 200 true true false] []), by decide +kernel⟩,
   ⟨0, 0, sp 200 true true true, [], spilled [sp 200 true true true] [fr 98 0 100, fr 98 0 64], by decide +kernel⟩,
   ⟨0, 0, sp 200 true true true, [], badly (spilled [sp 200 true true true] [fr 98 0 100, fr 98 0 64]), by decide +kernel⟩⟩

theorem witness_CarouselServesByPriority :
    (∃ (p v t : Nat) (d : Desc) (r : List Desc) (s : State), p < 101 ∧ (s.begin t).islRuns 8 = true ∧ (s.begin t).canSend (egressChan p) = true ∧ ((s.begin t).bq (8 * p + v)).head = d :: r ∧ (v = 7 ∧ (s.begin t).serves7 p = true
        ∨ v = 6 ∧ (s.begin t).serves6 p = true ∧ ((s.begin t).serves7 p = false ∨ ((s.begin t).bq (8 * p + 7)).head = [])
        ∨ v < 6 ∧ (s.begin t).portEligible p = true
          ∧ ((s.begin t).serves7 p = false ∨ ((s.begin t).bq (8 * p + 7)).head = [])
          ∧ ((s.begin t).serves6 p = false ∨ ((s.begin t).bq (8 * p + 6)).head = [])
          ∧ (if (s.begin t).anyAt p 0 then (s.begin t).dwrr p 0 dwrrFuel else (s.begin t).dwrr p 1 dwrrFuel).1 = some v
          ∧ ((s.begin t).anyAt p 0 = true ∨ (s.begin t).anyAt p 1 = true)))
    ∧ (∃ (p t : Nat) (s : State), ((s.begin t).islRuns 8 = false ∨ (s.begin t).portTakes p = false
        ∨ ∀ v, v < 8 → ((s.begin t).bq (8 * p + v)).head = [])) :=
  ⟨⟨3, 6, 0, fr 3 6 100, [fr 3 6 70], queued 3 [(6, fr 3 6 100), (6, fr 3 6 70), (2, fr 3 2 100), (7, fr 3 7 100)], by decide +kernel⟩,
   ⟨3, 0, pool.setChan (egressChan 3) ⟨2, [], [], 0⟩, by decide +kernel⟩⟩

theorem witness_WindowsAndShapersOpenAndFill :
    (∃ (p t o c : Nat) (s : State), (s.begin t).portWindow p (s.begin t).time = some (o, c))
    ∧ (∃ (p t : Nat) (s : State), p < 102 ∧ (s.begin t).isSet (BI.CAR_PORT.WIN_OPEN p) = true ∧ ((s.begin t).car p).closeAt ≤ (s.begin t).time)
    ∧ (∃ (src : Src) (h rate : Nat) (e f : Bool) (s : State), src ≠ .host ∧ (s.quiet.counted 8).islUp 8 = true ∧ h < (if e then 816 else 918) ∧ (s.quiet.counted 8).reaches src .store 8 ((if e then 0x3A000 else 0x36000) + 8 * h) = true)
    ∧ (∃ (src : Src) (h burst : Nat) (e : Bool) (s : State), src ≠ .host ∧ (s.quiet.counted 8).islUp 8 = true ∧ h < (if e then 816 else 918) ∧ (s.quiet.counted 8).reaches src .store 8 ((if e then 0x3C000 else 0x38000) + 8 * h) = true)
    ∧ (∃ (t h : Nat) (w : Shaper) (s : State), (s.begin t).islRuns 8 = true ∧ nsorted (s.begin t).bi.shapers = true ∧ (s.begin t).bi.shapers.all (fun e => decide (e.1 < 918)) = true ∧ nget (s.begin t).bi.shapers h = some w) :=
  ⟨⟨3, 5000, 7000, 27000, perfOf 7000 20000, by decide +kernel⟩,
   ⟨99, 27000, opened 99 [fr 99 7 100] false, by decide +kernel⟩,
   ⟨.coreM, 917, 3125001, false, true, up, by decide +kernel⟩,
   ⟨.coreM, 815, 5, true, up, by decide +kernel⟩,
   ⟨0, 5, ⟨600, 3, true, false, true, false, true⟩, shaped [(4, Shaper.fresh), (5, ⟨600, 3, true, false, true, false, true⟩), (917, ⟨600, 3, false, false, true, false, true⟩)], by decide +kernel⟩⟩

theorem witness_MacsSendAndConfirm :
    (∃ (p t : Nat) (d : Desc) (r : List Desc) (sched : Bool) (s : State), (s.begin t).macFree p (s.begin t).time = true ∧ (s.begin t).isSet (TI.TS_CFG.PTP_EN p) = false ∧ (sched = true ∧ ((s.begin t).mac p).sched = d :: r ∧ (s.begin t).isSet (BI.CAR_PORT.WIN_OPEN p) = true
          ∧ (s.begin t).fitsWindow p (s.begin t).time d = true
        ∨ sched = false ∧ ((s.begin t).mac p).ordin = d :: r ∧ (s.begin t).laneClosed p (s.begin t).time = false
          ∧ (((s.begin t).mac p).sched = [] ∨ (s.begin t).isSet (BI.CAR_PORT.WIN_OPEN p) = false)))
    ∧ (∃ (p t : Nat) (d : Desc) (r : List Desc) (s : State), (s.begin t).macFree p (s.begin t).time = true ∧ ((s.begin t).mac p).sched = d :: r ∧ (s.begin t).isSet (BI.CAR_PORT.WIN_OPEN p) = true ∧ (s.begin t).fitsWindow p (s.begin t).time d = false ∧ ((s.begin t).car p).deferred = false)
    ∧ (∃ (p t : Nat) (w : OnWire) (s : State), ((s.begin t).mac p).wire = some w ∧ w.endAt ≤ (s.begin t).time ∧ isEthPort p = true ∧ w.desc.port < 102 ∧ w.desc.queue < 8) :=
  ⟨⟨99, 26000, fr 99 7 64, [], true, opened 99 [fr 99 7 64] false, by decide +kernel⟩,
   ⟨99, 26990, fr 99 7 64, [], opened 99 [fr 99 7 64] false, by decide +kernel⟩,
   ⟨95, 100, ⟨fr 95 2 20, 5, 100⟩, onWire 95 (fr 95 2 20), by decide +kernel⟩⟩

theorem witness_SideshowRingsTakeAndGive :
    (∃ (ring t : Nat) (d : Desc) (m : SideMeta) (rest : List Desc) (s : State), ring < 8 ∧ (s.begin t).islRuns 8 = true ∧ (s.begin t).bi.ringPut = none ∧ (s.begin t).bi.ringWriter = d :: rest ∧ d.queue = ring ∧ d.port = 101 ∧ d.side = some m ∧ d.charged = false)
    ∧ (∃ (src : Src) (ring prod : Nat) (s : State), (ring = 8 ∨ ring = 9) ∧ s.quiet.islUp 8 = true ∧ s.quiet.reaches src .store 8 (0x50110 + 0x20 * ring) = true)
    ∧ (∃ (ring t : Nat) (s : State), (ring = 8 ∨ ring = 9) ∧ (s.begin t).islRuns 8 = true ∧ (s.begin t).isSet (BI.SS_RING_CFG.EN ring) = true ∧ (s.begin t).ringFill ring ≠ 0 ∧ (s.begin t).ringReachable ring = true ∧ (s.begin t).bi.injWait.contains ring = false ∧ ((s.begin t).isSet (BI.SS_RING_CFG.TARGET ring) = true
        ∨ (s.begin t).inFixed ((s.begin t).slotAddr ring ((s.begin t).rd (BI.SS_RING_CONS.INDEX ring))) (2 ^ (s.begin t).slotLog2 ring) = false))
    ∧ (∃ (ring t : Nat) (s : State), (ring = 8 ∨ ring = 9) ∧ (s.begin t).islRuns 8 = true ∧ (s.begin t).isSet (BI.SS_RING_CFG.EN ring) = true ∧ (s.begin t).ringFill ring ≠ 0 ∧ (s.begin t).bi.injWait.contains ring = false ∧ (s.begin t).isSet (BI.SS_RING_CFG.TARGET ring) = false ∧ (s.begin t).inFixed ((s.begin t).slotAddr ring ((s.begin t).rd (BI.SS_RING_CONS.INDEX ring))) (2 ^ (s.begin t).slotLog2 ring) = true)
    ∧ (∃ (src : Src) (sel : SelectorId) (seed : Nat) (s : State), src ≠ .host ∧ (s.quiet.counted (seedReg sel).1).islUp (seedReg sel).1 = true ∧ (s.quiet.counted (seedReg sel).1).reaches src .store (seedReg sel).1 (seedReg sel).2 = true ∧ (match sel with
        | .mirror m => m < 16
        | .sampler p => p < 101
        | .precise k => k < 2)) :=
  ⟨⟨5, 0, sd 200, sm, [fr 101 3 64], sring (sd 200), by decide +kernel⟩,
   ⟨.host, 9, 2 ^ 32 + 5, up, by decide +kernel⟩,
   ⟨9, 0, inj (desc 4 101 60), by decide +kernel⟩,
   ⟨9, 0, (inj []).wrs [(BI.SS_RING_CFG.TARGET 9, 0), (BI.SS_RING_BASE.BASE 9, 0x80000000), (DI.CFG.CAPACITY, 0x100000)], by decide +kernel⟩,
   ⟨.coreM, .precise 1, 0, up, by decide +kernel⟩⟩

theorem witness_StepRequestsBecomePendingUnlessLocked :
    (∃ (src : Src) (t : Nat) (s : State), src ≠ .host ∧ ((s.begin t).counted 2).islUp 2 = true ∧ ((s.begin t).counted 2).reaches src .store 2 0xB0 = true)
    ∧ (∃ (src : Src) (t : Nat) (s : State), src ≠ .host ∧ ((s.begin t).counted 2).islUp 2 = true ∧ ((s.begin t).counted 2).reaches src .store 2 0xB0 = true) :=
  ⟨⟨.coreM, 5, up.wrs [(TI.SEL_STAT.WALL_Q, 3), (TI.STEP.AMOUNT, 2 ^ 64 - 5)], by decide +kernel⟩,
   ⟨.coreM, 5, (up.wr TI.EVT.STEP_PENDING 1).tiSet fun t => { t with pending := some 4 }, by decide +kernel⟩⟩

theorem witness_ReferencesAreSampledAndPulsesEmitted :
    (∃ (src : Src) (k offset t2lo t : Nat) (s : State), src ≠ .host ∧ k < 2 ∧ ((s.begin t).counted 2).islUp 2 = true ∧ ((s.begin t).counted 2).ti.refs.length = 4 ∧ ((s.begin t).counted 2).reaches src .store 2 (0xC0 + 8 * k) = true)
    ∧ (∃ (rising : Bool) (t : Nat) (s : State), (s.begin t).ti.refs.length = 4)
    ∧ (∃ (t : Nat) (s : State), ((s.begin t).islRuns 2 = false ∨ (s.begin t).time % 1000000000 ≠ 0))
    ∧ (∃ (t r : Nat) (s : State), (s.begin t).islRuns 2 = true ∧ (s.begin t).time % 1000000000 = 0 ∧ r < 4 ∧ (s.begin t).isSet (TI.REF_CFG.EN r) = true ∧ (s.begin t).ti.refs.length = 4)
    ∧ (∃ (t : Nat) (d : Int) (s : State), (s.begin t).islRuns 2 = true ∧ (s.begin t).ti.pending = some d ∧ (s.begin t).time % (if (s.begin t).mode = 2 then matrixNs else 1000000) = 0) :=
  ⟨⟨.coreM, 1, 2 ^ 31 + 5, 2 ^ 32 - 1, 1000, timed, by decide +kernel⟩,
   ⟨true, 500000001, timed, by decide +kernel⟩,
   ⟨999999999, timed, by decide +kernel⟩,
   ⟨1000000000, 3, timed, by decide +kernel⟩,
   ⟨1000000000, -5, (timed.wr TI.WALL_OFS.OFS 3).tiSet fun t => { t with pending := some (-5) }, by decide +kernel⟩⟩

theorem witness_ServoFollowsTheSelectedReference :
    (∃ (t : Nat) (s : State), (s.begin t).time % 1000000 ≠ 0)
    ∧ (∃ (t : Nat) (s : State), (s.begin t).time % 1000000 = 0 ∧ (s.begin t).islRuns 2 = false)
    ∧ (∃ (t r : Nat) (f : Int) (s : State), (s.begin t).time % 1000000 = 0 ∧ (s.begin t).islRuns 2 = true ∧ r < 4 ∧ (s.begin t).rd TI.SEL_STAT.SELECTED = r ∧ (s.begin t).seenState r = 1 ∧ (s.begin t).best = some r ∧ (s.begin t).role = 0 ∧ (s.begin t).isSet TI.SEL_STAT.SWITCHING = false ∧ (s.begin t).ti.pending = none ∧ ((s.begin t).ref r).f1 = some f ∧ (s.begin t).isSet MI.SN_CFG.TIME_EN = false) :=
  ⟨⟨1, timed, by decide +kernel⟩,
   ⟨1000000, (timed.setIsl 2 0).setPipe 1 { up.pb with ratePkts := 70000, rateInstrs := 7 }, by decide +kernel⟩,
   ⟨3000000, 3, 5, steered 10000, by decide +kernel⟩⟩

theorem witness_RingMarkersLockAndRepeat :
    (∃ (d block res t : Nat) (bytes : Frame) (bad : Blocks) (s : State), d < 2 ∧ (markerOf (zeroBlocks bytes bad) = none ∨ (s.begin t).ringHears d = false ∨ (s.begin t).locked d = true))
    ∧ (∃ (d block res t : Nat) (bytes : Frame) (bad : Blocks) (m : Marker) (s : State), d < 2 ∧ markerOf (zeroBlocks bytes bad) = some m ∧ (s.begin t).islRuns 3 = true ∧ (s.begin t).isSet (RI.RING_STAT.BLOCK_LOCK d) = true ∧ (s.begin t).locked d = false ∧ ((s.begin t).ring d).trains.length < 4 ∧ (∀ k ∈ ((s.begin t).ring d).trains, block ≤ k.block + 78125
        ∧ ¬ (k.block + 78125 = block ∧ m.follows k.last 1 = true)))
    ∧ (∃ (d block res t : Nat) (bytes : Frame) (bad : Blocks) (m : Marker) (k : Train) (s : State), d < 2 ∧ markerOf (zeroBlocks bytes bad) = some m ∧ (s.begin t).islRuns 3 = true ∧ (s.begin t).isSet (RI.RING_STAT.BLOCK_LOCK d) = true ∧ (s.begin t).locked d = false ∧ ((s.begin t).ring d).trains = [k] ∧ k.block + 78125 = block ∧ m.follows k.last 1 = true ∧ 2 ≤ k.count ∧ (s.begin t).isSet MI.SN_CFG.TIME_EN = false)
    ∧ (∃ (d block t : Nat) (s : State), d < 2)
    ∧ (∃ (d t : Nat) (s : State), d < 2)
    ∧ (∃ (d t : Nat) (s : State), d < 2)
    ∧ (∃ (d res t : Nat) (bytes : Frame) (bad : Blocks) (c : Instr) (s : State), d < 2 ∧ (s.begin t).islRuns 3 = true ∧ (s.begin t).locked d = true ∧ (c = .ringMarkerMissing d t ∨ c = .ringMarkerRx d ⟨bytes, bad⟩ res t
        ∧ ∀ m, markerOf (zeroBlocks bytes bad) = some m → ((s.begin t).ring d).consistent m = false))
    ∧ (∃ (d res t : Nat) (bytes : Frame) (bad : Blocks) (m : Marker) (s : State), d < 2 ∧ (s.begin t).islRuns 3 = true ∧ (s.begin t).locked d = true ∧ markerOf (zeroBlocks bytes bad) = some m ∧ ((s.begin t).ring d).consistent m = false)
    ∧ (∃ (d res t : Nat) (bytes : Frame) (bad : Blocks) (m : Marker) (s : State), d < 2 ∧ (s.begin t).islRuns 3 = true ∧ (s.begin t).locked d = true ∧ markerOf (zeroBlocks bytes bad) = some m ∧ ((s.begin t).ring d).consistent m = true ∧ (s.begin t).isMaster = false ∧ (s.begin t).isSet MI.SN_CFG.TIME_EN = false)
    ∧ (∃ (d res t : Nat) (bytes : Frame) (bad : Blocks) (m : Marker) (s : State), d < 2 ∧ (s.begin t).islRuns 3 = true ∧ (s.begin t).locked d = true ∧ markerOf (zeroBlocks bytes bad) = some m ∧ ((s.begin t).ring d).consistent m = true ∧ (s.begin t).isMaster = true ∧ m.rmNode = (s.begin t).node)
    ∧ (∃ (d res t : Nat) (bytes : Frame) (bad : Blocks) (m : Marker) (s : State), d < 2 ∧ (s.begin t).islRuns 3 = true ∧ (s.begin t).locked d = true ∧ markerOf (zeroBlocks bytes bad) = some m ∧ ((s.begin t).ring d).consistent m = true ∧ (s.begin t).isMaster = true ∧ m.rmNode ≠ (s.begin t).node) :=
  ⟨⟨0, 5, 0, 0, (mk 3 5 1).bytes.drop 1, [], ringed [], by decide +kernel⟩,
   ⟨0, 100000, 0, 0, (mk 3 5 1).bytes, [], mk 3 5 1, hunting [⟨21875, 1, mk 1 5 1⟩, ⟨30000, 2, mk 2 5 1⟩], by decide +kernel⟩,
   ⟨0, 100000, 7, 50, (mk 3 1000000 1).bytes, [], mk 3 1000000 1, ⟨21875, 2, mk 2 500000 1⟩, (hunting [⟨21875, 2, mk 2 500000 1⟩]).wr TI.SEL_STAT.SCHED_VALID 0, by decide +kernel⟩,
   ⟨0, 100000, 0, hunting [⟨21875, 1, mk 1 5 1⟩, ⟨30000, 2, mk 2 5 1⟩], by decide +kernel⟩,
   ⟨1, 0, (ringed []).wr (RI.RING_STAT.BLOCK_LOCK 1) 0, by decide +kernel⟩,
   ⟨0, 0, lockedRing [] 1, by decide +kernel⟩,
   ⟨0, 0, 5, [], [], .ringMarkerMissing 0 5, lockedRing [] 3, by decide +kernel⟩,
   ⟨0, 300, 500000, (mk 3 1000001 1).bytes, [], mk 3 1000001 1, lockedRing [] 0, by decide +kernel⟩,
   ⟨0, 300, 500000, (mk 3 1000000 1).bytes, [], mk 3 1000000 1, lockedRing [] 0, by decide +kernel⟩,
   ⟨0, 300, 500000, (mk 3 1000000 4).bytes, [], mk 3 1000000 4, ((lockedRing [] 0).setRing 0 { (lockedRing [] 0).ring 0 with last := some (mk 2 500000 4), hopsBack := some 1 }).wr RI.SCHED_STAT.CS_STATE 2, by decide +kernel⟩,
   ⟨0, 300, 500000, (mk 3 1000000 1).bytes, [], mk 3 1000000 1, (lockedRing [] 0).wr RI.SCHED_STAT.CS_STATE 2, by decide +kernel⟩⟩

theorem witness_LinkServiceAndBypassCoils :
    (∃ (d t : Nat) (bytes : Frame) (bad : Blocks) (s : State), d < 2 ∧ (s.begin t).islRuns 3 = true ∧ (s.begin t).locked d = true ∧ (let l := zeroBlocks bytes bad
      (l.length ≠ 24 ∨ beNat (sliceAt l 20 4) ≠ crc32c (l.take 20))))
    ∧ (∃ (d t : Nat) (bytes : Frame) (bad : Blocks) (s : State), d < 2 ∧ (s.begin t).islRuns 3 = true ∧ (s.begin t).isSet (RI.RING_STAT.BLOCK_LOCK d) = true)
    ∧ (∃ (d t t1 : Nat) (bytes : Frame) (bad : Blocks) (m : Marker) (s : State), d < 2 ∧ (s.begin t).islRuns 3 = true ∧ (s.begin t).locked d = true ∧ (let l := zeroBlocks bytes bad
      l.length = 24 ∧ beNat (sliceAt l 20 4) = crc32c (l.take 20) ∧ ((s.begin t).ring d).last = some m ∧ ((s.begin t).ring d).missed = 0 ∧ bitOf (beNat (sliceAt l 16 4)) 26 = true ∧ (s.begin t).sentT3 d (bitsOf (beNat (sliceAt l 16 4)) 18 6) = some t1))
    ∧ (∃ (d t : Nat) (s : State), d < 2)
    ∧ (∃ (src : Src) (d : Nat) (v : Bool) (s : State), src ≠ .host ∧ d < 2 ∧ (s.quiet.counted 3).islUp 3 = true ∧ (s.quiet.counted 3).reaches src .store 3 (0x10 + 8 * d) = true)
    ∧ (∃ (c t : Nat) (s : State), c < 2) :=
  ⟨⟨0, 5, (lsOf 3 5).set 4 9, [], lockedRing [] 0, by dsimp only; decide +kernel⟩,
   ⟨0, 32000500, lsOf 3 2, [1, 3, 2], lockedRing [] 0, by decide +kernel⟩,
   ⟨0, 32000500, 500, lsOf 3 2, [], mk 2 500000 1, (lockedRing [] 0).wrs [(RI.RING_STAT.NB_VALID 0, 1), (RI.RING_STAT.NEIGHBOUR 0, 3)], by dsimp only; decide +kernel⟩,
   ⟨0, 8000005, (lockedRing [] 0).setRing 0 { (lockedRing [] 0).ring 0 with sampleAt := 5 }, by decide +kernel⟩,
   ⟨.coreM, 1, true, (ringed []).wr (coilHit 0) 1, by decide +kernel⟩,
   ⟨1, 15000000, (ringed []).wr (coilHit 1) 1, by decide +kernel⟩⟩

theorem witness_RingContainersAreInsertedAndDelivered :
    (∃ (d t : Nat) (head data : Frame) (bad : List Nat) (s : State), d < 2 ∧ (s.begin t).islRuns 3 = true ∧ (s.begin t).locked d = true ∧ (let l := zeroBlocks head (bad.filter (· < 2))
      ((l.getD 0 0).toNat = 0xA7 ∨ (l.getD 0 0).toNat = 0xA8) ∧ conHeadOf l = none))
    ∧ (∃ (d t : Nat) (head data : Frame) (bad : Blocks) (s : State), d < 2 ∧ (s.begin t).islRuns 3 = true ∧ (s.begin t).isSet (RI.RING_STAT.BLOCK_LOCK d) = true)
    ∧ (∃ (d t : Nat) (head data : Frame) (bad : Blocks) (h : ConHead) (s : State), d < 2 ∧ (s.begin t).islRuns 3 = true ∧ (s.begin t).locked d = true ∧ conHeadOf (zeroBlocks head (bad.filter (· < 2))) = some h ∧ h.dst ≠ (s.begin t).node ∧ h.dst ≠ 0x3F ∧ h.src ≠ (s.begin t).node ∧ h.hops < 31 ∧ (s.begin t).isSet (RI.RING_CTL.EN (1 - d)) = true)
    ∧ (∃ (d t : Nat) (head data : Frame) (bad : Blocks) (h : ConHead) (s : State), d < 2 ∧ (s.begin t).islRuns 3 = true ∧ (s.begin t).locked d = true ∧ conHeadOf (zeroBlocks head (bad.filter (· < 2))) = some h ∧ h.scheduled = false ∧ h.dst = (s.begin t).node ∧ (let l := (conData (padTo h.length (zeroBlocks data ((bad.filter (2 ≤ ·)).map (· - 2))))).take h.length
      fcsGood l = true ∧ etherType l ≠ 0x8808 ∧ (((s.begin t).mac (96 + d)).copies.map fun c => c.bytes.length).sum + l.length ≤ fifoSize (96 + d)))
    ∧ (∃ (d t : Nat) (head data : Frame) (bad : Blocks) (h : ConHead) (s : State), d < 2 ∧ (s.begin t).islRuns 3 = true ∧ (s.begin t).locked d = true ∧ conHeadOf (zeroBlocks head (bad.filter (· < 2))) = some h ∧ h.scheduled = true ∧ h.dst = (s.begin t).node)
    ∧ (∃ (d t : Nat) (head data : Frame) (bad : Blocks) (h : ConHead) (s : State), d < 2 ∧ (s.begin t).islRuns 3 = true ∧ (s.begin t).locked d = true ∧ conHeadOf (zeroBlocks head (bad.filter (· < 2))) = some h ∧ h.dst ≠ (s.begin t).node ∧ h.dst ≠ 0x3F ∧ (h.src = (s.begin t).node ∨ 31 ≤ h.hops))
    ∧ (∃ (d t : Nat) (head data : Frame) (bad : Blocks) (h : ConHead) (s : State), d < 2 ∧ (s.begin t).islRuns 3 = true ∧ (s.begin t).locked d = true ∧ conHeadOf (zeroBlocks head (bad.filter (· < 2))) = some h ∧ h.dst ≠ (s.begin t).node ∧ h.dst ≠ 0x3F ∧ h.src ≠ (s.begin t).node ∧ h.hops < 31 ∧ (s.begin t).isSet (RI.RING_CTL.EN (1 - d)) = false ∧ (s.begin t).isSet (RI.RING_CTL.EN d) = true ∧ (s.begin t).streams d = true)
    ∧ (∃ (d t : Nat) (s : State), d < 2 ∧ ((s.begin t).streamPos d (s.begin t).time = none ∨ (s.begin t).inserts d = false))
    ∧ (∃ (d t pos c : Nat) (s : State), d < 2 ∧ (s.begin t).streamPos d (s.begin t).time = some (pos, c) ∧ (s.begin t).mayInsert d (s.begin t).time = false)
    ∧ (∃ (d t pos c : Nat) (w : RingWindow) (x : Desc) (rest : List Desc) (s : State), d < 2 ∧ (s.begin t).streamPos d (s.begin t).time = some (pos, c) ∧ (s.begin t).mayInsert d (s.begin t).time = false ∧ 7 ≤ pos ∧ (s.begin t).inserts d = true ∧ ((s.begin t).runWindows.find? fun w => bitOf w.mask c && w.start ≤ pos && pos < w.start + w.length) = some w ∧ w.kind = 0 ∧ w.owner = (s.begin t).node ∧ (s.begin t).rsch.queue = x :: rest ∧ (s.begin t).occNow c w = true ∧ (s.begin t).noRoom d (s.begin t).time c w (padFrame x.bytes).length = true ∧ (s.begin t).noRoom (1 - d) (s.begin t).time c w (padFrame x.bytes).length = true ∧ (¬ ((s.begin t).rsch.occ = some (c, w.index) ∧ (s.begin t).rsch.occDeferred = true)))
    ∧ (∃ (d t pos c : Nat) (x : Desc) (rest : List Desc) (s : State), d < 2 ∧ (s.begin t).streamPos d (s.begin t).time = some (pos, c) ∧ (s.begin t).mayInsert d (s.begin t).time = true ∧ 7 ≤ pos ∧ (s.begin t).clearOfWindows pos c (endBlock pos (conBlocks (padFrame x.bytes).length)) = true ∧ (∀ w ∈ (s.begin t).runWindows, bitOf w.mask c = true → ¬ (w.start ≤ pos ∧ pos < w.start + w.length)) ∧ ((s.begin t).mac (96 + d)).ordin = x :: rest ∧ ((s.begin t).mac (96 + d)).wire = none)
    ∧ (∃ (d t pos c : Nat) (w : RingWindow) (x : Desc) (rest : List Desc) (s : State), d < 2 ∧ (s.begin t).streamPos d (s.begin t).time = some (pos, c) ∧ (s.begin t).mayInsert d (s.begin t).time = true ∧ 7 ≤ pos ∧ ((s.begin t).runWindows.find? fun w => bitOf w.mask c && w.start ≤ pos && pos < w.start + w.length) = some w ∧ w.kind = 0 ∧ w.owner = (s.begin t).node ∧ ((s.begin t).ring d).copies = [] ∧ (s.begin t).rsch.queue = x :: rest ∧ (s.begin t).occNow c w = true ∧ (s.begin t).nextIndex c w.index < 8 ∧ ((s.begin t).mac (96 + d)).wire = none ∧ fitsBefore pos (padFrame x.bytes).length (w.start + w.length) = true) :=
  ⟨⟨0, 5, (hd true 1 2 64).bytes.set 5 3, [], [], lockedRing [] 0, by dsimp only; decide +kernel⟩,
   ⟨0, 5, (hd true 1 2 65).bytes, frameOf 65 3, [0, 2, 10, 11], lockedRing [] 0, by decide +kernel⟩,
   ⟨0, 5, (hd true 1 2 65).bytes, frameOf 65 3, [], hd true 1 2 65, (lockedRing [] 0).setRing 1 { (lockedRing [] 0).ring 1 with transit := [(3, [1]), (900, [2])] }, by decide +kernel⟩,
   ⟨1, 5, (hd false 1 4 70).bytes, frameOf 70 3, [], hd false 1 4 70, lockedRing [] 0, by dsimp only; decide +kernel⟩,
   ⟨0, 5, (hd true 1 4 70).bytes, frameOf 70 3, [], hd true 1 4 70, lockedRing [] 0, by decide +kernel⟩,
   ⟨0, 5, (hd true 4 2 65).bytes, frameOf 65 3, [], hd true 4 2 65, lockedRing [] 0, by decide +kernel⟩,
   ⟨0, 5, (hd true 1 2 65).bytes, frameOf 65 3, [], hd true 1 2 65, (lockedRing [] 0).wr (RI.RING_CTL.EN 1) 0, by decide +kernel⟩,
   ⟨0, 0, inserting [] 1, by decide +kernel⟩,
   ⟨0, 500, 78, 7, ((inserting [winOf 70 50 0 4 0 0] 0).setRing 0 { (inserting [] 0).ring 0 with busyUntil := 501, copies := [(hd true 4 2 65, [])] }).rschSet fun r => { r with queue := [fr 96 7 70] }, by decide +kernel⟩,
   ⟨0, 500, 78, 7, ⟨0, 70, 20, 0, 4, 0, 0, 2 ^ 64 - 1⟩, fr 96 7 70, [], blockedSend, by decide +kernel⟩,
   ⟨0, 500, 78, 7, fr 96 3 70, [fr 96 5 70], (inserting [winOf 100 50 0 4 0 0] 0).setMac 96 { up.mac 96 with ordin := [fr 96 3 70, fr 96 5 70] }, by decide +kernel⟩,
   ⟨0, 500, 78, 7, ⟨0, 70, 50, 0, 4, 0, 0, 2 ^ 64 - 1⟩, fr 96 7 70, [fr 96 5 70], (inserting [winOf 70 50 0 4 0 0] 0).rschSet fun r => { r with queue := [fr 96 7 70, fr 96 5 70] }, by decide +kernel⟩⟩

theorem witness_RingScheduleAndSignalsRun :
    (∃ (t : Nat) (s : State), (s.begin t).time % 500000 ≠ 0)
    ∧ (∃ (t : Nat) (s : State), (s.begin t).time % 500000 = 0 ∧ (s.begin t).mode ≠ 2 ∧ ((s.begin t).isMaster && (s.begin t).rsch.yield) = false ∧ (s.begin t).ringUsed = true ∧ (s.begin t).islUp 3 = true)
    ∧ (∃ (t : Nat) (s : State), (s.begin t).time % 500000 = 0 ∧ (s.begin t).isMaster = true ∧ (s.begin t).rsch.yield = true)
    ∧ (∃ (t : Nat) (s : State), (s.begin t).time % 32000000 ≠ 0)
    ∧ (∃ (t : Nat) (s : State), (s.begin t).time % 32000000 = 0 ∧ (s.begin t).ringUsed = false ∧ (s.begin t).rd BI.SCH_LOCAL.MODE < 4)
    ∧ (∃ (t : Nat) (s : State), (s.begin t).time % 32000000 = 0 ∧ (s.begin t).ringUsed = true ∧ (s.begin t).islRuns 3 = true ∧ (s.begin t).rsch.runOk = true ∧ (s.begin t).rsch.runSeen = 64 ∧ (s.begin t).isSet RI.SCHED_STAT.SCALE_CONFLICT = false)
    ∧ (∃ (src : Src) (m : Nat) (s : State), src ≠ .host ∧ (s.quiet.counted 3).islUp 3 = true ∧ (s.quiet.counted 3).reaches src .store 3 0x410 = true)
    ∧ (∃ (src : Src) (s : State), src ≠ .host ∧ (s.quiet.counted 3).islUp 3 = true ∧ (s.quiet.counted 3).reaches src .store 3 0x410 = true)
    ∧ (∃ (src : Src) (mask : Nat) (s : State), src ≠ .host ∧ (s.quiet.counted 3).islUp 3 = true ∧ (s.quiet.counted 3).reaches src .store 3 0x420 = true)
    ∧ (∃ (w t c : Nat) (x : RingWindow) (s : State), (s.begin t).signalWindow w = some x ∧ (s.begin t).atStart (s.begin t).time x = some c ∧ x.owner = (s.begin t).node ∧ (s.begin t).mode = 2 ∧ (s.begin t).isSet MI.MODE_COND.JOIN_OK = true ∧ (s.begin t).isSet RI.SCHED_STAT.MISMATCH = false ∧ (∀ d, d < 2 → ∀ e ∈ ((s.begin t).ring d).copies, ¬ (e.1.cycle = c ∧ e.1.window = w)))
    ∧ (∃ (w t : Nat) (s : State), ((s.begin t).signalWindow w = none ∨ (s.begin t).mode ≠ 2 ∨ (s.begin t).isSet MI.MODE_COND.JOIN_OK = false
        ∨ (s.begin t).isSet RI.SCHED_STAT.MISMATCH = true)) :=
  ⟨⟨499999, ringed [], by decide +kernel⟩,
   ⟨32500000, (ringed []).wr MI.MODE_STAT.MODE 1, by decide +kernel⟩,
   ⟨500000, master true, by decide +kernel⟩,
   ⟨500000, ringed [], by decide +kernel⟩,
   ⟨32000000, (ringed []).wrs [(MI.MODE_COND.RING_USED, 0), (BI.SCH_LOCAL.MODE, 3)], by decide +kernel⟩,
   ⟨32000000, ((ringed []).wr MI.MODE_COND.JOIN_OK 0).rschSet fun r => { r with runOk := true, runSeen := 64 }, by decide +kernel⟩,
   ⟨.coreM, 6, ringed [], by decide +kernel⟩,
   ⟨.coreM, (ringed []).wr RI.MCHG_STAT.STATUS 1, by decide +kernel⟩,
   ⟨.coreM, 2 ^ 31 + 5, (ringed []).wrs [(RI.SIG_TX.DATA 31 3, 2 ^ 64 - 1), (RI.SIG_STAT.PUB_SEQ 31, 65535)], by decide +kernel⟩,
   ⟨0, 640, 7, ⟨0, 100, 50, 1, 4, 0, 60, 2 ^ 64 - 1⟩, inserting [winOf 100 50 1 4 0 60] 0, by decide +kernel⟩,
   ⟨0, 640, inserting [winOf 100 50 0 4 0 60] 0, by decide +kernel⟩⟩

theorem witness_GatewayMapsAndTemplates :
    (∃ (x : CtxId) (ecc : Ecc) (t v pos w : Nat) (signed le : Bool) (r : Frame) (g : GwCtx) (c : Ctx) (s : State), (s.begin t).issues x c ecc ∧ 14 ≤ x.jug ∧ (s.begin t).ctxGwEn x c = true ∧ c.gw = some g ∧ (let b := s.begin t
      let m := microOf (b.fetch x c)
      let n := m.imm % 4096
      m.op = 0x18 ∧ (b.epochBank c.epoch).map? n = some r ∧ (b.isSet (RI.GW_MAP_CTL.EN n) = true ∨ n ∈ g.held) ∧ (b.epochBank c.epoch).mapDest c (bodyLe r 4 4) = some (pos, w, signed, le) ∧ b.mapSource c (bodyLe r 0 4) = some v))
    ∧ (∃ (x : CtxId) (ecc : Ecc) (t : Nat) (g : GwCtx) (c : Ctx) (s : State), (s.begin t).issues x c ecc ∧ 14 ≤ x.jug ∧ (s.begin t).ctxGwEn x c = true ∧ c.gw = some g ∧ (let b := s.begin t
      let m := microOf (b.fetch x c)
      let n := m.imm % 4096
      m.op = 0x18 ∧ ((b.epochBank c.epoch).map? n = none ∨ b.isSet (RI.GW_MAP_CTL.EN n) = false ∧ n ∉ g.held)))
    ∧ (∃ (x : CtxId) (ecc : Ecc) (t : Nat) (r : Frame) (g : GwCtx) (c : Ctx) (s : State), (s.begin t).issues x c ecc ∧ 14 ≤ x.jug ∧ (s.begin t).ctxGwEn x c = true ∧ c.gw = some g ∧ (let b := s.begin t
      let m := microOf (b.fetch x c)
      let n := m.imm % 4096
      m.op = 0x18 ∧ (b.epochBank c.epoch).map? n = some r ∧ (b.isSet (RI.GW_MAP_CTL.EN n) = true ∨ n ∈ g.held) ∧ (b.epochBank c.epoch).mapDest c (bodyLe r 4 4) = none))
    ∧ (∃ (x : CtxId) (ecc : Ecc) (t : Nat) (r : Frame) (g : GwCtx) (c : Ctx) (s : State), (s.begin t).issues x c ecc ∧ 14 ≤ x.jug ∧ (s.begin t).ctxGwEn x c = true ∧ c.gw = some g ∧ c.packet = none ∧ c.outstanding = [] ∧ (let b := s.begin t
      let m := microOf (b.fetch x c)
      let n := m.imm % 4096
      m.op = 0x18 ∧ (b.epochBank c.epoch).map? n = some r ∧ (b.isSet (RI.GW_MAP_CTL.EN n) = true ∨ n ∈ g.held) ∧ ((b.epochBank c.epoch).mapDest c (bodyLe r 4 4)).isSome = true ∧ b.mapSource c (bodyLe r 0 4) = none))
    ∧ (∃ (x : CtxId) (ecc : Ecc) (t : Nat) (g : GwCtx) (c : Ctx) (s : State), (s.begin t).issues x c ecc ∧ 14 ≤ x.jug ∧ (s.begin t).ctxGwEn x c = true ∧ c.gw = some g ∧ (let b := s.begin t
      let m := microOf (b.fetch x c)
      m.op = 0x19))
    ∧ (∃ (x : CtxId) (ecc : Ecc) (t : Nat) (c : Ctx) (s : State), (s.begin t).issues x c ecc ∧ 14 ≤ x.jug ∧ (s.begin t).ctxGwEn x c = true ∧ (let b := s.begin t
      let w := (microOf (b.fetch x c)).imm % 32
      (microOf (b.fetch x c)).op = 0x1B)) :=
  ⟨⟨xG, .clean, 100, 0x8005, 9, 8, true, false, maps.take 16, ⟨[], some 2, List.replicate 416 0x11, [], 0⟩, ctxG none (some 2), enabled (gxltOf 0) (ctxG none (some 2)), by dsimp only [State.issues]; decide +kernel⟩,
   ⟨xG, .clean, 100, ⟨[], some 2, List.replicate 416 0x11, [], 0⟩, ctxG none (some 2), enabled (gxltOf 3) (ctxG none (some 2)), by dsimp only [State.issues]; decide +kernel⟩,
   ⟨xG, .clean, 100, maps.take 16, ⟨[], some 1, List.replicate 416 0x11, [], 0⟩, ctxG none (some 1), enabled (gxltOf 0) (ctxG none (some 1)), by dsimp only [State.issues]; decide +kernel⟩,
   ⟨xG, .clean, 100, (maps.drop 16).take 16, ⟨[], none, List.replicate 416 0x11, [], 0⟩, ctxG none none, enabled (gxltOf 1) (ctxG none none), by dsimp only [State.issues]; decide +kernel⟩,
   ⟨xG, .clean, 100, ⟨[], some 2, List.replicate 416 0x11, [], 0⟩, ctxG none (some 2), gwRuns (uword 0x19 0 0 0 0 0 0 0 0 1) (ctxG none (some 2)), by dsimp only [State.issues]; decide +kernel⟩,
   ⟨xG, .clean, 100, ctxG none none, (gwRuns (uword 0x1B 0 0 0 0 0 0 0 0 31) (ctxG none none)).wrs [(RI.SIG_STAT.PUB_SEQ 31, 65535), (RI.SIG_TX.DATA 31 5, 77)], by dsimp only [State.issues]; decide +kernel⟩⟩

theorem witness_GatewayEmitsAndFireAlarmBursts :
    (∃ (k t : Nat) (i : Nat) (r : Frame) (rest : List (Nat × Frame)) (x : CtxId) (s : State), k < 2 ∧ (s.begin t).mode = 2 ∧ (s.begin t).dispatchHeld k = false ∧ (s.begin t).trigQueue k = (i, r) :: rest ∧ (s.begin t).freeCtx k true = some x)
    ∧ (∃ (k t : Nat) (s : State), (2 ≤ k ∨ (s.begin t).mode ≠ 2 ∨ (s.begin t).dispatchHeld k = true ∨ (s.begin t).trigQueue k = []
        ∨ (s.begin t).freeCtx k true = none))
    ∧ (∃ (x : CtxId) (ecc : Ecc) (t n : Nat) (r : Frame) (g : GwCtx) (c : Ctx) (s : State), (s.begin t).issues x c ecc ∧ 14 ≤ x.jug ∧ (s.begin t).ctxGwEn x c = true ∧ c.gw = some g ∧ g.template = some n ∧ (let b := s.begin t
      (microOf (b.fetch x c)).op = 0x1A ∧ (b.epochBank c.epoch).template? n = some r ∧ b.mode = 2 ∧ c.trial = false))
    ∧ (∃ (x : CtxId) (ecc : Ecc) (t n : Nat) (r : Frame) (g : GwCtx) (c : Ctx) (s : State), (s.begin t).issues x c ecc ∧ 14 ≤ x.jug ∧ (s.begin t).ctxGwEn x c = true ∧ c.gw = some g ∧ g.template = some n ∧ (microOf ((s.begin t).fetch x c)).op = 0x1A ∧ ((s.begin t).epochBank c.epoch).template? n = some r ∧ ((s.begin t).mode ≠ 2 ∨ c.trial = true))
    ∧ (∃ (x : CtxId) (ecc : Ecc) (t : Nat) (g : GwCtx) (c : Ctx) (s : State), (s.begin t).issues x c ecc ∧ 14 ≤ x.jug ∧ (s.begin t).ctxGwEn x c = true ∧ c.gw = some g ∧ g.template = none ∧ c.packet = none ∧ c.outstanding = [] ∧ (microOf ((s.begin t).fetch x c)).op = 0x1A)
    ∧ (∃ (t : Nat) (s : State), (s.begin t).isSet AO.SIDEBAND.FA = true ∧ (s.begin t).gw.burstAt + max 1 ((s.begin t).rd RI.GW_EMERG.REPEAT_S) * 1000000000 ≤ (s.begin t).now ∧ (s.begin t).mode ≠ 0 ∧ (s.begin t).islUp 3 = true ∧ (s.begin t).isSet RI.GW_EMERG.EN = true ∧ (s.begin t).islRuns 8 = true)
    ∧ (∃ (t : Nat) (s : State), ((s.begin t).isSet AO.SIDEBAND.FA = false
        ∨ (s.begin t).now < (s.begin t).gw.burstAt + max 1 ((s.begin t).rd RI.GW_EMERG.REPEAT_S) * 1000000000)) :=
  ⟨⟨0, 100, 2, [1, 2, 3], [(0, [])], ⟨0, 15, 0⟩, triggered 2, by decide +kernel⟩,
   ⟨1, 100, (triggered 2).wr MI.MODE_STAT.MODE 1, by decide +kernel⟩,
   ⟨xG, .clean, 100, 2, tplOf 0, ⟨[], some 2, List.replicate 416 0x11, [], 0⟩, ctxG none (some 2), emits 2 (some 2), by dsimp only [State.issues]; decide +kernel⟩,
   ⟨xG, .clean, 100, 2, tplOf 0, ⟨[], some 2, List.replicate 416 0x11, [], 0⟩, ctxG none (some 2), emits 3 (some 2), by dsimp only [State.issues]; decide +kernel⟩,
   ⟨xG, .clean, 100, ⟨[], none, List.replicate 416 0x11, [], 0⟩, ctxG none none, emits 2 none, by dsimp only [State.issues]; decide +kernel⟩,
   ⟨1000000000, burning, by decide +kernel⟩,
   ⟨999999999, burning, by decide +kernel⟩⟩

theorem witness_AStepTakesTheFrontCommand :
    (∃ (c : Instr) (r : List Instr) (s : State), s.pending = c :: r)
    ∧ (∃ (s : State), s.pending = []) :=
  ⟨⟨.faAssert 5, [.faRelease 6], { up with pending := [.faAssert 5, .faRelease 6] }, by decide +kernel⟩,
   ⟨up, by decide +kernel⟩⟩

theorem witness_EveryStepKeepsTheInvariant :
    ∃ (s u : State), s.Inv ∧ step s = .next u :=
  ⟨{ up with pending := [.faAssert 5] }, _, ⟨⟨⟨rfl, rfl, rfl, rfl⟩, rfl⟩, rfl⟩⟩

theorem witness_EveryStepTakesExactlyOneCommand :
    ∃ (s u : State), step s = .next u :=
  ⟨{ up with pending := [.faAssert 5] }, _, rfl⟩

theorem witness_HostWritesToTheCoresRegistersAreIgnored :
    ∃ (c : Instr) (b : State) (r a t data mask : Nat) (s : State), s.islUp 0 = true ∧ ((r = 0x40 ∨ r = 0x280 ∨ r = 0x30) ∧ (c = .registerWrite .host 0 a 8 data ∧ a = r
          ∨ c = .registerWrite .host 0 a 4 data ∧ (a = r ∨ a = r + 4)) ∧ b = s.quiet
      ∨ a = 0x280 ∧ c = .islCmdReset .host mask t ∧ b = s.begin t ∨ a = 0x280 ∧ c = .islCmdOff .host mask ∧ b = s.quiet
      ∨ a = 0x30 ∧ c = .modeReqGo .host mask t ∧ b = s.begin t) :=
  ⟨.registerWrite .host 0 0x40 8 5, up.quiet, 0x40, 0x40, 0, 5, 0, up, by decide +kernel⟩

theorem witness_CoreCommandsAreClosedToHostAndDownIslands :
    (∃ (src : Src) (t n m k j : Nat) (v : Bool) (f : Func) (s : State) (c : Instr) (b : State) (isl off : Nat), (c, b, isl, off) ∈ ([(.stepGo src t, s.begin t, 2, 0xB0), (.stepCancel src t, s.begin t, 2, 0xB0),
        (.ptpMeasSubmit src n m k t, s.begin t, 2, 0xC0 + 8 * n), (.mchgGo src n, s.quiet, 3, 0x410),
        (.mchgCancel src, s.quiet, 3, 0x410), (.sigPub src n, s.quiet, 3, 0x420),
        (.forceBypWrite src n v, s.quiet, 3, 0x10 + 8 * n), (.retrain src t, s.begin t, 7, 0x58),
        (.epochCommit src t, s.begin t, 0, 0x510), (.epochAbort src t, s.begin t, 0, 0x510),
        (.tupdWriteEntry src, s.quiet, 0, 0x598), (.tupdInvalidateEntry src, s.quiet, 0, 0x598),
        (.pauseGo src t, s.begin t, 0, 0x598), (.pauseDiscard src, s.quiet, 0, 0x598),
        (.imgCheck src t, s.begin t, 0, 0x408), (.imgLoad src t, s.begin t, 0, 0x408), (.imgStage src t, s.begin t, 0, 0x408),
        (.imgCommit src t, s.begin t, 0, 0x408), (.imgAbort src t, s.begin t, 0, 0x408),
        (.snapGo src v t, s.begin t, 0, 0xA000), (.minmaxClr src n t, s.begin t, 0, 0x5100),
        (.c2hSet src n t, s.begin t, 0, 0x7F10), (.icComplete src n t, s.begin t, 0, 0x1420),
        (.jnlAppend src t, s.begin t, 0, 0x9240), (.jnlCopy src t, s.begin t, 0, 0x9240),
        (.jnlEraseOldest src t, s.begin t, 0, 0x9240), (.fuseProgramKeyHash src n t, s.begin t, 1, 0x180),
        (.fuseRevoke src n t, s.begin t, 1, 0x180), (.rollbackAdv src t, s.begin t, 1, 0x198),
        (.sealGo src n t, s.begin t, 1, 0x1A0), (.tagPendClear src n t, s.begin t, 1, 0x410),
        (.modeReqGo src n t, s.begin t, 0, 0x30), (.islCmdReset src n t, s.begin t, 0, 0x280),
        (.islCmdOff src n, s.quiet, 0, 0x280), (.i2cGo src n m k j, s.quiet, 0, 0x820 + 8 * n),
        (.busClear src n, s.quiet, 0, 0x820 + 8 * n), (.allocWrite src n m k, s.quiet, 8, 0xF100 + 8 * n),
        (.budgetWrite src n m k, s.quiet, 8, 0xF008 + 8 * n), (.trainModeWrite src v t, s.begin t, 9, 8),
        (.initDram src t, s.begin t, 9, 8), (.mrsGo src n m k t, s.begin t, 9, 0x200),
        (.functionEnable src f, s.quiet, funcIsl f, (funcEn f).off)] : List (Instr × State × Nat × Nat)))
    ∧ (∃ (src : Src) (t n m k j : Nat) (v : Bool) (s : State) (c : Instr) (b : State) (isl off : Nat), (c, b, isl, off) ∈ ([(.wdtService src n m t, s.begin t, 0, 0x4008), (.wdtCfgWrite src n m k v t, s.begin t, 0, 0x4000),
        (.icHeoi src n t, s.begin t, 0, 0x1428), (.flashProgram src n t, s.begin t, 0, 0x9000),
        (.flashErase4k src n t, s.begin t, 0, 0x9000), (.flashErase64k src n t, s.begin t, 0, 0x9000),
        (.probeGo src n m k j t, s.begin t, 7, 0x428 + 0x80 * (n % 2)),
        (.injectProdAdvance src n m, s.quiet, 8, 0x50110 + 0x20 * n),
        (.h2cSet src n t, s.begin t, 0, 0x7F00)] : List (Instr × State × Nat × Nat)) ∧ b.reaches src .store isl off = false) :=
  ⟨⟨.host, 7, 0, 2, 3, 5, true, fV, up, .stepGo .host 7, up.begin 7, 2, 0xB0, by decide +kernel⟩,
   ⟨.coreU, 7, 1, 2, 3, 5, true, up, .probeGo .coreU 1 2 3 5 7, up.begin 7, 7, 0x4A8, by decide +kernel⟩⟩

theorem witness_CascadeMessagesSurviveTheWire :
    ∃ (m : CasMsg) (w : List CodeBlock), 1 ≤ m.kind ∧ m.kind ≤ 7 ∧ m.origin < 4 ∧ m.sender < 4 ∧ m.seen < 16 ∧ m.tag < 4096 ∧ m.table < 256 ∧ m.execSlot < 65536 ∧ m.action < 2 ^ 64 ∧ m.index < 65536 ∧ m.key.length ≤ 64 ∧ (m.kind ≠ 1 → m.key = []) ∧ (m.kind ≠ 2 → m.action = 0 ∧ m.index = 0) ∧ w.filter isCasBlock = casBlocks m :=
  ⟨aReq 64, (casBlocks (aReq 64)).flatMap fun b => [b, (2, [0x1E, 0, 0, 0, 0, 0, 0, 0]), (1, [0xD2])], by decide +kernel⟩

end Sys2Proof.Tests
end

/-!
PROOFS. The outcomes of an access or a command at a register window (R10, R17, R22, R47, R473), and from them the
statements of the scope family.
-/
namespace Sys2Proof.Machine

/- ## Completion -/

/-- A command that answers `x` completes with whatever holds of the state that `x` is. -/
theorem Completes.next {c : Instr} {s x u : State} {P : State → Prop} (hx : exec c s = .next x) (hu : x = u)
    (hp : P u) : Completes c s P := Completes.of_eq hx (hu ▸ hp)

/- ## An access that PMP lets through, and one that it refuses (R466, R473) -/

@[simp] theorem State.quiet_reaches (s : State) (src : Src) (k : AccKind) (i off : Nat) :
    s.quiet.reaches src k i off = s.reaches src k i off := State.reaches_of_mg s.quiet_mg src k i off

@[simp] theorem State.quiet_islUp (s : State) (i : Nat) : s.quiet.islUp i = s.islUp i := rfl

theorem State.guarded_reached {s : State} {src : Src} {k : AccKind} {i off : Nat} (f : State → State)
    (hr : s.reaches src k i off = true) : s.guarded src k i off f = f s := by
  simp [State.guarded, hr]

theorem State.guarded_denied {s : State} {src : Src} {k : AccKind} {i off : Nat} (f : State → State)
    (hr : s.reaches src k i off = false) :
    s.guarded src k i off f = s.emit (.coreFault (faultCauseOf k) (regAddr i off)) := by
  simp [State.guarded, hr]

/-- The host is never refused, so an access that is comes from the core. -/
theorem State.ne_host_of_denied {s : State} {src : Src} {k : AccKind} {i off : Nat}
    (hr : s.reaches src k i off = false) : src ≠ .host := by
  rintro rfl
  simp at hr

theorem State.regAccess_misaligned (s : State) {src : Src} {off size : Nat} (k : AccKind) (i : Nat)
    (f : State → State) (hs : src ≠ .host) (ho : off % max 1 size ≠ 0) :
    s.regAccess src k i off size f = s.emit (.coreFault (misCauseOf k) (regAddr i off)) := by
  simp [State.regAccess, hs, ho]

/-- Where alignment does not refuse an access, PMP decides. -/
theorem State.regAccess_aligned (s : State) {src : Src} {off size : Nat} (k : AccKind) (i : Nat)
    (f : State → State) (ho : src = .host ∨ off % max 1 size = 0) :
    s.regAccess src k i off size f = s.guarded src k i off f := by
  unfold State.regAccess
  rw [if_neg]
  rintro ⟨hs, hm⟩
  exact ho.elim hs hm

/- ## The four access commands, by the place they reach -/

theorem State.unmappedAccess_unoccupied {s : State} {src : Src} {i off : Nat} (hi : i < 16)
    (hr : s.reaches src .load i off = true) (hu : s.islUp i = true) (hn : regAt i (off / 8 * 8) = none) :
    s.unmappedAccess src i off = (s.unmapped src i off).answer 0 := by
  unfold State.unmappedAccess
  rw [if_neg (by omega), State.guarded_reached _ hr]
  simp [hu, hn]

theorem State.unmappedAccess_denied {s : State} {src : Src} {i off : Nat} (hi : i < 16)
    (hr : s.reaches src .load i off = false) :
    s.unmappedAccess src i off = s.emit (.coreFault 5 (regAddr i off)) := by
  unfold State.unmappedAccess
  rw [if_neg (by omega), State.guarded_denied _ hr]
  rfl

/-- At a pop window the access rules of alignment and PMP come first. -/
theorem State.popRead_at {src : Src} {i off size : Nat} (s : State) (hi : i < 16)
    (hp : isPop i (off / 8 * 8) = true) (ho : src = .host ∨ off % max 1 size = 0) :
    s.popRead src i off size = s.guarded src .load i off fun s =>
      if !s.islUp i then s.answer 0
      else if size = 8 ∧ off % 8 = 0 then s.popOne i off
      else (s.narrowPop src i off).answer 0 := by
  unfold State.popRead
  dsimp only
  rw [if_neg, State.regAccess_aligned _ _ _ _ ho]
  rintro (h | h)
  · omega
  · simp [hp] at h

theorem State.popRead_down {s : State} {src : Src} {i off size : Nat} (hi : i < 16)
    (hp : isPop i (off / 8 * 8) = true) (ho : src = .host ∨ off % max 1 size = 0)
    (hr : s.reaches src .load i off = true) (hu : s.islUp i = false) :
    s.popRead src i off size = s.answer 0 := by
  rw [s.popRead_at hi hp ho, State.guarded_reached _ hr]
  simp [hu]

theorem State.popRead_denied {s : State} {src : Src} {i off size : Nat} (hi : i < 16)
    (hp : isPop i (off / 8 * 8) = true) (ho : off % max 1 size = 0) (hr : s.reaches src .load i off = false) :
    s.popRead src i off size = s.emit (.coreFault 5 (regAddr i off)) := by
  rw [s.popRead_at hi hp (.inr ho), State.guarded_denied _ hr]
  rfl

/- ## Accesses that reach no register -/

/-- Settles O1: each access command takes the one outcome that its place and PMP leave it. -/
theorem accessesThatReachNoRegister : Obligations.AccessesThatReachNoRegister := by
  unfold Obligations.AccessesThatReachNoRegister
  refine ⟨?unoccupied, ?down, ?popDown, ?denied⟩
  case unoccupied =>
    intro src i off s hi hu hn hr
    refine Completes.next rfl (State.unmappedAccess_unoccupied hi (by simpa using hr) hu hn) ?_
    obtain ⟨hun, haddr, hisl, hsrc⟩ := s.quiet.unmapped_rd src i off
    refine ⟨?_, hun, haddr, hisl.trans (Nat.mod_eq_of_lt hi), hsrc, s.quiet.regsKept_unmapped src i off⟩
    rw [State.unmapped_only]
    rfl
  case down =>
    intro src i off wr s hu hr
    refine Completes.next rfl (State.guarded_reached _ (by simpa using hr)) ?_
    cases wr <;> simp [hu] <;> rfl
  case popDown =>
    intro src i off size s hi hu hp ho hr
    exact Completes.next rfl (State.popRead_down hi hp ho (by simpa using hr) hu) rfl
  case denied =>
    intro src i off size wr s hi hr
    refine ⟨?_, ?_, ?_⟩
    · rintro rfl hp ho
      exact Completes.next rfl (State.popRead_denied hi hp ho (by simpa using hr)) rfl
    · rintro rfl
      exact Completes.next rfl (State.unmappedAccess_denied hi (by simpa using hr)) rfl
    · refine Completes.next rfl (State.guarded_denied _ (by simpa using hr)) ?_
      cases wr <;> rfl

/- ## Commands that write registers closed to the host -/

/-- A command that is the write of a register closed to the host: what each place it can reach leaves. -/
theorem Completes.closedRegCmd {c : Instr} {s b : State} {src : Src} {i off : Nat} {k : State → State}
    (hx : exec c s = .next (b.regCmd src i off false k)) :
    (src = .host → b.islUp i = true →
      Completes c s fun u =>
        u = { b with regs := u.regs } ∧ u.rd MI.ACC_STAT.UNMAPPED = 1 ∧ u.rd MI.ACC_STAT.LAST_SRC = 1
        ∧ u.rd MI.ACC_STAT.LAST_ADDR = off % 2 ^ 20 ∧ u.rd MI.ACC_STAT.LAST_ISLAND = i % 16
        ∧ b.regsKept u [MI.ACC_STAT.UNMAPPED, MI.ACC_STAT.LAST_ADDR, MI.ACC_STAT.LAST_ISLAND, MI.ACC_STAT.LAST_SRC])
    ∧ (b.reaches src .store i off = true → b.islUp i = false → Completes c s fun u => u = b)
    ∧ (b.reaches src .store i off = false → Completes c s fun u => u = b.emit (.coreFault 7 (regAddr i off))) := by
  refine ⟨?host, ?down, ?denied⟩
  case host =>
    rintro rfl hu
    obtain ⟨hun, haddr, hisl, hsrc⟩ := b.unmapped_rd .host i off
    exact Completes.next hx (State.regCmd_host hu)
      ⟨b.unmapped_only .host i off, hun, hsrc, haddr, hisl, b.regsKept_unmapped .host i off⟩
  case down => exact fun hr hu => Completes.next hx (State.regCmd_down hr hu) rfl
  case denied => exact fun hr => Completes.next hx (State.regCmd_denied hr) rfl

/-- H2C_SET of the core is a store that PMP checks before the core's write is refused. -/
theorem State.h2c_core (s : State) {src : Src} (mask : Nat) (hs : src ≠ .host) :
    s.h2c src mask = s.guarded src .store 0 0x7F00 fun s => s.unmapped src 0 0x7F00 := if_pos hs

/-- Settles O59: every listed command of the first kind is one `State.regCmd` closed to the host, and every one of the
second kind a guarded store. -/
theorem coreCommandsAreClosedToHostAndDownIslands : Obligations.CoreCommandsAreClosedToHostAndDownIslands := by
  unfold Obligations.CoreCommandsAreClosedToHostAndDownIslands
  refine ⟨?closed, ?shared⟩
  case closed =>
    intro src t n m k j v f s c b i off hc
    have hx : ∃ k, exec c s = .next (b.regCmd src i off false k) := by
      simp only [List.mem_cons, List.not_mem_nil, or_false, Prod.mk.injEq] at hc
      casesm* _ ∨ _, _ ∧ _ <;> subst_vars <;> exact ⟨_, rfl⟩
    obtain ⟨k, hx⟩ := hx
    exact Completes.closedRegCmd hx
  case shared =>
    intro src t n m k j v s c b i off hc hr
    have hs := State.ne_host_of_denied hr
    have hx : ∃ f, exec c s = .next (b.guarded src .store i off f) := by
      simp only [List.mem_cons, List.not_mem_nil, or_false, Prod.mk.injEq] at hc
      casesm* _ ∨ _, _ ∧ _ <;> subst_vars
      pick_goal 9
      · exact ⟨_, congrArg _ (State.h2c_core _ n hs)⟩
      all_goals exact ⟨_, rfl⟩
    obtain ⟨f, hx⟩ := hx
    exact Completes.next hx (State.guarded_denied f hr) rfl

/- ## Pop windows (R12 to R15) -/

theorem State.popRead_whole {s : State} {src : Src} {i off : Nat} (hi : i < 16) (hp : isPop i off = true)
    (h8 : off % 8 = 0) (hr : s.reaches src .load i off = true) (hu : s.islUp i = true) :
    s.popRead src i off 8 = s.popOne i off := by
  have hw : off / 8 * 8 = off := by omega
  rw [s.popRead_at hi (hw.symm ▸ hp) (.inr h8), State.guarded_reached _ hr]
  simp [hu, h8]

theorem State.popRead_narrow {s : State} {src : Src} {i off size : Nat} (hi : i < 16)
    (hp : isPop i (off / 8 * 8) = true) (hn : ¬ (size = 8 ∧ off % 8 = 0))
    (ho : src = .host ∨ off % max 1 size = 0) (hr : s.reaches src .load i off = true) (hu : s.islUp i = true) :
    s.popRead src i off size = (s.narrowPop src i off).answer 0 := by
  rw [s.popRead_at hi hp ho, State.guarded_reached _ hr]
  simp [hu, hn]

/-- A pop answers the oldest entry, or 0 where there is none, and leaves the window without it. -/
theorem State.popOne_eq {s : State} {i off : Nat} (hu : s.islUp i = true) (hc : ¬ (i = 0 ∧ off = 0x1418)) :
    s.popOne i off = ((s.counted i).popEntries i off).2.answer (((s.counted i).popEntries i off).1.headD 0) := by
  unfold State.popOne
  rw [if_neg (by simp [hu]), if_neg hc]
  dsimp only
  split <;> simp [*]

/-- The pop windows that hold entries of their own, each with its entries, oldest first. -/
def State.popWindows (s : State) : List (Nat × Nat × List Nat) :=
  [(2, 0x800, s.ti.txts), (5, 0x540, s.pa.faults), (6, 0x540, s.pb.faults), (9, 0x808, s.di.eccLog),
    (0, 0x9310, s.fl.late)]

@[simp] theorem State.counted_popWindows (s : State) (i : Nat) : (s.counted i).popWindows = s.popWindows := by
  simp [State.popWindows]

theorem State.popWindows_at {s : State} {i off : Nat} {l : List Nat} (h : (i, off, l) ∈ s.popWindows) :
    i < 16 ∧ off % 8 = 0 ∧ isPop i off = true ∧ ¬ (i = 0 ∧ off = 0x1418) := by
  simp only [State.popWindows, List.mem_cons, List.not_mem_nil, or_false, Prod.mk.injEq] at h
  obtain ⟨rfl, rfl, -⟩ | ⟨rfl, rfl, -⟩ | ⟨rfl, rfl, -⟩ | ⟨rfl, rfl, -⟩ | ⟨rfl, rfl, -⟩ := h <;> decide +kernel

/-- A window's entries, and what stays in it when the oldest leaves. -/
theorem State.popEntries_window {s : State} {i off : Nat} {l : List Nat} (h : (i, off, l) ∈ s.popWindows) :
    (s.popEntries i off).1 = l ∧ (i, off, l.drop 1) ∈ (s.popEntries i off).2.popWindows := by
  simp only [State.popWindows, List.mem_cons, List.not_mem_nil, or_false, Prod.mk.injEq] at h
  obtain ⟨rfl, rfl, rfl⟩ | ⟨rfl, rfl, rfl⟩ | ⟨rfl, rfl, rfl⟩ | ⟨rfl, rfl, rfl⟩ | ⟨rfl, rfl, rfl⟩ := h <;>
    simp [State.popEntries, State.popWindows]

theorem State.popEntries_only (s : State) (i off : Nat) :
    (s.popEntries i off).2 = { s with
      ti := (s.popEntries i off).2.ti, pa := (s.popEntries i off).2.pa, pb := (s.popEntries i off).2.pb,
      di := (s.popEntries i off).2.di, fl := (s.popEntries i off).2.fl } := by
  unfold State.popEntries
  split_ifs <;> rfl

theorem State.popEntries_regs (s : State) (i off : Nat) : (s.popEntries i off).2.regs = s.regs := by
  rw [State.popEntries_only]

/-- What MI.ACC_STAT shows of a narrow read of a pop window. -/
theorem State.narrowPop_rd (s : State) (src : Src) (i off : Nat) :
    (s.narrowPop src i off).rd MI.ACC_STAT.NARROW_POP = 1 ∧ (s.narrowPop src i off).rd MI.ACC_STAT.LAST_ADDR = off % 2 ^ 20
      ∧ (s.narrowPop src i off).rd MI.ACC_STAT.LAST_ISLAND = i % 16
      ∧ (s.narrowPop src i off).rd MI.ACC_STAT.LAST_SRC = if src = .host then 1 else 0 := by
  simp only [State.narrowPop, State.wrs_cons, State.wrs_nil]
  refine ⟨?_, ?_, ?_, ?_⟩
  · rw [State.rd_wr_ne _ _ (by decide), State.rd_wr_ne _ _ (by decide), State.rd_wr_ne _ _ (by decide), State.rd_wr_same]
    rfl
  · rw [State.rd_wr_ne _ _ (by decide), State.rd_wr_ne _ _ (by decide), State.rd_wr_same]; rfl
  · rw [State.rd_wr_ne _ _ (by decide), State.rd_wr_same]; rfl
  · rw [State.rd_wr_same]; split <;> rfl

theorem State.regsKept_narrowPop (s : State) (src : Src) (i off : Nat) :
    s.regsKept (s.narrowPop src i off) [MI.ACC_STAT.NARROW_POP, MI.ACC_STAT.LAST_ADDR, MI.ACC_STAT.LAST_ISLAND,
      MI.ACC_STAT.LAST_SRC] :=
  (State.regsKept.refl s _).wrs (by simp)

/- ## The counts that an access brings up to the present (MTIME and the watchdog) -/

/-- Bringing the watchdog up to the present moves its remaining time at most, and its own bookkeeping. -/
theorem State.wdtSync_cases (s : State) :
    (∃ g, s.wdtSync = { s with mg := g }) ∨ ∃ v g, s.wdtSync = { s.wr MI.WDT_STAT.REMAIN v with mg := g } := by
  unfold State.wdtSync
  split
  · exact .inl ⟨_, rfl⟩
  · exact .inr ⟨_, _, rfl⟩

theorem State.wdtSync_only (s : State) : s.wdtSync = { s with regs := s.wdtSync.regs, mg := s.wdtSync.mg } := by
  obtain ⟨g, h⟩ | ⟨v, g, h⟩ := s.wdtSync_cases
  · rw [h]
  · rw [h]; rfl

theorem State.restKept_wdtSync (s : State) : s.restKept s.wdtSync [MI.WDT_STAT.REMAIN] := by
  obtain ⟨g, h⟩ | ⟨v, g, h⟩ := s.wdtSync_cases <;> rw [h]
  · exact State.restKept.of_regs rfl _
  · exact (State.restKept.refl s _).wr (f := MI.WDT_STAT.REMAIN) v (.inl (by simp))

theorem State.mtimeSync_only (s : State) : s.mtimeSync = { s with regs := s.mtimeSync.regs, mg := s.mtimeSync.mg } := rfl

theorem State.restKept_mtimeSync (s : State) : s.restKept s.mtimeSync [MI.MTIME.TIME] :=
  (State.restKept.refl s _).wr (f := MI.MTIME.TIME) _ (.inl (by simp))

/-- The state in which a plain register access takes effect: the running counts stand at the present, and the access is
counted. -/
def State.accessed (s : State) (i : Nat) : State := (s.wdtSync.mtimeSync).counted i

theorem State.accessed_only (s : State) (i : Nat) :
    s.accessed i = { s with regs := (s.accessed i).regs, mg := (s.accessed i).mg, out := (s.accessed i).out } := by
  unfold State.accessed
  rw [State.counted_only, State.mtimeSync_only, State.wdtSync_only]

theorem State.restKept_accessed (s : State) {i : Nat} (hi : i < 16) :
    s.restKept (s.accessed i) [MI.MTIME.TIME, MI.WDT_STAT.REMAIN] :=
  ((s.restKept_wdtSync.mono (by simp)).trans (s.wdtSync.restKept_mtimeSync.mono (by simp))).trans
    ((s.wdtSync.mtimeSync.restKept_counted hi).mono (by simp))

/- ## Writing the fields of a register (R7) -/

theorem bitsOf_mod_two_pow (v lo w : Nat) : bitsOf v lo w % 2 ^ w = bitsOf v lo w := Nat.mod_mod _ _

theorem State.writeField_outside (s : State) {m : Nat} (data : Nat) {e : Field × Acc}
    (hm : bitsOf m e.1.lo e.1.width = 0) : s.writeField m data e = s := by
  simp [State.writeField, hm]

theorem State.foldl_writeField_outside (s : State) {m : Nat} (data : Nat) {l : List (Field × Acc)}
    (hl : ∀ e ∈ l, bitsOf m e.1.lo e.1.width = 0) : l.foldl (fun u e => u.writeField m data e) s = s := by
  induction l with
  | nil => rfl
  | cons e l ih =>
    rw [List.foldl_cons, s.writeField_outside data (hl e List.mem_cons_self)]
    exact ih fun d hd => hl d (List.mem_cons_of_mem _ hd)

/-- A write of all bits of a read-write field sets it. -/
theorem State.writeField_rw (s : State) {m : Nat} (data : Nat) {f : Field} (hw : 0 < f.width)
    (hm : bitsOf m f.lo f.width = 2 ^ f.width - 1) :
    s.writeField m data (f, .rw) = s.wr f (bitsOf data f.lo f.width) := by
  have h1 : 2 ^ f.width - 1 ≠ 0 := Nat.sub_ne_zero_of_lt (Nat.one_lt_two_pow hw.ne')
  simp only [State.writeField, hm, if_neg h1, Nat.and_two_pow_sub_one_eq_mod, bitsOf_mod_two_pow]
  simp

/-- A write of all bits of a write-one-to-clear field clears those written with 1. -/
theorem State.writeField_w1c (s : State) {m : Nat} (data : Nat) {f : Field} (hw : 0 < f.width)
    (hm : bitsOf m f.lo f.width = 2 ^ f.width - 1) :
    s.writeField m data (f, .w1c) = s.andNotF f (bitsOf data f.lo f.width) := by
  have h1 : 2 ^ f.width - 1 ≠ 0 := Nat.sub_ne_zero_of_lt (Nat.one_lt_two_pow hw.ne')
  simp only [State.writeField, hm, if_neg h1, Nat.and_two_pow_sub_one_eq_mod, bitsOf_mod_two_pow]

/-- A core write of a register no bit of which is held back, and from which nothing follows, writes its fields; besides,
counting the access may set overflow bits of the island's event counters. -/
theorem State.regWrite_fields {s : State} {src : Src} {i off : Nat} (size m data : Nat) {r : RegAt} (hs : src ≠ .host)
    (hu : s.islUp i = true) (hr : regAt i off = some r) (hw : s.coreWrites r i = true) (hp : r.pop = false)
    (hh : (s.accessed i).ownStep i r size (data &&& m) ||| (s.accessed i).heldBits src i r m data
      ||| State.viewBits src r.off = 0)
    (ha : ∀ u : State, u.afterWrite src i r m data = u) :
    ∃ w, s.regWrite src i off size m data
      = (r.fields.foldl (fun u e => u.writeField m data e) (s.accessed i)).orF (C.CNT_OVF.OVF i) w := by
  refine ⟨s.wdtSync.mtimeSync.wraps i, ?_⟩
  unfold State.accessed at hh
  simp [State.regWrite, State.accessed, hu, hr, hs, hw, hp, hh, ha]

/-- A write by `State.regWrite_fields` moves its fields and what every access moves. -/
theorem State.restKept_accessed_orF {s : State} {i : Nat} (hi : i < 16) {u : State} (w : Nat)
    {ex : List Field} (h : (s.accessed i).restKept u ex) :
    s.restKept (u.orF (C.CNT_OVF.OVF i) w) (ex ++ [MI.MTIME.TIME, MI.WDT_STAT.REMAIN]) :=
  ((s.restKept_accessed hi).mono (by simp)).trans ((h.mono fun _ => List.mem_append_left _).wr _ (.inr (cntOvf_moving hi)))

theorem regAt_dramWin :
    regAt 0 0x40 = some ⟨0x40, [], false, false, [(MI.DRAM_WIN.OOR, .w1c), (MI.DRAM_WIN.PAGE, .rw)]⟩ := by
  decide +kernel

theorem regAt_cntSel_pa {k : Nat} (hk : k < 32) :
    regAt 5 (0xF0000 + 8 * k) = some ⟨0xF0000, [k], false, false, [(C.CNT_SEL.THRESH 5 k, .rw), (C.CNT_SEL.EN 5 k, .rw),
      (C.CNT_SEL.CMP 5 k, .rw), (C.CNT_SEL.EDGE 5 k, .rw), (C.CNT_SEL.MODE 5 k, .rw), (C.CNT_SEL.ARG 5 k, .rw),
      (C.CNT_SEL.EVENT 5 k, .rw)]⟩ := by
  revert k
  decide +kernel

theorem cntSel_thresh_not_moving {k : Nat} (hk : k < 32) : (C.CNT_SEL.THRESH 5 k).moving = false := by
  revert k
  decide

theorem Field.key_ne_of_moving {f g : Field} (hf : f.moving = false) (hg : g.moving = true) : f.key ≠ g.key := by
  intro hk
  have h : f.moving = g.moving := by unfold Field.moving; rw [hk]
  rw [hf, hg] at h
  exact Bool.noConfusion h

/-- Overflow bits of event counters that a write sets leave every register that counting does not move. -/
theorem State.rd_orF_cntOvf (u : State) {i : Nat} (hi : i < 16) (w : Nat) {f : Field} (hf : f.moving = false) :
    (u.orF (C.CNT_OVF.OVF i) w).rd f = u.rd f := u.rd_orF_ne w (Field.key_ne_of_moving hf (cntOvf_moving hi))

theorem State.accessed_rd (s : State) {i : Nat} (hi : i < 16) {f : Field} (hf : f.moving = false)
    (hk : ∀ g ∈ [MI.MTIME.TIME, MI.WDT_STAT.REMAIN], f.key ≠ g.key) : (s.accessed i).rd f = s.rd f :=
  (s.restKept_accessed hi).rd hf hk

/-- Beside registers a write by `State.regWrite_fields` moves the bookkeeping of the running counts, and messages may leave. -/
theorem State.accessed_orF_only {s u : State} {i : Nat} (f : Field) (w : Nat)
    (h : u = { s.accessed i with regs := u.regs }) :
    u.orF f w = { s with regs := (u.orF f w).regs, mg := (u.orF f w).mg, out := (u.orF f w).out } := by
  rw [h, State.accessed_only]
  rfl

theorem State.registerWrite_whole {s : State} {src : Src} {i off : Nat} (data : Nat) (hi : i < 16)
    (ho : off < 0x100000) (h8 : off % 8 = 0) (hr : s.reaches src .store i off = true) :
    s.registerWrite src i off 8 data = s.regWrite src i off 8 (2 ^ 64 - 1) (data % 2 ^ 64) := by
  unfold State.registerWrite
  rw [if_neg (by omega), State.regAccess_aligned _ _ _ _ (.inr h8), State.guarded_reached _ hr, if_pos ⟨rfl, h8⟩]

/-- A write of the upper half of a register. -/
theorem State.registerWrite_upper {s : State} {src : Src} {i off : Nat} (data : Nat) (hi : i < 16)
    (ho : off + 4 < 0x100000) (h8 : off % 8 = 0) (hr : s.reaches src .store i (off + 4) = true) :
    s.registerWrite src i (off + 4) 4 data
      = s.regWrite src i off 4 ((2 ^ 32 - 1) * 2 ^ 32) (data % 2 ^ 32 * 2 ^ 32) := by
  have hw : (off + 4) / 8 * 8 = off := by omega
  have hsh : (off + 4) % 8 * 8 = 32 := by omega
  unfold State.registerWrite
  rw [if_neg (by omega), State.regAccess_aligned _ _ _ _ (.inr (show (off + 4) % 4 = 0 by omega)), State.guarded_reached _ hr,
    if_neg (by omega), if_pos ⟨rfl, by omega⟩]
  dsimp only
  rw [hw, hsh]

theorem State.registerWrite_misaligned {s : State} {src : Src} {i off size : Nat} (data : Nat) (hi : i < 16)
    (ho : off < 0x100000) (hs : src ≠ .host) (hm : off % max 1 size ≠ 0) :
    s.registerWrite src i off size data = s.emit (.coreFault 6 (regAddr i off)) := by
  unfold State.registerWrite
  rw [if_neg (by omega), State.regAccess_misaligned _ _ _ _ hs hm]
  rfl

theorem State.registerWrite_denied {s : State} {src : Src} {i off size : Nat} (data : Nat) (hi : i < 16)
    (ho : off < 0x100000) (hm : off % max 1 size = 0) (hr : s.reaches src .store i off = false) :
    s.registerWrite src i off size data = s.emit (.coreFault 7 (regAddr i off)) := by
  unfold State.registerWrite
  rw [if_neg (by omega), State.regAccess_aligned _ _ _ _ (.inr hm), State.guarded_denied _ hr]
  rfl

/-- MI.DRAM_WIN written as 64 bits: OOR is write-one-to-clear, PAGE is read-write (11_dram.md). -/
theorem State.registerWrite_dramWin {s : State} {src : Src} (data : Nat) (hs : src ≠ .host) (hu : s.islUp 0 = true)
    (hr : s.reaches src .store 0 0x40 = true) :
    ∃ w, s.registerWrite src 0 0x40 8 data
      = (((s.accessed 0).andNotF MI.DRAM_WIN.OOR (bitsOf (data % 2 ^ 64) 8 1)).wr MI.DRAM_WIN.PAGE
          (bitsOf (data % 2 ^ 64) 0 4)).orF (C.CNT_OVF.OVF 0) w := by
  obtain ⟨w, hw⟩ := State.regWrite_fields 8 (2 ^ 64 - 1) (data % 2 ^ 64) hs hu regAt_dramWin rfl rfl
    (by simp [State.ownStep, State.heldBits, State.viewBits]) fun _ => rfl
  refine ⟨w, ?_⟩
  rw [State.registerWrite_whole data (by decide) (by decide) rfl hr, hw]
  simp only [List.foldl_cons, List.foldl_nil]
  rw [State.writeField_w1c _ _ (by decide) (by decide), State.writeField_rw _ _ (by decide) (by decide)]
  rfl

/-- A field in the lower half has no bit among those written in the upper. -/
theorem bitsOf_mul_two_pow_low (a : Nat) {n lo w : Nat} (h : lo + w ≤ n) : bitsOf (a * 2 ^ n) lo w = 0 := by
  obtain ⟨d, rfl⟩ := Nat.exists_eq_add_of_le h
  have h1 : a * 2 ^ (lo + w + d) = 2 ^ lo * (2 ^ w * (2 ^ d * a)) := by ring
  rw [bitsOf, h1, Nat.mul_div_cancel_left _ (by positivity), Nat.mul_mod_right]

/-- The upper half of an event-counter selector of PA is THRESH; a write of it passes over the lower half. -/
theorem State.registerWrite_cntSel_pa {s : State} {src : Src} {k : Nat} (data : Nat) (hs : src ≠ .host) (hk : k < 32)
    (hu : s.islUp 5 = true) (hr : s.reaches src .store 5 (0xF0004 + 8 * k) = true) :
    ∃ w, s.registerWrite src 5 (0xF0004 + 8 * k) 4 data
      = ((s.accessed 5).wr (C.CNT_SEL.THRESH 5 k) (bitsOf (data % 2 ^ 32 * 2 ^ 32) 32 32)).orF (C.CNT_OVF.OVF 5) w := by
  have ho : 0xF0004 + 8 * k = 0xF0000 + 8 * k + 4 := by omega
  obtain ⟨w, hw⟩ := State.regWrite_fields 4 ((2 ^ 32 - 1) * 2 ^ 32) (data % 2 ^ 32 * 2 ^ 32) hs hu (regAt_cntSel_pa hk)
    rfl rfl (by simp [State.ownStep, State.heldBits, State.viewBits]) fun _ => rfl
  refine ⟨w, ?_⟩
  rw [ho] at hr ⊢
  rw [State.registerWrite_upper data (by decide) (by omega) (by omega) hr, hw, List.foldl_cons,
    State.writeField_rw _ _ (f := C.CNT_SEL.THRESH 5 k) (show 0 < 32 by decide)
    (show bitsOf ((2 ^ 32 - 1) * 2 ^ 32) 32 32 = 2 ^ 32 - 1 by decide), State.foldl_writeField_outside]
  · rfl
  · intro e he
    refine bitsOf_mul_two_pow_low _ ?_
    simp only [List.mem_cons, List.not_mem_nil, or_false] at he
    obtain rfl | rfl | rfl | rfl | rfl | rfl := he <;> exact Nat.le_of_ble_eq_true rfl

/-- Clearing bits of a one-bit flag: a 1 clears it, a 0 leaves it. -/
theorem State.rd_andNotF_flag (s : State) {f : Field} (m : Nat) (hf : f.width = 1) :
    (s.andNotF f m).rd f = if m % 2 = 1 then 0 else s.rd f % 2 := by
  rw [State.andNotF, State.rd_wr_same, hf]
  obtain h | h := Nat.mod_two_eq_zero_or_one m <;> simp [h]

theorem bitsOf_one_mod_two (v i : Nat) : bitsOf v i 1 % 2 = 1 ↔ bitOf v i = true := by
  simp [bitsOf, bitOf, Nat.testBit_eq_decide_div_mod_eq]

/-- Settles O2: a pop is `popOne` of its window, a narrow read is recorded, and a plain register write is the write of its
fields in the state that counts the access. -/
theorem registerReadsPopAndWritesReachTheirBits : Obligations.RegisterReadsPopAndWritesReachTheirBits := by
  unfold Obligations.RegisterReadsPopAndWritesReachTheirBits
  refine ⟨?whole, ?narrow, ?dramWin, ?cntSel, ?faults⟩
  case whole =>
    intro src i off l s hl hu hr
    obtain ⟨hi, h8, hp, hc⟩ := State.popWindows_at hl
    have hw := (State.popRead_whole (s := s.quiet) hi hp h8 (by simpa using hr) hu).trans (State.popOne_eq hu hc)
    obtain ⟨hhead, hrest⟩ := State.popEntries_window (s := s.quiet.counted i) (l := l)
      (by rw [State.counted_popWindows]; exact hl)
    refine Completes.next rfl hw ⟨congrArg (·.headD 0) hhead, hrest, ?_, ?_⟩
    · exact (s.quiet.restKept_counted hi).trans (State.restKept.of_regs (State.popEntries_regs _ i off) [])
    · rw [State.popEntries_only, State.counted_only]
      rfl
  case narrow =>
    intro src i off size s hi hu hp hn ho hr
    refine Completes.next rfl (State.popRead_narrow hi hp hn ho (by simpa using hr) hu) ?_
    obtain ⟨hpop, haddr, hisl, hsrc⟩ := s.quiet.narrowPop_rd src i off
    refine ⟨?_, hpop, haddr, hisl.trans (Nat.mod_eq_of_lt hi), hsrc, s.quiet.regsKept_narrowPop src i off⟩
    rw [State.narrowPop_only]
    rfl
  case dramWin =>
    intro src data s hs hu hr
    obtain ⟨w, hw⟩ := State.registerWrite_dramWin (s := s.quiet) data hs hu (by simpa using hr)
    refine Completes.next rfl hw ⟨?_, ?_, ?_, ?_⟩
    · rw [State.rd_orF_cntOvf _ (by decide) _ (by decide), State.rd_wr_same]
      show bitsOf (data % 2 ^ 64) 0 4 % 2 ^ 4 = data % 16
      unfold bitsOf
      omega
    · rw [State.rd_orF_cntOvf _ (by decide) _ (by decide), State.rd_wr_ne _ _ (by decide),
        State.rd_andNotF_flag _ _ rfl, State.accessed_rd _ (by decide) (by decide) (by decide)]
      have hbit : bitsOf (data % 2 ^ 64) 8 1 % 2 = 1 ↔ bitOf data 8 = true := by
        rw [bitsOf_one_mod_two, bitOf, Nat.testBit_mod_two_pow]
        simp [bitOf]
      simp only [hbit]
      rfl
    · exact State.restKept_accessed_orF (s := s.quiet) (by decide) w
        (ex := [MI.DRAM_WIN.PAGE, MI.DRAM_WIN.OOR])
        (((State.restKept.refl _ _).wr (f := MI.DRAM_WIN.OOR) _ (.inl (by simp))).wr _ (.inl (by simp)))
    · exact State.accessed_orF_only (s := s.quiet) _ w rfl
  case cntSel =>
    intro src k data s hs hk hu hr
    obtain ⟨w, hw⟩ := State.registerWrite_cntSel_pa (s := s.quiet) data hs hk hu (by simpa using hr)
    refine Completes.next rfl hw ⟨?_, ?_, ?_⟩
    · rw [State.rd_orF_cntOvf _ (by decide) _ (cntSel_thresh_not_moving hk), State.rd_wr_same]
      show bitsOf (data % 2 ^ 32 * 2 ^ 32) 32 32 % 2 ^ 32 = data % 2 ^ 32
      unfold bitsOf
      omega
    · exact State.restKept_accessed_orF (s := s.quiet) (by decide) w (ex := [C.CNT_SEL.THRESH 5 k])
        ((State.restKept.refl _ _).wr _ (.inl (by simp)))
    · exact State.accessed_orF_only (s := s.quiet) _ w rfl
  case faults =>
    intro src i off size data s hi ho hs
    refine ⟨fun hm => ?_, fun hm hr => ?_⟩
    · exact Completes.next rfl (State.registerWrite_misaligned data hi ho hs hm) rfl
    · exact Completes.next rfl (State.registerWrite_denied data hi ho hm (by simpa using hr)) rfl

end Sys2Proof.Machine

/-!
PROOFS. Statements of the architecture family.
-/
namespace Sys2Proof.Machine

-- One thread elaborates this part, as the tests do: the text is long, and each proof's own task costs a thread.
set_option Elab.async false

/- ## The head of MI's window -/

/-- From `b` to `u` every field of MI's registers below offset 0x60 reads as before: the access status, the modes and their
requests, the states of the islands and the mode conditions. -/
def State.headKept (b u : State) : Prop := ∀ f : Field, f.key < 0x1800 → u.rd f = b.rd f

theorem State.headKept.refl (s : State) : s.headKept s := fun _ _ => rfl

theorem State.headKept.trans {a b c : State} (h : a.headKept b) (h' : b.headKept c) : a.headKept c :=
  fun f hf => (h' f hf).trans (h f hf)

theorem State.headKept.of_regs {a b : State} (h : b.regs = a.regs) : a.headKept b := fun f _ => by simp [State.rd, h]

theorem State.headKept.wr {a b : State} (h : a.headKept b) {g : Field} (v : Nat) (hg : 0x1800 ≤ g.key) :
    a.headKept (b.wr g v) := fun f hf => (b.rd_wr_ne v (by omega)).trans (h f hf)

theorem State.headKept.foldl {α : Type} {f : State → α → State} (hf : ∀ (u : State) (a : α), u.headKept (f u a))
    (l : List α) (s : State) :
    s.headKept (l.foldl f s) :=
  State.foldl_keeps (P := s.headKept) (fun _ a h => h.trans (hf _ a)) l (.refl s)

theorem pend_key_high (k : Nat) : 0x1800 ≤ (MI.IC_PEND.PEND k).key := by
  simp only [MI.IC_PEND.PEND, Field.key]; omega

theorem insvc_key_high (n : Nat) : 0x1800 ≤ (MI.IC_CFG.INSVC n).key := by
  simp only [MI.IC_CFG.INSVC, Field.key]; omega

theorem cnt_key_high (i k : Nat) : 0x1800 ≤ (C.CNT.COUNT i k).key := by
  simp only [C.CNT.COUNT, Field.key]; omega

theorem cntOvf_key_high (i : Nat) : 0x1800 ≤ (C.CNT_OVF.OVF i).key := by
  simp only [C.CNT_OVF.OVF, Field.key]; omega

theorem State.headKept_addOvf (s : State) {f o : Field} (bits n : Nat) (hf : 0x1800 ≤ f.key) (ho : 0x1800 ≤ o.key) :
    s.headKept (s.addOvf f o bits n) := by
  unfold State.addOvf
  split
  · exact ((State.headKept.refl s).wr _ hf).wr _ ho
  · exact (State.headKept.refl s).wr _ hf

theorem State.headKept_setPend (s : State) (n : Nat) (b : Bool) : s.headKept (s.setPend n b) := by
  unfold State.setPend
  split <;> exact (State.headKept.refl s).wr _ (pend_key_high _)

theorem State.headKept_msix (s : State) (v : Nat) : s.headKept (s.msix v) := by
  unfold State.msix
  split
  · exact .of_regs rfl
  · exact (State.headKept.refl s).wr _ (by decide)

theorem State.headKept_deliver (s : State) (n : Nat) : s.headKept (s.deliver n) := by
  unfold State.deliver
  split
  · exact ((s.headKept_setPend n false).wr 1 (insvc_key_high n)).trans (State.headKept_msix _ _)
  · exact .refl s

/-- An interrupt moves nothing there, whatever its source. -/
theorem State.headKept_raise (s : State) (n : Nat) : s.headKept (s.raise n) := by
  unfold State.raise
  split
  · exact .refl s
  · exact (s.headKept_setPend n true).trans (State.headKept_deliver _ n)

theorem State.headKept_raiseIf (s : State) (b : Bool) (n : Nat) : s.headKept (s.raiseIf b n) := by
  unfold State.raiseIf
  split
  · exact s.headKept_raise n
  · exact .refl s

theorem State.headKept_bump (s : State) (i k n : Nat) : s.headKept (s.bump i k n) := by
  have h := s.headKept_addOvf (2 ^ k) n (cnt_key_high i k) (cntOvf_key_high i)
  unfold State.bump
  dsimp only
  split
  · split
    · exact h.trans (State.headKept_raise _ _)
    · exact h
  · exact h

theorem State.headKept_count (s : State) (i ev n : Nat) : s.headKept (s.count i ev n) := by
  unfold State.count
  split
  · exact .refl s
  · refine State.headKept.foldl (fun u k => ?_) _ s
    unfold State.count1
    split
    · exact u.headKept_bump i k n
    · exact .refl u

theorem State.headKept_progress (s : State) (i : Nat) : s.headKept (s.progress i) := by
  unfold State.progress
  exact (State.headKept.of_regs (State.islSet_regs s _)).trans (State.headKept_count _ _ _ _)

theorem State.headKept_countCycles (s : State) (t1 : Nat) : s.headKept (s.countCycles t1) := by
  have hstep : ∀ (f : State → Nat → State), (∀ (u : State) (c : Nat), u.headKept (f u c)) →
      ∀ l : List Nat, s.headKept (l.foldl f s) :=
    fun f hf l => State.headKept.foldl hf l s
  unfold State.countCycles
  dsimp only
  split
  · refine hstep _ (fun u c => ?_) _
    split_ifs <;> first | exact .refl u | exact u.headKept_bump _ _ _
  · refine State.headKept.trans (hstep _ (fun u c => ?_) _) (.of_regs rfl)
    split_ifs <;> first | exact .refl u | exact u.headKept_bump _ _ _

/-- What passes before a command leaves the head of MI's window as it was. -/
theorem State.headKept_begin (s : State) (t : Nat) : s.headKept (s.begin t) := by
  unfold State.begin
  split
  · exact .of_regs rfl
  · have h : s.quiet.headKept ((s.quiet.countCycles (s.now + (t - s.time))).stallTime (t - s.time)) :=
      (s.quiet.headKept_countCycles _).trans (.of_regs (by rw [State.stallTime_only]))
    refine State.headKept.trans (State.headKept.of_regs rfl) (h.trans ?_)
    unfold State.advance
    split
    · exact State.headKept.trans ((State.headKept.refl _).wr _ (by decide)) (.of_regs rfl)
    · exact .refl _

theorem State.headKept.isl? {a b : State} (h : a.headKept b) (i : Nat) : b.isl? i = a.isl? i := by
  unfold State.isl?
  rw [h _ (by decide)]

theorem State.headKept.islUp {a b : State} (h : a.headKept b) (i : Nat) : b.islUp i = a.islUp i := by
  unfold State.islUp
  rw [h.isl?]

@[simp] theorem State.begin_islUp (s : State) (t i : Nat) : (s.begin t).islUp i = s.islUp i := (s.headKept_begin t).islUp i

/- ## Writes of the core's registers by the host (R45, R78, R141) -/

/-- A host write of a register that is closed to it is an unmapped access. -/
theorem State.regWrite_closed {s : State} {i off size m data : Nat} {r : RegAt} (hu : s.islUp i = true)
    (hr : regAt i off = some r) (hw : s.hostWrites r i = false) :
    s.regWrite .host i off size m data = s.unmapped .host i (if size = 4 ∧ 2 ^ 32 ≤ m then off + 4 else off) := by
  simp [State.regWrite, hu, hr, hw]

/-- MI.DRAM_WIN, MI.ISL_CMD and MI.MODE_REQ are closed to the host. -/
theorem State.coreRegister_closed (s : State) {r : Nat} (hr : r = 0x40 ∨ r = 0x280 ∨ r = 0x30) :
    ∃ e, regAt 0 r = some e ∧ s.hostWrites e 0 = false := by
  obtain rfl | rfl | rfl := hr
  · exact ⟨_, regAt_dramWin, rfl⟩
  · exact ⟨⟨0x280, [], false, false, [(MI.ISL_CMD.OFF, .w1p), (MI.ISL_CMD.RESET, .w1p)]⟩, by decide +kernel, rfl⟩
  · exact ⟨⟨0x30, [], false, false, [(MI.MODE_REQ.GO, .w1p), (MI.MODE_REQ.TARGET, .rw)]⟩, by decide +kernel, rfl⟩

theorem State.registerWrite_lower {s : State} {src : Src} {i off : Nat} (data : Nat) (hi : i < 16)
    (ho : off < 0x100000) (h8 : off % 8 = 0) (hr : s.reaches src .store i off = true) :
    s.registerWrite src i off 4 data = s.regWrite src i off 4 (2 ^ 32 - 1) (data % 2 ^ 32) := by
  have hw : off / 8 * 8 = off := by omega
  unfold State.registerWrite
  rw [if_neg (by omega), State.regAccess_aligned _ _ _ _ (.inr (show off % 4 = 0 by omega)), State.guarded_reached _ hr,
    if_neg (by omega), if_pos ⟨rfl, by omega⟩]
  simp [hw, h8]

/-- A host write of the whole of such a register, or of one half, is an unmapped access at the place it names. -/
theorem State.registerWrite_closed {s : State} {r a size : Nat} (data : Nat) (hu : s.islUp 0 = true)
    (hr : r = 0x40 ∨ r = 0x280 ∨ r = 0x30) (ha : size = 8 ∧ a = r ∨ size = 4 ∧ (a = r ∨ a = r + 4)) :
    s.registerWrite .host 0 a size data = s.unmapped .host 0 a := by
  obtain ⟨e, he, hw⟩ := s.coreRegister_closed hr
  have h8 : r % 8 = 0 := by omega
  obtain ⟨rfl, rfl⟩ | ⟨rfl, rfl | rfl⟩ := ha
  · rw [State.registerWrite_whole data (by decide) (by omega) h8 (by simp), State.regWrite_closed hu he hw]
    rfl
  · rw [State.registerWrite_lower data (by decide) (by omega) h8 (by simp), State.regWrite_closed hu he hw]
    rfl
  · rw [State.registerWrite_upper data (by decide) (by omega) h8 (by simp), State.regWrite_closed hu he hw]
    rfl

/-- Settles O58: a plain write finds the register closed to the host, and so does each command that is such a write. -/
theorem hostWritesToTheCoresRegistersAreIgnored : Obligations.HostWritesToTheCoresRegistersAreIgnored := by
  unfold Obligations.HostWritesToTheCoresRegistersAreIgnored
  intro c b r a t data mask s hu hc
  have ha : a < 2 ^ 20 := by omega
  have hx : exec c s = .next (b.unmapped .host 0 a) := by
    obtain ⟨hr, ⟨rfl, ha⟩ | ⟨rfl, ha⟩, rfl⟩ | ⟨rfl, rfl, rfl⟩ | ⟨rfl, rfl, rfl⟩ | ⟨rfl, rfl, rfl⟩ := hc
    · exact congrArg _ (State.registerWrite_closed data (by simpa using hu) hr (.inl ⟨rfl, ha⟩))
    · exact congrArg _ (State.registerWrite_closed data (by simpa using hu) hr (.inr ⟨rfl, ha⟩))
    · exact congrArg _ (State.regCmd_host (by simpa using hu))
    · exact congrArg _ (State.regCmd_host (by simpa using hu))
    · exact congrArg _ (State.regCmd_host (by simpa using hu))
  obtain ⟨hun, haddr, hisl, hsrc⟩ := b.unmapped_rd .host 0 a
  exact Completes.of_eq hx ⟨b.unmapped_only .host 0 a, hun, hsrc, haddr.trans (Nat.mod_eq_of_lt ha), hisl,
    b.regsKept_unmapped .host 0 a⟩

/- ## Items on a channel to a place that is no island (R55) -/

/-- A channel to the place behind island 15, where no island is. -/
def beyondIslands : Chan := ⟨1, 4, 16⟩

/-- A register file with a seventeenth STATE in MI.ISL_STAT that says `running`, an event counter of that place that
counts arrivals (event 3) and stands before its overflow, and an item on its way there. -/
def beyondIslandsState : State :=
  { State.reset with
    regs := [(MI.ISL_STAT.STATE.key, 2 ^ 32), ((C.CNT_SEL.EVENT 16 0).key, 3), ((C.CNT_SEL.EN 16 0).key, 1),
      ((C.CNT.COUNT 16 0).key, 2 ^ 48 - 1)]
    chans := [(chanKey beyondIslands, ⟨0, [.search 0], [], 0⟩)] }

/-- The arrival overflows the counter, which raises interrupt 134; PEND of 134 is bit 6 of MI.IC_THRESH, a register that
is none of those that counting and interrupts move. -/
theorem itemArrives_beyondIslands :
    beyondIslandsState.rd MI.IC_THRESH.THRESH = 0
      ∧ (beyondIslandsState.quiet.itemArrives beyondIslands).rd MI.IC_THRESH.THRESH = 64 := by
  decide +kernel

/-- Refutes O3: its first clause takes every channel, and an item that arrives behind the last island can move
MI.IC_THRESH. -/
theorem not_channelItemsAndCreditsAreConserved : ¬ Obligations.ChannelItemsAndCreditsAreConserved := by
  unfold Obligations.ChannelItemsAndCreditsAreConserved
  rintro ⟨harrive, -⟩
  obtain ⟨u, hu, -, -, hkept, -⟩ := harrive beyondIslands (.search 0) [] beyondIslandsState (by decide +kernel)
    (by decide +kernel)
  have hx : exec (.channelItemArrival beyondIslands) beyondIslandsState
      = .next (beyondIslandsState.quiet.itemArrives beyondIslands) := rfl
  obtain rfl := Host.Outcome.next.inj (hx.symm.trans hu)
  obtain ⟨hbefore, hafter⟩ := itemArrives_beyondIslands
  have hthresh := hkept MI.IC_THRESH.THRESH (by decide) (by simp)
  rw [hafter, hbefore] at hthresh
  exact absurd hthresh (by decide)

/- ## The parts of the state that an operation touches -/

/-- The parts of the state, one per field of `State`. -/
inductive StatePart where
  | regs | now | resp | out | free | log | chans | isl | ports | i2c | bank0 | bank1 | curBank | epoch | pa | pb | si | bi
  | ti | ringE | ringW | rsch | gw | img | boot | di | mg | fl | tag | cnt | sram | dram | flash | host | pending
deriving DecidableEq

/-- Two states agree in a part. -/
def StatePart.same (p : StatePart) (a b : State) : Prop :=
  match p with
  | .regs => b.regs = a.regs
  | .now => b.now = a.now
  | .resp => b.resp = a.resp
  | .out => b.out = a.out
  | .free => b.free = a.free
  | .log => b.log = a.log
  | .chans => b.chans = a.chans
  | .isl => b.isl = a.isl
  | .ports => b.ports = a.ports
  | .i2c => b.i2c = a.i2c
  | .bank0 => b.bank0 = a.bank0
  | .bank1 => b.bank1 = a.bank1
  | .curBank => b.curBank = a.curBank
  | .epoch => b.epoch = a.epoch
  | .pa => b.pa = a.pa
  | .pb => b.pb = a.pb
  | .si => b.si = a.si
  | .bi => b.bi = a.bi
  | .ti => b.ti = a.ti
  | .ringE => b.ringE = a.ringE
  | .ringW => b.ringW = a.ringW
  | .rsch => b.rsch = a.rsch
  | .gw => b.gw = a.gw
  | .img => b.img = a.img
  | .boot => b.boot = a.boot
  | .di => b.di = a.di
  | .mg => b.mg = a.mg
  | .fl => b.fl = a.fl
  | .tag => b.tag = a.tag
  | .cnt => b.cnt = a.cnt
  | .sram => b.sram = a.sram
  | .dram => b.dram = a.dram
  | .flash => b.flash = a.flash
  | .host => b.host = a.host
  | .pending => b.pending = a.pending

theorem StatePart.same.refl (p : StatePart) (s : State) : p.same s s := by cases p <;> rfl

theorem StatePart.same.trans {p : StatePart} {a b c : State} (h : p.same a b) (h' : p.same b c) : p.same a c := by
  cases p <;> exact Eq.trans h' h

/-- From `a` to `b` nothing changed but the listed parts. -/
def State.only (a b : State) (l : List StatePart) : Prop := ∀ p, p ∉ l → p.same a b

variable {a b c : State} {l : List StatePart}

theorem State.only.refl (s : State) (l : List StatePart) : s.only s l := fun p _ => .refl p s

theorem State.only.trans (h : a.only b l) (h' : b.only c l) : a.only c l := fun p hp => (h p hp).trans (h' p hp)

theorem State.only.mono (h : a.only b l) {l' : List StatePart} (hl : l ⊆ l' := by decide) : a.only b l' :=
  fun p hp => h p fun hp' => hp (hl hp')

/-- One state behind another: what the second operation touches stands in the list as well. -/
theorem State.only.then (h : a.only b l) {l' : List StatePart} (h' : b.only c l') (hl : l' ⊆ l := by decide) : a.only c l :=
  h.trans (h'.mono hl)

theorem State.only.of_eq (h : b = a) (l : List StatePart) : a.only b l := h ▸ State.only.refl b l

/-- The state `b` with the listed parts of `u`. -/
def State.withParts (b u : State) (l : List StatePart) : State :=
  { regs := if .regs ∈ l then u.regs else b.regs, now := if .now ∈ l then u.now else b.now,
    resp := if .resp ∈ l then u.resp else b.resp, out := if .out ∈ l then u.out else b.out,
    free := if .free ∈ l then u.free else b.free, log := if .log ∈ l then u.log else b.log,
    chans := if .chans ∈ l then u.chans else b.chans, isl := if .isl ∈ l then u.isl else b.isl,
    ports := if .ports ∈ l then u.ports else b.ports, i2c := if .i2c ∈ l then u.i2c else b.i2c,
    bank0 := if .bank0 ∈ l then u.bank0 else b.bank0, bank1 := if .bank1 ∈ l then u.bank1 else b.bank1,
    curBank := if .curBank ∈ l then u.curBank else b.curBank, epoch := if .epoch ∈ l then u.epoch else b.epoch,
    pa := if .pa ∈ l then u.pa else b.pa, pb := if .pb ∈ l then u.pb else b.pb, si := if .si ∈ l then u.si else b.si,
    bi := if .bi ∈ l then u.bi else b.bi, ti := if .ti ∈ l then u.ti else b.ti,
    ringE := if .ringE ∈ l then u.ringE else b.ringE, ringW := if .ringW ∈ l then u.ringW else b.ringW,
    rsch := if .rsch ∈ l then u.rsch else b.rsch, gw := if .gw ∈ l then u.gw else b.gw,
    img := if .img ∈ l then u.img else b.img, boot := if .boot ∈ l then u.boot else b.boot,
    di := if .di ∈ l then u.di else b.di, mg := if .mg ∈ l then u.mg else b.mg, fl := if .fl ∈ l then u.fl else b.fl,
    tag := if .tag ∈ l then u.tag else b.tag, cnt := if .cnt ∈ l then u.cnt else b.cnt,
    sram := if .sram ∈ l then u.sram else b.sram, dram := if .dram ∈ l then u.dram else b.dram,
    flash := if .flash ∈ l then u.flash else b.flash, host := if .host ∈ l then u.host else b.host,
    pending := if .pending ∈ l then u.pending else b.pending }

theorem State.ext_parts (h : ∀ p : StatePart, p.same a b) : b = a := by
  obtain ⟨⟩ := a
  obtain ⟨⟩ := b
  simp only [State.mk.injEq]
  exact ⟨h .regs, h .now, h .resp, h .out, h .free, h .log, h .chans, h .isl, h .ports, h .i2c, h .bank0, h .bank1,
    h .curBank, h .epoch, h .pa, h .pb, h .si, h .bi, h .ti, h .ringE, h .ringW, h .rsch, h .gw, h .img, h .boot, h .di,
    h .mg, h .fl, h .tag, h .cnt, h .sram, h .dram, h .flash, h .host, h .pending⟩

/-- A state of which only the listed parts changed is the old one with those parts. -/
theorem State.only.eq (h : a.only b l) : b = a.withParts b l := by
  refine State.ext_parts fun p => ?_
  by_cases hp : p ∈ l
  · cases p <;> simp [StatePart.same, State.withParts, hp]
  · have := h p hp
    cases p <;> simpa [StatePart.same, State.withParts, hp] using this

theorem State.only_withParts (a b : State) (l : List StatePart) : a.only (a.withParts b l) l := by
  intro p hp
  cases p <;> simp [StatePart.same, State.withParts, hp]

theorem State.only.of_withParts (h : b = a.withParts b l) : a.only b l := h ▸ a.only_withParts b l

/- ## Which parts the shared operations touch -/

theorem State.only_wr (s : State) (f : Field) (v : Nat) : s.only (s.wr f v) [.regs] := .of_withParts rfl
theorem State.only_wrs (s : State) (l : List (Field × Nat)) : s.only (s.wrs l) [.regs] := .of_withParts (s.wrs_only l)
theorem State.only_addOvf (s : State) (f o : Field) (bits n : Nat) : s.only (s.addOvf f o bits n) [.regs] :=
  .of_withParts (s.addOvf_only f o bits n)
theorem State.only_emit (s : State) (o : Output) : s.only (s.emit o) [.out] := .of_withParts rfl
theorem State.only_count (s : State) (i ev n : Nat) : s.only (s.count i ev n) [.regs, .out] :=
  .of_withParts (s.count_only i ev n)
theorem State.only_progress (s : State) (i : Nat) : s.only (s.progress i) [.regs, .out, .isl] :=
  .of_withParts (s.progress_only i)
theorem State.only_raise (s : State) (n : Nat) : s.only (s.raise n) [.regs, .out] := .of_withParts (s.raise_only n)
theorem State.only_raiseIf (s : State) (x : Bool) (n : Nat) : s.only (s.raiseIf x n) [.regs, .out] :=
  .of_withParts (s.raiseIf_only x n)
theorem State.only_logEvent (s : State) (cause i : Nat) : s.only (s.logEvent cause i) [.regs, .di, .free, .log] :=
  .of_withParts (s.logEvent_only cause i)
theorem State.only_setMac (s : State) (p : Nat) (m : PortMac) : s.only (s.setMac p m) [.ports] := .of_withParts rfl
theorem State.only_setChan (s : State) (c : Chan) (v : Channel) : s.only (s.setChan c v) [.chans] := .of_withParts rfl
theorem State.only_setBq (s : State) (q : Nat) (b : BufQueue) : s.only (s.setBq q b) [.bi] := .of_withParts rfl
theorem State.only_setCar (s : State) (p : Nat) (v : CarPort) : s.only (s.setCar p v) [.bi] := .of_withParts rfl
theorem State.only_tookFree (s : State) : s.only s.tookFree [.free] := .of_withParts rfl

/- ## What stays where a part is not touched -/

theorem State.only.regs (h : a.only b l) (hl : .regs ∉ l := by decide) : b.regs = a.regs := h .regs hl
theorem State.only.rd (h : a.only b l) (f : Field) (hl : .regs ∉ l := by decide) : b.rd f = a.rd f := by
  unfold State.rd
  rw [h.regs hl]
theorem State.only.now (h : a.only b l) (hl : .now ∉ l := by decide) : b.now = a.now := h .now hl
theorem State.only.chan (h : a.only b l) (c : Chan) (hl : .chans ∉ l := by decide) : b.chan c = a.chan c := by
  unfold State.chan
  rw [show b.chans = a.chans from h .chans hl]
theorem State.only.mac (h : a.only b l) (p : Nat) (hl : .ports ∉ l := by decide) : b.mac p = a.mac p := by
  unfold State.mac
  rw [show b.ports = a.ports from h .ports hl]
theorem State.only.bq (h : a.only b l) (q : Nat) (hl : .bi ∉ l := by decide) : b.bq q = a.bq q := by
  unfold State.bq
  rw [show b.bi = a.bi from h .bi hl]
theorem State.only.memories (h : a.only b l) (hl : l ∩ [.sram, .dram, .flash, .host, .di, .mg] = [] := by decide) :
    a.memoriesKept b := by
  have hp : ∀ p ∈ [StatePart.sram, .dram, .flash, .host, .di, .mg], p.same a b := fun p hp =>
    h p fun hpl => List.eq_nil_iff_forall_not_mem.1 hl p (List.mem_inter_iff.2 ⟨hpl, hp⟩)
  have hdi : b.di = a.di := hp .di (by simp)
  have hmg : b.mg = a.mg := hp .mg (by simp)
  exact ⟨hp .sram (by simp), hp .dram (by simp), hp .flash (by simp), hp .host (by simp), by rw [hdi], by rw [hmg]⟩

/- ## One MAC, one queue, one channel -/

@[simp] theorem State.mac_setMac_same (s : State) (p : Nat) (m : PortMac) : (s.setMac p m).mac p = m :=
  ngetD_nput_same _ _ _ _

theorem State.mac_setMac_ne (s : State) {p q : Nat} (m : PortMac) (h : q ≠ p) : (s.setMac p m).mac q = s.mac q :=
  ngetD_nput_ne _ _ _ _ h

@[simp] theorem State.bq_setBq_same (s : State) (q : Nat) (b : BufQueue) : (s.setBq q b).bq q = b :=
  ngetD_nput_same _ _ _ _

theorem State.bq_setBq_ne (s : State) {q r : Nat} (b : BufQueue) (h : r ≠ q) : (s.setBq q b).bq r = s.bq r :=
  ngetD_nput_ne _ _ _ _ h

@[simp] theorem State.chan_setChan_same (s : State) (c : Chan) (v : Channel) : (s.setChan c v).chan c = v :=
  ngetD_nset_same _ _ _ _

theorem State.chan_setChan_ne (s : State) {c e : Chan} (v : Channel) (h : chanKey e ≠ chanKey c) :
    (s.setChan c v).chan e = s.chan e :=
  ngetD_nset_ne _ _ _ h

@[simp] theorem State.car_setCar_same (s : State) (p : Nat) (v : CarPort) : (s.setCar p v).car p = v :=
  ngetD_nput_same _ _ _ _

/- ## Sending (R156, R158, R311, R313, R314) -/

theorem State.stampTx_off {s : State} {p : Nat} (t : Nat) (l : Frame) (h : s.isSet (TI.TS_CFG.PTP_EN p) = false) :
    s.stampTx p t l = (s, l) := by
  simp [State.stampTx, h]

/-- A frame begins on the wire of a port that stamps no PTP message. -/
theorem State.beginTx_unstamped {s : State} {p : Nat} (t : Nat) (d : Desc) (h : s.isSet (TI.TS_CFG.PTP_EN p) = false) :
    s.beginTx p t d =
      (s.setMac p { s.mac p with wire := some ⟨d, t, t + s.txNs p (s.charge d)⟩, owesFrame := false }).emit
        (.frame p (if p = 100 then (d.ingress + d.cls) % 2 else 0) (padFrame d.bytes)) := by
  simp [State.beginTx, State.stampTx_off t _ h]

theorem State.txStart_sched {s : State} {p t : Nat} {d : Desc} {r : List Desc} (hf : s.macFree p t = true)
    (hq : (s.mac p).sched = d :: r) (hw : s.isSet (BI.CAR_PORT.WIN_OPEN p) = true) (hfit : s.fitsWindow p t d = true) :
    s.txStart p t = (s.setMac p { s.mac p with sched := r }).beginTx p t d := by
  simp [State.txStart, hf, hq, hw, hfit]

theorem State.txStart_defer {s : State} {p t : Nat} {d : Desc} {r : List Desc} (hf : s.macFree p t = true)
    (hq : (s.mac p).sched = d :: r) (hw : s.isSet (BI.CAR_PORT.WIN_OPEN p) = true) (hfit : s.fitsWindow p t d = false)
    (hd : (s.car p).deferred = false) :
    s.txStart p t = (s.countDefer p).setCar p { s.car p with deferred := true } := by
  simp [State.txStart, hf, hq, hw, hfit, hd]

theorem State.txStart_ordin {s : State} {p t : Nat} {d : Desc} {r : List Desc} (hf : s.macFree p t = true)
    (hq : (s.mac p).ordin = d :: r) (hc : s.laneClosed p t = false)
    (hs : (s.mac p).sched = [] ∨ s.isSet (BI.CAR_PORT.WIN_OPEN p) = false) :
    s.txStart p t = (s.setMac p { s.mac p with ordin := r }).beginTx p t d := by
  unfold State.txStart
  rcases hs with hs | hs
  · simp [hf, hq, hc, hs]
  · cases h : (s.mac p).sched <;> simp [hf, hq, hc, hs, h]

/- ## Registers that an operation keeps -/

theorem State.restKept.addOvf {a b : State} {ex : List Field} (h : a.restKept b ex) {f o : Field} (bits n : Nat)
    (hf : f ∈ ex ∨ f.moving = true) (ho : o ∈ ex ∨ o.moving = true) : a.restKept (b.addOvf f o bits n) ex := by
  unfold State.addOvf
  split
  · exact (h.wr _ hf).wr _ ho
  · exact h.wr _ hf

theorem State.regsKept.addOvf {a b : State} {ex : List Field} (h : a.regsKept b ex) {f o : Field} (bits n : Nat)
    (hf : f ∈ ex) (ho : o ∈ ex) : a.regsKept (b.addOvf f o bits n) ex := by
  unfold State.addOvf
  split
  · exact (h.wr _ hf).wr _ ho
  · exact h.wr _ hf

theorem State.restKept.count {a b : State} {ex : List Field} (h : a.restKept b ex) {i : Nat} (ev n : Nat) (hi : i < 16) :
    a.restKept (b.count i ev n) ex := h.trans ((b.restKept_count ev n hi).mono (by simp))

theorem State.restKept.progress {a b : State} {ex : List Field} (h : a.restKept b ex) {i : Nat} (hi : i < 16) :
    a.restKept (b.progress i) ex := h.trans ((b.restKept_progress hi).mono (by simp))

theorem State.restKept.regs {a b c : State} {ex : List Field} (h : a.restKept b ex) (hc : c.regs = b.regs) :
    a.restKept c ex := h.trans (.of_regs hc ex)

theorem State.restKept.then {a b c : State} {ex ex' : List Field} (h : a.restKept b ex) (h' : b.restKept c ex')
    (hs : ex' ⊆ ex := by simp) : a.restKept c ex := h.trans (h'.mono hs)

theorem State.restKept.raiseIf {a b : State} {ex : List Field} (h : a.restKept b ex) (x : Bool) {n : Nat} (hn : n < 128) :
    a.restKept (b.raiseIf x n) ex := h.trans ((b.restKept_raiseIf x hn).mono (by simp))

/- ## Statistics counters of a port (05_ports.md) -/

theorem portIsl_lt (p : Nat) : portIsl p < 16 := by
  unfold portIsl
  split_ifs <;> omega

theorem isEthPort_iff {p : Nat} : isEthPort p = true ↔ p < 96 ∨ 98 ≤ p ∧ p ≤ 100 := by
  simp [isEthPort]

/-- The counters of a port lie in its island's window at 0x2000, and their overflow bits behind them. -/
theorem portCnt_key {p c : Nat} (hp : isEthPort p = true) :
    ∃ i k, (i = 4 ∨ 10 ≤ i ∧ i < 16) ∧ k < 16 ∧ (portCnt p c).key = (i * 0x100000 + 0x2000 + 0x80 * k + 8 * c) * 64
      ∧ (portCntOvf p).key = (i * 0x100000 + 0x2800 + 8 * k) * 64 := by
  rw [isEthPort_iff] at hp
  unfold portCnt portCntOvf
  by_cases h : p < 96
  · refine ⟨10 + p / 16, p % 16, by omega, by omega, ?_⟩
    simp only [if_pos h, PI.PORT_CNT.COUNT, PI.PORT_CNT_OVF.OVF, Field.key]
    omega
  · refine ⟨4, p - 98, by omega, by omega, ?_⟩
    simp only [if_neg h, UI.PORT_CNT.COUNT, UI.PORT_CNT_OVF.OVF, Field.key]
    omega

/-- What counting and interrupts move lies in MI, and at the top of the other islands' windows. -/
theorem Field.not_moving_of_place {f : Field} (hi : 0 < f.isl) (ho : f.off < 0xF0100) (hl : f.lo < 64) : f.moving = false := by
  have ha : f.key / 64 = f.isl * 0x100000 + f.off := by unfold Field.key; omega
  have hm : f.key / 64 % 0x100000 = f.off := by omega
  unfold Field.moving
  simp only [hm, Bool.or_eq_false_iff, Bool.and_eq_false_iff, decide_eq_false_iff_not]
  omega

theorem portCnt_not_moving {p c : Nat} (hp : isEthPort p = true) (hc : c < 16) : (portCnt p c).moving = false := by
  rw [isEthPort_iff] at hp
  unfold portCnt
  split
  · exact Field.not_moving_of_place (show 0 < 10 + p / 16 by omega)
      (show 0x2000 + 0x80 * (p % 16) + 0x8 * c < 0xF0100 by omega) (show 0 < 64 by decide)
  · exact Field.not_moving_of_place (show 0 < 4 by decide)
      (show 0x2000 + 0x80 * (p - 98) + 0x8 * c < 0xF0100 by omega) (show 0 < 64 by decide)

theorem portCnt_key_ne {p c c' : Nat} (h : c ≠ c') : (portCnt p c).key ≠ (portCnt p c').key := by
  unfold portCnt
  split_ifs <;> simp only [PI.PORT_CNT.COUNT, UI.PORT_CNT.COUNT, Field.key] <;> omega

theorem portCnt_key_ne_ovf {p c : Nat} (hp : isEthPort p = true) (hc : c < 16) : (portCnt p c).key ≠ (portCntOvf p).key := by
  obtain ⟨i, k, hi, hk, hkey, hovf⟩ := portCnt_key (c := c) hp
  omega

/-- No register of BI is a counter of a port's island. -/
theorem portCnt_key_ne_bi {p c k : Nat} (hp : isEthPort p = true) (hc : c < 16) (hk : 0x20000000 ≤ k) (hk' : k < 0x24000000) :
    k ≠ (portCnt p c).key ∧ k ≠ (portCntOvf p).key := by
  obtain ⟨i, j, hi, hj, hkey, hovf⟩ := portCnt_key (c := c) hp
  omega

/-- Nor is a register of MI. -/
theorem portCnt_key_ne_mi {p c k : Nat} (hp : isEthPort p = true) (hk : k < 0x4000000) :
    k ≠ (portCnt p c).key ∧ k ≠ (portCntOvf p).key := by
  obtain ⟨i, j, hi, hj, hkey, hovf⟩ := portCnt_key (c := c) hp
  omega

theorem State.rd_cntPort_same {s : State} {p c : Nat} (n : Nat) (hp : isEthPort p = true) (hc : c < 16) :
    (s.cntPort p c n).rd (portCnt p c) = (s.rd (portCnt p c) + n) % 2 ^ (portCnt p c).width :=
  s.rd_addOvf_same _ _ (portCnt_key_ne_ovf hp hc)

theorem State.rd_cntPort_ne {s : State} {p c : Nat} {g : Field} (n : Nat) (hf : g.key ≠ (portCnt p c).key)
    (ho : g.key ≠ (portCntOvf p).key) : (s.cntPort p c n).rd g = s.rd g :=
  s.rd_addOvf_ne _ _ hf ho

theorem State.only_cntPort (s : State) (p c n : Nat) : s.only (s.cntPort p c n) [.regs] := s.only_addOvf _ _ _ _

theorem State.only_cntQ (s : State) (q c n : Nat) : s.only (s.cntQ q c n) [.regs] := s.only_addOvf _ _ _ _

/- ## Freeing the cells of a frame (R280, R291) -/

/-- The registers that the release of a frame moves: the accounts of its queue, of the pool and of the return reserve. -/
def Desc.accounts (d : Desc) : List Field :=
  [BI.Q_OCC.CELLS d.q, BI.Q_OCC.FRAMES d.q, BI.BUF_STAT.FREE_SHARED, BI.BUF_STAT.RESERVE_USED]
    ++ (spillOf d.q).toList.map BI.SPILL_STAT.RB

theorem Desc.q_lt {d : Desc} (hp : d.port < 102) (hq : d.queue < 8) : d.q < 816 := by
  unfold Desc.q
  omega

theorem spillOf_lt {q i : Nat} (h : spillOf q = some i) : i < 24 := by
  unfold spillOf at h
  split_ifs at h <;> simp at h <;> omega

/-- They all lie in the lowest 128 KiB of BI's window. -/
theorem Desc.accounts_key {d : Desc} (hq : d.q < 816) {g : Field} (hg : g ∈ d.accounts) :
    0x20000000 ≤ g.key ∧ g.key < 0x20800000 := by
  simp only [Desc.accounts, List.mem_append, List.mem_cons, List.not_mem_nil, or_false, List.mem_map, Option.mem_toList] at hg
  obtain (rfl | rfl | rfl | rfl) | ⟨i, hi, rfl⟩ := hg
  · simp only [BI.Q_OCC.CELLS, Field.key]; omega
  · simp only [BI.Q_OCC.FRAMES, Field.key]; omega
  · decide
  · decide
  · have := spillOf_lt hi
    simp only [BI.SPILL_STAT.RB, Field.key]; omega

theorem State.restKept_freeReserve (s : State) (d : Desc) (n : Nat) : s.restKept (s.freeReserve d.q n) d.accounts := by
  unfold State.freeReserve
  split
  · rename_i i hi
    exact ((State.restKept.refl s _).wr _ (.inl (by simp [Desc.accounts]))).wr _ (.inl (by simp [Desc.accounts, hi]))
  · exact .refl s _

theorem State.restKept_setCells (s : State) (d : Desc) (n : Nat) : s.restKept (s.setCells d.q n) d.accounts := by
  unfold State.setCells
  exact ((State.restKept.refl s _).wr _ (.inl (by simp [Desc.accounts]))).wr _ (.inl (by simp [Desc.accounts]))

theorem State.restKept_releaseDesc (s : State) (d : Desc) : s.restKept (s.releaseDesc d) d.accounts := by
  unfold State.releaseDesc
  dsimp only
  split
  · exact .refl s _
  · refine ((State.restKept.wr ?_ _ (.inl (by simp [Desc.accounts]))).count _ _ (by decide)).progress (by decide)
    split
    · exact s.restKept_freeReserve d _
    · exact (s.restKept_setCells d _).regs rfl

theorem State.only_freeReserve (s : State) (q n : Nat) : s.only (s.freeReserve q n) [.regs] := by
  unfold State.freeReserve
  split
  · exact (s.only_wr _ _).then (State.only_wr _ _ _)
  · exact .refl s _

theorem State.only_noteFreed (s : State) (q n : Nat) : s.only (s.noteFreed q n) [.bi] := .of_withParts rfl

theorem State.only_setCells (s : State) (q n : Nat) : s.only (s.setCells q n) [.regs] :=
  (s.only_wr _ _).then (State.only_wr _ _ _)

/-- The release of a frame touches registers, the note of what BI has freed, and the progress of BI. -/
theorem State.only_releaseDesc (s : State) (d : Desc) : s.only (s.releaseDesc d) [.regs, .out, .isl, .bi] := by
  unfold State.releaseDesc
  dsimp only
  split
  · exact .refl s _
  · refine ((State.only.then ?_ (State.only_wr _ _ _)).then (State.only_count _ _ _ _)).then (State.only_progress _ _)
    split
    · exact (s.only_freeReserve _ _).mono
    · exact ((State.only.refl s _).then (s.only_setCells _ _)).then (State.only_noteFreed _ _ _)

theorem State.noteFreed_queues (s : State) (q n : Nat) : (s.noteFreed q n).bi.queues = s.bi.queues := by
  obtain ⟨c, l, h⟩ : ∃ c l, s.noteFreed q n = { s with bi := { s.bi with freedAt := c, freed := l } } := ⟨_, _, rfl⟩
  rw [h]

theorem State.releaseDesc_queues (s : State) (d : Desc) : (s.releaseDesc d).bi.queues = s.bi.queues := by
  unfold State.releaseDesc
  dsimp only
  split
  · rfl
  · rw [State.progress_bi, State.count_bi, State.wr_bi]
    split
    · rw [(s.only_freeReserve _ _) .bi (by decide)]
    · rw [State.noteFreed_queues, (s.only_setCells _ _) .bi (by decide)]

/- ## Confirming a frame (R28, R71, R545) -/

theorem qstat_key {q c : Nat} (hq : q < 816) (hc : c < 8) :
    0x22000000 ≤ (BI.QSTAT.COUNT q c).key ∧ (BI.QSTAT.COUNT q c).key < (BI.QSTAT_OVF.OVF q).key := by
  simp only [BI.QSTAT.COUNT, BI.QSTAT_OVF.OVF, Field.key]
  omega

theorem qstat_key_ne {q c c' : Nat} (h : c ≠ c') : (BI.QSTAT.COUNT q c).key ≠ (BI.QSTAT.COUNT q c').key := by
  simp only [BI.QSTAT.COUNT, Field.key]
  omega

theorem qstat_not_moving {q c : Nat} (hq : q < 816) (hc : c < 8) : (BI.QSTAT.COUNT q c).moving = false :=
  Field.not_moving_of_place (show 0 < 8 by decide) (show 0x80000 + 0x40 * q + 0x8 * c < 0xF0100 by omega) (show 0 < 64 by decide)

theorem State.only_confirmDesc (s : State) (d : Desc) : s.only (s.confirmDesc d) [.regs, .out, .isl, .bi] :=
  (((State.only.refl s _).then (s.only_cntQ _ _ _)).then (State.only_cntQ _ _ _ _)).then (State.only_releaseDesc _ d)

theorem State.confirmDesc_queues (s : State) (d : Desc) : (s.confirmDesc d).bi.queues = s.bi.queues := by
  unfold State.confirmDesc
  rw [State.releaseDesc_queues, (State.only_cntQ _ _ _ _) .bi (by decide), (s.only_cntQ _ _ _) .bi (by decide)]

/-- The confirmation of a frame moves its queue's counters and accounts. -/
theorem State.restKept_confirmDesc (s : State) (d : Desc) :
    s.restKept (s.confirmDesc d)
      ([BI.QSTAT.COUNT d.q 4, BI.QSTAT.COUNT d.q 5, BI.QSTAT_OVF.OVF d.q] ++ d.accounts) := by
  unfold State.confirmDesc
  refine State.restKept.trans ?_ ((State.restKept_releaseDesc _ d).mono fun g hg => List.mem_append_right _ hg)
  exact ((State.restKept.refl s _).addOvf _ _ (.inl (by simp)) (.inl (by simp))).addOvf _ _ (.inl (by simp)) (.inl (by simp))

/-- These registers are all BI's. -/
theorem confirmDesc_key {d : Desc} (hq : d.q < 816) {g : Field}
    (hg : g ∈ [BI.QSTAT.COUNT d.q 4, BI.QSTAT.COUNT d.q 5, BI.QSTAT_OVF.OVF d.q] ++ d.accounts) :
    0x20000000 ≤ g.key ∧ g.key < 0x24000000 := by
  have h4 := qstat_key (c := 4) hq (by decide)
  have h5 := qstat_key (c := 5) hq (by decide)
  have hovf : (BI.QSTAT_OVF.OVF d.q).key < 0x24000000 := by simp only [BI.QSTAT_OVF.OVF, Field.key]; omega
  rcases List.mem_append.1 hg with hg | hg
  · simp only [List.mem_cons, List.not_mem_nil, or_false] at hg
    obtain rfl | rfl | rfl := hg <;> omega
  · have := d.accounts_key hq hg
    omega

/-- The frames that a queue has sent. -/
theorem State.rd_confirmDesc_sent (s : State) {d : Desc} (hq : d.q < 816) :
    (s.confirmDesc d).rd (BI.QSTAT.COUNT d.q 4)
      = (s.rd (BI.QSTAT.COUNT d.q 4) + 1) % 2 ^ (BI.QSTAT.COUNT d.q 4).width := by
  have h4 := qstat_key (c := 4) hq (by decide)
  unfold State.confirmDesc
  rw [(State.restKept_releaseDesc _ d).rd (qstat_not_moving hq (by decide)) fun g hg => by
    have := d.accounts_key hq hg
    omega]
  unfold State.cntQ
  rw [State.rd_addOvf_ne _ _ _ (qstat_key_ne (by decide)) (by omega), State.rd_addOvf_same _ _ _ (by omega)]

theorem State.only_sceneSent (s : State) (d : Desc) : s.only (s.sceneSent d) [.regs] := by
  unfold State.sceneSent
  split
  · exact s.only_wr _ _
  · exact .refl s _

theorem State.restKept_sceneSent (s : State) (d : Desc) : s.restKept (s.sceneSent d) [MI.SN_SCENE.SENT_CNT] := by
  unfold State.sceneSent
  split
  · exact (State.restKept.refl s _).wr _ (.inl (by simp))
  · exact .refl s _

theorem State.restKept_cntPort (s : State) (p c n : Nat) : s.restKept (s.cntPort p c n) [portCnt p c, portCntOvf p] :=
  (State.restKept.refl s _).addOvf _ _ (.inl (by simp)) (.inl (by simp))

/-- The state after TRANSMIT_CONFIRM of a frame `d` of `n` bytes with a port's MAC going to `m`. -/
def State.confirmed (s : State) (p : Nat) (m : PortMac) (d : Desc) (n : Nat) : State :=
  ((((((s.setMac p m).confirmDesc d).sceneSent d).cntPort p 8 1).cntPort p 9 n).count (portIsl p) 0x101 1).progress (portIsl p)

theorem State.txConfirm_eq {s : State} {p t : Nat} {w : OnWire} (hw : (s.mac p).wire = some w) (ht : w.endAt ≤ t)
    (hp : isEthPort p = true) :
    s.txConfirm p t = s.confirmed p { s.mac p with wire := none } w.desc (max 64 w.desc.bytes.length) := by
  simp [State.txConfirm, State.confirmed, hw, ht, hp]

section
variable {s : State} {p : Nat} {d : Desc} (m : PortMac) (n : Nat)

/-- All but the wire changes in registers, outputs, progress and BI's notes. -/
theorem State.setMac_only_confirmed : (s.setMac p m).only (s.confirmed p m d n) [.regs, .out, .isl, .bi] :=
  ((((((State.only.refl _ _).then (State.only_confirmDesc _ _)).then
    (State.only_sceneSent _ _)).then (State.only_cntPort _ _ _ _)).then (State.only_cntPort _ _ _ _)).then
    (State.only_count _ _ _ _)).then (State.only_progress _ _)

theorem State.only_confirmed : s.only (s.confirmed p m d n) [.regs, .out, .isl, .bi, .ports] :=
  ((State.only.refl s _).then (s.only_setMac _ _)).then (State.setMac_only_confirmed _ _)

theorem State.confirmed_queues : (s.confirmed p m d n).bi.queues = s.bi.queues := by
  unfold State.confirmed
  rw [State.progress_bi, State.count_bi, (State.only_cntPort _ _ _ _) .bi (by decide),
    (State.only_cntPort _ _ _ _) .bi (by decide), (State.only_sceneSent _ _) .bi (by decide), State.confirmDesc_queues,
    (State.only_setMac _ _ _) .bi (by decide)]

/-- The counting that follows the confirmation touches no register but the port's counters and the safe scene's. -/
theorem State.restKept_confirmed :
    ((s.setMac p m).confirmDesc d).restKept (s.confirmed p m d n)
      [MI.SN_SCENE.SENT_CNT, portCnt p 8, portCnt p 9, portCntOvf p] := by
  unfold State.confirmed
  exact ((((((State.restKept.refl _ _).then (State.restKept_sceneSent _ d)).then (State.restKept_cntPort _ _ _ _)).then
    (State.restKept_cntPort _ _ _ _)).count _ _ (portIsl_lt p)).progress (portIsl_lt p))

/-- The frames a port has sent (05_ports.md, counter 8). -/
theorem State.rd_confirmed_sent (hp : isEthPort p = true) (hq : d.q < 816) :
    (s.confirmed p m d n).rd (portCnt p 8) = (s.rd (portCnt p 8) + 1) % 2 ^ (portCnt p 8).width := by
  have hm := portCnt_not_moving (c := 8) hp (by decide)
  unfold State.confirmed
  rw [((State.restKept_count _ 0x101 1 (portIsl_lt p)).progress (portIsl_lt p)).rd hm (by simp),
    State.rd_cntPort_ne _ (portCnt_key_ne (by decide)) (portCnt_key_ne_ovf hp (by decide)),
    State.rd_cntPort_same _ hp (by decide), ((State.restKept_sceneSent _ d)).rd hm ?_,
    (State.restKept_confirmDesc _ d).rd hm ?_, State.setMac_rd]
  · intro g hg
    have hk : 0x20000000 ≤ g.key ∧ g.key < 0x24000000 := confirmDesc_key hq hg
    exact (portCnt_key_ne_bi hp (by decide) hk.1 hk.2).1.symm
  · simpa using (portCnt_key_ne_mi hp (show MI.SN_SCENE.SENT_CNT.key < 0x4000000 by decide)).1.symm

/-- The frames a queue has sent (counter 4 of BI.QSTAT). -/
theorem State.rd_confirmed_queue (hp : isEthPort p = true) (hq : d.q < 816) :
    (s.confirmed p m d n).rd (BI.QSTAT.COUNT d.q 4) = (s.rd (BI.QSTAT.COUNT d.q 4) + 1) % 2 ^ (BI.QSTAT.COUNT d.q 4).width := by
  obtain ⟨hlow, hhigh⟩ := qstat_key (c := 4) hq (by decide)
  have hovf : (BI.QSTAT_OVF.OVF d.q).key < 0x24000000 := by simp only [BI.QSTAT_OVF.OVF, Field.key]; omega
  rw [(State.restKept_confirmed m n).rd (qstat_not_moving hq (by decide)) ?_, State.rd_confirmDesc_sent _ hq, State.setMac_rd]
  have h8 := portCnt_key_ne_bi (c := 8) hp (by decide) (k := (BI.QSTAT.COUNT d.q 4).key) (by omega) (by omega)
  have h9 := portCnt_key_ne_bi (c := 9) hp (by decide) (k := (BI.QSTAT.COUNT d.q 4).key) (by omega) (by omega)
  have hs : MI.SN_SCENE.SENT_CNT.key < 0x4000000 := by decide
  simp only [List.mem_cons, List.not_mem_nil, or_false, forall_eq_or_imp, forall_eq]
  exact ⟨by omega, h8.1, h9.1, h8.2⟩

end

/-- What the start of a frame changes, with the lane it left already taken off the MAC. -/
theorem State.beginTx_frame {s : State} {p t : Nat} {d : Desc} {m : PortMac} (h : s.isSet (TI.TS_CFG.PTP_EN p) = false) :
    let u := (s.setMac p m).beginTx p t d
    u.mac p = { m with owesFrame := false, wire := some ⟨d, t, t + s.txNs p (s.charge d)⟩ }
      ∧ (∀ q, q ≠ p → u.mac q = s.mac q)
      ∧ u = { s with ports := u.ports,
                     out := s.out ++ [.frame p (if p = 100 then (d.ingress + d.cls) % 2 else 0) (padFrame d.bytes)] } := by
  intro u
  have hu : u = _ := State.beginTx_unstamped t d (s := s.setMac p m) (by simpa using h)
  refine ⟨?_, fun q hq => ?_, ?_⟩
  · rw [hu, (State.only_emit _ _).mac, State.mac_setMac_same, State.mac_setMac_same]
    rfl
  · rw [hu, (State.only_emit _ _).mac, State.mac_setMac_ne _ _ hq, State.mac_setMac_ne _ _ hq]
  · rw [hu]
    rfl

theorem State.carDefer_key {p : Nat} : (BI.CAR_PORT.C7_DEFER p).key ≠ (BI.CAR_PORT.C7_DEFER_OVF p).key := by
  simp only [BI.CAR_PORT.C7_DEFER, BI.CAR_PORT.C7_DEFER_OVF, Field.key]
  omega

theorem State.only_countDefer (s : State) (p : Nat) : s.only (s.countDefer p) [.regs] := s.only_addOvf _ _ _ _

/-- Settles O42: a start is one of the three lane cases, and a confirmation frees the frame's cells and counts it. -/
theorem macsSendAndConfirm : Obligations.MacsSendAndConfirm := by
  unfold Obligations.MacsSendAndConfirm
  refine ⟨?start, ?defer, ?confirm⟩
  case start =>
    intro p t d r sched s hf hp hlane
    obtain ⟨rfl, hq, hw, hfit⟩ | ⟨rfl, hq, hc, hs⟩ := hlane
    · exact Completes.next rfl (State.txStart_sched hf hq hw hfit) (State.beginTx_frame hp)
    · exact Completes.next rfl (State.txStart_ordin hf hq hc hs) (State.beginTx_frame hp)
  case defer =>
    intro p t d r s hf hq hw hfit hd
    refine Completes.next rfl (State.txStart_defer hf hq hw hfit hd) ⟨?_, ?_, ?_, ?_, ?_⟩
    · rw [State.car_setCar_same]
    · rw [State.setCar_ports, (State.only_countDefer _ _) .ports (by decide)]
    · rw [State.setCar_rd]
      exact State.rd_addOvf_same _ _ _ State.carDefer_key
    · exact ((State.regsKept.refl _ _).addOvf _ _ (by simp) (by simp)).trans (.of_regs rfl _)
    · exact (((State.only.refl _ [.regs, .bi]).then (State.only_countDefer _ _)).then (State.only_setCar _ _ _)).eq
  case confirm =>
    intro p t w s hw ht hp hport hqueue
    have hq := Desc.q_lt hport hqueue
    refine Completes.next rfl (State.txConfirm_eq hw ht hp) ⟨?_, ?_, State.rd_confirmed_sent _ _ hp hq,
      State.rd_confirmed_queue _ _ hp hq, ?_, (State.only_confirmed _ _).eq⟩
    · rw [(State.setMac_only_confirmed _ _).mac, State.mac_setMac_same]
    · intro q hqp
      rw [(State.setMac_only_confirmed _ _).mac, State.mac_setMac_ne _ _ hqp]
    · intro q
      unfold State.bq
      rw [State.confirmed_queues]

/- ## Headers and channels (R28, R55) -/

theorem State.only_send (s : State) (c : Chan) (i : Item) : s.only (s.send c i) [.regs, .out, .chans] := by
  unfold State.send
  dsimp only
  split
  · exact .refl s _
  · exact ((State.only.refl s _).then (s.only_setChan _ _)).then (State.only_count _ _ _ _)

theorem State.restKept_send (s : State) {c : Chan} (i : Item) (hc : c.src < 16) : s.restKept (s.send c i) [] := by
  unfold State.send
  dsimp only
  split
  · exact .refl s _
  · exact ((State.restKept.refl s _).regs (c := s.setChan c _) rfl).count _ _ hc

theorem State.chan_send_ne (s : State) {c e : Chan} (i : Item) (h : chanKey e ≠ chanKey c) : (s.send c i).chan e = s.chan e := by
  unfold State.send
  dsimp only
  split
  · rfl
  · rw [(State.only_count _ _ _ _).chan, State.chan_setChan_ne _ _ h]

/-- What of a held copy does not tell how far its header is. -/
def Copy.held (c : Copy) : Nat × Frame × Nat × Nat := (c.seq, c.bytes, c.ingress, c.rx)

theorem PortMac.setCopy_held (m : PortMac) (seq : Nat) {f : Copy → Copy} (hf : ∀ c, (f c).held = c.held) :
    (m.setCopy seq f).copies.map Copy.held = m.copies.map Copy.held := by
  simp only [PortMac.setCopy, List.map_map]
  refine List.map_congr_left fun c _ => ?_
  by_cases h : c.seq = seq <;> simp [h, hf]

/-- Sending a header touches the source's MAC and its channel, and counts. -/
theorem State.only_sendHeader (s : State) (p : Nat) : s.only (s.sendHeader p) [.regs, .out, .ports, .chans] := by
  unfold State.sendHeader
  dsimp only
  split
  · split
    · exact ((State.only.refl s _).then (s.only_setMac _ _)).then (State.only_send _ _ _)
    · exact .refl s _
  · exact .refl s _

theorem State.restKept_sendHeader (s : State) (p : Nat) : s.restKept (s.sendHeader p) [] := by
  unfold State.sendHeader
  dsimp only
  split
  · split
    · exact ((State.restKept.refl s _).regs (c := s.setMac p _) rfl).then (State.restKept_send _ _ (portIsl_lt p))
    · exact .refl s _
  · exact .refl s _

theorem State.mac_sendHeader_ne (s : State) {p q : Nat} (h : q ≠ p) : (s.sendHeader p).mac q = s.mac q := by
  unfold State.sendHeader
  dsimp only
  split
  · split
    · rw [(State.only_send _ _ _).mac, State.mac_setMac_ne _ _ h]
    · rfl
  · rfl

/-- The source holds the same copies afterwards; how far a header is may differ. -/
theorem State.mac_sendHeader_same (s : State) (p : Nat) :
    ∃ l, (s.sendHeader p).mac p = { s.mac p with copies := l } ∧ l.map Copy.held = (s.mac p).copies.map Copy.held := by
  unfold State.sendHeader
  dsimp only
  split
  · split
    · rename_i c _ _
      refine ⟨_, ?_, PortMac.setCopy_held (s.mac p) c.seq (f := fun c => { c with stage := 1 }) fun _ => rfl⟩
      rw [(State.only_send _ _ _).mac, State.mac_setMac_same]
      rfl
    · exact ⟨_, rfl, rfl⟩
  · exact ⟨_, rfl, rfl⟩

theorem State.chan_sendHeader_ne (s : State) {p : Nat} {e : Chan} (h : chanKey e ≠ chanKey (ingressChan p)) :
    (s.sendHeader p).chan e = s.chan e := by
  unfold State.sendHeader
  dsimp only
  split
  · split
    · rw [State.chan_send_ne _ _ h]
      rfl
    · rfl
  · rfl

/- ## Receiving (R28, R152, R153, R157) -/

section
variable {s : State} {p t : Nat} {l : Frame} {ce : Bool}

theorem State.rxFrame_off (h : s.receives p l.length = false) : s.rxFrame p l ce t = s := by simp [State.rxFrame, h]

theorem State.receives_isEthPort (h : s.receives p l.length = true) : isEthPort p = true := by
  simp only [State.receives, Bool.and_eq_true] at h
  exact h.1.1.1

/-- A frame that its MAC discards: the counters 2 to 6. -/
theorem State.rxFrame_bad {c : Nat} (h : s.receives p l.length = true) (hv : s.rxVerdict p l ce = some c) (hc : c ≠ 7) :
    s.rxFrame p l ce t = if c = 6 then (s.cntPort p c 1).count (portIsl p) 0x102 1 else s.cntPort p c 1 := by
  simp [State.rxFrame, h, hv, hc]

theorem State.rxFrame_control (h : s.receives p l.length = true) (hv : s.rxVerdict p l ce = some 7) :
    s.rxFrame p l ce t = (s.cntPort p 7 1).rxAccepted p l := by
  simp [State.rxFrame, h, hv]

theorem State.rxFrame_good (h : s.receives p l.length = true) (hv : s.rxVerdict p l ce = none) :
    s.rxFrame p l ce t = (s.rxAccepted p l).hold p p l (s.rxStamp p t) false := by
  simp [State.rxFrame, h, hv]

/-- The first of the five faults of a frame (log entry 60). -/
theorem State.rxVerdict_bad {c : Nat}
    (h : l.length < 64 ∧ c = 2 ∨ 64 ≤ l.length ∧ portMax p < l.length ∧ c = 3
      ∨ 64 ≤ l.length ∧ l.length ≤ portMax p ∧ fcsGood l = false ∧ c = 4
      ∨ 64 ≤ l.length ∧ l.length ≤ portMax p ∧ fcsGood l = true ∧ ce = true ∧ c = 5
      ∨ 64 ≤ l.length ∧ l.length ≤ portMax p ∧ fcsGood l = true ∧ ce = false ∧ etherType l ≠ 0x8808 ∧ c = 6
        ∧ fifoSize p < ((s.mac p).copies.map fun k => k.bytes.length).sum + l.length) :
    s.rxVerdict p l ce = some c ∧ c < 7 := by
  unfold State.rxVerdict
  obtain ⟨h1, rfl⟩ | ⟨h1, h2, rfl⟩ | ⟨h1, h2, h3, rfl⟩ | ⟨h1, h2, h3, h4, rfl⟩ | ⟨h1, h2, h3, h4, h5, rfl, h6⟩ := h
  · simp [h1]
  · simp [h2, Nat.not_lt.2 h1]
  · simp [h3, Nat.not_lt.2 h1, Nat.not_lt.2 h2]
  · simp [h3, h4, Nat.not_lt.2 h1, Nat.not_lt.2 h2]
  · simp [h3, h4, h5, h6, Nat.not_lt.2 h1, Nat.not_lt.2 h2]

theorem State.rxVerdict_control (h1 : 64 ≤ l.length) (h2 : l.length ≤ portMax p) (h3 : fcsGood l = true)
    (h4 : etherType l = 0x8808) : s.rxVerdict p l false = some 7 := by
  simp [State.rxVerdict, h3, h4, Nat.not_lt.2 h1, Nat.not_lt.2 h2]

theorem State.rxVerdict_good (h1 : 64 ≤ l.length) (h2 : l.length ≤ portMax p) (h3 : fcsGood l = true)
    (h4 : etherType l ≠ 0x8808) (h5 : ((s.mac p).copies.map fun k => k.bytes.length).sum + l.length ≤ fifoSize p) :
    s.rxVerdict p l false = none := by
  simp [State.rxVerdict, h3, h4, Nat.not_lt.2 h1, Nat.not_lt.2 h2, h5]

end

theorem State.only_rxAccepted (s : State) (p : Nat) (l : Frame) : s.only (s.rxAccepted p l) [.regs, .out] :=
  (((State.only.refl s _).then (s.only_cntPort _ _ _)).then (State.only_cntPort _ _ _ _)).then (State.only_count _ _ _ _)

theorem State.restKept_rxAccepted (s : State) (p : Nat) (l : Frame) :
    s.restKept (s.rxAccepted p l) [portCnt p 0, portCnt p 1, portCntOvf p] :=
  (((State.restKept.refl s _).then (s.restKept_cntPort _ _ _)).then (State.restKept_cntPort _ _ _ _)).count _ _ (portIsl_lt p)

/-- RX_FRAMES and RX_BYTES of an accepted frame. -/
theorem State.rd_rxAccepted (s : State) {p : Nat} (l : Frame) (hp : isEthPort p = true) :
    (s.rxAccepted p l).rd (portCnt p 0) = (s.rd (portCnt p 0) + 1) % 2 ^ (portCnt p 0).width
      ∧ (s.rxAccepted p l).rd (portCnt p 1) = (s.rd (portCnt p 1) + l.length) % 2 ^ (portCnt p 1).width := by
  have h0 := portCnt_key_ne_ovf (c := 0) hp (by decide)
  have h1 := portCnt_key_ne_ovf (c := 1) hp (by decide)
  unfold State.rxAccepted
  constructor
  · rw [(State.restKept_count _ _ _ (portIsl_lt p)).rd (portCnt_not_moving hp (by decide)) (by simp),
      State.rd_cntPort_ne _ (portCnt_key_ne (by decide)) h0, State.rd_cntPort_same _ hp (by decide)]
  · rw [(State.restKept_count _ _ _ (portIsl_lt p)).rd (portCnt_not_moving hp (by decide)) (by simp),
      State.rd_cntPort_same _ hp (by decide), State.rd_cntPort_ne _ (portCnt_key_ne (by decide)) h1]

/-- A new held copy: the state it leaves, but for its header's way out. -/
theorem State.hold_eq (s : State) (p i : Nat) (l : Frame) (rx : Nat) (trial : Bool) :
    ∃ c : Copy, c.held = ((s.mac p).nextSeq, l, i, rx) ∧
      s.hold p i l rx trial = (s.tookFree.setMac p { s.mac p with copies := (s.mac p).copies ++ [c],
                                                                  nextSeq := (s.mac p).nextSeq + 1 }).sendHeader p :=
  ⟨_, rfl, rfl⟩

theorem State.only_hold (s : State) (p i : Nat) (l : Frame) (rx : Nat) (trial : Bool) :
    s.only (s.hold p i l rx trial) [.regs, .out, .ports, .chans, .free] := by
  obtain ⟨c, -, h⟩ := s.hold_eq p i l rx trial
  rw [h]
  exact (((State.only.refl s _).then s.only_tookFree).then (State.only_setMac _ _ _)).then (State.only_sendHeader _ _)

theorem State.hold_free (s : State) (p i : Nat) (l : Frame) (rx : Nat) (trial : Bool) :
    (s.hold p i l rx trial).free = s.free + 1 := by
  obtain ⟨c, -, h⟩ := s.hold_eq p i l rx trial
  rw [h, (State.only_sendHeader _ _) .free (by decide)]
  rfl

theorem State.restKept_hold (s : State) (p i : Nat) (l : Frame) (rx : Nat) (trial : Bool) :
    s.restKept (s.hold p i l rx trial) [] := by
  obtain ⟨c, -, h⟩ := s.hold_eq p i l rx trial
  rw [h]
  exact ((State.restKept.refl s []).regs (c := s.tookFree.setMac p _) rfl).then (State.restKept_sendHeader _ _)

theorem State.mac_hold_ne (s : State) {p q : Nat} (i : Nat) (l : Frame) (rx : Nat) (trial : Bool) (hq : q ≠ p) :
    (s.hold p i l rx trial).mac q = s.mac q := by
  obtain ⟨c, -, h⟩ := s.hold_eq p i l rx trial
  rw [h, State.mac_sendHeader_ne _ hq, State.mac_setMac_ne _ _ hq]
  rfl

theorem State.mac_hold_same (s : State) (p i : Nat) (l : Frame) (rx : Nat) (trial : Bool) :
    ((s.hold p i l rx trial).mac p).copies.map Copy.held = (s.mac p).copies.map Copy.held ++ [((s.mac p).nextSeq, l, i, rx)]
      ∧ ((s.hold p i l rx trial).mac p).nextSeq = (s.mac p).nextSeq + 1 := by
  obtain ⟨c, hc, h⟩ := s.hold_eq p i l rx trial
  rw [h]
  obtain ⟨k, hk, hkl⟩ := State.mac_sendHeader_same
    (s.tookFree.setMac p { s.mac p with copies := (s.mac p).copies ++ [c], nextSeq := (s.mac p).nextSeq + 1 }) p
  rw [State.mac_setMac_same] at hk hkl
  rw [hk]
  exact ⟨by rw [hkl, List.map_append, List.map_singleton, hc], rfl⟩

/- ## PAUSE (R158, R159) -/

theorem portHeld_key_ne_cnt (p c : Nat) : (portHeld p).key ≠ (portCnt p c).key ∧ (portHeld p).key ≠ (portCntOvf p).key := by
  unfold portHeld portCnt portCntOvf
  split_ifs <;>
    simp only [PI.PORT_STAT.HELD, PI.PORT_CNT.COUNT, PI.PORT_CNT_OVF.OVF, UI.PORT_STAT.HELD, UI.PORT_CNT.COUNT,
      UI.PORT_CNT_OVF.OVF, Field.key] <;> omega

theorem portHeld_width (p : Nat) : (portHeld p).width = 1 := by
  unfold portHeld
  split <;> rfl

section
variable {s : State} {p t : Nat} {h : Hold}

/-- The end of a hold: what it does to the state. -/
theorem State.endHold_eq (hh : (s.mac p).hold = some h) :
    s.endHold p t = ((s.setMac p { s.mac p with hold := none }).wr (portHeld p) 0).cntPort p 11
      (s.quantaIn p (min t (s.holdOver p h) - h.startAt)) := by
  simp [State.endHold, hh]

/-- The end of a hold with no hold is nothing. -/
theorem State.endHold_none (hh : (s.mac p).hold = none) : s.endHold p t = s := by simp [State.endHold, hh]

theorem State.only_endHold (s : State) (p t : Nat) : s.only (s.endHold p t) [.regs, .ports] := by
  cases hh : (s.mac p).hold with
  | none => exact .of_eq (State.endHold_none hh) _
  | some h =>
    rw [State.endHold_eq hh]
    exact (((State.only.refl s _).then (s.only_setMac _ _)).then (State.only_wr _ _ _)).then (State.only_cntPort _ _ _ _)

theorem State.mac_endHold_same (hh : (s.mac p).hold = some h) : (s.endHold p t).mac p = { s.mac p with hold := none } := by
  rw [State.endHold_eq hh, (State.only_cntPort _ _ _ _).mac, (State.only_wr _ _ _).mac, State.mac_setMac_same]

theorem State.mac_endHold_ne (hh : (s.mac p).hold = some h) {r : Nat} (hr : r ≠ p) : (s.endHold p t).mac r = s.mac r := by
  rw [State.endHold_eq hh, (State.only_cntPort _ _ _ _).mac, (State.only_wr _ _ _).mac, State.mac_setMac_ne _ _ hr]

theorem State.rd_endHold_held (hh : (s.mac p).hold = some h) : (s.endHold p t).rd (portHeld p) = 0 := by
  obtain ⟨hc, ho⟩ := portHeld_key_ne_cnt p 11
  rw [State.endHold_eq hh, State.rd_cntPort_ne _ hc ho, State.rd_wr_same, Nat.zero_mod]

theorem State.rd_endHold_quanta (hh : (s.mac p).hold = some h) (hp : isEthPort p = true) :
    (s.endHold p t).rd (portCnt p 11)
      = (s.rd (portCnt p 11) + s.quantaIn p (min t (s.holdOver p h) - h.startAt)) % 2 ^ (portCnt p 11).width := by
  rw [State.endHold_eq hh, State.rd_cntPort_same _ hp (by decide), State.rd_wr_ne _ _ (portHeld_key_ne_cnt p 11).1.symm]
  rfl

theorem State.regsKept_endHold (hh : (s.mac p).hold = some h) :
    s.regsKept (s.endHold p t) [portHeld p, portCnt p 11, portCntOvf p] := by
  rw [State.endHold_eq hh]
  exact (((State.regsKept.refl s _).trans (.of_regs (b := s.setMac p _) rfl _)).wr _ (by simp)).addOvf _ _ (by simp) (by simp)

/-- The limit ends the hold as its end does, and the port owes a frame (R159). -/
theorem State.pauseHoldLimit_eq (hh : (s.mac p).hold = some h) (ht : h.startAt + s.quantaNs p 65535 ≤ t) :
    s.pauseHoldLimit p t = (s.endHold p t).setMac p { (s.endHold p t).mac p with owesFrame := true } := by
  simp [State.pauseHoldLimit, hh, ht]

theorem State.pauseHoldEnd_eq (hh : (s.mac p).hold = some h) (ht : h.endAt ≤ t) : s.pauseHoldEnd p t = s.endHold p t := by
  simp [State.pauseHoldEnd, hh, ht]

/-- The hold that a PAUSE of `q` quanta leaves: the running or coming one with a new length, or one that begins now or
after the frame on the wire. -/
def State.heldBy (s : State) (p q t : Nat) : Hold :=
  match (s.mac p).hold, (s.mac p).wire with
  | some h, _ => ⟨h.startAt, max t h.startAt + s.quantaNs p q⟩
  | none, some w => ⟨max t w.endAt, max t w.endAt + s.quantaNs p q⟩
  | none, none => ⟨t, t + s.quantaNs p q⟩

/-- A port that owes no frame, or has none queued, takes a PAUSE. -/
theorem State.pauseRx_hold {q : Nat} (hp : s.honours p = true) (ho : (s.mac p).owesFrame = false ∨ s.queuedFor p = 0)
    (hq : q ≠ 0) :
    s.pauseRx p q t
      = (s.setMac p { s.mac p with hold := some (s.heldBy p q t), owesFrame := false }).wr (portHeld p) 1 := by
  have hne : ¬ (!s.honours p || ((s.mac p).owesFrame && decide (0 < s.queuedFor p))) = true := by
    rcases ho with ho | ho <;> simp [hp, ho]
  rw [State.pauseRx, if_neg hne, if_neg hq, State.heldBy]
  generalize s.mac p = m
  obtain ⟨_, _, _, _ | h, _, _, _, _ | w, _, _⟩ := m <;> rfl

theorem State.pauseRx_zero (hp : s.honours p = true) (ho : (s.mac p).owesFrame = false ∨ s.queuedFor p = 0) :
    s.pauseRx p 0 t = s.endHold p t := by
  rcases ho with ho | ho <;> simp [State.pauseRx, hp, ho]

theorem State.pauseRx_ignored {q : Nat} (h : s.honours p = false ∨ (s.mac p).owesFrame = true ∧ 0 < s.queuedFor p
    ∨ q = 0 ∧ (s.mac p).hold = none) : s.pauseRx p q t = s := by
  obtain h | ⟨ho, hq⟩ | ⟨rfl, hh⟩ := h
  · simp [State.pauseRx, h]
  · simp [State.pauseRx, ho, hq]
  · simp [State.pauseRx, State.endHold_none hh]

/-- What every end of a hold leaves, whichever command ends it. -/
def State.heldEnded (b u : State) (p t : Nat) (h : Hold) : Prop :=
  u.rd (portHeld p) = 0
    ∧ u.rd (portCnt p 11) = (b.rd (portCnt p 11) + b.quantaIn p (min t (b.holdOver p h) - h.startAt)) % 2 ^ (portCnt p 11).width
    ∧ (∀ r, r ≠ p → u.mac r = b.mac r) ∧ b.regsKept u [portHeld p, portCnt p 11, portCntOvf p]
    ∧ u = { b with regs := u.regs, ports := u.ports }

theorem State.heldEnded_endHold (hh : (s.mac p).hold = some h) (hp : isEthPort p = true) :
    s.heldEnded (s.endHold p t) p t h :=
  ⟨State.rd_endHold_held hh, State.rd_endHold_quanta hh hp, fun _ hr => State.mac_endHold_ne hh hr,
    State.regsKept_endHold hh, (s.only_endHold p t).eq⟩

/-- A change of the MAC after the hold has ended leaves it ended. -/
theorem State.heldEnded.setMac {b u : State} (he : b.heldEnded u p t h) (m : PortMac) : b.heldEnded (u.setMac p m) p t h := by
  obtain ⟨h1, h2, h3, h4, h5⟩ := he
  refine ⟨h1, h2, fun r hr => ?_, h4.trans (.of_regs rfl _), ?_⟩
  · rw [State.mac_setMac_ne _ _ hr, h3 r hr]
  · exact ((State.only.of_withParts (l := [.regs, .ports]) h5).then (u.only_setMac p m)).eq

end

/-- Settles O23: the verdict on a frame decides which counters move and whether a copy is held; every end of a hold
goes through the same step. -/
theorem portsReceiveAndPause : Obligations.PortsReceiveAndPause := by
  unfold Obligations.PortsReceiveAndPause
  refine ⟨?bad, ?good, ?off, ?control, ?pause, ?ended, ?ignored⟩
  case bad =>
    intro p t c l ce s hr hc
    obtain ⟨hv, hc7⟩ := State.rxVerdict_bad hc
    have hp := State.receives_isEthPort hr
    have hcount : ∀ b : State, (b.cntPort p c 1).rd (portCnt p c) = (b.rd (portCnt p c) + 1) % 2 ^ (portCnt p c).width :=
      fun b => State.rd_cntPort_same 1 hp (by omega)
    refine Completes.next rfl (State.rxFrame_bad hr hv (by omega)) ?_
    split
    · refine ⟨?_, (State.restKept_cntPort _ _ _ _).count _ _ (portIsl_lt p),
        (((State.only_cntPort _ _ _ _).mono (l' := [.regs, .out])).then (State.only_count _ _ _ _)).eq⟩
      rw [(State.restKept_count _ _ _ (portIsl_lt p)).rd (portCnt_not_moving hp (by omega)) (by simp), hcount]
    · exact ⟨hcount _, State.restKept_cntPort _ _ _ _, ((State.only_cntPort _ _ _ _).mono (l' := [.regs, .out])).eq⟩
  case good =>
    intro p t l s hr h1 h2 h3 h4 h5
    have hp := State.receives_isEthPort hr
    refine Completes.next rfl (State.rxFrame_good hr (State.rxVerdict_good h1 h2 h3 h4 h5)) ?_
    generalize s.begin t = b
    have ha := b.only_rxAccepted p l
    obtain ⟨h0, h1⟩ := b.rd_rxAccepted l hp
    obtain ⟨hcopies, hseq⟩ := (b.rxAccepted p l).mac_hold_same p p l (b.rxStamp p b.time) false
    have hrest := (b.rxAccepted p l).restKept_hold p p l (b.rxStamp p b.time) false
    rw [ha.mac] at hcopies hseq
    refine ⟨hcopies, hseq, fun q hq => ?_, ?_, ?_, (b.restKept_rxAccepted p l).then hrest, ?_⟩
    · rw [State.mac_hold_ne _ _ _ _ _ hq, ha.mac]
    · rw [hrest.rd (portCnt_not_moving hp (by decide)) (by simp), h0]
    · rw [hrest.rd (portCnt_not_moving hp (by decide)) (by simp), h1]
    · have hfree : ((b.rxAccepted p l).hold p p l (b.rxStamp p b.time) false).free = b.free + 1 := by
        rw [State.hold_free, ha .free (by decide)]
      have hall := (ha.mono (l' := [.regs, .out, .ports, .chans, .free])).then (State.only_hold _ p p l (b.rxStamp p b.time) false)
      rw [← hfree]
      exact hall.eq
  case off =>
    intro p t l ce s hr
    exact Completes.next rfl (State.rxFrame_off hr) rfl
  case control =>
    intro p t l s hr h1 h2 h3 h4
    have hp := State.receives_isEthPort hr
    refine Completes.next rfl (State.rxFrame_control hr (State.rxVerdict_control h1 h2 h3 h4)) ?_
    generalize s.begin t = b
    have hne : ∀ c, c ≠ 7 → c < 16 → (b.cntPort p 7 1).rd (portCnt p c) = b.rd (portCnt p c) := fun c hc hc' =>
      State.rd_cntPort_ne _ (portCnt_key_ne hc) (portCnt_key_ne_ovf hp hc')
    obtain ⟨h0, h1⟩ := (b.cntPort p 7 1).rd_rxAccepted l hp
    refine ⟨?_, by rw [h0, hne 0 (by decide) (by decide)], by rw [h1, hne 1 (by decide) (by decide)],
      ((b.restKept_cntPort p 7 1).mono (by simp)).then (State.restKept_rxAccepted _ p l),
      (((b.only_cntPort p 7 1).mono (l' := [.regs, .out])).then (State.only_rxAccepted _ p l)).eq⟩
    have h7 : ∀ g ∈ [portCnt p 0, portCnt p 1, portCntOvf p], (portCnt p 7).key ≠ g.key := by
      simpa using ⟨portCnt_key_ne (p := p) (c := 7) (c' := 0) (by decide), portCnt_key_ne (c' := 1) (by decide),
        portCnt_key_ne_ovf hp (by decide)⟩
    rw [(State.restKept_rxAccepted _ p l).rd (portCnt_not_moving hp (by decide)) h7, State.rd_cntPort_same _ hp (by decide)]
  case pause =>
    intro p q t s hp ho hq
    refine Completes.next rfl (State.pauseRx_hold hp ho hq) ⟨?_, ?_, fun r hr => ?_,
      ((State.regsKept.refl _ _).trans (.of_regs rfl _)).wr _ (by simp),
      (((State.only_setMac _ _ _).mono (l' := [.regs, .ports])).then (State.only_wr _ _ _)).eq⟩
    · rw [(State.only_wr _ _ _).mac, State.mac_setMac_same]
      rfl
    · rw [State.rd_wr_same, portHeld_width]
      rfl
    · rw [(State.only_wr _ _ _).mac, State.mac_setMac_ne _ _ hr]
  case ended =>
    intro p t h c s hh hp hpe hc
    have hend := State.heldEnded_endHold (t := (s.begin t).time) hh hpe
    have hmac := State.mac_endHold_same (t := (s.begin t).time) hh
    obtain ⟨rfl, hon, ho⟩ | ⟨rfl, ht⟩ | ⟨rfl, ht⟩ := hc
    · exact Completes.next rfl (State.pauseRx_zero hon ho) ⟨by rw [hmac], hend.1, by simp, hend.2⟩
    · exact Completes.next rfl (State.pauseHoldEnd_eq hh ht) ⟨by rw [hmac], hend.1, by simp, hend.2⟩
    · have hl := hend.setMac { (s.begin t).endHold p (s.begin t).time |>.mac p with owesFrame := true }
      refine Completes.next rfl (State.pauseHoldLimit_eq hh ht) ⟨?_, hl.1, fun _ => ?_, hl.2⟩
      · rw [State.mac_setMac_same, hmac]
      · rw [State.mac_setMac_same]
  case ignored =>
    intro p q t s h
    exact Completes.next rfl (State.pauseRx_ignored h) rfl

/- ## Folds -/

/-- What every step of a fold keeps, the fold keeps: `R` says it of two states. -/
theorem State.foldl_rel {α : Type} {R : State → State → Prop} (hr : ∀ s, R s s) (ht : ∀ a b c, R a b → R b c → R a c)
    {f : State → α → State} (hf : ∀ u a, R u (f u a)) (l : List α) (s : State) : R s (l.foldl f s) := by
  induction l generalizing s with
  | nil => exact hr s
  | cons a l ih => exact ht _ _ _ (hf s a) (ih (f s a))

theorem State.only.foldl {α : Type} {f : State → α → State} {p : List StatePart} (hf : ∀ (u : State) (a : α), u.only (f u a) p)
    (l : List α)
    (s : State) : s.only (l.foldl f s) p :=
  State.foldl_rel (R := fun a b => a.only b p) (fun s => .refl s p) (fun _ _ _ => .trans) hf l s

theorem State.restKept.foldl {α : Type} {f : State → α → State} {ex : List Field} (hf : ∀ (u : State) (a : α),
    u.restKept (f u a) ex)
    (l : List α) (s : State) : s.restKept (l.foldl f s) ex :=
  State.foldl_rel (R := fun a b => a.restKept b ex) (fun s => .refl s ex) (fun _ _ _ => .trans) hf l s

/- ## The log (R329) -/

theorem State.restKept_logPut (s : State) (cause i n : Nat) :
    s.restKept (s.logPut cause i n) [MI.LOG_STAT.LOST, MI.LOG_STAT.LOST_SEEN, MI.LOG_IDX.PROD] := by
  unfold State.logPut
  split
  · exact .refl s _
  · split
    · exact ((State.restKept.refl s _).wr _ (.inl (by simp))).wr _ (.inl (by simp))
    · exact ((State.restKept.refl s _).regs rfl).wr _ (.inl (by simp))

/-- An event is noted, and an entry written if one is due. -/
theorem State.logEvent_cases (s : State) (cause i : Nat) :
    ∃ l, (∃ n, s.logEvent cause i = { s with log := l }.logPut cause i n) ∨ s.logEvent cause i = { s with log := l } := by
  unfold State.logEvent
  dsimp only
  generalize ngetD s.log (16 * cause + i) (none, 0) = e
  obtain ⟨_ | a, m⟩ := e
  · exact ⟨_, .inl ⟨m + 1, rfl⟩⟩
  · dsimp only
    split
    · exact ⟨_, .inl ⟨m + 1, rfl⟩⟩
    · exact ⟨_, .inr rfl⟩

theorem State.restKept_logEvent (s : State) (cause i : Nat) :
    s.restKept (s.logEvent cause i) [MI.LOG_STAT.LOST, MI.LOG_STAT.LOST_SEEN, MI.LOG_IDX.PROD] := by
  obtain ⟨l, ⟨n, h⟩ | h⟩ := s.logEvent_cases cause i <;> rw [h]
  · exact ((State.restKept.refl s _).regs (c := { s with log := l }) rfl).then (State.restKept_logPut _ _ _ _)
  · exact .of_regs rfl _

theorem State.logPut_inits (s : State) (cause i n : Nat) : (s.logPut cause i n).di.inits = s.di.inits := by
  unfold State.logPut
  split
  · rfl
  · split <;> rfl

/-- The log writes through DI's queue; the memories hold what they held. -/
theorem State.memoriesKept_logEvent (s : State) (cause i : Nat) : s.memoriesKept (s.logEvent cause i) := by
  have h := s.only_logEvent cause i
  refine ⟨h .sram (by decide), h .dram (by decide), h .flash (by decide), h .host (by decide), ?_,
    by rw [show _ = s.mg from h .mg (by decide)]⟩
  obtain ⟨l, ⟨n, hl⟩ | hl⟩ := s.logEvent_cases cause i <;> rw [hl]
  rw [State.logPut_inits]

/-- The log's registers lie in MI. -/
theorem State.rd_logEvent (s : State) (cause i : Nat) {g : Field} (hm : g.moving = false) (hg : 0x4000000 ≤ g.key) :
    (s.logEvent cause i).rd g = s.rd g :=
  (s.restKept_logEvent cause i).rd hm fun f hf => by
    have : f.key < 0x4000000 := by
      simp only [List.mem_cons, List.not_mem_nil, or_false] at hf
      obtain rfl | rfl | rfl := hf <;> decide
    omega

/- ## BI takes a frame off its channel (R283) -/

/-- The state in which BI decides a frame: its turn is taken and the frame is off the channel. -/
def State.admTaken (s : State) (k : Nat) (d : Desc) : State :=
  { s with bi := { s.bi with admAt := nset s.bi.admAt k (s.biCycle + 1) } }.take (admitChan k) (.admission d)

section
variable {s : State} {k : Nat} {d : Desc}

theorem State.take_arrived {c : Chan} {i : Item} (h : i ∈ (s.chan c).arrived) :
    ((s.take c i).chan c).arrived = (s.chan c).arrived.erase i := by
  unfold State.take
  dsimp only
  rw [if_pos h, State.chan_setChan_same]

theorem State.arrivedAdmit_mem (h : s.arrivedAdmit k = some d) : Item.admission d ∈ (s.chan (admitChan k)).arrived := by
  unfold State.arrivedAdmit at h
  obtain ⟨i, hi, hd⟩ := List.exists_of_findSome?_eq_some h
  cases i <;> simp_all

theorem State.admTaken_bi (s : State) (k : Nat) (d : Desc) :
    (s.admTaken k d).bi = { s.bi with admAt := nset s.bi.admAt k (s.biCycle + 1) } := by
  unfold State.admTaken State.take
  dsimp only
  split <;> rfl

theorem State.only_admTaken (s : State) (k : Nat) (d : Desc) : s.only (s.admTaken k d) [.bi, .chans] := by
  unfold State.admTaken State.take
  dsimp only
  split
  · exact .of_withParts rfl
  · exact .of_withParts rfl

theorem State.admTaken_arrived (h : s.arrivedAdmit k = some d) :
    ((s.admTaken k d).chan (admitChan k)).arrived = (s.chan (admitChan k)).arrived.erase (.admission d) :=
  State.take_arrived (s := { s with bi := _ }) (State.arrivedAdmit_mem h)

theorem State.admTaken_eq (s : State) (k : Nat) (d : Desc) :
    ∃ c a, s.admTaken k d = { s with bi := { s.bi with admAt := a }, chans := c } := by
  unfold State.admTaken State.take
  dsimp only
  split
  · exact ⟨_, _, rfl⟩
  · exact ⟨_, _, rfl⟩

/-- BI's decision looks neither at whose turn it is nor at the channels. -/
theorem State.decide'_admTaken (s : State) (k : Nat) (d e : Desc) : (s.admTaken k d).decide' e = s.decide' e := by
  obtain ⟨c, a, h⟩ := s.admTaken_eq k d
  rw [h]
  rfl

theorem State.bq_admTaken (s : State) (k : Nat) (d : Desc) (q : Nat) : (s.admTaken k d).bq q = s.bq q := by
  obtain ⟨c, a, h⟩ := s.admTaken_eq k d
  rw [h]
  rfl

theorem State.rd_admTaken (s : State) (k : Nat) (d : Desc) (g : Field) : (s.admTaken k d).rd g = s.rd g :=
  (s.only_admTaken k d).rd g

/-- BI_ADMISSION at a pipeline's turn with a frame arrived. -/
theorem State.biAdmission_eq (hk : k < 2) (hr : s.islRuns 8 = true) (ht : s.turnOf k = true) (hd : s.arrivedAdmit k = some d) :
    s.biAdmission k =
      let s1 := if s.abortDrops d then (s.admTaken k d).abortDrop 8 1 else (s.admTaken k d).admitFrame d
      match d.commits with
      | some (src, seq) => if s1.moreToCome k (src, seq) then s1 else s1.commitCopy src seq
      | none => s1 := by
  unfold State.biAdmission
  rw [if_neg (by simp [hr, ht]; omega), hd]
  rfl

theorem State.biAdmission_alone (hk : k < 2) (hr : s.islRuns 8 = true) (ht : s.turnOf k = true) (hd : s.arrivedAdmit k = some d)
    (hc : d.commits = none) : s.biAdmission k = (s.admTaken k d).admitFrame d := by
  rw [State.biAdmission_eq hk hr ht hd]
  simp [hc, State.abortDrops]

theorem State.biAdmission_idle (h : s.arrivedAdmit k = none ∨ s.turnOf k = false) : s.biAdmission k = s := by
  unfold State.biAdmission
  rcases h with h | h
  · rw [h]
    exact ite_self s
  · simp [h]

end

/- ## A frame that BI drops (R282, R296, R545) -/

/-- The state after the drop of a frame for a reason. -/
def State.dropped (s : State) (d : Desc) (r : DropReason) : State :=
  (match r with
  | .portDisabled => s.noteFlushed d
  | .queueFull => s.noteStage d
  | _ => s).countDrop d r

theorem State.admitFrame_drop {s : State} {d : Desc} {r : DropReason} (h : s.decide' d = .error r) :
    s.admitFrame d = s.dropped d r := by
  have h' : s.decide' { d with commits := none } = .error r := h
  unfold State.admitFrame State.admitOne
  rw [h']
  cases r <;> rfl

theorem State.only_noteFlushed (s : State) (d : Desc) : s.only (s.noteFlushed d) [.regs] := by
  unfold State.noteFlushed
  split
  · exact s.only_cntPort _ _ _
  · exact .refl s _

theorem State.only_noteStage (s : State) (d : Desc) : s.only (s.noteStage d) [.regs, .out] := by
  unfold State.noteStage
  split
  · split
    · exact ((State.only.refl s _).then (s.only_wr _ _)).then (State.only_raiseIf _ _ _)
    · exact .refl s _
  · exact .refl s _

theorem State.restKept_noteStage (s : State) (d : Desc) : s.restKept (s.noteStage d) [BI.ADM_EVT.STAGE_FULL] := by
  unfold State.noteStage
  split
  · split
    · exact ((State.restKept.refl s _).wr _ (.inl (by simp))).raiseIf _ (by decide)
    · exact .refl s _
  · exact .refl s _

/-- A flushed admission counts at its port; BI's and MI's registers stay. -/
theorem State.rd_noteFlushed (s : State) (d : Desc) {g : Field}
    (hg : g.key < 0x4000000 ∨ 0x20000000 ≤ g.key ∧ g.key < 0x24000000) : (s.noteFlushed d).rd g = s.rd g := by
  unfold State.noteFlushed
  split
  · rename_i h
    have hp : isEthPort d.port = true := by
      simp only [State.linkFlushes, Bool.and_eq_true] at h
      exact h.2.1.1
    rcases hg with hg | ⟨hg, hg'⟩
    · obtain ⟨hc, ho⟩ := portCnt_key_ne_mi (c := 12) hp hg
      exact State.rd_cntPort_ne _ hc ho
    · obtain ⟨hc, ho⟩ := portCnt_key_ne_bi (c := 12) hp (by decide) hg hg'
      exact State.rd_cntPort_ne _ hc ho
  · rfl

section
variable (s : State) (d : Desc) (r : DropReason)

/-- The counting of a drop, before the log. -/
def State.dropCounted : State :=
  (((((s.addOvf (BI.ADM_CNT.COUNT r.index) (BI.ADM_CNT.OVF r.index) 1 1).wr BI.ADM_EVT.DROP_SEEN 1).cntQ d.q 2 1).cntQ d.q 3
    d.bytes.length).cntP d.port (2 + r.index) 1).count 8 0x101 1

theorem State.countDrop_eq : s.countDrop d r = match r.cause with
    | some c => (s.dropCounted d r).logEvent c 8
    | none => s.dropCounted d r := rfl

theorem State.only_cntP (p c n : Nat) : s.only (s.cntP p c n) [.regs] := s.only_addOvf _ _ _ _

theorem State.only_dropCounted : s.only (s.dropCounted d r) [.regs, .out] :=
  ((((((State.only.refl s _).then (s.only_addOvf _ _ _ _)).then (State.only_wr _ _ _)).then (State.only_cntQ _ _ _ _)).then
    (State.only_cntQ _ _ _ _)).then (State.only_cntP _ _ _ _)).then (State.only_count _ _ _ _)

theorem State.only_countDrop : s.only (s.countDrop d r) [.regs, .out, .di, .free, .log] := by
  rw [State.countDrop_eq]
  split
  · exact ((s.only_dropCounted d r).mono).then (State.only_logEvent _ _ _)
  · exact (s.only_dropCounted d r).mono

theorem State.memoriesKept_countDrop : s.memoriesKept (s.countDrop d r) := by
  rw [State.countDrop_eq]
  split
  · exact ((s.only_dropCounted d r).memories).trans (State.memoriesKept_logEvent _ _ _)
  · exact (s.only_dropCounted d r).memories

/-- The statistics of a queue and a port lie above BI's other registers. -/
theorem State.restKept_dropCounted_tail (s : State) : s.restKept
      ((((s.cntQ d.q 2 1).cntQ d.q 3 d.bytes.length).cntP d.port (2 + r.index) 1).count 8 0x101 1)
      [BI.QSTAT.COUNT d.q 2, BI.QSTAT.COUNT d.q 3, BI.QSTAT_OVF.OVF d.q, BI.PSTAT.COUNT d.port (2 + r.index),
        BI.PSTAT_OVF.OVF d.port] :=
  ((((State.restKept.refl s _).addOvf _ _ (.inl (by simp)) (.inl (by simp))).addOvf _ _ (.inl (by simp)) (.inl (by simp))).addOvf
    _ _ (.inl (by simp)) (.inl (by simp))).count _ _ (by decide)

end

theorem qstat_key_high (q c : Nat) : 0x22000000 ≤ (BI.QSTAT.COUNT q c).key ∧ 0x22000000 ≤ (BI.QSTAT_OVF.OVF q).key := by
  simp only [BI.QSTAT.COUNT, BI.QSTAT_OVF.OVF, Field.key]
  omega

theorem pstat_key_high (p c : Nat) : 0x22000000 ≤ (BI.PSTAT.COUNT p c).key ∧ 0x22000000 ≤ (BI.PSTAT_OVF.OVF p).key := by
  simp only [BI.PSTAT.COUNT, BI.PSTAT_OVF.OVF, Field.key]
  omega

/-- Registers below the statistics keep their values while a drop counts there. -/
theorem State.rd_dropCounted_tail (s : State) (d : Desc) (r : DropReason) {g : Field} (hm : g.moving = false)
    (hg : g.key < 0x22000000) :
    ((((s.cntQ d.q 2 1).cntQ d.q 3 d.bytes.length).cntP d.port (2 + r.index) 1).count 8 0x101 1).rd g = s.rd g := by
  refine (s.restKept_dropCounted_tail d r).rd hm ?_
  have h2 := qstat_key_high d.q 2
  have h3 := qstat_key_high d.q 3
  have hp := pstat_key_high d.port (2 + r.index)
  simp only [List.mem_cons, List.not_mem_nil, or_false, forall_eq_or_imp, forall_eq]
  omega

theorem admCnt_key {r : DropReason} : (BI.ADM_CNT.COUNT r.index).key < 0x22000000 ∧ 0x20000000 ≤ (BI.ADM_CNT.COUNT r.index).key
    ∧ (BI.ADM_CNT.COUNT r.index).moving = false ∧ (BI.ADM_CNT.COUNT r.index).key ≠ (BI.ADM_CNT.OVF r.index).key
    ∧ (BI.ADM_CNT.COUNT r.index).key ≠ BI.ADM_EVT.DROP_SEEN.key ∧ (BI.ADM_CNT.COUNT r.index).key ≠ BI.ADM_EVT.STAGE_FULL.key := by
  cases r <;> decide

/-- A drop counts under its reason and sets DROP_SEEN. -/
theorem State.rd_dropCounted (s : State) (d : Desc) (r : DropReason) :
    (s.dropCounted d r).rd (BI.ADM_CNT.COUNT r.index)
        = (s.rd (BI.ADM_CNT.COUNT r.index) + 1) % 2 ^ (BI.ADM_CNT.COUNT r.index).width
      ∧ (s.dropCounted d r).rd BI.ADM_EVT.DROP_SEEN = 1 := by
  obtain ⟨hlow, -, hm, hovf, hseen, -⟩ := admCnt_key (r := r)
  unfold State.dropCounted
  rw [State.rd_dropCounted_tail _ d r hm hlow, State.rd_dropCounted_tail _ d r (by decide) (by decide)]
  exact ⟨by rw [State.rd_wr_ne _ _ hseen, State.rd_addOvf_same _ _ _ hovf], by rw [State.rd_wr_same]; rfl⟩

theorem State.rd_countDrop (s : State) (d : Desc) (r : DropReason) :
    (s.countDrop d r).rd (BI.ADM_CNT.COUNT r.index)
        = (s.rd (BI.ADM_CNT.COUNT r.index) + 1) % 2 ^ (BI.ADM_CNT.COUNT r.index).width
      ∧ (s.countDrop d r).rd BI.ADM_EVT.DROP_SEEN = 1 := by
  obtain ⟨-, hhigh, hm, -⟩ := admCnt_key (r := r)
  rw [State.countDrop_eq]
  split
  · rw [State.rd_logEvent _ _ _ hm (by omega), State.rd_logEvent _ _ _ (by decide) (by decide)]
    exact s.rd_dropCounted d r
  · exact s.rd_dropCounted d r

section
variable (s : State) (d : Desc) (r : DropReason)

/-- What is noted before a drop is counted. -/
def State.dropNoted : State :=
  match r with
  | .portDisabled => s.noteFlushed d
  | .queueFull => s.noteStage d
  | _ => s

theorem State.dropped_eq : s.dropped d r = (s.dropNoted d r).countDrop d r := by cases r <;> rfl

theorem State.only_dropNoted : s.only (s.dropNoted d r) [.regs, .out] := by
  cases r with
  | portDisabled => exact (s.only_noteFlushed d).mono
  | queueFull => exact s.only_noteStage d
  | colourDrop => exact .refl s _
  | spillEcc => exact .refl s _

theorem State.rd_dropNoted_count : (s.dropNoted d r).rd (BI.ADM_CNT.COUNT r.index) = s.rd (BI.ADM_CNT.COUNT r.index) := by
  obtain ⟨hlow, hhigh, hm, -, -, hfull⟩ := admCnt_key (r := r)
  cases r with
  | portDisabled => exact s.rd_noteFlushed d (.inr ⟨hhigh, by omega⟩)
  | queueFull => exact (s.restKept_noteStage d).rd hm (by simpa using hfull)
  | colourDrop => rfl
  | spillEcc => rfl

theorem State.only_dropped : s.only (s.dropped d r) [.regs, .out, .di, .free, .log] := by
  rw [State.dropped_eq]
  exact ((s.only_dropNoted d r).mono).then (State.only_countDrop _ _ _)

theorem State.memoriesKept_dropped : s.memoriesKept (s.dropped d r) := by
  rw [State.dropped_eq]
  exact (s.only_dropNoted d r).memories.trans (State.memoriesKept_countDrop _ _ _)

theorem State.rd_dropped : (s.dropped d r).rd (BI.ADM_CNT.COUNT r.index)
        = (s.rd (BI.ADM_CNT.COUNT r.index) + 1) % 2 ^ (BI.ADM_CNT.COUNT r.index).width
      ∧ (s.dropped d r).rd BI.ADM_EVT.DROP_SEEN = 1 := by
  obtain ⟨hcnt, hseen⟩ := State.rd_countDrop (s.dropNoted d r) d r
  rw [State.rd_dropNoted_count] at hcnt
  rw [State.dropped_eq]
  exact ⟨hcnt, hseen⟩

end

/- ## Releasing a held copy (R28, R69) -/

theorem State.only_commitCopy (s : State) (src seq : Nat) :
    s.only (s.commitCopy src seq) [.regs, .out, .isl, .ports, .chans] := by
  unfold State.commitCopy
  dsimp only
  split
  · exact (s.only_setMac _ _).mono
  · exact (((State.only.refl s _).then (s.only_setMac _ _)).then (State.only_progress _ _)).then (State.only_sendHeader _ _)

theorem State.chan_commitCopy_ne (s : State) {src : Nat} (seq : Nat) {e : Chan}
    (h : chanKey e ≠ chanKey (ingressChan src)) : (s.commitCopy src seq).chan e = s.chan e := by
  unfold State.commitCopy
  dsimp only
  split
  · exact (s.only_setMac _ _).chan e
  · rw [State.chan_sendHeader_ne _ h, (State.only_progress _ _).chan, (State.only_setMac _ _ _).chan]

/-- The copy of a committed packet is gone from its source. -/
theorem State.mac_commitCopy (s : State) {src seq : Nat} (h : s.isl? (portIsl src) ≠ 2) :
    (∀ c ∈ ((s.commitCopy src seq).mac src).copies, c.seq ≠ seq) ∧ seq < ((s.commitCopy src seq).mac src).committed := by
  unfold State.commitCopy
  dsimp only
  rw [if_neg h]
  obtain ⟨l, hl, hheld⟩ := State.mac_sendHeader_same ((s.setMac src { s.mac src with
    copies := (s.mac src).copies.filter (fun c => c.seq ≠ seq), committed := max (s.mac src).committed (seq + 1) }).progress
      (portIsl src)) src
  rw [(State.only_progress _ _).mac, State.mac_setMac_same] at hl hheld
  rw [hl]
  refine ⟨fun c hc => ?_, by dsimp only; omega⟩
  have hmem : c.held ∈ ((s.mac src).copies.filter (fun c => c.seq ≠ seq)).map Copy.held := hheld ▸ List.mem_map_of_mem hc
  obtain ⟨e, he, hec⟩ := List.mem_map.1 hmem
  have hseq : e.seq = c.seq := congrArg Prod.fst hec
  simpa [hseq] using (List.mem_filter.1 he).2

theorem admitChan_key_ne_ingress (k src : Nat) : chanKey (admitChan k) ≠ chanKey (ingressChan src) := by
  have := portIsl_lt src
  have hp : pipeOf src < 2 := by
    unfold pipeOf
    split <;> omega
  simp only [chanKey, admitChan, ingressChan]
  omega

/- ## A frame that BI admits (R281, R545) -/

section
variable {s : State} {d : Desc} {p : Place}

/-- Only luminaire ports pass the power coordinator (R167). -/
theorem State.coordinate_other (h : 96 ≤ d.port) : s.coordinate d = (s, d) := by
  unfold State.coordinate
  dsimp only
  rw [if_neg (by omega)]

theorem State.sampleCopy_none (h : d.copy = true ∨ 100 < d.ingress) : s.sampleCopy d = s := by
  unfold State.sampleCopy
  rw [if_pos (by rcases h with h | h <;> simp [h])]

theorem State.admitFrame_ok (h : s.decide' d = .ok p) (h96 : 96 ≤ d.port) (hs : d.copy = true ∨ 100 < d.ingress)
    (hc : d.commits = none) : s.admitFrame d = (s.countAdmit d).place d p := by
  have hd : { d with commits := none } = d := by cases d; simp_all
  unfold State.admitFrame State.admitOne
  rw [hd, h]
  dsimp only
  rw [State.coordinate_other h96]
  exact State.sampleCopy_none hs

end

section
variable (s : State) (d : Desc)

theorem State.only_countAdmit : s.only (s.countAdmit d) [.regs, .out] :=
  (((((State.only.refl s _).then (s.only_cntQ _ _ _)).then (State.only_cntQ _ _ _ _)).then (State.only_cntP _ _ _ _)).then
    (State.only_cntP _ _ _ _)).then (State.only_count _ _ _ _)

/-- The statistics that an admission moves (R545). -/
def Desc.admitted (d : Desc) : List Field :=
  [BI.QSTAT.COUNT d.q 0, BI.QSTAT.COUNT d.q 1, BI.QSTAT_OVF.OVF d.q, BI.PSTAT.COUNT d.port 0, BI.PSTAT.COUNT d.port 1,
    BI.PSTAT_OVF.OVF d.port]

theorem State.restKept_countAdmit : s.restKept (s.countAdmit d) d.admitted := by
  unfold State.countAdmit Desc.admitted
  exact (((((State.restKept.refl s _).addOvf _ _ (.inl (by simp)) (.inl (by simp))).addOvf _ _ (.inl (by simp))
    (.inl (by simp))).addOvf _ _ (.inl (by simp)) (.inl (by simp))).addOvf _ _ (.inl (by simp)) (.inl (by simp))).count _ _
    (by decide)

theorem State.rd_countAdmit {g : Field} (hm : g.moving = false) (hg : g.key < 0x22000000) :
    (s.countAdmit d).rd g = s.rd g := by
  have h0 := qstat_key_high d.q 0
  have h1 := qstat_key_high d.q 1
  have p0 := pstat_key_high d.port 0
  have p1 := pstat_key_high d.port 1
  refine (s.restKept_countAdmit d).rd hm ?_
  simp only [Desc.admitted, List.mem_cons, List.not_mem_nil, or_false, forall_eq_or_imp, forall_eq]
  omega

theorem State.only_chargeDesc : s.only (s.chargeDesc d) [.regs, .out] :=
  (((State.only.refl s _).then (s.only_setCells _ _)).then (State.only_wr _ _ _)).then (State.only_count _ _ _ _)

theorem State.restKept_chargeDesc :
    s.restKept (s.chargeDesc d) [BI.Q_OCC.CELLS d.q, BI.Q_OCC.FRAMES d.q, BI.BUF_STAT.FREE_SHARED] :=
  ((((State.restKept.refl s _).wr _ (.inl (by simp))).wr _ (.inl (by simp))).wr _ (.inl (by simp))).count _ _ (by decide)

end

/-- The accounts of a queue: below the statistics, apart from each other and from the pool's. -/
theorem qocc_key {q : Nat} (hq : q < 816) :
    (BI.Q_OCC.CELLS q).key < 0x22000000 ∧ (BI.Q_OCC.FRAMES q).key < 0x22000000
      ∧ (BI.Q_OCC.CELLS q).key ≠ (BI.Q_OCC.FRAMES q).key ∧ (BI.Q_OCC.CELLS q).key ≠ BI.BUF_STAT.FREE_SHARED.key
      ∧ (BI.Q_OCC.FRAMES q).key ≠ BI.BUF_STAT.FREE_SHARED.key := by
  simp only [BI.Q_OCC.CELLS, BI.Q_OCC.FRAMES, BI.BUF_STAT.FREE_SHARED, Field.key]
  omega

theorem qocc_not_moving {q : Nat} (hq : q < 816) :
    (BI.Q_OCC.CELLS q).moving = false ∧ (BI.Q_OCC.FRAMES q).moving = false :=
  ⟨Field.not_moving_of_place (show 0 < 8 by decide) (show 0x12000 + 0x8 * q < 0xF0100 by omega) (show 0 < 64 by decide),
    Field.not_moving_of_place (show 0 < 8 by decide) (show 0x12000 + 0x8 * q < 0xF0100 by omega) (show 32 < 64 by decide)⟩

theorem State.rd_chargeDesc (s : State) {d : Desc} (hq : d.q < 816) :
    (s.chargeDesc d).rd (BI.Q_OCC.CELLS d.q) = (s.rd (BI.Q_OCC.CELLS d.q) + d.cells) % 2 ^ (BI.Q_OCC.CELLS d.q).width
      ∧ (s.chargeDesc d).rd (BI.Q_OCC.FRAMES d.q)
        = (s.rd (BI.Q_OCC.FRAMES d.q) + 1) % 2 ^ (BI.Q_OCC.FRAMES d.q).width := by
  obtain ⟨-, -, hcf, hcp, hfp⟩ := qocc_key hq
  obtain ⟨hmc, hmf⟩ := qocc_not_moving hq
  have hcount := fun u : State => u.restKept_count 0x102 d.cells (i := 8) (by decide)
  unfold State.chargeDesc State.setCells
  constructor
  · rw [(hcount _).rd hmc (by simp), State.rd_addF_ne _ _ hcf, State.rd_wr_ne _ _ hcp, State.rd_wr_same]
  · rw [(hcount _).rd hmf (by simp), State.rd_addF_same, State.rd_wr_ne _ _ hfp, State.rd_wr_ne _ _ hcf.symm]

/- ## Spill writes (R55, R57, R290) -/

/-- Between two states every queue keeps its frames; a spilled frame's write may have gone out. -/
def State.framesKept (b u : State) : Prop :=
  ∀ q, (u.bq q).head = (b.bq q).head ∧ (u.bq q).tail = (b.bq q).tail
    ∧ (u.bq q).dram.map (·.desc) = (b.bq q).dram.map (·.desc)

theorem State.framesKept.refl (s : State) : s.framesKept s := fun _ => ⟨rfl, rfl, rfl⟩

theorem State.framesKept.trans {a b c : State} (h : a.framesKept b) (h' : b.framesKept c) : a.framesKept c := fun q =>
  ⟨(h' q).1.trans (h q).1, (h' q).2.1.trans (h q).2.1, (h' q).2.2.trans (h q).2.2⟩

theorem State.framesKept.of_only {a b : State} {l : List StatePart} (h : a.only b l) (hl : .bi ∉ l := by decide) :
    a.framesKept b := fun q => by simp [h.bq q hl]

theorem markFirst_desc (t : Spilled → Bool) {f : Spilled → Spilled} (hf : ∀ e, (f e).desc = e.desc) (l : List Spilled) :
    (markFirst t f l).map (·.desc) = l.map (·.desc) := by
  induction l with
  | nil => rfl
  | cons e l ih =>
    rw [markFirst]
    split
    · simp [hf]
    · simp [ih]

theorem State.only_spillSend (s : State) (i : Nat) : s.only (s.spillSend i) [.regs, .out, .chans, .bi] := by
  unfold State.spillSend
  dsimp only
  split
  · split
    · exact ((State.only.refl s _).then (s.only_setBq _ _)).then (State.only_send _ _ _)
    · exact .refl s _
  · exact .refl s _

theorem State.restKept_spillSend (s : State) (i : Nat) : s.restKept (s.spillSend i) [] := by
  unfold State.spillSend
  dsimp only
  split
  · split
    · exact ((State.restKept.refl s _).regs (c := s.setBq _ _) rfl).then (State.restKept_send _ _ (by decide))
    · exact .refl s _
  · exact .refl s _

theorem State.framesKept_spillSend (s : State) (i : Nat) : s.framesKept (s.spillSend i) := by
  unfold State.spillSend
  dsimp only
  split
  · split
    · refine .trans (fun q => ?_) (.of_only (State.only_send _ _ _))
      by_cases hq : q = spillQueue i
      · subst hq
        rw [State.bq_setBq_same]
        exact ⟨rfl, rfl, markFirst_desc _ (by intro; rfl) _⟩
      · rw [State.bq_setBq_ne _ _ hq]
        exact ⟨rfl, rfl, rfl⟩
    · exact .refl s
  · exact .refl s

theorem State.only_spillPump (s : State) : s.only s.spillPump [.regs, .out, .chans, .bi] := by
  unfold State.spillPump
  exact State.only.foldl (fun u i => State.only.foldl (fun v _ => v.only_spillSend i) _ u) _ s

theorem State.restKept_spillPump (s : State) : s.restKept s.spillPump [] := by
  unfold State.spillPump
  exact State.restKept.foldl (fun u i => State.restKept.foldl (fun v _ => v.restKept_spillSend i) _ u) _ s

theorem State.framesKept.foldl {α : Type} {f : State → α → State} (hf : ∀ (u : State) (a : α), u.framesKept (f u a))
    (l : List α) (s : State) : s.framesKept (l.foldl f s) :=
  State.foldl_rel (R := State.framesKept) .refl (fun _ _ _ => .trans) hf l s

theorem State.framesKept_spillPump (s : State) : s.framesKept s.spillPump := by
  unfold State.spillPump
  exact State.framesKept.foldl (fun u i => State.framesKept.foldl (fun v _ => v.framesKept_spillSend i) _ u) _ s

/- ## The mode and the islands' states stay while BI counts -/

theorem State.headKept_logPut (s : State) (cause i n : Nat) : s.headKept (s.logPut cause i n) := by
  unfold State.logPut
  split
  · exact .refl s
  · split
    · exact ((State.headKept.refl s).wr _ (by decide)).wr _ (by decide)
    · exact (State.headKept.of_regs (a := s) rfl).wr _ (by decide)

theorem State.headKept_logEvent (s : State) (cause i : Nat) : s.headKept (s.logEvent cause i) := by
  obtain ⟨l, ⟨n, h⟩ | h⟩ := s.logEvent_cases cause i <;> rw [h]
  · exact (State.headKept.of_regs (a := s) (b := { s with log := l }) rfl).trans (State.headKept_logPut _ _ _ _)
  · exact .of_regs rfl

theorem State.headKept_cntQ (s : State) (q c n : Nat) : s.headKept (s.cntQ q c n) := by
  obtain ⟨hc, ho⟩ := qstat_key_high q c
  exact s.headKept_addOvf _ _ (by omega) (by omega)

theorem State.headKept_cntP (s : State) (p c n : Nat) : s.headKept (s.cntP p c n) := by
  obtain ⟨hc, ho⟩ := pstat_key_high p c
  exact s.headKept_addOvf _ _ (by omega) (by omega)

theorem admCnt_key_high (r : DropReason) : 0x1800 ≤ (BI.ADM_CNT.COUNT r.index).key ∧ 0x1800 ≤ (BI.ADM_CNT.OVF r.index).key := by
  cases r <;> decide

theorem State.headKept_countDrop (s : State) (d : Desc) (r : DropReason) : s.headKept (s.countDrop d r) := by
  obtain ⟨hc, ho⟩ := admCnt_key_high r
  have hcounted : s.headKept (s.dropCounted d r) :=
    (((((s.headKept_addOvf 1 1 hc ho).wr (g := BI.ADM_EVT.DROP_SEEN) 1 (by decide)).trans (State.headKept_cntQ _ _ _ _)).trans
      (State.headKept_cntQ _ _ _ _)).trans (State.headKept_cntP _ _ _ _)).trans (State.headKept_count _ _ _ _)
  rw [State.countDrop_eq]
  split
  · exact hcounted.trans (State.headKept_logEvent _ _ _)
  · exact hcounted

theorem State.headKept_noteStage (s : State) (d : Desc) : s.headKept (s.noteStage d) := by
  unfold State.noteStage
  split
  · split
    · exact ((State.headKept.refl s).wr _ (by decide)).trans (State.headKept_raiseIf _ _ _)
    · exact .refl s
  · exact .refl s

theorem State.headKept_dropped (s : State) (d : Desc) (r : DropReason) : s.headKept (s.dropped d r) := by
  have hnoted : s.headKept (s.dropNoted d r) := by
    cases r with
    | portDisabled => exact fun f hf => s.rd_noteFlushed d (.inl (by omega))
    | queueFull => exact s.headKept_noteStage d
    | colourDrop => exact .refl s
    | spillEcc => exact .refl s
  rw [State.dropped_eq]
  exact hnoted.trans (State.headKept_countDrop _ _ _)

/- ## What a frame finds on its channel -/

theorem State.moreToCome_congr {a b : State} {k : Nat} (hc : b.chan (admitChan k) = a.chan (admitChan k))
    (hp : b.pipe k = a.pipe k) (key : Nat × Nat) : b.moreToCome k key = a.moreToCome k key := by
  unfold State.moreToCome
  rw [hc, hp]

theorem State.only.pipe {a b : State} {l : List StatePart} (h : a.only b l) (k : Nat) (hl : .pa ∉ l := by decide)
    (hl' : .pb ∉ l := by decide) : b.pipe k = a.pipe k := by
  unfold State.pipe
  rw [show b.pa = a.pa from h .pa hl, show b.pb = a.pb from h .pb hl']

theorem State.moreToCome_admTaken (s : State) (k : Nat) (d : Desc) (key : Nat × Nat) :
    (s.admTaken k d).moreToCome k key = (s.take (admitChan k) (.admission d)).moreToCome k key := by
  unfold State.admTaken State.take
  dsimp only
  by_cases h : Item.admission d ∈ (s.chan (admitChan k)).arrived
  · rw [if_pos h, if_pos (by exact h)]
    rfl
  · rw [if_neg h, if_neg (by exact h)]
    rfl

/- ## Places (R281, R290, R294) -/

section
variable {s : State} {d : Desc} {i : Nat}

theorem State.place_head (s : State) (d : Desc) :
    s.place d .head = (s.chargeDesc d).setBq d.q { s.bq d.q with head := (s.bq d.q).head ++ [d] } := rfl

theorem State.place_heldTail (h : spillOf d.q = some i) :
    s.place d .heldTail = ((s.chargeDesc d).setBq d.q { s.bq d.q with tail := (s.bq d.q).tail ++ [d] }).wr
      (BI.SPILL_STAT.HELD_TAIL i) 1 := by
  simp [State.place, h]

/-- A spilled frame in its queue, staged and counted, before its write is asked for. -/
def State.spilled (s : State) (d : Desc) (i : Nat) : State :=
  (((((s.stage d.cells).setBq d.q { s.bq d.q with dram := (s.bq d.q).dram ++ [⟨d, false, false, false⟩] }).cntQ d.q 6 1).count 8
    0x104 d.cells).addF (BI.SPILL_STAT.DRAM_CELLS i) d.cells).wr (BI.SPILL_STAT.ACTIVE i) 1

theorem State.place_spill (h : spillOf d.q = some i) : s.place d .spill = (s.spilled d i).spillPump := by
  simp [State.place, State.spilled, h]

theorem State.only_stage (s : State) (n : Nat) : s.only (s.stage n) [.regs] := (s.only_wr _ _).then (State.only_wr _ _ _)

theorem State.only_spilled (s : State) (d : Desc) (i : Nat) : s.only (s.spilled d i) [.regs, .out, .bi] :=
  ((((((State.only.refl s _).then (s.only_stage _)).then (State.only_setBq _ _ _)).then (State.only_cntQ _ _ _ _)).then
    (State.only_count _ _ _ _)).then (State.only_wr _ _ _)).then (State.only_wr _ _ _)

theorem State.bq_spilled (s : State) (d : Desc) (i : Nat) :
    (s.spilled d i).bq d.q = { s.bq d.q with dram := (s.bq d.q).dram ++ [⟨d, false, false, false⟩] } := by
  unfold State.spilled
  rw [(State.only_wr _ _ _).bq, State.addF, (State.only_wr _ _ _).bq, (State.only_count _ _ _ _).bq, (State.only_cntQ _ _ _ _).bq,
    State.bq_setBq_same]

theorem spillStat_key (i : Nat) :
    (BI.SPILL_STAT.ACTIVE i).key ≠ BI.BUF_STAT.STAGE_USED.key ∧ (BI.SPILL_STAT.DRAM_CELLS i).key ≠ BI.BUF_STAT.STAGE_USED.key := by
  simp only [BI.SPILL_STAT.ACTIVE, BI.SPILL_STAT.DRAM_CELLS, BI.BUF_STAT.STAGE_USED, Field.key]
  omega

theorem State.rd_spilled_stage (s : State) (d : Desc) (i : Nat) :
    (s.spilled d i).rd BI.BUF_STAT.STAGE_USED
      = (s.rd BI.BUF_STAT.STAGE_USED + d.cells) % 2 ^ BI.BUF_STAT.STAGE_USED.width := by
  obtain ⟨ha, hd⟩ := spillStat_key i
  obtain ⟨hq, ho⟩ := qstat_key_high d.q 6
  have hstage : BI.BUF_STAT.STAGE_USED.key < 0x22000000 := by decide
  unfold State.spilled
  rw [State.rd_wr_ne _ _ ha.symm, State.rd_addF_ne _ _ hd.symm, (State.restKept_count _ _ _ (by decide)).rd (by decide) (by simp),
    State.cntQ, State.rd_addOvf_ne _ _ _ (by omega) (by omega), State.setBq_rd, State.stage, State.rd_wr_ne _ _ (by decide),
    State.rd_addF_same]

theorem spillActive_not_moving {i : Nat} (hi : i < 24) : (BI.SPILL_STAT.ACTIVE i).moving = false :=
  Field.not_moving_of_place (show 0 < 8 by decide) (show 0x14100 + 0x8 * i < 0xF0100 by omega) (show 1 < 64 by decide)

end

/- ## The decision (R281, R282) -/

section
variable {s : State} {d : Desc}

theorem State.decide'_closed (h : s.portClosed d = true) : s.decide' d = .error .portDisabled := by
  simp [State.decide', h]

theorem State.decide'_onChip (hp : s.portClosed d = false) (hs : spillOf d.q = none) :
    s.decide' d = if s.r281 d.q d.cells d.colour then .ok .head else .error (s.r282 d) := by
  simp [State.decide', hp, hs]

end

/-- R281 as it is written: no new shared cells, or room in the pool and within the queue's limit. -/
theorem State.r281_iff (s : State) (q n c : Nat) :
    s.r281 q n c = true ↔
      (s.seenCells q + n - s.rd (BI.Q_CFG.MIN_CELLS q)) - (s.seenCells q - s.rd (BI.Q_CFG.MIN_CELLS q)) = 0
      ∨ (s.seenCells q + n - s.rd (BI.Q_CFG.MIN_CELLS q)) - (s.seenCells q - s.rd (BI.Q_CFG.MIN_CELLS q)) ≤ s.seenFree
        ∧ (s.seenCells q - s.rd (BI.Q_CFG.MIN_CELLS q))
            + ((s.seenCells q + n - s.rd (BI.Q_CFG.MIN_CELLS q)) - (s.seenCells q - s.rd (BI.Q_CFG.MIN_CELLS q)))
          ≤ s.queueLimit q c := by
  unfold State.r281 State.sharedUse
  dsimp only
  rw [Bool.or_eq_true, Bool.and_eq_true, beq_iff_eq, decide_eq_true_iff, decide_eq_true_iff]

/- ## The state after an admission or a drop -/

section
variable {b : State} {k : Nat} {d : Desc}

/-- The state in which an admitted frame is put into its place. -/
def State.admitted (b : State) (k : Nat) (d : Desc) : State := (b.admTaken k d).countAdmit d

theorem State.only_admitted (b : State) (k : Nat) (d : Desc) : b.only (b.admitted k d) [.regs, .out, .bi, .chans] :=
  ((b.only_admTaken k d).mono).then (State.only_countAdmit _ d)

theorem State.bq_admitted (b : State) (k : Nat) (d : Desc) (q : Nat) : (b.admitted k d).bq q = b.bq q := by
  rw [State.admitted, (State.only_countAdmit _ d).bq, State.bq_admTaken]

theorem State.rd_admitted (b : State) (k : Nat) (d : Desc) {g : Field} (hm : g.moving = false) (hg : g.key < 0x22000000) :
    (b.admitted k d).rd g = b.rd g := by
  rw [State.admitted, State.rd_countAdmit _ _ hm hg, State.rd_admTaken]

theorem State.admitted_arrived (h : b.arrivedAdmit k = some d) :
    ((b.admitted k d).chan (admitChan k)).arrived = (b.chan (admitChan k)).arrived.erase (.admission d) := by
  rw [State.admitted, (State.only_countAdmit _ d).chan, State.admTaken_arrived h]

theorem State.restKept_admitted (b : State) (k : Nat) (d : Desc) : b.restKept (b.admitted k d) d.admitted :=
  ((State.restKept.refl b _).regs (b.only_admTaken k d).regs).trans (State.restKept_countAdmit _ d)

/-- BI_ADMISSION of a frame that goes to no luminaire and gives no sample. -/
theorem State.biAdmission_ok {p : Place} (hk : k < 2) (ht : b.turnOf k = true) (hr : b.islRuns 8 = true)
    (hd : b.arrivedAdmit k = some d) (h96 : 96 ≤ d.port) (hs : d.copy = true ∨ 100 < d.ingress) (hc : d.commits = none)
    (hdec : b.decide' d = .ok p) : b.biAdmission k = (b.admitted k d).place d p :=
  (State.biAdmission_alone hk hr ht hd hc).trans
    (State.admitFrame_ok ((State.decide'_admTaken b k d d).trans hdec) h96 hs hc)

/-- BI_ADMISSION of a frame that is decided against, up to the release of its copy. -/
theorem State.biAdmission_drop {r : DropReason} (hdec : b.decide' d = .error r) :
    (b.admTaken k d).admitFrame d = (b.admTaken k d).dropped d r :=
  State.admitFrame_drop ((State.decide'_admTaken b k d d).trans hdec)

theorem State.rd_admitted_charge (b : State) (k : Nat) (hq : d.q < 816) :
    ((b.admitted k d).chargeDesc d).rd (BI.Q_OCC.CELLS d.q)
        = (b.rd (BI.Q_OCC.CELLS d.q) + d.cells) % 2 ^ (BI.Q_OCC.CELLS d.q).width
      ∧ ((b.admitted k d).chargeDesc d).rd (BI.Q_OCC.FRAMES d.q)
        = (b.rd (BI.Q_OCC.FRAMES d.q) + 1) % 2 ^ (BI.Q_OCC.FRAMES d.q).width := by
  obtain ⟨hkc, hkf, -⟩ := qocc_key hq
  obtain ⟨hmc, hmf⟩ := qocc_not_moving hq
  have h := State.rd_chargeDesc (b.admitted k d) hq
  rwa [State.rd_admitted b k d hmc hkc, State.rd_admitted b k d hmf hkf] at h

theorem State.restKept_admitted_charge (b : State) (k : Nat) (d : Desc) :
    b.restKept ((b.admitted k d).chargeDesc d)
      ([BI.Q_OCC.CELLS d.q, BI.Q_OCC.FRAMES d.q, BI.BUF_STAT.FREE_SHARED] ++ d.admitted) :=
  ((b.restKept_admitted k d).mono fun _ h => List.mem_append_right _ h).trans
    ((State.restKept_chargeDesc _ d).mono fun _ h => List.mem_append_left _ h)

theorem State.only_admitted_charge (b : State) (k : Nat) (d : Desc) :
    b.only ((b.admitted k d).chargeDesc d) [.regs, .out, .bi, .chans] :=
  (b.only_admitted k d).then (State.only_chargeDesc _ d)

theorem State.only_place_spill {i : Nat} (h : spillOf d.q = some i) (s : State) :
    s.only (s.place d .spill) [.regs, .out, .chans, .bi] := by
  rw [State.place_spill h]
  exact ((s.only_spilled d i).mono).then (State.only_spillPump _)

/-- A spilled frame is last in its queue's DRAM segment, staged, and its index active. -/
theorem State.place_spill_shows {i : Nat} (h : spillOf d.q = some i) (s : State) :
    ((s.place d .spill).bq d.q).dram.map (·.desc) = (s.bq d.q).dram.map (·.desc) ++ [d]
      ∧ ((s.place d .spill).bq d.q).head = (s.bq d.q).head
      ∧ (s.place d .spill).rd BI.BUF_STAT.STAGE_USED
        = (s.rd BI.BUF_STAT.STAGE_USED + d.cells) % 2 ^ BI.BUF_STAT.STAGE_USED.width
      ∧ (s.place d .spill).rd (BI.SPILL_STAT.ACTIVE i) = 1 := by
  have hpump := (s.spilled d i).restKept_spillPump
  obtain ⟨hhead, -, hdram⟩ := (s.spilled d i).framesKept_spillPump d.q
  rw [State.bq_spilled] at hhead hdram
  rw [State.place_spill h]
  refine ⟨by rw [hdram, List.map_append]; rfl, hhead, ?_, ?_⟩
  · rw [hpump.rd (by decide) (by simp), State.rd_spilled_stage]
  · rw [hpump.rd (spillActive_not_moving (spillOf_lt h)) (by simp), State.spilled, State.rd_wr_same]
    rfl

theorem State.only_place_heldTail {i : Nat} (h : spillOf d.q = some i) (s : State) :
    s.only (s.place d .heldTail) [.regs, .out, .bi] := by
  rw [State.place_heldTail h]
  exact (((s.only_chargeDesc d).mono).then (State.only_setBq _ _ _)).then (State.only_wr _ _ _)

theorem State.place_heldTail_shows {i : Nat} (h : spillOf d.q = some i) (s : State) :
    ((s.place d .heldTail).bq d.q).tail = (s.bq d.q).tail ++ [d]
      ∧ ((s.place d .heldTail).bq d.q).head = (s.bq d.q).head
      ∧ (s.place d .heldTail).rd (BI.SPILL_STAT.HELD_TAIL i) = 1 := by
  rw [State.place_heldTail h, (State.only_wr _ _ _).bq, State.bq_setBq_same, State.rd_wr_same]
  exact ⟨rfl, rfl, rfl⟩

/-- The trial frame that an abort discards: counted in the log, its copy released with the last of its packet. -/
theorem State.biAdmission_abort (hk : k < 2) (ht : b.turnOf k = true) (hr : b.islRuns 8 = true)
    (hd : b.arrivedAdmit k = some d) (hab : b.abortDrops d = true) :
    b.biAdmission k = (b.admTaken k d).logEvent 0x0F 8
      ∨ ∃ src seq, b.biAdmission k = ((b.admTaken k d).logEvent 0x0F 8).commitCopy src seq := by
  have habort : (b.admTaken k d).abortDrop 8 1 = (b.admTaken k d).logEvent 0x0F 8 := rfl
  cases hc : d.commits with
  | none => simp [State.abortDrops, hc] at hab
  | some x =>
    rw [State.biAdmission_eq hk hr ht hd, hab, hc, if_pos rfl, habort]
    dsimp only
    split
    · exact .inl rfl
    · exact .inr ⟨_, _, rfl⟩

end

/-- Settles O38: BI takes the frame off its channel, and its decision says which of the places or drops follows. -/
theorem bufferAdmissionFollowsItsLimits : Obligations.BufferAdmissionFollowsItsLimits := by
  unfold Obligations.BufferAdmissionFollowsItsLimits
  refine ⟨?head, ?drop, ?commit, ?spill, ?abort, ?idle, ?closed, ?limits⟩
  case head =>
    intro k t d s hk ht hr hd h96 hport hqueue hs hc hdec
    obtain ⟨hcells, hframes⟩ := State.rd_admitted_charge (s.begin t) k (Desc.q_lt hport hqueue)
    have honly := (s.begin t).only_admitted_charge k d
    have hcharge := ((s.begin t).admitted k d).only_chargeDesc d
    refine Completes.next rfl ((State.biAdmission_ok hk ht hr hd h96 hs hc hdec).trans (State.place_head _ d))
      ⟨?_, ?_, ?_, fun q hqne => ?_, ?_, ?_, ?_, (State.restKept_admitted_charge _ k d).regs (State.setBq_regs _ _ _),
        (honly.then (State.only_setBq _ _ _)).eq⟩
    · rw [State.bq_setBq_same, State.bq_admitted]
    · rw [State.bq_setBq_same, State.bq_admitted]
    · rw [State.bq_setBq_same, State.bq_admitted]
    · rw [State.bq_setBq_ne _ _ hqne, hcharge.bq, State.bq_admitted]
    · rw [State.setBq_rd, hcells]
    · rw [State.setBq_rd, hframes]
    · rw [(State.only_setBq _ _ _).chan, hcharge.chan, State.admitted_arrived hd]
  case drop =>
    intro k t d r s hk ht hr hd hport hqueue hc hdec
    have hdrop := ((s.begin t).admTaken k d).only_dropped d r
    obtain ⟨hcnt, hseen⟩ := ((s.begin t).admTaken k d).rd_dropped d r
    rw [State.rd_admTaken] at hcnt
    refine Completes.next rfl ((State.biAdmission_alone hk hr ht hd hc).trans (State.biAdmission_drop hdec))
      ⟨?_, hcnt, hseen, ?_, ((s.begin t).only_admTaken k d).memories.trans (State.memoriesKept_dropped _ _ _)⟩
    · rw [hdrop .bi (by decide), State.admTaken_bi]
    · rw [hdrop.chan, State.admTaken_arrived hd]
  case commit =>
    intro k t src seq d r s hk ht hr hd hport hqueue hc hab hdec hmore hisl
    have honly := ((s.begin t).admTaken k d).only_dropped d r
    have hlast : (((s.begin t).admTaken k d).dropped d r).moreToCome k (src, seq) = false := by
      rw [State.moreToCome_congr (honly.chan _) (honly.pipe k), State.moreToCome_admTaken, hmore]
    have heq : (s.begin t).biAdmission k = (((s.begin t).admTaken k d).dropped d r).commitCopy src seq := by
      rw [State.biAdmission_eq hk hr ht hd, hab, hc]
      simp [State.biAdmission_drop hdec, hlast]
    refine Completes.next rfl heq (State.mac_commitCopy _ ?_)
    rwa [(State.headKept_dropped _ d r).isl?, (State.headKept.of_regs ((s.begin t).only_admTaken k d).regs).isl?]
  case spill =>
    intro k t i d s hk ht hr hd h96 hport hqueue hs hc hsp
    have hmem := ((s.begin t).only_admitted k d).memories
    refine ⟨fun hdec => ?_, fun hdec => ?_⟩
    · obtain ⟨hdram, hhead, hstage, hactive⟩ := State.place_spill_shows hsp ((s.begin t).admitted k d)
      rw [State.bq_admitted] at hdram hhead
      rw [State.rd_admitted _ _ _ (by decide) (by decide)] at hstage
      exact Completes.next rfl (State.biAdmission_ok hk ht hr hd h96 hs hc hdec)
        ⟨hdram, hhead, hstage, hactive, hmem.trans (State.only_place_spill hsp _).memories⟩
    · obtain ⟨htail, hhead, hheld⟩ := State.place_heldTail_shows hsp ((s.begin t).admitted k d)
      rw [State.bq_admitted] at htail hhead
      exact Completes.next rfl (State.biAdmission_ok hk ht hr hd h96 hs hc hdec)
        ⟨htail, hhead, hheld, hmem.trans (State.only_place_heldTail hsp _).memories⟩
  case abort =>
    intro k t d s hk ht hr hd hab
    have hlog := ((s.begin t).admTaken k d).only_logEvent 0x0F 8
    have hmem := ((s.begin t).only_admTaken k d).memories.trans (State.memoriesKept_logEvent _ 0x0F 8)
    obtain heq | ⟨src, seq, heq⟩ := State.biAdmission_abort hk ht hr hd hab
    · refine Completes.next rfl heq ⟨fun q => ?_, hmem, ?_⟩
      · rw [hlog.bq, State.bq_admTaken]
      · rw [hlog.chan, State.admTaken_arrived hd]
    · have hcommit := (((s.begin t).admTaken k d).logEvent 0x0F 8).only_commitCopy src seq
      refine Completes.next rfl heq ⟨fun q => ?_, hmem.trans hcommit.memories, ?_⟩
      · rw [hcommit.bq, hlog.bq, State.bq_admTaken]
      · rw [State.chan_commitCopy_ne _ _ (admitChan_key_ne_ingress k src), hlog.chan, State.admTaken_arrived hd]
  case idle =>
    intro k t s h
    exact Completes.next rfl (State.biAdmission_idle h) rfl
  case closed =>
    intro s d ⟨hport, h⟩
    refine State.decide'_closed ?_
    obtain h | ⟨h7, hm⟩ | h := h
    · simp [State.portClosed, hport, h]
    · simp [State.portClosed, hport, h7, hm]
    · simp [State.portClosed, hport, h]
  case limits =>
    intro s d hcol hopen hspill cells min' free limit bound fresh fits
    have hlimit : ∀ c, s.queueLimit d.q c = bound c := by
      intro c
      obtain _ | _ | c := c <;> rfl
    have hfits : ∀ c, s.r281 d.q d.cells c = true ↔ fits c := fun c => by rw [State.r281_iff, hlimit]
    rw [State.decide'_onChip hopen hspill]
    refine ⟨fun h => if_pos ((hfits _).2 h), fun h h0 hg => ?_, fun h hg => ?_⟩
    · rw [if_neg (mt (hfits _).1 h), State.r282, if_pos ⟨h0, (hfits 0).2 hg⟩]
    · rw [if_neg (mt (hfits _).1 h), State.r282, if_neg]
      rintro ⟨h0, hr⟩
      exact hg.elim h0 fun hn => hn ((hfits 0).1 hr)

/- ## What the journal and the flash controller touch (18_persistence.md) -/

/-- Fields that the journal and the flash controller leave: the head of MI's window, and what lies outside MI and is no
count. -/
def Field.offJournal (f : Field) : Prop := f.key < 0x1800 ∨ 0x4000000 ≤ f.key ∧ f.moving = false

/-- Between two states an operation of the journal or the flash controller may lie: it moves registers of MI, its own state,
the watchdog's time and the log, and no memory. -/
structure State.jnlKept (b u : State) : Prop where
  rd : ∀ f : Field, f.offJournal → u.rd f = b.rd f
  parts : b.only u [.regs, .out, .free, .log, .di, .mg, .fl]
  inits : u.di.inits = b.di.inits
  resets : u.mg.resets = b.mg.resets

section
variable {a b c : State}

theorem State.jnlKept.refl (s : State) : s.jnlKept s := ⟨fun _ _ => rfl, .refl s _, rfl, rfl⟩

theorem State.jnlKept.trans (h : a.jnlKept b) (h' : b.jnlKept c) : a.jnlKept c :=
  ⟨fun f hf => (h'.rd f hf).trans (h.rd f hf), h.parts.trans h'.parts, h'.inits.trans h.inits, h'.resets.trans h.resets⟩

/-- Registers of MI behind its head. -/
abbrev Field.inJournal (f : Field) : Prop := 0x1800 ≤ f.key ∧ f.key < 0x4000000

theorem State.jnlKept.wr (h : a.jnlKept b) {g : Field} (v : Nat) (hg : g.inJournal := by decide) : a.jnlKept (b.wr g v) := by
  obtain ⟨hlow, hhigh⟩ := hg
  refine h.trans ⟨fun f hf => b.rd_wr_ne v ?_, (b.only_wr g v).mono, rfl, rfl⟩
  rcases hf with hf | ⟨hf, -⟩ <;> omega

theorem State.jnlKept.addOvf (h : a.jnlKept b) {f o : Field} (bits n : Nat) (hf : f.inJournal := by decide)
    (ho : o.inJournal := by decide) : a.jnlKept (b.addOvf f o bits n) := by
  unfold State.addOvf
  split
  · exact (h.wr _ hf).wr _ ho
  · exact h.wr _ hf

theorem State.jnlKept.raise (h : a.jnlKept b) {n : Nat} (hn : n < 128 := by decide) : a.jnlKept (b.raise n) := by
  have ho := b.only_raise n
  refine h.trans ⟨fun f hf => ?_, ho.mono, by rw [ho .di (by decide)], by rw [ho .mg (by decide)]⟩
  rcases hf with hf | ⟨-, hm⟩
  · exact b.headKept_raise n f hf
  · exact (b.restKept_raise hn).rd hm (by simp)

theorem State.jnlKept.raiseIf (h : a.jnlKept b) (x : Bool) {n : Nat} (hn : n < 128 := by decide) : a.jnlKept (b.raiseIf x n) := by
  unfold State.raiseIf
  split
  · exact h.raise hn
  · exact h

theorem State.jnlKept.logEvent (h : a.jnlKept b) (cause i : Nat) : a.jnlKept (b.logEvent cause i) := by
  have ho := b.only_logEvent cause i
  obtain ⟨-, -, -, -, hinits, hresets⟩ := b.memoriesKept_logEvent cause i
  refine h.trans ⟨fun f hf => ?_, ho.mono, hinits, hresets⟩
  rcases hf with hf | ⟨hf, hm⟩
  · exact b.headKept_logEvent cause i f hf
  · exact b.rd_logEvent cause i hm hf

/-- The controller's own state. -/
theorem State.jnlKept.setFl (h : a.jnlKept b) (x : Persist) : a.jnlKept { b with fl := x } :=
  h.trans ⟨fun _ _ => rfl, .of_withParts rfl, rfl, rfl⟩

/-- The watchdog's time. -/
theorem State.jnlKept.setWdtAt (h : a.jnlKept b) (n : Nat) : a.jnlKept { b with mg := { b.mg with wdtAt := n } } :=
  h.trans ⟨fun _ _ => rfl, .of_withParts rfl, rfl, rfl⟩

theorem State.jnlKept.memories (h : a.jnlKept b) : a.memoriesKept b :=
  ⟨h.parts .sram (by decide), h.parts .dram (by decide), h.parts .flash (by decide), h.parts .host (by decide), h.inits, h.resets⟩

theorem State.jnlKept.head (h : a.jnlKept b) : a.headKept b := fun f hf => h.rd f (.inl hf)

end

section
variable (s : State)

theorem State.jnlKept_wdtSync : s.jnlKept s.wdtSync := by
  unfold State.wdtSync
  split
  · exact (State.jnlKept.refl s).setWdtAt _
  · exact ((State.jnlKept.refl s).wr _).setWdtAt _

theorem State.jnlKept_wdtResume : s.jnlKept s.wdtResume := by
  unfold State.wdtResume
  split
  · exact .refl s
  · exact (State.jnlKept.refl s).wr _

theorem State.jnlKept_eraseSuspends (x : Bool) : s.jnlKept (s.eraseSuspends x) := by
  have h : s.jnlKept ((s.wdtSync.flag MI.WDT_STAT.ERASE_SUSP x).flag MI.FLASH_STAT.ERASING x) := (s.jnlKept_wdtSync.wr _).wr _
  unfold State.eraseSuspends
  dsimp only
  split
  · exact h.trans (State.jnlKept_wdtResume _)
  · exact h

/-- The hold-up check notes the energy; a deferral is counted and logged. -/
theorem State.holdup_cases (k : Store) :
    ∃ v, s.holdup k = (true, s.wr MI.HU_STAT.E_MJ v)
      ∨ s.holdup k = (false, (((s.wr MI.HU_STAT.E_MJ v).addOvf MI.HU_STAT.DEFER_CNT MI.HU_STAT.OVF 1 1).wr
          MI.HU_STAT.DEFERRED_SEEN 1).logEvent 0x103 1) := by
  refine ⟨s.energy2 / 2000000000000000, ?_⟩
  unfold State.holdup
  by_cases h : k.required * 1000000000000000 ≤ 2 * s.energy2 ∧ s.rd MI.HU_CFG.CAP_UF ≠ 0
  · exact .inl (if_pos h)
  · exact .inr (if_neg h)

theorem State.jnlKept_holdup (k : Store) : s.jnlKept (s.holdup k).2 := by
  obtain ⟨v, h | h⟩ := s.holdup_cases k <;> rw [h]
  · exact (State.jnlKept.refl s).wr _
  · exact ((((State.jnlKept.refl s).wr _).addOvf _ _).wr _).logEvent _ _

theorem State.jnlKept_flashStart (o : FlashOp) : s.jnlKept (s.flashStart o) := by
  have h : s.jnlKept { s with fl := { s.fl with op := some o, opSince := s.now } } := (State.jnlKept.refl s).setFl _
  unfold State.flashStart
  cases o with
  | erase fw a n => exact h.trans (State.jnlKept_eraseSuspends _ _)
  | program fw a l => exact h
  | journal h' l => exact h

theorem State.jnlKept_jnlDefer : s.jnlKept s.jnlDefer := by
  unfold State.jnlDefer
  dsimp only
  split
  · exact ((((State.jnlKept.refl s).setFl _).wr _).raise).logEvent _ _
  · exact (State.jnlKept.refl s).setFl _

theorem State.jnlKept_flashThenTries : s.jnlKept s.flashThenTries := by
  unfold State.flashThenTries
  split
  · exact ((State.jnlKept.refl s).setFl _).trans (State.jnlKept_flashStart _ _)
  · exact .refl s

theorem State.jnlKept_flashNote (f : Field) (hf : f.inJournal := by decide) : s.jnlKept (s.flashNote f) :=
  ((State.jnlKept.refl s).wr _ hf).raiseIf _

/-- The hold-up check under a name of its own: its arithmetic, on energies of many digits, is not to be looked into. -/
theorem State.holdup_opaque : ∃ check, check = State.holdup ∧ ∀ (u : State) (k : Store), u.jnlKept (check u k).2 :=
  ⟨_, rfl, State.jnlKept_holdup⟩

theorem State.jnlKept_flashThenFirmware : s.jnlKept s.flashThenFirmware := by
  obtain ⟨check, hc, hcheck⟩ := State.holdup_opaque
  unfold State.flashThenFirmware
  rw [← hc]
  split
  · rename_i o _ _
    have h := ((State.jnlKept.refl s).setFl { s.fl with want := none }).trans
      (hcheck _ (State.storeOf { s with fl := { s.fl with want := none } } o))
    dsimp only
    split
    · exact h.trans (State.jnlKept_flashStart _ _)
    · exact (h.wr _).trans (State.jnlKept_flashNote _ _)
  · exact .refl s

theorem State.jnlKept_flashThenOldest : s.jnlKept s.flashThenOldest := by
  obtain ⟨check, hc, hcheck⟩ := State.holdup_opaque
  unfold State.flashThenOldest
  rw [← hc]
  split
  · have h := ((State.jnlKept.refl s).setFl { s.fl with wantOldest := false }).trans (hcheck _ .erase64k)
    dsimp only
    split
    · exact h.trans (State.jnlKept_flashStart _ _)
    · exact h
  · exact .refl s

theorem State.flashThenOldest_opaque : ∃ last, last = State.flashThenOldest ∧ ∀ u : State, u.jnlKept (last u) :=
  ⟨_, rfl, State.jnlKept_flashThenOldest⟩

theorem State.jnlKept_flashPump : s.jnlKept s.flashPump := by
  obtain ⟨check, hc, hcheck⟩ := State.holdup_opaque
  obtain ⟨last, hl, hlast⟩ := State.flashThenOldest_opaque
  have hthen : ∀ u : State, u.jnlKept (last u.flashThenTries.flashThenFirmware) := fun u =>
    (u.jnlKept_flashThenTries.trans (State.jnlKept_flashThenFirmware _)).trans (hlast _)
  unfold State.flashPump
  rw [← hc, ← hl]
  split
  · exact .refl s
  · split
    · rename_i o _
      have h := hcheck s (s.storeOf o)
      dsimp only
      split
      · exact h.trans (State.jnlKept_flashStart _ _)
      · exact (h.trans (State.jnlKept_jnlDefer _)).trans (hthen _)
    · exact hthen s

theorem State.jnlKept_jnlCounts : s.jnlKept s.jnlCounts := ((State.jnlKept.refl s).wr _).wr _

theorem State.jnlKept_jnlAppend (r : Frame) (device : Bool) : s.jnlKept (s.jnlAppend r device) := by
  unfold State.jnlAppend State.jnlQueue
  exact (((((State.jnlKept.refl s).wr _).setFl _).setFl _).trans (State.jnlKept_jnlCounts _)).trans (State.jnlKept_flashPump _)

/-- A record of the device's own. -/
theorem State.jnlKept_jnlDevice (ty : Nat) (payload : Frame) : s.jnlKept (s.jnlDevice ty payload) := by
  unfold State.jnlDevice
  split
  · exact s.jnlKept_jnlAppend _ _
  · exact ((((State.jnlKept.refl s).addOvf _ _).wr _).raiseIf _).logEvent _ _

end

/- ## What keeps the head of MI's window: BI's queues (R135, R161) -/

/-- Every register of another island lies behind the head of MI's window. -/
theorem Field.high_of_isl {f : Field} (h : 0 < f.isl := by exact Nat.succ_pos _) : 0x1800 ≤ f.key := by
  unfold Field.key
  omega

/-- A pipeline's registers lie in island 5 or 6. -/
theorem Field.high_of_pipe {f : Field} (k : Nat) (h : f.isl = 5 + k := by rfl) : 0x1800 ≤ f.key :=
  Field.high_of_isl (by omega)

theorem State.headKept.put {a b c : State} (h : a.headKept b) (hc : c.regs = b.regs) : a.headKept c := h.trans (.of_regs hc)

/-- A step behind a change of no register. -/
theorem State.headKept.after {a b c : State} (h : b.headKept c) (hb : b.regs = a.regs) : a.headKept c := .trans (.of_regs hb) h

theorem State.headKept_wr (s : State) {f : Field} (v : Nat) (hf : 0x1800 ≤ f.key) : s.headKept (s.wr f v) :=
  (State.headKept.refl s).wr v hf

section
variable (s : State)

theorem State.headKept_countDefer (p : Nat) : s.headKept (s.countDefer p) :=
  s.headKept_addOvf _ _ Field.high_of_isl Field.high_of_isl

theorem State.headKept_shutWindow (p : Nat) : s.headKept (s.shutWindow p) := by
  unfold State.shutWindow
  dsimp only
  split
  · exact (s.headKept_countDefer p).trans ((State.headKept_wr _ _ Field.high_of_isl).after rfl)
  · exact (State.headKept_wr _ _ Field.high_of_isl).after rfl

theorem State.headKept_shutWindows : s.headKept s.shutWindows := by
  unfold State.shutWindows
  refine State.headKept.foldl (fun u e => ?_) _ _
  exact u.headKept_shutWindow e.1

theorem State.headKept_setCells (q n : Nat) : s.headKept (s.setCells q n) :=
  ((State.headKept.refl s).wr _ Field.high_of_isl).wr _ Field.high_of_isl

theorem State.headKept_freeReserve (q n : Nat) : s.headKept (s.freeReserve q n) := by
  unfold State.freeReserve
  split
  · exact ((State.headKept.refl s).wr _ Field.high_of_isl).wr _ Field.high_of_isl
  · exact .refl s

theorem State.headKept_noteFreed (q n : Nat) : s.headKept (s.noteFreed q n) :=
  .of_regs ((s.only_noteFreed q n).regs)

theorem State.headKept_releaseDesc (d : Desc) : s.headKept (s.releaseDesc d) := by
  unfold State.releaseDesc
  dsimp only
  split
  · exact .refl s
  · refine ((State.headKept.wr ?_ _ Field.high_of_isl).trans (State.headKept_count _ _ _ _)).trans (State.headKept_progress _ _)
    split
    · exact s.headKept_freeReserve _ _
    · exact (s.headKept_setCells _ _).trans (State.headKept_noteFreed _ _ _)

theorem State.headKept_discardDesc (d : Desc) : s.headKept (s.discardDesc d) :=
  (s.headKept_countDrop d .portDisabled).trans (State.headKept_releaseDesc _ d)

theorem State.headKept_discardAll (l : List Desc) : s.headKept (s.discardAll l) := by
  unfold State.discardAll
  exact State.headKept.foldl (fun u d => u.headKept_discardDesc d) _ _

theorem State.headKept_unstage (n : Nat) : s.headKept (s.unstage n) :=
  (((State.headKept.refl s).wr _ Field.high_of_isl).wr _ Field.high_of_isl).trans (State.headKept_noteFreed _ _ _)

theorem State.dropSpills_regs (i : Nat) : (s.dropSpills i).regs = s.regs := by
  unfold State.dropSpills
  dsimp only
  split <;> rfl

theorem State.headKept_spillForget (i : Nat) : s.headKept (s.spillForget i) := .of_regs (s.dropSpills_regs i)

/-- The accounts of a spill queue's DRAM segment are cleared, and what is under way for it forgotten. -/
def State.segmentCleared (s : State) (q : Nat) : State :=
  match spillOf q with
  | some i =>
    (s.wrs [(BI.SPILL_STAT.DRAM_CELLS i, 0), (BI.SPILL_STAT.ACTIVE i, 0), (BI.SPILL_STAT.HELD_TAIL i, 0)]).spillForget i
  | none => s

/-- A spilled frame is discarded: counted, and what it holds on chip freed. -/
def State.discardSpilled (s : State) (q : Nat) (e : Spilled) : State :=
  let s' := s.countDrop e.desc .portDisabled
  if e.reading then s'.freeReserve q e.desc.cells else if e.acked then s' else s'.unstage e.desc.cells

theorem State.flushQueue_eq (q : Nat) :
    s.flushQueue q = ((((s.bq q).dram.foldl (fun u e => u.discardSpilled q e)
      (s.discardAll ((s.bq q).head ++ (s.bq q).tail))).segmentCleared q).setBq q BufQueue.empty).wr (BI.DWRR_Q.DEFICIT q) 0 :=
  rfl

theorem State.headKept_segmentCleared (q : Nat) : s.headKept (s.segmentCleared q) := by
  unfold State.segmentCleared
  split
  · rename_i i _
    have h : s.headKept (s.wrs [(BI.SPILL_STAT.DRAM_CELLS i, 0), (BI.SPILL_STAT.ACTIVE i, 0), (BI.SPILL_STAT.HELD_TAIL i, 0)]) :=
      ((s.headKept_wr _ Field.high_of_isl).wr _ Field.high_of_isl).wr _ Field.high_of_isl
    exact h.trans (State.headKept_spillForget _ _)
  · exact .refl s

theorem State.headKept_discardSpilled (q : Nat) (e : Spilled) : s.headKept (s.discardSpilled q e) := by
  have h := s.headKept_countDrop e.desc .portDisabled
  unfold State.discardSpilled
  dsimp only
  split
  · exact h.trans (State.headKept_freeReserve _ _ _)
  · split
    · exact h
    · exact h.trans (State.headKept_unstage _ _)

theorem State.headKept_flushQueue (q : Nat) : s.headKept (s.flushQueue q) := by
  have h := ((s.headKept_discardAll ((s.bq q).head ++ (s.bq q).tail)).trans
    (State.headKept.foldl (fun u e => u.headKept_discardSpilled q e) (s.bq q).dram _)).trans (State.headKept_segmentCleared _ q)
  rw [State.flushQueue_eq]
  exact (h.trans (.of_regs (State.setBq_regs _ q BufQueue.empty))).wr _ Field.high_of_isl

theorem State.headKept_flush7 (p : Nat) : s.headKept (s.flush7 p) := by
  unfold State.flush7
  exact (s.headKept_discardAll _).trans ((State.headKept_flushQueue _ _).after rfl)

theorem State.setRings_regs (r : RingSched) (e w : RingPort) :
    ({ s with rsch := r, ringE := e, ringW := w } : State).regs = s.regs := rfl

/-- Class 7 closes (R135). -/
theorem State.headKept_closeClass7 : s.headKept s.closeClass7 := by
  have h := s.headKept_shutWindows.trans (State.headKept.foldl (fun u p => u.headKept_flush7 p) (List.range 101) _)
  unfold State.closeClass7
  exact (h.trans (State.headKept_discardAll _ _)).put (State.setRings_regs _ _ _ _)

/- ## Packets that end (R219, R236) -/

theorem State.headKept_setMac (p : Nat) (m : PortMac) : s.headKept (s.setMac p m) := .of_regs rfl

theorem State.headKept_send (c : Chan) (i : Item) : s.headKept (s.send c i) := by
  unfold State.send
  dsimp only
  split
  · exact .refl s
  · exact (State.headKept_count _ _ _ _).after rfl

theorem State.headKept_sendHeader (p : Nat) : s.headKept (s.sendHeader p) := by
  unfold State.sendHeader
  dsimp only
  split
  · split
    · exact (State.headKept_send _ _ _).after rfl
    · exact .refl s
  · exact .refl s

theorem State.headKept_commitCopy (src seq : Nat) : s.headKept (s.commitCopy src seq) := by
  unfold State.commitCopy
  dsimp only
  split
  · exact .of_regs rfl
  · exact ((s.headKept_setMac _ _).trans (State.headKept_progress _ _)).trans (State.headKept_sendHeader _ _)

theorem replayStat_high (i : Nat) : 0x1800 ≤ (MI.REPLAY_STAT.ING_SUPPRESSED i).key
    ∧ 0x1800 ≤ (MI.REPLAY_STAT.ING_SUPPRESSED_OVF i).key := by
  simp only [MI.REPLAY_STAT.ING_SUPPRESSED, MI.REPLAY_STAT.ING_SUPPRESSED_OVF, Field.key]
  omega

theorem State.headKept_suppressed (i n : Nat) : s.headKept (s.suppressed i n) := by
  obtain ⟨hc, ho⟩ := replayStat_high i
  exact s.headKept_addOvf _ _ hc ho

theorem State.headKept_setPipe (k : Nat) (p : Pipe) : s.headKept (s.setPipe k p) := .of_regs (s.setPipe_regs k p)

theorem State.headKept_pumpAdmit (k n : Nat) : s.headKept (s.pumpAdmit k n) := by
  induction n generalizing s with
  | zero => exact .refl s
  | succ n ih =>
    rw [State.pumpAdmit]
    split
    · exact .refl s
    · split
      · exact ((s.headKept_setPipe _ _).trans (State.headKept_send _ _ _)).trans (ih _)
      · exact .refl s

theorem State.headKept_passToBi (k : Nat) (l : List Desc) : s.headKept (s.passToBi k l) :=
  (s.headKept_setPipe _ _).trans (State.headKept_pumpAdmit _ _ _)

theorem State.headKept_passEnded (k src n : Nat) : s.headKept (s.passEnded k src n) := by
  induction n generalizing s with
  | zero => exact .refl s
  | succ n ih =>
    rw [State.passEnded]
    dsimp only
    split
    · exact .refl s
    · split
      · exact ((s.headKept_setPipe _ _).trans (State.headKept_suppressed _ _ _)).trans (ih _)
      · split
        · refine State.headKept.trans ?_ (ih _)
          split
          · exact (s.headKept_setPipe _ _).trans ((State.headKept_commitCopy _ _ _).after rfl)
          · exact (s.headKept_setPipe _ _).trans ((State.headKept_passToBi _ _ _).after rfl)
        · exact .refl s

theorem State.headKept_endPacket (k src seq : Nat) (outs : List Desc) : s.headKept (s.endPacket k src seq outs) := by
  unfold State.endPacket
  exact (((State.headKept_progress _ _).trans (State.headKept_setPipe _ _ _)).trans (State.headKept_passEnded _ _ _ _)).after rfl

theorem State.headKept_markBusy (x : CtxId) (b : Bool) : s.headKept (s.markBusy x b) := by
  cases b
  · exact (State.headKept.refl s).wr _ (Field.high_of_pipe x.pipe)
  · exact (State.headKept.refl s).wr _ (Field.high_of_pipe x.pipe)

theorem State.headKept_clearCtx (x : CtxId) : s.headKept (s.clearCtx x) :=
  (s.headKept_setPipe _ _).trans (State.headKept_markBusy _ _ _)

theorem State.headKept_setCtx (x : CtxId) (c : Ctx) : s.headKept (s.setCtx x c) := s.headKept_setPipe _ _

theorem State.headKept_releaseCtx (x : CtxId) (c : Ctx) : s.headKept (s.releaseCtx x c) := by
  have h : s.headKept (if c.outstanding.isEmpty then s.clearCtx x
      else s.setCtx x { c with done := true, swait := none, waitFrag := none }) := by
    split
    · exact s.headKept_clearCtx x
    · exact s.headKept_setCtx x _
  unfold State.releaseCtx
  dsimp only
  split
  · exact h.trans (State.headKept.foldl (fun u m => u.headKept_wr _ Field.high_of_isl) _ _)
  · exact h

theorem State.headKept_finishCtx (x : CtxId) (c : Ctx) (outs : List Desc) : s.headKept (s.finishCtx x c outs) := by
  unfold State.finishCtx
  split
  · exact ((s.headKept_releaseCtx x c).trans (State.headKept_setPipe _ _ _)).trans (State.headKept_endPacket _ _ _ _ _)
  · exact s.headKept_releaseCtx x c

/- ## Fragments and faults (R186, R189, R237) -/

theorem State.headKept_setFrags (l : List FragEntry) : s.headKept (s.setFrags l) :=
  (State.headKept_wr _ _ (by decide)).after rfl

theorem State.headKept_noFirst (k : Nat) (p : Parsed) (e : Nat) : s.headKept (s.noFirst k p e).2 :=
  s.headKept_addOvf _ _ (by decide) (by decide)

/-- A fragment that waited for its first is delivered. -/
theorem State.headKept_fragGiveUp (w : CtxId × Ctx) :
    s.headKept (match w.2.packet with
      | some p => let (d, s1) := s.noFirst w.1.pipe p w.2.routine
                  s1.finishCtx w.1 w.2 [d]
      | none => s) := by
  split
  · rename_i p _
    exact (s.headKept_noFirst w.1.pipe p w.2.routine).trans (State.headKept_finishCtx _ _ _ _)
  · exact .refl s

theorem State.headKept_fragRemove (key : FragKey) : s.headKept (s.fragRemove key) := by
  unfold State.fragRemove
  refine (s.headKept_setFrags _).trans (State.headKept.foldl (fun u w => ?_) _ _)
  exact u.headKept_fragGiveUp w

theorem State.headKept_fragFail (p : Parsed) : s.headKept (s.fragFail p) := by
  unfold State.fragFail
  split
  · exact s.headKept_fragRemove _
  · exact .refl s

theorem State.headKept_fragComplete (p : Parsed) (d : Nat) : s.headKept (s.fragComplete p d) := by
  unfold State.fragComplete
  split
  · exact (s.headKept_setFrags _).trans (State.headKept.foldl (fun u w => u.headKept_setCtx _ _) _ _)
  · exact .refl s

theorem State.headKept_pushFault (k e : Nat) : s.headKept (s.pushFault k e) := by
  unfold State.pushFault
  dsimp only
  split
  · exact (s.headKept_setPipe _ _).trans (State.headKept_raiseIf _ _ _)
  · exact s.headKept_addOvf _ _ (Field.high_of_pipe k) (Field.high_of_pipe k)

theorem State.headKept_jugFault (x : CtxId) (c : Ctx) (code data addr : Nat) : s.headKept (s.jugFault x c code data addr) := by
  have h : s.headKept (((s.addOvf (P.JUG_FAULT_CNT.COUNT x.pipe) (P.JUG_FAULT_CNT.OVF x.pipe) 1 1).count (5 + x.pipe) 0x105
      1).pushFault x.pipe (faultEntry x c code data addr)) :=
    ((s.headKept_addOvf _ _ (Field.high_of_pipe x.pipe) (Field.high_of_pipe x.pipe)).trans (State.headKept_count _ _ _ _)).trans
      (State.headKept_pushFault _ _ _)
  unfold State.jugFault
  dsimp only
  split
  · exact (h.trans (State.headKept_fragFail _ _)).trans (State.headKept_finishCtx _ _ _ _)
  · exact h.trans (State.headKept_finishCtx _ _ _ _)

/- ## The gateway halts (R133, R137) -/

theorem State.mirrorCopy_regs (k : Composed) (p : Parsed) (i : Nat) : (s.mirrorCopy k p i).2.regs = s.regs := by
  unfold State.mirrorCopy
  dsimp only
  split
  · split
    · split <;> rfl
    · rfl
  · rfl

theorem State.endFrames_regs (c : Ctx) (k : Composed) (p : Parsed) : (s.endFrames c k p).2.regs = s.regs := by
  unfold State.endFrames
  split
  · rfl
  · exact s.mirrorCopy_regs _ _ _

theorem State.headKept_endWith (x : CtxId) (c : Ctx) (p : Parsed) (k : Composed) : s.headKept (s.endWith x c p k) := by
  have h : s.headKept (s.endFrames c k p).2 := .of_regs (s.endFrames_regs c k p)
  unfold State.endWith
  dsimp only
  refine State.headKept.trans ?_ (State.headKept_finishCtx _ _ _ _)
  split
  · exact h.trans (State.headKept_fragFail _ _)
  · exact h.trans (State.headKept_fragComplete _ _ _)

theorem State.headKept_haltRoutine (x : CtxId) : s.headKept (s.haltRoutine x) := by
  unfold State.haltRoutine
  split
  · split
    · exact .refl s
    · split
      · split
        · exact s.headKept_endWith _ _ _ _
        · exact s.headKept_jugFault _ _ _ _ _
      · exact s.headKept_finishCtx _ _ _
  · exact .refl s

theorem State.headKept_haltGateway : s.headKept s.haltGateway := by
  unfold State.haltGateway
  exact State.headKept.foldl (fun u k => State.headKept.foldl (fun v j =>
    State.headKept.foldl (fun w c => w.headKept_haltRoutine ⟨k, j, c⟩) _ v) _ u) _ s

/- ## The staged epoch goes (R207) -/

theorem State.headKept_abortDrop (i n : Nat) : s.headKept (s.abortDrop i n) := by
  unfold State.abortDrop
  exact State.headKept.foldl (fun u _ => u.headKept_logEvent _ _) _ s

theorem State.headKept_abortTrials (k e : Nat) : s.headKept (s.abortTrials k e) := by
  unfold State.abortTrials
  refine ((s.headKept_setPipe _ _).trans (State.headKept.foldl (fun u c => ?_) _ _)).trans
    (State.headKept.foldl (fun u h => (u.headKept_abortDrop _ _).trans (State.headKept_endPacket _ _ _ _ _)) _ _)
  split
  · exact (State.headKept.refl u).wr _ (Field.high_of_pipe k)
  · exact .refl u

theorem State.headKept_setBank (b : Bool) (k : Bank) : s.headKept (s.setBank b k) := .of_regs (s.setBank_regs b k)

/-- The registers that an abort clears. -/
theorem State.headKept_abortCleared :
    s.headKept (s.wrs [(MI.EPOCH_STAT.STAGED_DIRTY, 0), (MI.EPOCH_STAT.PENDING, 0), (MI.EPOCH_STAT.SWITCH_WAIT, 0),
      (MI.IMG_STAT.STAGED, 0), (MI.IMG_STAGED_ID.ID, 0)]) :=
  ((((s.headKept_wr _ (by decide)).wr _ (by decide)).wr _ (by decide)).wr _ (by decide)).wr _ (by decide)

theorem State.ectl_regs (f : EpochCtl → EpochCtl) : (s.ectl f).regs = s.regs := rfl

theorem State.headKept_abortStaged : s.headKept s.abortStaged := by
  have h := (s.headKept_abortTrials 0 s.stagedEpoch).trans (State.headKept_abortTrials _ 1 s.stagedEpoch)
  unfold State.abortStaged
  dsimp only
  generalize (s.abortTrials 0 s.stagedEpoch).abortTrials 1 s.stagedEpoch = a at h ⊢
  exact ((h.trans (a.headKept_setBank _ _)).trans (State.headKept_abortCleared _)).put (State.ectl_regs _ _)

theorem State.headKept_stopStage : s.headKept s.stopStage := by
  unfold State.stopStage
  split
  · exact .of_regs rfl
  · exact .refl s

/- ## The safe scene and emergency bursts (R138, R459) -/

theorem State.headKept_countAdmit (d : Desc) : s.headKept (s.countAdmit d) :=
  ((((s.headKept_cntQ _ _ _).trans (State.headKept_cntQ _ _ _ _)).trans (State.headKept_cntP _ _ _ _)).trans
    (State.headKept_cntP _ _ _ _)).trans (State.headKept_count _ _ _ _)

theorem State.headKept_chargeDesc (d : Desc) : s.headKept (s.chargeDesc d) :=
  ((s.headKept_setCells _ _).wr _ Field.high_of_isl).trans (State.headKept_count _ _ _ _)

theorem State.headKept_spillSend (i : Nat) : s.headKept (s.spillSend i) := by
  unfold State.spillSend
  dsimp only
  split
  · split
    · exact (State.headKept_send _ _ _).after rfl
    · exact .refl s
  · exact .refl s

theorem State.headKept_spillPump : s.headKept s.spillPump := by
  unfold State.spillPump
  exact State.headKept.foldl (fun u i => State.headKept.foldl (fun v _ => v.headKept_spillSend i) _ u) _ s

theorem State.headKept_stage (n : Nat) : s.headKept (s.stage n) :=
  ((State.headKept.refl s).wr _ (by decide)).wr _ (by decide)

theorem State.headKept_setBq (q : Nat) (b : BufQueue) : s.headKept (s.setBq q b) := .of_regs (s.setBq_regs q b)

theorem State.headKept_place (d : Desc) (p : Place) : s.headKept (s.place d p) := by
  unfold State.place
  dsimp only
  split
  · exact (s.headKept_chargeDesc d).trans (State.headKept_setBq _ _ _)
  · have h := fun b => (s.headKept_chargeDesc d).trans (State.headKept_setBq _ d.q b)
    split
    · exact (h _).wr _ Field.high_of_isl
    · exact h _
  · have h := fun b => (((s.headKept_stage d.cells).trans (State.headKept_setBq _ d.q b)).trans
      (State.headKept_cntQ _ d.q 6 1)).trans (State.headKept_count _ 8 0x104 d.cells)
    split
    · exact (((h _).wr _ Field.high_of_isl).wr _ Field.high_of_isl).trans (State.headKept_spillPump _)
    · exact h _

end

/- ## Frames of the device's own keep the head of MI's window (R138, R167, R323, R459) -/

section
variable (s : State)

/-- A frame that no slot is found for is noted. -/
theorem State.headKept_overRise :
    s.headKept (((s.addOvf BI.PWR_STAT.OVER_RISE BI.PWR_STAT.CNT_OVF 1 1).wr BI.PWR_STAT.OVER_RISE_SEEN 1).raise 71) :=
  ((s.headKept_addOvf _ _ (by decide) (by decide)).wr _ (by decide)).trans (State.headKept_raise _ _)

theorem State.setBi_regs (b : Buffer) : ({ s with bi := b } : State).regs = s.regs := rfl

theorem State.headKept_coordinate (d : Desc) : s.headKept (s.coordinate d).1 := by
  unfold State.coordinate
  dsimp only
  split
  · split
    · exact .refl s
    · have h : ∀ v, s.headKept (s.wr (BI.PWR_PORT.L_CUR d.port) v) := fun v => s.headKept_wr v Field.high_of_isl
      split
      · exact h _
      · have h' : ∀ v b, s.headKept { s.wr (BI.PWR_PORT.L_CUR d.port) v with bi := b } := fun v b =>
          (h v).put (State.setBi_regs _ b)
        split
        · refine State.headKept.trans ?_ (State.headKept_addOvf _ _ _ (by decide) (by decide))
          split
          · exact h' _ _
          · exact (h' _ _).trans (State.headKept_overRise _)
        · dsimp only
          split
          · exact h' _ _
          · exact (h' _ _).trans (State.headKept_overRise _)
  · exact .refl s

theorem State.headKept_noteFlushed (d : Desc) : s.headKept (s.noteFlushed d) := fun _ hf => s.rd_noteFlushed d (.inl (by omega))

theorem State.headKept_admitOne (d : Desc) : s.headKept (s.admitOne d).1 := by
  unfold State.admitOne
  split
  · exact (s.headKept_noteFlushed d).trans (State.headKept_countDrop _ _ _)
  · exact (s.headKept_noteStage d).trans (State.headKept_countDrop _ _ _)
  · exact s.headKept_countDrop _ _
  · exact ((s.headKept_coordinate d).trans (State.headKept_countAdmit _ _)).trans (State.headKept_place _ _ _)

theorem State.stepSampler_regs (p : Nat) : (s.stepSampler p).2.regs = s.regs := rfl

theorem State.headKept_sampleCopy (d : Desc) : s.headKept (s.sampleCopy d) := by
  unfold State.sampleCopy
  split
  · exact .refl s
  · have h : s.headKept (s.stepSampler d.ingress).2 := .of_regs (s.stepSampler_regs d.ingress)
    generalize s.stepSampler d.ingress = r at h ⊢
    obtain ⟨_ | _, s1⟩ := r
    · exact h
    · exact h.trans (State.headKept_admitOne _ _)

theorem State.headKept_admitFrame (d : Desc) : s.headKept (s.admitFrame d) := by
  have h := s.headKept_admitOne { d with commits := none }
  unfold State.admitFrame
  generalize s.admitOne { d with commits := none } = r at h ⊢
  obtain ⟨s1, _ | _⟩ := r
  · exact h
  · exact h.trans (State.headKept_sampleCopy _ _)

theorem seqField_high (g : Nat) : 0x1800 ≤ (s.seqField g).key := by
  unfold State.seqField
  split <;> exact Field.high_of_isl

theorem State.headKept_takeSeq (g : Nat) : s.headKept (s.takeSeq g).2 := s.headKept_wr _ (seqField_high s g)

theorem State.setGw_regs (g : Gateway) : ({ s with gw := g } : State).regs = s.regs := rfl

theorem State.headKept_sendScene : s.headKept s.sendScene := by
  unfold State.sendScene
  split
  · split
    · exact (State.headKept.of_regs (s.setGw_regs _)).trans (State.headKept.foldl (fun u _ => u.headKept_admitFrame _) _ _)
    · exact .refl s
  · exact .refl s

/-- The safe scene of an entry to Safety Net. -/
theorem State.headKept_safeScene : s.headKept s.safeScene := by
  have h : ∀ g, s.headKept { s.wr MI.SN_SCENE.SENT_CNT 0 with gw := g } := fun g =>
    (s.headKept_wr _ (by decide)).put (State.setGw_regs _ g)
  unfold State.safeScene
  dsimp only
  split
  · exact (((h _).trans (State.headKept_takeSeq _ _)).put (State.setGw_regs _ _)).trans (State.headKept_sendScene _)
  · exact h _

theorem State.headKept_sendToAll (ps : List Nat) (l : Frame) : s.headKept (s.sendToAll ps l) := by
  unfold State.sendToAll
  exact State.headKept.foldl (fun u _ => u.headKept_admitFrame _) _ _

theorem State.headKept_emergencyBurst : s.headKept s.emergencyBurst := by
  unfold State.emergencyBurst
  split
  · dsimp only
    exact (((s.headKept_takeSeq _).trans (State.headKept_sendToAll _ _ _)).trans
      (State.headKept_addOvf _ _ _ (by decide) (by decide))).put (State.setGw_regs _ _)
  · exact .refl s

theorem State.headKept_burstOnEntry : s.headKept s.burstOnEntry := by
  unfold State.burstOnEntry
  split
  · exact s.headKept_emergencyBurst
  · exact .refl s

/- ## Mode changes (R43, R135, R137) -/

/-- The mode leaves Performance. -/
theorem State.headKept_leavePerformance : s.headKept s.leavePerformance :=
  s.headKept_closeClass7.trans (State.headKept_haltGateway _)

/-- What an entry to Safety Net does behind the change of the mode. -/
theorem State.headKept_netEffects :
    s.headKept (let s1 := s.closeClass7.haltGateway
      ((if s1.somethingStaged && !s1.isSet MI.EPOCH_STAT.PENDING then s1.abortStaged else s1).stopStage).safeScene) := by
  have h := s.headKept_closeClass7.trans (State.headKept_haltGateway _)
  dsimp only
  refine ((h.trans ?_).trans (State.headKept_stopStage _)).trans (State.headKept_safeScene _)
  split
  · exact State.headKept_abortStaged _
  · exact .refl _

end

/- ## Which registers at the head of MI's window a mode change moves -/

/-- From `b` to `u` every field at the head of MI's window reads as before but the listed ones. -/
def State.headBut (b u : State) (ex : List Field) : Prop :=
  ∀ f : Field, f.key < 0x1800 → (∀ g ∈ ex, f.key ≠ g.key) → u.rd f = b.rd f

section
variable {a b c : State} {ex : List Field}

theorem State.headKept.but (h : a.headKept b) (ex : List Field) : a.headBut b ex := fun f hf _ => h f hf

theorem State.regsKept.but (h : a.regsKept b ex) : a.headBut b ex := fun f _ hf => h f hf

theorem State.headBut.trans (h : a.headBut b ex) (h' : b.headBut c ex) : a.headBut c ex :=
  fun f hf hx => (h' f hf hx).trans (h f hf hx)

theorem State.headBut.mono (h : a.headBut b ex) {ex' : List Field} (hs : ∀ g ∈ ex, g ∈ ex') : a.headBut b ex' :=
  fun f hf hx => h f hf fun g hg => hx g (hs g hg)

/-- A listed field reads as before. -/
theorem State.headBut.rd (h : a.headBut b ex) {f : Field} (hf : f.key < 0x1800) (hx : ∀ g ∈ ex, f.key ≠ g.key) :
    b.rd f = a.rd f := h f hf hx

end

section
variable (s : State)

theorem State.only_endTransit : s.only s.endTransit [.regs] := s.only_wrs _

theorem State.only_refuseMode (r : Nat) : s.only (s.refuseMode r) [.regs] := s.only_wrs _

theorem State.regsKept_endTransit : s.regsKept s.endTransit [MI.MODE_STAT.IN_TRANSIT, MI.MODE_REQ_STAT.PENDING] :=
  (State.regsKept.refl s _).wrs (by simp)

theorem State.regsKept_refuseMode (r : Nat) :
    s.regsKept (s.refuseMode r) [MI.MODE_REQ_STAT.REFUSE, MI.MODE_REQ_STAT.REFUSED] := (State.regsKept.refl s _).wrs (by simp)

theorem State.rd_endTransit : s.endTransit.rd MI.MODE_STAT.IN_TRANSIT = 0 ∧ s.endTransit.rd MI.MODE_REQ_STAT.PENDING = 0 := by
  constructor
  · exact ((s.wr MI.MODE_STAT.IN_TRANSIT 0).rd_wr_ne 0 (by decide)).trans (s.rd_wr_same _ 0)
  · exact State.rd_wr_same _ _ 0

theorem State.rd_refuseMode (r : Nat) :
    (s.refuseMode r).rd MI.MODE_REQ_STAT.REFUSE = r % 2 ^ MI.MODE_REQ_STAT.REFUSE.width
      ∧ (s.refuseMode r).rd MI.MODE_REQ_STAT.REFUSED = 1 := by
  constructor
  · exact ((s.wr MI.MODE_REQ_STAT.REFUSE r).rd_wr_ne 1 (by decide)).trans (s.rd_wr_same _ r)
  · exact State.rd_wr_same _ _ 1

theorem State.mode_refuseMode (r : Nat) : (s.refuseMode r).mode = s.mode := (s.regsKept_refuseMode r).rd (by decide)

theorem State.mode_endTransit : s.endTransit.mode = s.mode := s.regsKept_endTransit.rd (by decide)

theorem State.isSet_eq_false {s : State} {f : Field} (h : s.isSet f = false) : s.rd f = 0 := by
  simpa [State.isSet] using h

theorem State.isSet_of_rd_zero {s : State} {f : Field} (h : s.rd f = 0) : s.isSet f = false := by simp [State.isSet, h]

theorem State.isSet_of_rd_one {s : State} {f : Field} (h : s.rd f = 1) : s.isSet f = true := by simp [State.isSet, h]

theorem State.isSet_congr {a b : State} {f : Field} (h : b.rd f = a.rd f) : b.isSet f = a.isSet f := by
  rw [State.isSet, h, State.isSet]

theorem State.regsKept_cancelTransit : s.regsKept s.cancelTransit
    [MI.MODE_STAT.IN_TRANSIT, MI.MODE_REQ_STAT.PENDING, MI.MODE_REQ_STAT.REFUSE, MI.MODE_REQ_STAT.REFUSED] := by
  unfold State.cancelTransit
  split
  · exact (s.regsKept_endTransit.mono (by simp)).trans ((State.regsKept_refuseMode _ _).mono (by simp))
  · exact .refl s _

/-- Afterwards nothing is in transit. -/
theorem State.rd_cancelTransit : s.cancelTransit.rd MI.MODE_STAT.IN_TRANSIT = 0 := by
  unfold State.cancelTransit
  split
  · rw [(State.regsKept_refuseMode _ _).rd (by decide), s.rd_endTransit.1]
  · rename_i h
    exact State.isSet_eq_false (by simpa using h)

/- ## The mode register -/

/-- The registers that a change of the mode writes. -/
def modeFields : List Field := [MI.MODE_STAT.PREV_MODE, MI.MODE_STAT.MODE, MI.MODE_STAT.CAUSE]

theorem State.headBut_setMode (m c : Nat) : s.headBut (s.setMode m c) modeFields :=
  ((State.regsKept.refl s modeFields).wrs (by simp [modeFields])).but.trans ((State.jnlKept_jnlDevice _ _ _).head.but _)

/-- MODE_STAT after a change of the mode. -/
theorem State.rd_setMode (m c : Nat) :
    (s.setMode m c).mode = m % 2 ^ MI.MODE_STAT.MODE.width
      ∧ (s.setMode m c).rd MI.MODE_STAT.PREV_MODE = s.mode % 2 ^ MI.MODE_STAT.PREV_MODE.width
      ∧ (s.setMode m c).rd MI.MODE_STAT.CAUSE = c % 2 ^ MI.MODE_STAT.CAUSE.width := by
  have h : State.headKept (((s.wr MI.MODE_STAT.PREV_MODE s.mode).wr MI.MODE_STAT.MODE m).wr MI.MODE_STAT.CAUSE c) (s.setMode m c) :=
    (State.jnlKept_jnlDevice _ _ _).head
  refine ⟨?_, ?_, ?_⟩
  · rw [State.mode, h _ (by decide), State.rd_wr_ne _ _ (by decide), State.rd_wr_same]
  · rw [h _ (by decide), State.rd_wr_ne _ _ (by decide), State.rd_wr_ne _ _ (by decide), State.rd_wr_same]
  · rw [h _ (by decide), State.rd_wr_same]

theorem State.memoriesKept_setMode (m c : Nat) : s.memoriesKept (s.setMode m c) :=
  (s.only_wrs _).memories.trans (State.jnlKept_jnlDevice _ _ _).memories

/-- A register off the journal's and the mode's stays while the mode changes. -/
theorem State.rd_setMode_other (m c : Nat) {f : Field} (hf : f.offJournal) (hx : ∀ g ∈ modeFields, f.key ≠ g.key) :
    (s.setMode m c).rd f = s.rd f :=
  ((State.jnlKept_jnlDevice _ _ _).rd f hf).trans (((State.regsKept.refl s modeFields).wrs (by simp [modeFields])).rd hx)

/- ## Entry to Safety Net (R137) -/

/-- The registers at the head of MI's window that an entry to Safety Net moves. -/
def netFields : List Field :=
  modeFields ++ [MI.MODE_STAT.IN_TRANSIT, MI.MODE_REQ_STAT.PENDING, MI.MODE_REQ_STAT.REFUSE, MI.MODE_REQ_STAT.REFUSED]

theorem State.headKept_enterSafetyNet (cause : Nat) :
    State.headKept (State.setMode (State.cancelTransit { s with boot := { s.boot with netAt := s.time + 1 } }) 3 cause)
      (s.enterSafetyNet cause) :=
  State.headKept_netEffects _

theorem State.headBut_enterSafetyNet (cause : Nat) : s.headBut (s.enterSafetyNet cause) netFields := by
  refine State.headBut.trans
    (State.headBut.trans (b := State.cancelTransit { s with boot := { s.boot with netAt := s.time + 1 } }) ?_ ?_)
    ((s.headKept_enterSafetyNet cause).but _)
  · exact (State.regsKept.mono (ex' := netFields) ((State.regsKept.of_regs rfl _).trans (State.regsKept_cancelTransit _))
      (by simp [netFields])).but
  · exact (State.headBut_setMode _ _ _).mono fun g hg => List.mem_append_left _ hg

theorem State.rd_enterSafetyNet (cause : Nat) :
    (s.enterSafetyNet cause).mode = 3
      ∧ (s.enterSafetyNet cause).rd MI.MODE_STAT.PREV_MODE = s.mode % 2 ^ MI.MODE_STAT.PREV_MODE.width
      ∧ (s.enterSafetyNet cause).rd MI.MODE_STAT.CAUSE = cause % 2 ^ MI.MODE_STAT.CAUSE.width
      ∧ (s.enterSafetyNet cause).rd MI.MODE_STAT.IN_TRANSIT = 0 := by
  have h := s.headKept_enterSafetyNet cause
  obtain ⟨hmode, hprev, hcause⟩ :=
    State.rd_setMode (State.cancelTransit { s with boot := { s.boot with netAt := s.time + 1 } }) 3 cause
  have hwas : (State.cancelTransit { s with boot := { s.boot with netAt := s.time + 1 } }).mode = s.mode :=
    (State.regsKept_cancelTransit _).rd (by decide)
  refine ⟨(h _ (by decide)).trans hmode, ?_, ?_, ?_⟩
  · rw [h _ (by decide), hprev, hwas]
  · rw [h _ (by decide), hcause]
  · rw [h _ (by decide), (State.headBut_setMode _ _ _).rd (by decide) (by decide), State.rd_cancelTransit]

/- ## JOIN_OK and the return to Rehearsal -/

theorem State.setJoin_eq (b : Bool) (h : s.isSet MI.MODE_COND.JOIN_OK ≠ b) :
    s.setJoin b = ({ ((s.flag MI.MODE_COND.JOIN_OK b).flag RI.SCHED_STAT.JOINED b).wr RI.SCHED_STAT.JOIN_CHG 1 with
      rsch := { s.rsch with graceSince := if b then none else some s.now } } : State).raiseIf
        (!s.isSet RI.SCHED_STAT.JOIN_CHG) 28 := by
  unfold State.setJoin
  rw [if_neg (by simpa using h)]
  rfl

theorem State.regsKept_joined (b : Bool) (r : RingSched) :
    s.regsKept { ((s.flag MI.MODE_COND.JOIN_OK b).flag RI.SCHED_STAT.JOINED b).wr RI.SCHED_STAT.JOIN_CHG 1 with rsch := r }
      [MI.MODE_COND.JOIN_OK, RI.SCHED_STAT.JOINED, RI.SCHED_STAT.JOIN_CHG] :=
  State.regsKept.trans
    ((((State.regsKept.refl s _).wr (f := MI.MODE_COND.JOIN_OK) (if b then 1 else 0) (by simp)).wr (f := RI.SCHED_STAT.JOINED)
      (if b then 1 else 0) (by simp)).wr (f := RI.SCHED_STAT.JOIN_CHG) 1 (by simp)) (.of_regs rfl _)

theorem State.restKept_setJoin (b : Bool) :
    s.restKept (s.setJoin b) [MI.MODE_COND.JOIN_OK, RI.SCHED_STAT.JOINED, RI.SCHED_STAT.JOIN_CHG] := by
  by_cases h : s.isSet MI.MODE_COND.JOIN_OK = b
  · unfold State.setJoin
    rw [if_pos (by simpa using h)]
    exact .refl s _
  · rw [s.setJoin_eq b h]
    exact (s.regsKept_joined b _).rest.raiseIf _ (by decide)

theorem State.only_setJoin (b : Bool) : s.only (s.setJoin b) [.regs, .out, .rsch] := by
  by_cases h : s.isSet MI.MODE_COND.JOIN_OK = b
  · unfold State.setJoin
    rw [if_pos (by simpa using h)]
    exact .refl s _
  · rw [s.setJoin_eq b h]
    refine State.only.then ?_ (State.only_raiseIf _ _ _)
    exact State.only.trans (((((State.only.refl s _).then (s.only_wr _ _)).then (State.only_wr _ _ _)).then
      (State.only_wr _ _ _))) (.of_withParts rfl)

theorem State.isSet_setJoin_false : (s.setJoin false).isSet MI.MODE_COND.JOIN_OK = false := by
  by_cases h : s.isSet MI.MODE_COND.JOIN_OK = false
  · unfold State.setJoin
    rw [if_pos (by simpa using h)]
    exact h
  · rw [s.setJoin_eq false h]
    refine State.isSet_of_rd_zero ?_
    rw [(State.restKept_raiseIf _ _ (by decide)).rd (by decide) (by simp)]
    have hchg := State.rd_wr_ne ((s.wr MI.MODE_COND.JOIN_OK 0).wr RI.SCHED_STAT.JOINED 0) 1
      (f := RI.SCHED_STAT.JOIN_CHG) (g := MI.MODE_COND.JOIN_OK) (by decide)
    have hjoined := State.rd_wr_ne (s.wr MI.MODE_COND.JOIN_OK 0) 0 (f := RI.SCHED_STAT.JOINED)
      (g := MI.MODE_COND.JOIN_OK) (by decide)
    exact hchg.trans (hjoined.trans (s.rd_wr_same MI.MODE_COND.JOIN_OK 0))

theorem State.headBut_setJoin (b : Bool) : s.headBut (s.setJoin b) [MI.MODE_COND.JOIN_OK] := by
  by_cases h : s.isSet MI.MODE_COND.JOIN_OK = b
  · unfold State.setJoin
    rw [if_pos (by simpa using h)]
    exact (State.headKept.refl s).but _
  · rw [s.setJoin_eq b h]
    refine State.headBut.trans ?_ ((State.headKept_raiseIf _ _ _).but _)
    exact fun f hf hx => s.regsKept_joined b _ f fun g hg => by
      have hg' : g = MI.MODE_COND.JOIN_OK ∨ 0x1800 ≤ g.key := by
        simp only [List.mem_cons, List.not_mem_nil, or_false] at hg
        rcases hg with rfl | rfl | rfl
        · exact .inl rfl
        · exact .inr (by decide)
        · exact .inr (by decide)
      rcases hg' with rfl | hg'
      · exact hx _ (by simp)
      · omega

/-- The registers at the head of MI's window that the return to Rehearsal moves. -/
def returnFields : List Field :=
  modeFields ++ [MI.MODE_STAT.IN_TRANSIT, MI.MODE_REQ_STAT.PENDING, MI.MODE_COND.JOIN_OK]

theorem State.headBut_leaveNet : s.headBut s.leaveNet returnFields := by
  unfold State.leaveNet
  have hend : s.headBut s.endTransit returnFields := (s.regsKept_endTransit.mono (by simp [returnFields])).but
  have hmode := (s.endTransit.headBut_setMode 1 1).mono (ex' := returnFields) fun g hg => List.mem_append_left _ hg
  have hjoin := ((s.endTransit.setMode 1 1).headBut_setJoin false).mono (ex' := returnFields) (by simp [returnFields])
  exact ((hend.trans hmode).trans hjoin).trans ((State.headKept_burstOnEntry _).but _)

/-- Safety Net to Rehearsal: MODE_STAT, and the ring counts as left. -/
theorem State.rd_leaveNet :
    s.leaveNet.mode = 1 ∧ s.leaveNet.rd MI.MODE_STAT.PREV_MODE = s.mode % 2 ^ MI.MODE_STAT.PREV_MODE.width
      ∧ s.leaveNet.rd MI.MODE_STAT.CAUSE = 1 ∧ s.leaveNet.rd MI.MODE_STAT.IN_TRANSIT = 0
      ∧ s.leaveNet.isSet MI.MODE_COND.JOIN_OK = false := by
  obtain ⟨hmode, hprev, hcause⟩ := s.endTransit.rd_setMode 1 1
  have hj := (s.endTransit.setMode 1 1).headBut_setJoin false
  have hb := ((s.endTransit.setMode 1 1).setJoin false).headKept_burstOnEntry
  unfold State.leaveNet
  refine ⟨?_, ?_, ?_, ?_, ?_⟩
  · rw [State.mode, hb _ (by decide), hj.rd (by decide) (by decide)]
    exact hmode
  · rw [hb _ (by decide), hj.rd (by decide) (by decide), hprev, s.mode_endTransit]
  · rw [hb _ (by decide), hj.rd (by decide) (by decide), hcause]
    rfl
  · rw [hb _ (by decide), hj.rd (by decide) (by decide), (State.headBut_setMode _ _ _).rd (by decide) (by decide),
      s.rd_endTransit.1]
  · rw [State.isSet_congr (hb _ (by decide)), State.isSet_setJoin_false]

/-- Without a fire alarm the return to Rehearsal sends nothing, and every memory stays. -/
theorem State.memoriesKept_leaveNet (h : s.isSet AO.SIDEBAND.FA = false) : s.memoriesKept s.leaveNet := by
  have hfa : ((s.endTransit.setMode 1 1).setJoin false).isSet AO.SIDEBAND.FA = false := by
    rw [State.isSet_congr ((State.restKept_setJoin _ false).rd (by decide) (by decide)),
      State.isSet_congr (State.rd_setMode_other _ 1 1 (.inr (by decide)) (by decide)),
      State.isSet_congr (s.regsKept_endTransit.rd (by decide)), h]
  unfold State.leaveNet State.burstOnEntry
  rw [hfa, if_neg Bool.false_ne_true]
  exact (s.only_endTransit.memories.trans (State.memoriesKept_setMode _ 1 1)).trans (State.only_setJoin _ false).memories

end

/- ## What the loss of a lock moves (R398, R399, R425, R426) -/

/-- The timers of the opening and the closing sequence stay (R139, R140). -/
def State.timersKept (a b : State) : Prop :=
  b.rsch.opticsAt = a.rsch.opticsAt ∧ b.rsch.heldEAt = a.rsch.heldEAt ∧ b.rsch.releasedWAt = a.rsch.releasedWAt

section
variable {a b c : State}

theorem State.timersKept.trans (h : a.timersKept b) (h' : b.timersKept c) : a.timersKept c := by
  obtain ⟨ho, hh, hr⟩ := h
  obtain ⟨ho', hh', hr'⟩ := h'
  exact ⟨ho'.trans ho, hh'.trans hh, hr'.trans hr⟩

theorem State.only.timers {l : List StatePart} (h : a.only b l) (hl : .rsch ∉ l := by decide) : a.timersKept b := by
  have hr : b.rsch = a.rsch := h .rsch hl
  rw [State.timersKept, hr]
  exact ⟨rfl, rfl, rfl⟩

theorem State.restKept.flagIrq {ex : List Field} (h : a.restKept b ex) {f : Field} (hf : f ∈ ex) {n : Nat}
    (hn : n < 128 := by decide) : a.restKept (b.flagIrq f n) ex :=
  (h.wr 1 (.inl hf)).raiseIf _ hn

end

/-- The registers that the ring's role moves. -/
def roleFields : List Field :=
  [RI.SCHED_STAT.CS_STATE, RI.SCHED_STAT.ROLE_CHG, RI.RING_STAT.LOOP_TIMED 0, RI.RING_STAT.LOOP_TIMED 1]

/-- The registers that the loss of marker lock on RING_E moves. -/
def unlockFields : List Field :=
  roleFields ++ [RI.RING_STAT.TRAINS 0, RI.RING_STAT.MARKER_LOCK 0, RI.RING_STAT.LOCK_LOSS_CNT 0, RI.RING_STAT.LOCK_CHG 0,
    RI.TIME_SRC.USED, MI.MODE_COND.JOIN_OK, RI.SCHED_STAT.JOINED, RI.SCHED_STAT.JOIN_CHG]

section
variable (s : State)

theorem State.only_flagIrq (f : Field) (n : Nat) : s.only (s.flagIrq f n) [.regs, .out] :=
  ((s.only_wr f 1).mono (l' := [.regs, .out])).then (State.only_raiseIf _ _ n)

theorem State.restKept_loopTimed : s.restKept s.loopTimed roleFields :=
  ((State.restKept.refl s _).wr (f := RI.RING_STAT.LOOP_TIMED 0) _ (by simp [roleFields])).wr (f := RI.RING_STAT.LOOP_TIMED 1) _
    (by simp [roleFields])

theorem State.only_loopTimed : s.only s.loopTimed [.regs] := (s.only_wr _ _).then (State.only_wr _ _ _)

theorem State.restKept_setCsState (v : Nat) : s.restKept (s.setCsState v) roleFields := by
  unfold State.setCsState
  split
  · exact .refl s _
  · exact (((State.restKept.refl s _).wr v (by simp [roleFields])).flagIrq (by simp [roleFields])).trans (State.restKept_loopTimed _)

theorem State.only_setCsState (v : Nat) : s.only (s.setCsState v) [.regs, .out] := by
  unfold State.setCsState
  split
  · exact .refl s _
  · exact (((s.only_wr RI.SCHED_STAT.CS_STATE v).mono (l' := [.regs, .out])).then (State.only_flagIrq _ _ _)).then
      (State.only_loopTimed _)

theorem State.restKept_refreshCs : s.restKept s.refreshCs roleFields := by
  unfold State.refreshCs
  split
  · exact .refl s _
  · exact s.restKept_setCsState _

theorem State.only_refreshCs : s.only s.refreshCs [.regs, .out] := by
  unfold State.refreshCs
  split
  · exact .refl s _
  · exact s.only_setCsState _

theorem State.restKept_noteQuiet : s.restKept s.noteQuiet roleFields :=
  State.restKept.trans (.of_regs rfl _) (State.restKept_refreshCs _)

theorem State.timersKept_noteQuiet : s.timersKept s.noteQuiet :=
  State.timersKept.trans ⟨rfl, rfl, rfl⟩ (State.only_refreshCs _).timers

theorem State.timersKept_setJoin (b : Bool) : s.timersKept (s.setJoin b) := by
  by_cases h : s.isSet MI.MODE_COND.JOIN_OK = b
  · unfold State.setJoin
    rw [if_pos (by simpa using h)]
    exact ⟨rfl, rfl, rfl⟩
  · rw [s.setJoin_eq b h]
    exact State.timersKept.trans ⟨rfl, rfl, rfl⟩ (State.only_raiseIf _ _ _).timers

/-- The search of RING_E begins anew. -/
def State.searchE : State :=
  (s.setRing 0 (s.ring 0).clear).wrs [(RI.RING_STAT.TRAINS 0, 0), (RI.RING_STAT.MARKER_LOCK 0, 0)]

theorem State.restKept_searchE : s.restKept s.searchE unlockFields :=
  State.restKept.trans (.of_regs rfl _) ((State.restKept.refl (s.setRing 0 (s.ring 0).clear) _).wrs (by simp [unlockFields]))

theorem State.timersKept_searchE : s.timersKept s.searchE :=
  State.timersKept.trans ⟨rfl, rfl, rfl⟩ ((s.setRing 0 (s.ring 0).clear).only_wrs _).timers

/-- The loss of lock is counted and noted. -/
def State.lossNoted : State := (s.addF (RI.RING_STAT.LOCK_LOSS_CNT 0) 1).lockChanged 0

theorem State.restKept_lossNoted : s.restKept s.lossNoted unlockFields :=
  ((State.restKept.refl s _).wr _ (.inl (by simp [unlockFields]))).flagIrq (by simp [unlockFields])

theorem State.timersKept_lossNoted : s.timersKept s.lossNoted :=
  (s.only_wr _ _).timers.trans (State.only_flagIrq _ _ _).timers

theorem State.restKept_fallen : s.restKept ((s.setJoin false).breakRun) unlockFields :=
  ((s.restKept_setJoin false).mono (by simp [unlockFields])).trans (.of_regs rfl _)

theorem State.timersKept_fallen : s.timersKept ((s.setJoin false).breakRun) :=
  (s.timersKept_setJoin false).trans ⟨rfl, rfl, rfl⟩

theorem State.restKept_usedAndQuiet : s.restKept s.setUsed.noteQuiet unlockFields :=
  ((State.restKept.refl s _).wr _ (.inl (by simp [unlockFields]))).trans
    ((State.restKept_noteQuiet _).mono fun _ hg => List.mem_append_left _ hg)

theorem State.timersKept_usedAndQuiet : s.timersKept s.setUsed.noteQuiet :=
  (s.only_wr _ _).timers.trans (State.timersKept_noteQuiet _)

theorem State.unlock_eq : s.unlock 0 =
    (let s2 := if s.locked 0 then s.searchE.lossNoted else s.searchE
     if s.locked 0 && !s2.anyLock then (s2.setJoin false).breakRun else s2).setUsed.noteQuiet := rfl

/-- The loss of lock on RING_E moves the listed registers and no timer of the coils. -/
theorem State.unlock_keeps : s.restKept (s.unlock 0) unlockFields ∧ s.timersKept (s.unlock 0) := by
  rw [s.unlock_eq]
  have hloss : ∃ u, (if s.locked 0 then s.searchE.lossNoted else s.searchE) = u ∧ s.restKept u unlockFields ∧ s.timersKept u := by
    refine ⟨_, rfl, ?_⟩
    split
    · exact ⟨s.restKept_searchE.trans (State.restKept_lossNoted _), s.timersKept_searchE.trans (State.timersKept_lossNoted _)⟩
    · exact ⟨s.restKept_searchE, s.timersKept_searchE⟩
  obtain ⟨u, hu, hrest, htimers⟩ := hloss
  rw [hu]
  dsimp only
  split
  · exact ⟨(hrest.trans (State.restKept_fallen _)).trans (State.restKept_usedAndQuiet _),
      (htimers.trans (State.timersKept_fallen _)).trans (State.timersKept_usedAndQuiet _)⟩
  · exact ⟨hrest.trans (State.restKept_usedAndQuiet _), htimers.trans (State.timersKept_usedAndQuiet _)⟩

/-- The registers that the loss of block lock on RING_E moves. -/
def loseFields : List Field := RI.RING_STAT.BLOCK_LOCK 0 :: unlockFields

theorem State.loseBlockLock_keeps : s.restKept (s.loseBlockLock 0) loseFields ∧ s.timersKept (s.loseBlockLock 0) := by
  unfold State.loseBlockLock
  split
  · obtain ⟨hrest, htimers⟩ := (s.wr (RI.RING_STAT.BLOCK_LOCK 0) 0).unlock_keeps
    refine ⟨?_, ?_⟩
    · exact (((State.restKept.refl s loseFields).wr 0 (.inl (.head _))).trans (hrest.mono fun _ hg => .tail _ hg)).trans
        ((State.restKept_loopTimed _).mono fun _ hg => .tail _ (List.mem_append_left _ hg))
    · exact ((s.only_wr _ 0).timers.trans htimers).trans (State.only_loopTimed _).timers
  · exact ⟨.refl s _, rfl, rfl, rfl⟩

/- ## The coils of the optical bypass (R411, R413, R414) -/

/-- The registers of a coil while it is driven anew. -/
def State.coilMoved (c : Nat) (on : Bool) : State :=
  (((s.flag (coilDrive c) on).addF RI.BYP_STAT.CHG_CNT 1).wr (coilHit c) 1).flagIrq RI.BYP_STAT.CHG 26

/-- What the change of a coil shows at once: its time is noted and the pin driven. -/
def State.coilDriven (c : Nat) (on : Bool) : State :=
  ((s.coilMoved c on).rschSet fun r => if c = 0 then { r with hitE := s.now } else { r with hitW := s.now }).emit
    (.pin (coilPin c) on.toNat)

theorem State.setCoil_same {c : Nat} {on : Bool} (h : s.isSet (coilDrive c) = on) : s.setCoil c on = s := by
  simp [State.setCoil, h]

theorem State.setCoil_on {c : Nat} (h : s.isSet (coilDrive c) = false) : s.setCoil c true = s.coilDriven c true := by
  rw [State.setCoil, if_neg (by simp [h])]
  rfl

theorem State.setCoil_off {c : Nat} (h : s.isSet (coilDrive c) = true) :
    s.setCoil c false = (s.coilDriven c false).loseBlockLock c := by
  rw [State.setCoil, if_neg (by simp [h])]
  rfl

theorem coilDrive_key_ne (c : Nat) : (coilDrive c).moving = false ∧ (coilDrive c).key ≠ RI.BYP_STAT.CHG_CNT.key
    ∧ (coilDrive c).key ≠ (coilHit c).key ∧ (coilDrive c).key ≠ RI.BYP_STAT.CHG.key ∧ (coilDrive c).width = 1 := by
  unfold coilDrive coilHit
  split <;> decide

theorem State.rd_coilDriven (c : Nat) (on : Bool) : (s.coilDriven c on).rd (coilDrive c) = on.toNat := by
  obtain ⟨hm, hcnt, hhit, hchg, hwidth⟩ := coilDrive_key_ne c
  change (s.coilMoved c on).rd (coilDrive c) = _
  unfold State.coilMoved State.flagIrq State.addF
  rw [(State.restKept_raiseIf _ _ (by decide)).rd hm (by simp), State.rd_wr_ne _ _ hchg, State.rd_wr_ne _ _ hhit,
    State.rd_wr_ne _ _ hcnt, State.flag, State.rd_wr_same, hwidth]
  cases on <;> rfl

theorem State.timersKept_coilDriven (c : Nat) (on : Bool) : s.timersKept (s.coilDriven c on) := by
  have hmoved : s.timersKept (s.coilMoved c on) :=
    (((s.only_wr _ _).timers.trans (State.only_wr _ _ _).timers).trans (State.only_wr _ _ _).timers).trans
      (State.only_flagIrq _ _ _).timers
  refine hmoved.trans ?_
  unfold State.coilDriven State.rschSet
  split <;> exact ⟨rfl, rfl, rfl⟩

/-- An energised coil is driven, and the sequences' timers stay. -/
theorem State.setCoil_on_shows (c : Nat) : (s.setCoil c true).isSet (coilDrive c) = true ∧ s.timersKept (s.setCoil c true) := by
  cases h : s.isSet (coilDrive c) with
  | true =>
    rw [s.setCoil_same h]
    exact ⟨h, rfl, rfl, rfl⟩
  | false =>
    rw [s.setCoil_on h]
    exact ⟨State.isSet_of_rd_one (s.rd_coilDriven c true), s.timersKept_coilDriven c true⟩

/-- A de-energised BYPASS_HOLD_E is not driven, and the sequences' timers stay. -/
theorem State.setCoil_off_shows : (s.setCoil 0 false).isSet (coilDrive 0) = false ∧ s.timersKept (s.setCoil 0 false) := by
  cases h : s.isSet (coilDrive 0) with
  | false =>
    rw [s.setCoil_same h]
    exact ⟨h, rfl, rfl, rfl⟩
  | true =>
    rw [s.setCoil_off h]
    obtain ⟨hrest, htimers⟩ := (s.coilDriven 0 false).loseBlockLock_keeps
    refine ⟨State.isSet_of_rd_zero ?_, (s.timersKept_coilDriven 0 false).trans htimers⟩
    rw [hrest.rd (by decide) (by decide)]
    exact s.rd_coilDriven 0 false

end

/- ## The opening and the closing of the ring (R139, R140) -/

section
variable (s : State) {a : Nat}

/-- The time at which BYPASS_HOLD_E is energised begins. -/
def State.holdingE : State := s.rschSet fun r => { r with opticsAt := none, heldEAt := some s.now }

/-- The wait for BYPASS_HOLD_W is over. -/
def State.holdingW : State := s.rschSet fun r => { r with heldEAt := none }

theorem State.energiseE_eq (ho : s.rsch.opticsAt = some a) (hm : s.mode ≠ 0) (ht : a + 10000000 ≤ s.now)
    (hu : s.ringUsed = true) (hc : s.closing = false) (hf : s.isSet (RI.RING_CTL.FORCE_BYP 0) = false) :
    s.energiseE = s.holdingE.setCoil 0 true := by
  have hstart : s.energiseE = s.holdingE.applyCoil 0 := by
    simp only [State.energiseE, ho, hm, ht, State.holdingE, ne_eq, not_false_eq_true, and_self, if_true]
  have hforce : s.holdingE.isSet (RI.RING_CTL.FORCE_BYP 0) = false := hf
  have hwanted : s.holdingE.coilWanted 0 = true := by
    have hm' : s.holdingE.mode ≠ 0 := hm
    have hu' : s.holdingE.ringUsed = true := hu
    have hc' : s.holdingE.closing = false := hc
    have ho' : s.holdingE.rsch.opticsAt = none := rfl
    simp [State.coilWanted, hm', hu', hc', ho']
  rw [hstart, State.applyCoil, hwanted, hforce]
  rfl

theorem State.energiseW_eq (hh : s.rsch.heldEAt = some a) (ht : s.locked 0 = true ∨ a + 100000000 ≤ s.now) (hm : s.mode ≠ 0)
    (hu : s.ringUsed = true) (ho : s.rsch.opticsAt = none) (hc : s.closing = false)
    (hf : s.isSet (RI.RING_CTL.FORCE_BYP 1) = false) : s.energiseW = s.holdingW.setCoil 1 true := by
  have hstart : s.energiseW = s.holdingW.applyCoil 1 := by
    unfold State.energiseW
    rw [hh]
    exact if_pos ht
  have hforce : s.holdingW.isSet (RI.RING_CTL.FORCE_BYP 1) = false := hf
  have hwanted : s.holdingW.coilWanted 1 = true := by
    have hm' : s.holdingW.mode ≠ 0 := hm
    have hu' : s.holdingW.ringUsed = true := hu
    have hc' : s.holdingW.closing = false := hc
    have ho' : s.holdingW.rsch.opticsAt = none := ho
    have hh' : s.holdingW.rsch.heldEAt = none := rfl
    simp [State.coilWanted, hm', hu', hc', ho', hh']
  rw [hstart, State.applyCoil, hwanted, hforce]
  rfl

theorem State.energiseE_shows (ho : s.rsch.opticsAt = some a) (hm : s.mode ≠ 0) (ht : a + 10000000 ≤ s.now)
    (hu : s.ringUsed = true) (hc : s.closing = false) (hf : s.isSet (RI.RING_CTL.FORCE_BYP 0) = false) :
    s.energiseE.isSet (coilDrive 0) = true ∧ s.energiseE.rsch.heldEAt = some s.now ∧ s.energiseE.rsch.opticsAt = none := by
  rw [s.energiseE_eq ho hm ht hu hc hf]
  obtain ⟨hdrive, hoptics, hheld, -⟩ := s.holdingE.setCoil_on_shows 0
  exact ⟨hdrive, hheld, hoptics⟩

theorem State.energiseW_shows (hh : s.rsch.heldEAt = some a) (ht : s.locked 0 = true ∨ a + 100000000 ≤ s.now) (hm : s.mode ≠ 0)
    (hu : s.ringUsed = true) (ho : s.rsch.opticsAt = none) (hc : s.closing = false)
    (hf : s.isSet (RI.RING_CTL.FORCE_BYP 1) = false) :
    s.energiseW.isSet (coilDrive 1) = true ∧ s.energiseW.rsch.heldEAt = none := by
  rw [s.energiseW_eq hh ht hm hu ho hc hf]
  obtain ⟨hdrive, -, hheld, -⟩ := s.holdingW.setCoil_on_shows 1
  exact ⟨hdrive, hheld⟩

theorem State.releaseE_shows (hr : s.rsch.releasedWAt = some a) (ht : a + 20000000 ≤ s.now) :
    s.releaseE.isSet (coilDrive 0) = false ∧ s.releaseE.rsch.releasedWAt = none := by
  have heq : s.releaseE = (s.rschSet fun r => { r with releasedWAt := none }).setCoil 0 false := by
    unfold State.releaseE
    rw [hr]
    exact if_pos ht
  rw [heq]
  obtain ⟨hdrive, -, -, hreleased⟩ := (s.rschSet fun r => { r with releasedWAt := none }).setCoil_off_shows
  exact ⟨hdrive, hreleased⟩

end

/- ## Requests (R132, R134, R141) -/

/-- What the conditions of R134 read. -/
def condFields : List Field :=
  [MI.IMG_STAT.BUSY, MI.MODE_STAT.MODE, MI.MODE_COND.IMAGE_OK, MI.MODE_COND.DRAM_READY, MI.ISL_STAT.STATE,
    MI.MODE_COND.REPLAY_DONE, MI.MODE_COND.TRIG_RING, MI.MODE_COND.TRIG_TIME, MI.MODE_COND.TRIG_TRIPS]

section
variable (s : State) {c target : Nat}

theorem State.unmetNow_congr {a b : State} (h : ∀ f ∈ condFields, b.rd f = a.rd f) (n : Nat) : b.unmetNow n = a.unmetNow n := by
  simp only [condFields, List.mem_cons, List.not_mem_nil, or_false, forall_eq_or_imp, forall_eq] at h
  obtain ⟨hbusy, hmode, himage, hdram, hisl, hreplay, hring, htime, htrips⟩ := h
  unfold State.unmetNow State.trigLatched State.islandsOk State.isl? State.isSet State.mode
  rw [hbusy, hmode, himage, hdram, hisl, hreplay, hring, htime, htrips]

/-- The registers that a request shows its target in. -/
def requestFields : List Field := [MI.MODE_REQ.TARGET, MI.MODE_REQ_STAT.LAST_TARGET]

/-- A request's target is shown. -/
def State.requested (target : Nat) : State := s.wrs [(MI.MODE_REQ.TARGET, target), (MI.MODE_REQ_STAT.LAST_TARGET, target)]

theorem State.regsKept_requested (target : Nat) : s.regsKept (s.requested target) requestFields :=
  (State.regsKept.refl s _).wrs (by simp [requestFields])

theorem State.only_requested (target : Nat) : s.only (s.requested target) [.regs] := s.only_wrs _

theorem State.mode_requested (target : Nat) : (s.requested target).mode = s.mode := (s.regsKept_requested target).rd (by decide)

theorem State.inTransit_requested (target : Nat) :
    (s.requested target).isSet MI.MODE_STAT.IN_TRANSIT = s.isSet MI.MODE_STAT.IN_TRANSIT :=
  State.isSet_congr ((s.regsKept_requested target).rd (by decide))

theorem State.unmetNow_requested (target n : Nat) : (s.requested target).unmetNow n = s.unmetNow n :=
  State.unmetNow_congr (fun f hf => (s.regsKept_requested target).rd ((by decide : ∀ f ∈ condFields, ∀ g ∈ requestFields,
    f.key ≠ g.key) f hf)) n

/-- MODE_REQ_GO by the core, let through by PMP. -/
theorem State.modeReq_core {src : Src} (hs : src ≠ .host) (hu : (s.counted 0).islUp 0 = true)
    (hr : (s.counted 0).reaches src .store 0 0x30 = true) (target : Nat) :
    s.modeReq src target = ((s.counted 0).requested target).judgeMode (target % 4) := by
  rw [State.counted_islUp _ (by decide)] at hu
  rw [State.counted_reaches] at hr
  exact State.regCmd_core hs hr hu

theorem State.judgeMode_transit (h : s.isSet MI.MODE_STAT.IN_TRANSIT = true) : s.judgeMode target = s.refuseMode 2 := by
  simp [State.judgeMode, h]

theorem State.judgeMode_forbidden (h : s.isSet MI.MODE_STAT.IN_TRANSIT = false) (hp : permitted s.mode target = false) :
    s.judgeMode target = s.refuseMode 1 := by
  simp [State.judgeMode, h, hp]

theorem State.judgeMode_unmet (h : s.isSet MI.MODE_STAT.IN_TRANSIT = false) (hp : permitted s.mode target = true)
    (hc : s.unmetNow target = some c) : s.judgeMode target = s.refuseMode c := by
  simp [State.judgeMode, h, hp, hc]

theorem State.judgeMode_met (h : s.isSet MI.MODE_STAT.IN_TRANSIT = false) (hp : permitted s.mode target = true)
    (hc : s.unmetNow target = none) :
    s.judgeMode target = if target = 3 then s.enterSafetyNet 1
      else if s.mode = 0 ∨ s.mode = 3 then s.completeMode target
      else s.acceptMode target := by
  simp [State.judgeMode, h, hp, hc]

/-- Safety Net has no condition to meet. -/
theorem State.unmetNow_net (h : s.mode = 3) (n : Nat) : s.unmetNow n = none := by
  simp [State.unmetNow, h]

theorem State.unmetNow_performance (h : s.mode = 2) (n : Nat) : s.unmetNow n = none := by
  simp [State.unmetNow, h]

/-- A refused request: the reason, and nothing else but the target. -/
theorem State.refused_shows (target r : Nat) :
    ((s.requested target).refuseMode r).rd MI.MODE_REQ_STAT.REFUSED = 1
      ∧ ((s.requested target).refuseMode r).rd MI.MODE_REQ_STAT.REFUSE = r % 2 ^ MI.MODE_REQ_STAT.REFUSE.width
      ∧ ((s.requested target).refuseMode r).mode = s.mode
      ∧ (s.requested target).refuseMode r = { s with regs := ((s.requested target).refuseMode r).regs }
      ∧ s.regsKept ((s.requested target).refuseMode r) [MI.MODE_REQ.TARGET, MI.MODE_REQ_STAT.LAST_TARGET,
          MI.MODE_REQ_STAT.REFUSED, MI.MODE_REQ_STAT.REFUSE] := by
  obtain ⟨hcode, hrefused⟩ := (s.requested target).rd_refuseMode r
  refine ⟨hrefused, hcode, ?_, ?_, ?_⟩
  · rw [State.mode_refuseMode, State.mode_requested]
  · exact ((s.only_requested target).then (State.only_refuseMode _ r)).eq
  · exact ((s.regsKept_requested target).mono (by simp [requestFields])).trans ((State.regsKept_refuseMode _ r).mono (by simp))

/-- A request for Performance that waits. -/
theorem State.acceptMode_shows (s : State) :
    (s.acceptMode 2).rd MI.MODE_STAT.IN_TRANSIT = 1 ∧ (s.acceptMode 2).rd MI.MODE_REQ_STAT.PENDING = 1
      ∧ (s.acceptMode 2).mode = s.mode ∧ (s.acceptMode 2).boot.goal = 2 ∧ (s.acceptMode 2).boot.bounds = 0
      ∧ s.only (s.acceptMode 2) [.regs, .boot] := by
  refine ⟨?_, State.rd_wr_same _ MI.MODE_REQ_STAT.PENDING 1, ?_, rfl, rfl, ?_⟩
  · exact ((s.wr MI.MODE_STAT.IN_TRANSIT 1).rd_wr_ne 1 (f := MI.MODE_REQ_STAT.PENDING) (by decide)).trans
      (s.rd_wr_same MI.MODE_STAT.IN_TRANSIT 1)
  · exact (State.regsKept.wrs (.refl s [MI.MODE_STAT.IN_TRANSIT, MI.MODE_REQ_STAT.PENDING]) (by simp)).rd (by decide)
  · exact State.only.trans ((s.only_wrs _).mono (l' := [.regs, .boot])) (.of_withParts rfl)

/- ## Completion (R43, R133, R134) -/

/-- A transition from Rehearsal or Performance: MODE_STAT is as `setMode` leaves it. -/
theorem State.rd_completeMode {dest : Nat} (hm : s.mode = 1 ∨ s.mode = 2) {f : Field} (hf : f.key < 0x1800)
    (hmoving : f.moving = false) : (s.completeMode dest).rd f = (s.endTransit.setMode dest 1).rd f := by
  have h0 : s.mode ≠ 0 := by omega
  have h3 : s.mode ≠ 3 := by omega
  unfold State.completeMode
  simp only [h0, h3, if_false]
  split
  · exact ((State.headKept_leavePerformance _).trans (State.headKept_burstOnEntry _)) f hf
  split
  · refine (State.restKept_noteQuiet _).rd hmoving fun g hg => ?_
    have hhigh : 0x1800 ≤ g.key := (by decide : ∀ g ∈ roleFields, 0x1800 ≤ g.key) g hg
    omega
  · rfl

/-- The transition in transit starts in Rehearsal, or in Performance. -/
theorem State.mode_of_completes (h : s.completes = true) : s.mode = 1 ∨ s.mode = 2 := by
  unfold State.completes at h
  split at h
  · simp_all
  split at h
  · simp_all
  · simp_all

theorem State.transitDone_shows (ht : s.isSet MI.MODE_STAT.IN_TRANSIT = true) (hc : s.completes = true) (hg : s.boot.goal ≤ 2) :
    s.transitDone.mode = s.boot.goal ∧ s.transitDone.rd MI.MODE_STAT.PREV_MODE = s.mode
      ∧ s.transitDone.rd MI.MODE_STAT.IN_TRANSIT = 0 ∧ s.transitDone.rd MI.MODE_REQ_STAT.PENDING = 0 := by
  have heq : s.transitDone = s.completeMode s.boot.goal := by simp [State.transitDone, ht, hc]
  have hm := s.mode_of_completes hc
  obtain ⟨hmode, hprev, -⟩ := s.endTransit.rd_setMode s.boot.goal 1
  obtain ⟨htransit, hpending⟩ := s.rd_endTransit
  have hbut := s.endTransit.headBut_setMode s.boot.goal 1
  rw [heq]
  refine ⟨?_, ?_, ?_, ?_⟩
  · rw [State.mode, s.rd_completeMode hm (by decide) (by decide)]
    exact hmode.trans (Nat.mod_eq_of_lt (lt_of_le_of_lt hg (by decide)))
  · rw [s.rd_completeMode hm (by decide) (by decide), hprev, s.mode_endTransit]
    rcases hm with hm | hm <;> rw [hm] <;> rfl
  · rw [s.rd_completeMode hm (by decide) (by decide), hbut.rd (by decide) (by decide), htransit]
  · rw [s.rd_completeMode hm (by decide) (by decide), hbut.rd (by decide) (by decide), hpending]

/-- The reason that ends a request at its fourth boundary: the unmet code only when it is the only one. -/
def State.timeoutCode : Nat :=
  match s.unmetAtBoundary with
  | [c] => c
  | _ => 0xB

theorem State.modeTimeout_eq (ht : s.isSet MI.MODE_STAT.IN_TRANSIT = true) (hg : s.boot.goal = 2) (hb : 4 ≤ s.boot.bounds)
    (hc : s.completes = false) : s.modeTimeout = s.endTransit.refuseMode s.timeoutCode := by
  simp only [State.modeTimeout, ht, hg, hb, hc, beq_self_eq_true, decide_true, Bool.not_false, Bool.and_self, if_true]
  rfl

theorem State.timeoutCode_single (h : s.unmetAtBoundary = [c]) : s.timeoutCode = c := by
  simp [State.timeoutCode, h]

theorem State.timeoutCode_other (h : s.unmetAtBoundary.length ≠ 1) : s.timeoutCode = 0xB := by
  unfold State.timeoutCode
  split
  · rename_i hl
    simp [hl] at h
  · rfl

theorem State.modeTimeout_shows (ht : s.isSet MI.MODE_STAT.IN_TRANSIT = true) (hg : s.boot.goal = 2) (hb : 4 ≤ s.boot.bounds)
    (hc : s.completes = false) :
    s.modeTimeout.rd MI.MODE_STAT.IN_TRANSIT = 0 ∧ s.modeTimeout.rd MI.MODE_REQ_STAT.PENDING = 0
      ∧ s.modeTimeout.rd MI.MODE_REQ_STAT.REFUSED = 1 ∧ s.modeTimeout.mode = s.mode
      ∧ (∀ c, s.unmetAtBoundary = [c] → s.modeTimeout.rd MI.MODE_REQ_STAT.REFUSE = c % 2 ^ MI.MODE_REQ_STAT.REFUSE.width)
      ∧ (s.unmetAtBoundary.length ≠ 1 → s.modeTimeout.rd MI.MODE_REQ_STAT.REFUSE = 0xB)
      ∧ s.modeTimeout = { s with regs := s.modeTimeout.regs } := by
  rw [s.modeTimeout_eq ht hg hb hc]
  obtain ⟨htransit, hpending⟩ := s.rd_endTransit
  obtain ⟨hcode, hrefused⟩ := s.endTransit.rd_refuseMode s.timeoutCode
  have hkept := s.endTransit.regsKept_refuseMode s.timeoutCode
  refine ⟨?_, ?_, hrefused, ?_, fun c hc => ?_, fun hl => ?_, ?_⟩
  · rw [hkept.rd (by decide), htransit]
  · rw [hkept.rd (by decide), hpending]
  · rw [State.mode_refuseMode, State.mode_endTransit]
  · rw [hcode, s.timeoutCode_single hc]
  · rw [hcode, s.timeoutCode_other hl]
    rfl
  · exact (s.only_endTransit.then (State.only_refuseMode _ _)).eq

end

/- ## Triggers (R136, R148) -/

/-- The registers at the head of MI's window that a trigger moves besides its own bit. -/
def triggerFields : List Field := netFields ++ returnFields

section
variable (s : State)

theorem State.headBut_refuse (r : Nat) : s.headBut (s.refuseMode r) triggerFields :=
  ((s.regsKept_refuseMode r).mono (by simp [triggerFields, netFields])).but

theorem State.headBut_end : s.headBut s.endTransit triggerFields :=
  (s.regsKept_endTransit.mono (by simp [triggerFields, netFields])).but

theorem State.headBut_enterNet (cause : Nat) : s.headBut (s.enterSafetyNet cause) triggerFields :=
  (s.headBut_enterSafetyNet cause).mono fun _ hg => List.mem_append_left _ hg

theorem State.headBut_triggerNet (cause : Nat) : s.headBut (s.triggerNet cause) triggerFields := by
  have hnet : s.headBut (s.endTransit.enterSafetyNet cause) triggerFields := s.headBut_end.trans (State.headBut_enterNet _ cause)
  unfold State.triggerNet
  split
  · dsimp only
    split
    · exact hnet.trans ((State.headBut_leaveNet _).mono fun _ hg => List.mem_append_right _ hg)
    · exact hnet.trans (State.headBut_refuse _ 1)
  · exact s.headBut_enterNet cause

theorem State.headBut_triggerAgain (cause : Nat) : s.headBut (s.triggerAgain cause) triggerFields := by
  have hcause : s.headBut (s.wr MI.MODE_STAT.CAUSE cause) triggerFields :=
    ((State.regsKept.refl s _).wr cause (by simp [triggerFields, netFields, modeFields])).but
  unfold State.triggerAgain
  split
  · exact hcause.trans (State.headBut_refuse _ 1)
  split
  · exact hcause
  · exact (State.headKept.refl s).but _

theorem State.headBut_trigger (bit en : Field) (cause : Nat) :
    (s.wr bit 1).headBut (s.trigger bit en cause) triggerFields := by
  unfold State.trigger
  dsimp only
  split
  · exact (State.headBut_end _).trans (State.headBut_refuse _ 9)
  split
  · exact (State.headKept.refl _).but _
  split
  · exact State.headBut_triggerNet _ cause
  split
  · exact State.headBut_triggerAgain _ cause
  split
  · exact ((State.regsKept_cancelTransit _).mono (by simp [triggerFields, netFields])).but
  · exact (State.headKept.refl _).but _

/-- TRIGGER_RING's own bit, and whether the ring's trigger is enabled. -/
def State.ringTrigger : State := s.trigger MI.MODE_COND.TRIG_RING MI.SN_CFG.RING_EN 2

/-- The bit is set in every mode. -/
theorem State.trigRing_ringTrigger : s.ringTrigger.rd MI.MODE_COND.TRIG_RING = 1 := by
  rw [State.ringTrigger, (s.headBut_trigger _ _ _).rd (by decide) (by decide)]
  exact s.rd_wr_same MI.MODE_COND.TRIG_RING 1

/-- The ring's trigger bit is set. -/
def State.ringLatched : State := s.wr MI.MODE_COND.TRIG_RING 1

theorem State.regsKept_ringLatched : s.regsKept s.ringLatched [MI.MODE_COND.TRIG_RING] :=
  (State.regsKept.refl s _).wr 1 (.head _)

theorem State.mode_ringLatched : s.ringLatched.mode = s.mode := s.regsKept_ringLatched.rd (by decide)

theorem State.requestNow_ringLatched : s.ringLatched.requestNow = s.requestNow := by
  have htransit := State.isSet_congr (s.regsKept_ringLatched.rd (f := MI.MODE_STAT.IN_TRANSIT) (by decide))
  have htime : s.ringLatched.time = s.time := s.regsKept_ringLatched.rd (by decide)
  have hboot : s.ringLatched.boot = s.boot := rfl
  rw [State.requestNow, htransit, htime, hboot, State.requestNow]

theorem State.ringTrigger_net (he : s.isSet MI.SN_CFG.RING_EN = true) (hm : s.mode = 2) :
    s.ringTrigger = s.ringLatched.triggerNet 2 := by
  simp only [State.ringTrigger, State.trigger, hm, he]
  rfl

theorem State.ringTrigger_off (he : s.isSet MI.SN_CFG.RING_EN = false) (hr : s.requestNow = false) :
    s.ringTrigger = s.ringLatched := by
  simp only [State.ringTrigger, State.trigger, he, hr, Bool.false_eq_true, and_false, if_false, Bool.not_false, if_true]
  rfl

theorem State.triggerNet_alone {cause : Nat} (hr : s.requestNow = false) : s.triggerNet cause = s.enterSafetyNet cause := by
  simp [State.triggerNet, hr]

/-- With a request of the same instant: it is judged against Safety Net (R148). -/
theorem State.triggerNet_request {cause : Nat} (hr : s.requestNow = true) :
    s.triggerNet cause = if s.boot.goal = 1 then (s.endTransit.enterSafetyNet cause).leaveNet
      else (s.endTransit.enterSafetyNet cause).refuseMode 1 := by
  simp [State.triggerNet, hr]

/-- Enabled, in Performance, with no request of the same instant: Safety Net. -/
theorem State.ringTrigger_enters (he : s.isSet MI.SN_CFG.RING_EN = true) (hm : s.mode = 2) (hr : s.requestNow = false) :
    s.ringTrigger.mode = 3 ∧ s.ringTrigger.rd MI.MODE_STAT.PREV_MODE = 2 ∧ s.ringTrigger.rd MI.MODE_STAT.CAUSE = 2 := by
  rw [s.ringTrigger_net he hm, State.triggerNet_alone _ (by rw [State.requestNow_ringLatched, hr])]
  obtain ⟨hmode, hprev, hcause, -⟩ := s.ringLatched.rd_enterSafetyNet 2
  rw [State.mode_ringLatched, hm] at hprev
  exact ⟨hmode, hprev, hcause⟩

/-- A request of the same instant is judged after the trigger: a return to Rehearsal takes effect, any other is refused. -/
theorem State.ringTrigger_judges (he : s.isSet MI.SN_CFG.RING_EN = true) (hm : s.mode = 2) (hr : s.requestNow = true) :
    s.ringTrigger.rd MI.MODE_STAT.IN_TRANSIT = 0
      ∧ if s.boot.goal = 1 then s.ringTrigger.mode = 1 ∧ s.ringTrigger.rd MI.MODE_STAT.PREV_MODE = 3
        else s.ringTrigger.mode = 3 ∧ s.ringTrigger.rd MI.MODE_REQ_STAT.REFUSED = 1 := by
  have hboot : s.ringLatched.boot.goal = s.boot.goal := rfl
  rw [s.ringTrigger_net he hm, State.triggerNet_request _ (by rw [State.requestNow_ringLatched, hr]), hboot]
  obtain ⟨hmode, -, -, htransit⟩ := s.ringLatched.endTransit.rd_enterSafetyNet 2
  by_cases hg : s.boot.goal = 1
  · rw [if_pos hg, if_pos hg]
    obtain ⟨hmode', hprev', -, htransit', -⟩ := (s.ringLatched.endTransit.enterSafetyNet 2).rd_leaveNet
    rw [hmode] at hprev'
    exact ⟨htransit', hmode', hprev'⟩
  · rw [if_neg hg, if_neg hg]
    refine ⟨?_, ?_, (State.rd_refuseMode _ 1).2⟩
    · rw [(State.regsKept_refuseMode _ 1).rd (by decide), htransit]
    · rw [State.mode_refuseMode, hmode]

/-- RING_GRACE is over. -/
def State.graceOver : State := { s with rsch := { s.rsch with graceSince := none } }

theorem State.triggerRing_eq {a : Nat} (hg : s.rsch.graceSince = some a) (hu : s.ringUsed = true)
    (hj : s.isSet MI.MODE_COND.JOIN_OK = false) (ht : a + s.graceNs ≤ s.now) : s.triggerRing = s.graceOver.ringTrigger := by
  simp only [State.triggerRing, hg, hu, hj, ht, Bool.not_false, Bool.and_self, decide_true, if_true]
  rfl

end

/- ## Mode requests and triggers: O16 -/

section
variable {s : State} {src : Src} (hs : src ≠ .host) (hu : (s.counted 0).islUp 0 = true)
  (hr : (s.counted 0).reaches src .store 0 0x30 = true)
include hs hu hr

/-- A request that is refused at once. -/
theorem State.modeReq_refused {target c : Nat}
    (h : (s.counted 0).isSet MI.MODE_STAT.IN_TRANSIT = true ∧ c = 2
      ∨ (s.counted 0).isSet MI.MODE_STAT.IN_TRANSIT = false ∧ permitted (s.counted 0).mode (target % 4) = false ∧ c = 1
      ∨ (s.counted 0).isSet MI.MODE_STAT.IN_TRANSIT = false ∧ permitted (s.counted 0).mode (target % 4) = true
        ∧ (s.counted 0).unmetNow (target % 4) = some c) :
    s.modeReq src target = ((s.counted 0).requested target).refuseMode c := by
  rw [s.modeReq_core hs hu hr target]
  have htransit := (s.counted 0).inTransit_requested target
  have hmode := (s.counted 0).mode_requested target
  rcases h with ⟨hin, rfl⟩ | ⟨hout, hp, rfl⟩ | ⟨hout, hp, hc⟩
  · exact State.judgeMode_transit _ (htransit.trans hin)
  · exact State.judgeMode_forbidden _ (htransit.trans hout) (by rw [hmode, hp])
  · exact State.judgeMode_unmet _ (htransit.trans hout) (by rw [hmode, hp]) (by rw [State.unmetNow_requested, hc])

/-- A permitted request whose conditions hold. -/
theorem State.modeReq_met {target : Nat} (ht : target < 4) (hout : (s.counted 0).isSet MI.MODE_STAT.IN_TRANSIT = false)
    (hp : permitted (s.counted 0).mode target = true) (hc : (s.counted 0).unmetNow target = none) :
    s.modeReq src target = if target = 3 then ((s.counted 0).requested target).enterSafetyNet 1
      else if (s.counted 0).mode = 0 ∨ (s.counted 0).mode = 3 then ((s.counted 0).requested target).completeMode target
      else ((s.counted 0).requested target).acceptMode target := by
  have hmode := (s.counted 0).mode_requested target
  rw [s.modeReq_core hs hu hr target, Nat.mod_eq_of_lt ht,
    State.judgeMode_met _ (((s.counted 0).inTransit_requested target).trans hout) (by rw [hmode, hp])
      (by rw [State.unmetNow_requested, hc]), hmode]

/-- Rehearsal to Performance is accepted and waits. -/
theorem State.modeReq_performance (hout : (s.counted 0).isSet MI.MODE_STAT.IN_TRANSIT = false) (hm : (s.counted 0).mode = 1)
    (hc : (s.counted 0).unmetNow 2 = none) :
    (s.modeReq src 2).rd MI.MODE_STAT.IN_TRANSIT = 1 ∧ (s.modeReq src 2).rd MI.MODE_REQ_STAT.PENDING = 1
      ∧ (s.modeReq src 2).mode = 1 ∧ (s.modeReq src 2).boot.goal = 2 ∧ (s.modeReq src 2).boot.bounds = 0
      ∧ s.modeReq src 2 = { s.counted 0 with regs := (s.modeReq src 2).regs, boot := (s.modeReq src 2).boot } := by
  have heq : s.modeReq src 2 = ((s.counted 0).requested 2).acceptMode 2 := by
    rw [State.modeReq_met hs hu hr (by decide) hout (by rw [hm]; decide) hc, hm]
    rfl
  rw [heq]
  obtain ⟨htransit, hpending, hmode, hgoal, hbounds, honly⟩ := State.acceptMode_shows ((s.counted 0).requested 2)
  rw [State.mode_requested, hm] at hmode
  exact ⟨htransit, hpending, hmode, hgoal, hbounds,
    (State.only.trans (((s.counted 0).only_requested 2).mono (l' := [.regs, .boot])) honly).eq⟩

/-- Safety Net to Rehearsal, with no fire alarm, takes effect at once. -/
theorem State.modeReq_return (hout : (s.counted 0).isSet MI.MODE_STAT.IN_TRANSIT = false) (hm : (s.counted 0).mode = 3)
    (hfa : (s.counted 0).isSet AO.SIDEBAND.FA = false) :
    (s.modeReq src 1).mode = 1 ∧ (s.modeReq src 1).rd MI.MODE_STAT.PREV_MODE = 3 ∧ (s.modeReq src 1).rd MI.MODE_STAT.CAUSE = 1
      ∧ (s.modeReq src 1).isSet MI.MODE_COND.JOIN_OK = false ∧ (s.counted 0).memoriesKept (s.modeReq src 1) := by
  have hwas : ((s.counted 0).requested 1).mode = 3 := ((s.counted 0).mode_requested 1).trans hm
  have heq : s.modeReq src 1 = ((s.counted 0).requested 1).leaveNet := by
    rw [State.modeReq_met hs hu hr (by decide) hout (by rw [hm]; decide) ((s.counted 0).unmetNow_net hm 1), hm,
      if_neg (by decide), if_pos (.inr rfl), State.completeMode, if_pos rfl, if_pos hwas]
  have hfa' : ((s.counted 0).requested 1).isSet AO.SIDEBAND.FA = false :=
    (State.isSet_congr (((s.counted 0).regsKept_requested 1).rd (by decide))).trans hfa
  rw [heq]
  obtain ⟨hmode, hprev, hcause, -, hjoin⟩ := ((s.counted 0).requested 1).rd_leaveNet
  rw [hwas] at hprev
  exact ⟨hmode, hprev, hcause, hjoin,
    ((s.counted 0).only_requested 1).memories.trans (((s.counted 0).requested 1).memoriesKept_leaveNet hfa')⟩

/-- Performance to Safety Net by request. -/
theorem State.modeReq_net (hout : (s.counted 0).isSet MI.MODE_STAT.IN_TRANSIT = false) (hm : (s.counted 0).mode = 2) :
    (s.modeReq src 3).mode = 3 ∧ (s.modeReq src 3).rd MI.MODE_STAT.PREV_MODE = 2
      ∧ (s.modeReq src 3).rd MI.MODE_STAT.CAUSE = 1 := by
  have heq : s.modeReq src 3 = ((s.counted 0).requested 3).enterSafetyNet 1 := by
    rw [State.modeReq_met hs hu hr (by decide) hout (by rw [hm]; decide) ((s.counted 0).unmetNow_performance hm 3), if_pos rfl]
  rw [heq]
  obtain ⟨hmode, hprev, hcause, -⟩ := ((s.counted 0).requested 3).rd_enterSafetyNet 1
  rw [State.mode_requested, hm] at hprev
  exact ⟨hmode, hprev, hcause⟩

end

/-- Settles O16: each command is followed to the one branch its premises leave, and what the registers and the timers read
afterwards comes from the rules of `setMode`, `enterSafetyNet`, `leaveNet`, `setCoil` and `trigger`. -/
theorem modesChangeByRequestAndTrigger : Obligations.ModesChangeByRequestAndTrigger := by
  unfold Obligations.ModesChangeByRequestAndTrigger
  refine ⟨?refused, ?accepted, ?returns, ?completion, ?timeout, ?energiseE, ?energiseW, ?releaseE, ?trigger, ?net⟩
  case refused =>
    intro src target t c s hs hu h hr
    refine .next rfl (State.modeReq_refused hs hu hr h) ?_
    exact ((s.begin t).counted 0).refused_shows target c
  case accepted =>
    intro src t s hs hu hout hm hc hr
    exact .next rfl rfl (State.modeReq_performance hs hu hr hout hm hc)
  case returns =>
    intro src t s hs hu hout hm hfa hr
    exact .next rfl rfl (State.modeReq_return hs hu hr hout hm hfa)
  case completion =>
    intro t s ht hc hg
    exact .next rfl rfl ((s.begin t).transitDone_shows ht hc hg)
  case timeout =>
    intro t s ht hg hb hc
    exact .next rfl rfl ((s.begin t).modeTimeout_shows ht hg hb hc)
  case energiseE =>
    intro t a s ho hm ht hu hc hf
    exact .next rfl rfl ((s.begin t).energiseE_shows ho hm ht hu hc hf)
  case energiseW =>
    intro t a s hh ht hm hu ho hc hf
    exact .next rfl rfl ((s.begin t).energiseW_shows hh ht hm hu ho hc hf)
  case releaseE =>
    intro t a s hr ht
    exact .next rfl rfl ((s.begin t).releaseE_shows hr ht)
  case trigger =>
    intro t a s hg hu hj ht
    refine .next rfl ((s.begin t).triggerRing_eq hg hu hj ht) ⟨?_, fun he hm hr => ?_, fun he hm hr => ?_, fun he hr => ?_⟩
    · exact (s.begin t).graceOver.trigRing_ringTrigger
    · exact (s.begin t).graceOver.ringTrigger_enters he hm hr
    · exact (s.begin t).graceOver.ringTrigger_judges he hm hr
    · rw [(s.begin t).graceOver.ringTrigger_off he hr]
      refine ⟨State.mode_ringLatched _, ?_, ?_⟩
      · exact State.regsKept.trans (.of_regs rfl _) (State.regsKept_ringLatched _)
      · exact State.memoriesKept.trans ⟨rfl, rfl, rfl, rfl, rfl, rfl⟩ ((s.begin t).graceOver.only_wr _ 1).memories
  case net =>
    intro src t s hs hu hout hm hr
    exact .next rfl rfl (State.modeReq_net hs hu hr hout hm)

end Sys2Proof.Machine

/-! PROOFS. Statements of the islands-and-handshakes family. -/
namespace Sys2Proof.Machine

set_option Elab.async false

/- ## The end of a replay in an island that also waits for its hold (R62, R79) -/

/-- Island 11 replays by its STATE in MI.ISL_STAT, and stands in `holdDone` too, among the islands whose hold has ended and
which wait for another trip of the same microsecond. No run puts an island in both: a replay that begins leaves `holdDone`. -/
def replaysAndWaits : State :=
  { State.reset with
    regs := [(MI.ISL_STAT.STATE.key, 3 * 4 ^ 11)]
    isl := ⟨[(11, 0)], [11], [], [], [], [], [], [], []⟩ }

/-- The end of the replay runs island 11, and the hold that waits then begins its replay once more. -/
theorem replayDone_replaysAndWaits : ((replaysAndWaits.begin 0).replayDone 11).isl? 11 = 3 := by
  decide +kernel

/-- Refutes O19: its last clause takes every state, and where the island that replays stands in `holdDone` as well, the end
of the replay begins it anew, so that the island neither runs nor is powered down. -/
theorem not_islandsTripResetAndReplay : ¬ Obligations.IslandsTripResetAndReplay := by
  unfold Obligations.IslandsTripResetAndReplay
  rintro ⟨-, -, -, -, -, -, hdone⟩
  obtain ⟨u, hu, hstate, -, -⟩ := hdone 11 0 0 replaysAndWaits (by decide) (by decide +kernel) (by decide +kernel)
  have hx : exec (.islandReplayDone 11 0) replaysAndWaits = .next ((replaysAndWaits.begin 0).replayDone 11) := rfl
  obtain rfl := Host.Outcome.next.inj (hx.symm.trans hu)
  rw [replayDone_replaysAndWaits] at hstate
  exact hstate.elim (absurd · (by decide)) fun h => absurd h.2 (by decide)

/- ## A queue statistic that lies on a port's EN (R76) -/

/-- A queued frame whose descriptor names port 3080, which BI does not have: the drop counter of its queue would lie on the
PORT_CTL of port 2. -/
def strayDesc : Desc := plainDesc 3080 0 7 0 101 0 0 0 true []

/-- Port 2 is enabled, its island 10 runs, and the stray frame waits in its scheduled lane. No run brings it there: a frame
goes into the lanes of its own port. -/
def strayFrameInPort : State :=
  { State.reset with
    regs := [(MI.ISL_STAT.STATE.key, 4 ^ 10), ((funcEn (.port 2)).key, 1)]
    ports := [(2, { State.reset.mac 2 with sched := [strayDesc] })] }

/-- The disable clears EN, and the discard of the stray frame then counts EN up again. -/
theorem functionDisable_strayFrameInPort :
    (strayFrameInPort.quiet.functionDisable .coreM (.port 2)).isSet (funcEn (.port 2)) = true := by
  decide +kernel

/-- Refutes O20: its first clause takes every state, and a disabled port that holds a frame of a port that BI does not have
can stand with EN set. -/
theorem not_functionsStopDrainAndStart : ¬ Obligations.FunctionsStopDrainAndStart := by
  unfold Obligations.FunctionsStopDrainAndStart
  rintro ⟨hdisable, -⟩
  obtain ⟨u, hu, hen, -, -⟩ := hdisable .coreM (.port 2) strayFrameInPort (by decide) (by decide) (by decide +kernel)
    (by decide +kernel)
  have hx : exec (.functionDisable .coreM (.port 2)) strayFrameInPort
      = .next (strayFrameInPort.quiet.functionDisable .coreM (.port 2)) := rfl
  obtain rfl := Host.Outcome.next.inj (hx.symm.trans hu)
  rw [functionDisable_strayFrameInPort] at hen
  exact absurd hen (by decide)

/- ## Bits of a register -/

/-- An OR sets its bit, where the field is wide enough. -/
theorem State.bitOf_orF (s : State) {f : Field} {i : Nat} (hi : i < f.width) : bitOf ((s.orF f (2 ^ i)).rd f) i = true := by
  simp [bitOf, Nat.testBit_mod_two_pow, hi, Nat.testBit_two_pow_self]

/-- Replacing one base-4 digit of a number that a register cuts to 32 bits. -/
theorem digit_replaced {i : Nat} (hi : i < 16) (w v : Nat) :
    (w - bitsOf w (2 * i) 2 * 4 ^ i + v % 4 * 4 ^ i) % 2 ^ 32 / 4 ^ i % 4 = v % 4 := by
  have hp : 0 < 4 ^ i := by positivity
  have hdvd : 4 ^ i * 4 ∣ 2 ^ 32 := by
    rw [← pow_succ, show (2 : Nat) ^ 32 = 4 ^ 16 by norm_num]
    exact pow_dvd_pow 4 hi
  have hbits : bitsOf w (2 * i) 2 = w / 4 ^ i % 4 := by
    rw [bitsOf, pow_mul]; norm_num
  rw [← Nat.mod_mul_right_div_self, Nat.mod_mod_of_dvd _ hdvd, Nat.mod_mul_right_div_self, hbits,
    Nat.add_mul_div_right _ _ hp, mul_comm (w / 4 ^ i % 4), Nat.sub_mul_div]
  omega

/-- STATE of an island reads what `setIsl` put there. -/
theorem State.isl?_setIsl_same (s : State) {i : Nat} (hi : i < 16) (v : Nat) : (s.setIsl i v).isl? i = v % 4 := by
  have h4 : (2 : Nat) ^ (2 * i) = 4 ^ i := by rw [pow_mul]; norm_num
  unfold State.setIsl
  dsimp only
  rw [State.isl?, State.rd_flag_ne _ _ (by decide), State.rd_wr_same]
  simpa [bitsOf, h4, MI.ISL_STAT.STATE, State.isl?] using digit_replaced hi (s.rd MI.ISL_STAT.STATE) v

/-- `setIsl` writes STATE and ISLANDS_OK. -/
theorem State.regsKept_setIsl (s : State) (i v : Nat) :
    s.regsKept (s.setIsl i v) [MI.ISL_STAT.STATE, MI.MODE_COND.ISLANDS_OK] :=
  ((State.regsKept.refl s _).wr _ (by simp)).wr _ (by simp)

/- ## Release from device reset (R53, R123, R571) -/

/-- Whether the two inputs that hold the device in reset let it go. -/
def State.inputsRelease (s : State) : Bool := s.isSet AO.PIN_STAT.RESET_N && s.isSet AO.PIN_STAT.VDD_CORE_OK

/-- With the always-on island out of its own reset, a device held in reset starts once its inputs release it. -/
theorem State.tryStart_shows {s : State} (hheld : s.boot.held = true) (hao : s.boot.aoPor = false) :
    s.tryStart.boot.held = !s.inputsRelease ∧ s.tryStart.boot.aoPor = false
      ∧ (s.inputsRelease = true → s.tryStart.isl.relock = [0]) := by
  have heq : s.tryStart = if s.inputsRelease then
      { s with boot := { s.boot with held := false }, isl := { s.isl with relock := [0] } } else s := by
    simp [State.tryStart, State.inputsRelease, hheld, hao]
  rw [heq]
  cases s.inputsRelease <;> simp [hheld, hao]

theorem State.only_tryStart (s : State) : s.only s.tryStart [.boot, .isl] := by
  unfold State.tryStart
  split
  · exact .of_withParts rfl
  · exact .refl s _

/-- RESET_RELEASE records both inputs, and the device starts. -/
theorem State.resetRelease_shows {b : State} (hheld : b.boot.held = true) (hao : b.boot.aoPor = false) :
    let u := (b.wrs [(AO.PIN_STAT.RESET_N, 1), (AO.PIN_STAT.VDD_CORE_OK, 1)]).tryStart
    u.rd AO.PIN_STAT.RESET_N = 1 ∧ u.rd AO.PIN_STAT.VDD_CORE_OK = 1 ∧ u.boot.held = false ∧ u.isl.relock = [0]
      ∧ u = { b with regs := u.regs, boot := u.boot, isl := u.isl } := by
  intro u
  let r := b.wrs [(AO.PIN_STAT.RESET_N, 1), (AO.PIN_STAT.VDD_CORE_OK, 1)]
  have hn : r.rd AO.PIN_STAT.RESET_N = 1 := (State.rd_wr_ne _ _ (by decide)).trans (State.rd_wr_same _ _ _)
  have hv : r.rd AO.PIN_STAT.VDD_CORE_OK = 1 := State.rd_wr_same _ _ _
  have hin : r.inputsRelease = true := by simp [State.inputsRelease, State.isSet, hn, hv]
  obtain ⟨hu, -, hlock⟩ := State.tryStart_shows (s := r) hheld hao
  exact ⟨(r.only_tryStart.rd _).trans hn, (r.only_tryStart.rd _).trans hv, by rw [hu, hin]; rfl, hlock hin,
    (((b.only_wrs _).mono (l' := [.regs, .boot, .isl])).then r.only_tryStart).eq⟩

/-- VDD_CORE_MONITOR_RELEASE records VDD_CORE, and the device starts where RESET_N is high. -/
theorem State.coreRelease_shows {b : State} (hheld : b.boot.held = true) (hao : b.boot.aoPor = false) :
    let u := (b.wr AO.PIN_STAT.VDD_CORE_OK 1).tryStart
    u.rd AO.PIN_STAT.VDD_CORE_OK = 1 ∧ u.boot.held = !b.isSet AO.PIN_STAT.RESET_N
      ∧ (b.isSet AO.PIN_STAT.RESET_N = true → u.isl.relock = [0])
      ∧ u = { b with regs := u.regs, boot := u.boot, isl := u.isl } := by
  intro u
  let r := b.wr AO.PIN_STAT.VDD_CORE_OK 1
  have hv : r.rd AO.PIN_STAT.VDD_CORE_OK = 1 := State.rd_wr_same _ _ _
  have hin : r.inputsRelease = b.isSet AO.PIN_STAT.RESET_N := by
    have hne : AO.PIN_STAT.RESET_N.key ≠ AO.PIN_STAT.VDD_CORE_OK.key := by decide
    simp [State.inputsRelease, r, State.isSet_wr_ne _ _ hne, State.isSet_eq, hv]
  obtain ⟨hu, -, hlock⟩ := State.tryStart_shows (s := r) hheld hao
  exact ⟨(r.only_tryStart.rd _).trans hv, by rw [← hin]; exact hu, fun h => hlock (hin.trans h),
    (((b.only_wr _ _).mono (l' := [.regs, .boot, .isl])).then r.only_tryStart).eq⟩

/-- AO_POR_RELEASE lets the always-on island out of its reset, and the device starts where its inputs release it. -/
theorem State.aoRelease_shows {b : State} (hheld : b.boot.held = true) :
    b.aoRelease.boot.aoPor = false ∧ b.aoRelease.boot.held = !b.inputsRelease
      ∧ b.aoRelease = { b with boot := b.aoRelease.boot, isl := b.aoRelease.isl } := by
  let r : State := { b with boot := { b.boot with aoPor := false } }
  obtain ⟨hu, hao, -⟩ := State.tryStart_shows (s := r) hheld rfl
  have hr : b.only r [.boot, .isl] := .of_withParts rfl
  exact ⟨hao, hu, (hr.then r.only_tryStart).eq⟩

/- ## The boot ROM begins (R128, R519) -/

/-- The registers that finding the journal head sets. -/
def journalHead : List Field :=
  [MI.JNL_SEQ.LAST_SEQ, MI.JNL_STAT.TORN, MI.JNL_STAT.OVF, MI.JNL_STAT.FREE_BLOCKS, MI.JNL_STAT.LOW, MI.JNL_STAT.QUEUED,
    MI.JNL_SEQ.DURABLE_SEQ]

section
variable {a b : State}

theorem State.restKept.jnlSpace (h : a.restKept b journalHead) : a.restKept b.jnlSpace journalHead := by
  have h1 : ∀ x : Persist, a.restKept { b.wr MI.JNL_STAT.FREE_BLOCKS b.jnlFree with fl := x } journalHead := fun x =>
    (h.wr _ (.inl (by simp [journalHead]))).regs rfl
  unfold State.jnlSpace
  dsimp only
  split
  · exact ((h1 _).wr _ (.inl (by simp [journalHead]))).raiseIf _ (by decide)
  · exact h1 _

theorem State.restKept.jnlCounts (h : a.restKept b journalHead) : a.restKept b.jnlCounts journalHead :=
  (h.wr _ (.inl (by simp [journalHead]))).wr _ (.inl (by simp [journalHead]))

theorem State.only_jnlSpace (s : State) : s.only s.jnlSpace [.regs, .out, .fl] := by
  have h1 : ∀ x : Persist, s.only { s.wr MI.JNL_STAT.FREE_BLOCKS s.jnlFree with fl := x } [.regs, .out, .fl] := fun x =>
    .of_withParts rfl
  unfold State.jnlSpace
  dsimp only
  split
  · exact ((h1 _).then (State.only_wr _ _ _)).then (State.only_raiseIf _ _ _)
  · exact h1 _

theorem State.jnlSpace_density (s : State) : s.jnlSpace.fl.density = s.fl.density := by
  unfold State.jnlSpace
  dsimp only
  split
  · rw [((State.only_raiseIf _ _ _).mono (l' := [.regs, .out])) .fl (by decide)]; rfl
  · rfl

end

theorem State.restKept_locateHead (s : State) : s.restKept s.locateHead journalHead := by
  unfold State.locateHead State.jnlTorn
  dsimp only
  split
  · exact State.restKept.jnlCounts (State.restKept.jnlSpace (.of_regs rfl _))
  · exact State.restKept.jnlCounts (State.restKept.jnlSpace (State.restKept.addOvf
      (State.restKept.wr (.of_regs rfl _) _ (.inl (by simp [journalHead]))) _ _ (.inl (by simp [journalHead]))
      (.inl (by simp [journalHead]))))

theorem State.only_locateHead (s : State) : s.only s.locateHead [.regs, .out, .fl] := by
  have hset : ∀ x : Persist, s.only { s with fl := x } [.regs, .out, .fl] := fun x => .of_withParts rfl
  have hcounts : ∀ u : State, u.only u.jnlCounts [.regs, .out, .fl] := fun u => .of_withParts rfl
  unfold State.locateHead State.jnlTorn
  dsimp only
  split
  · exact ((hset _).trans (State.only_jnlSpace _)).trans (hcounts _)
  · exact ((((hset _).then (State.only_wr _ _ _)).then (State.only_addOvf _ _ _ _ _)).trans (State.only_jnlSpace _)).trans
      (hcounts _)

theorem State.locateHead_density (s : State) : s.locateHead.fl.density = s.fl.density := by
  unfold State.locateHead State.jnlTorn
  dsimp only
  split
  · exact State.jnlSpace_density _
  · refine (State.jnlSpace_density _).trans ?_
    rw [(State.only_addOvf _ _ _ _ _) .fl (by decide)]
    rfl

/-- LOAD hands nothing over. -/
theorem State.handOver_load (s : State) : s.handOver 2 = s := by simp [State.handOver]

/-- LOAD starts: the loader is busy with it, and keeps what it found. -/
theorem State.imgStart_load (s : State) :
    s.only (s.imgStart 2) [.regs, .img] ∧ s.regsKept (s.imgStart 2) [MI.IMG_STAT.BUSY, MI.IMG_STAT.LAST_CMD]
      ∧ (s.imgStart 2).rd MI.IMG_STAT.BUSY = 1 ∧ (s.imgStart 2).rd MI.IMG_STAT.LAST_CMD = 2 := by
  obtain ⟨x, hx⟩ : ∃ x : Loader, s.imgStart 2
      = { s.wrs [(MI.IMG_STAT.BUSY, 1), (MI.IMG_STAT.LAST_CMD, 2)] with img := x } := by
    unfold State.imgStart
    simp only [State.handOver_load, ite_self]
    exact ⟨_, rfl⟩
  have hr : (s.imgStart 2).regs = (s.wrs [(MI.IMG_STAT.BUSY, 1), (MI.IMG_STAT.LAST_CMD, 2)]).regs := by rw [hx]
  refine ⟨.of_withParts (by rw [hx]; rfl), ((State.regsKept.refl s _).wrs (by simp)).trans (.of_regs hr _), ?_, ?_⟩
  · exact (State.regsKept.of_regs hr []).rd (by simp) |>.trans
      ((State.rd_wr_ne _ _ (by decide)).trans (State.rd_wr_same _ _ _))
  · exact (State.regsKept.of_regs hr []).rd (by simp) |>.trans (State.rd_wr_same _ _ _)

/-- The boot ROM's registers. -/
def bootRegs : List Field :=
  [MI.BOOT_STAT.PHASE, MI.FLASH_STAT.SIZE_MIB, MI.RPLY_STAT.TRIAL_EXHAUSTED, MI.IMG_SRC.ADDR, MI.IMG_SRC.LEN, MI.IMG_STAT.BUSY,
    MI.IMG_STAT.LAST_CMD]

/-- The boot ROM loads from a slot. -/
def State.loadsSlot (u : State) : Prop :=
  (u.phase = 2 ∨ u.phase = 3) ∧ u.boot.loading = true ∧ u.rd MI.IMG_STAT.BUSY = 1 ∧ u.rd MI.IMG_STAT.LAST_CMD = 2

/-- The source registers and PHASE set for a LOAD of the boot ROM. -/
def State.bootSource (s : State) (addr len slot : Nat) (fallback : Bool) (tries : Option Nat) : State :=
  (s.wrs [(MI.IMG_SRC.ADDR, addr), (MI.IMG_SRC.LEN, len), (MI.BOOT_STAT.PHASE, 2 + slot)]).bootSet fun b =>
    { b with loading := true, fallback := fallback, tries := tries }

theorem State.bootLoad_eq (s : State) (slot : Nat) (fallback : Bool) (tries : Option Nat) :
    ∃ addr len, s.bootLoad slot fallback tries = (s.bootSource addr len slot fallback tries).imgStart 2 := by
  unfold State.bootLoad State.bootSource
  exact ⟨0x20000000 + slot * s.slotSize, s.slotSize, rfl⟩

/-- The boot ROM's LOAD of slot A or B. -/
theorem State.bootLoad_shows (s : State) {slot : Nat} (hslot : slot ≤ 1) (fallback : Bool) (tries : Option Nat) :
    (s.bootLoad slot fallback tries).loadsSlot := by
  obtain ⟨addr, len, heq⟩ := s.bootLoad_eq slot fallback tries
  rw [heq]
  obtain ⟨honly, hkept, hbusy, hcmd⟩ := (s.bootSource addr len slot fallback tries).imgStart_load
  have hset : (s.bootSource addr len slot fallback tries).rd MI.BOOT_STAT.PHASE
      = (2 + slot) % 2 ^ MI.BOOT_STAT.PHASE.width := by
    unfold State.bootSource
    rw [State.bootSet_rd]
    exact State.rd_wr_same _ _ _
  have hphase : ((s.bootSource addr len slot fallback tries).imgStart 2).phase = 2 + slot := by
    rw [State.phase, hkept.rd (by decide), hset]
    exact Nat.mod_eq_of_lt (show 2 + slot < 16 by omega)
  have hboot : ((s.bootSource addr len slot fallback tries).imgStart 2).boot
      = (s.bootSource addr len slot fallback tries).boot := honly .boot (by decide)
  exact ⟨by omega, by rw [hboot]; rfl, hbusy, hcmd⟩

theorem State.bootLoad_kept (s : State) (slot : Nat) (fallback : Bool) (tries : Option Nat) :
    s.regsKept (s.bootLoad slot fallback tries) bootRegs ∧ s.only (s.bootLoad slot fallback tries) [.regs, .boot, .img] := by
  obtain ⟨addr, len, heq⟩ := s.bootLoad_eq slot fallback tries
  rw [heq]
  obtain ⟨honly, hkept, -, -⟩ := (s.bootSource addr len slot fallback tries).imgStart_load
  have hsource : s.regsKept (s.bootSource addr len slot fallback tries) bootRegs :=
    ((State.regsKept.refl s _).wrs (by simp [bootRegs])).trans (.of_regs (State.bootSet_regs _ _) _)
  exact ⟨hsource.trans (hkept.mono (by simp [bootRegs])),
    (State.only.of_withParts (l := [.regs, .boot, .img]) rfl).then honly⟩

/-- The slot that a boot record, or its absence, has the ROM load first is A or B. -/
theorem State.slotChoice_le (s : State) : s.slotChoice.slot ≤ 1 := by
  unfold State.slotChoice
  split
  · exact Nat.zero_le 1
  · unfold recChoice
    dsimp only
    split_ifs <;> simp

/-- Step 3 of R128. -/
theorem State.bootSlots_shows (s : State) :
    if s.fl.density < 32 then s.bootSlots.phase = 4 ∧ s.bootSlots.boot.recovery = true else s.bootSlots.loadsSlot := by
  unfold State.bootSlots
  split
  · exact ⟨(State.bootSet_rd _ _ _).trans (State.rd_wr_same s MI.BOOT_STAT.PHASE 4), rfl⟩
  · exact State.bootLoad_shows _ s.slotChoice_le _ _

theorem State.bootSlots_kept (s : State) :
    s.regsKept s.bootSlots bootRegs ∧ s.only s.bootSlots [.regs, .boot, .img] := by
  unfold State.bootSlots
  split
  · exact ⟨((State.regsKept.refl s bootRegs).wr (f := MI.BOOT_STAT.PHASE) 4 (by simp [bootRegs])).trans
      (.of_regs (State.bootSet_regs _ _) _), .of_withParts rfl⟩
  · have hmark : s.regsKept (if s.slotChoice.exhausted then s.wr MI.RPLY_STAT.TRIAL_EXHAUSTED 1 else s) bootRegs
        ∧ s.only (if s.slotChoice.exhausted then s.wr MI.RPLY_STAT.TRIAL_EXHAUSTED 1 else s) [.regs, .boot, .img] := by
      split
      · exact ⟨(State.regsKept.refl s _).wr _ (by simp [bootRegs]), .of_withParts rfl⟩
      · exact ⟨.refl s _, .refl s _⟩
    obtain ⟨hkept, honly⟩ := State.bootLoad_kept
      (if s.slotChoice.exhausted then s.wr MI.RPLY_STAT.TRIAL_EXHAUSTED 1 else s) s.slotChoice.slot false s.slotChoice.tries
    exact ⟨hmark.1.trans hkept, hmark.2.trans honly⟩

/-- MI's PLL has locked: LOCK shows it, and the boot ROM loads a slot, or is in recovery where the flash is too small. -/
theorem State.miLocks_shows (b : State) :
    bitOf (b.miLocks.rd MI.PLL_STAT.LOCK) 0 = true
      ∧ (if b.fl.density < 32 then b.miLocks.phase = 4 ∧ b.miLocks.boot.recovery = true else b.miLocks.loadsSlot)
      ∧ b.memoriesKept b.miLocks := by
  let r := (b.orF MI.PLL_STAT.LOCK 1).islSet fun l => { l with relock := l.relock.erase 0 }
  let w := r.wrs [(MI.BOOT_STAT.PHASE, 1), (MI.FLASH_STAT.SIZE_MIB, min r.fl.density 128)]
  have hu : b.miLocks = w.locateHead.bootSlots := rfl
  have hlock : bitOf (r.rd MI.PLL_STAT.LOCK) 0 = true := by
    rw [State.islSet_rd]
    exact b.bitOf_orF (f := MI.PLL_STAT.LOCK) (i := 0) (by decide)
  have hw : w.rd MI.PLL_STAT.LOCK = r.rd MI.PLL_STAT.LOCK :=
    State.rd_wrs_ne _ _ (by simp [show MI.PLL_STAT.LOCK.key ≠ MI.BOOT_STAT.PHASE.key by decide,
      show MI.PLL_STAT.LOCK.key ≠ MI.FLASH_STAT.SIZE_MIB.key by decide])
  have hj : w.locateHead.rd MI.PLL_STAT.LOCK = w.rd MI.PLL_STAT.LOCK := w.restKept_locateHead.rd (by decide) (by decide)
  obtain ⟨hkept, honly⟩ := w.locateHead.bootSlots_kept
  have hshows := w.locateHead.bootSlots_shows
  rw [State.locateHead_density] at hshows
  have hparts : b.only b.miLocks [.regs, .out, .isl, .fl, .boot, .img] :=
    State.only.then (State.only.then (State.only.of_withParts rfl) w.only_locateHead) honly
  refine ⟨?_, hshows, hparts.memories⟩
  rw [hu, hkept.rd (by decide), hj, hw]
  exact hlock

/- ## Another island's PLL (R53, R128, R363) -/

/-- The registers of the jump to firmware, and those of TI's schedule time. -/
def jumpRegs : List Field :=
  [MI.WDT_CFG.TIMEOUT_MS, MI.WDT_CFG.WARN_MS, MI.WDT_CFG.GRACE_MS, MI.BOOT_STAT.PHASE, MI.WDT_STAT.REMAIN, TI.SCHED.TIME,
    TI.SEL_STAT.SCHED_VALID]

/-- What the jump and the start of schedule time leave: registers but for `jumpRegs`, and the memories. -/
def State.jumpKept (b u : State) : Prop := b.regsKept u jumpRegs ∧ b.memoriesKept u

section
variable {a b : State}

theorem State.jumpKept.refl (s : State) : s.jumpKept s := ⟨.refl s _, .refl s⟩

theorem State.jumpKept.wr (h : a.jumpKept b) {f : Field} (v : Nat) (hf : f ∈ jumpRegs) : a.jumpKept (b.wr f v) :=
  ⟨h.1.wr v hf, h.2.trans (b.only_wr f v).memories⟩

theorem State.jumpKept.trans {c : State} (h : a.jumpKept b) (h' : b.jumpKept c) : a.jumpKept c :=
  ⟨h.1.trans h'.1, h.2.trans h'.2⟩

theorem State.jumpKept.wrs (h : a.jumpKept b) {l : List (Field × Nat)} (hl : ∀ p ∈ l, p.1 ∈ jumpRegs) : a.jumpKept (b.wrs l) :=
  ⟨h.1.wrs hl, h.2.trans (b.only_wrs l).memories⟩

theorem State.jumpKept.mgSet (h : a.jumpKept b) {f : Mgmt → Mgmt} (hf : (f b.mg).resets = b.mg.resets) :
    a.jumpKept (b.mgSet f) :=
  ⟨h.1.trans (.of_regs (State.mgSet_regs _ _) _), h.2.trans ⟨rfl, rfl, rfl, rfl, rfl, hf⟩⟩

theorem State.jumpKept.bootSet (h : a.jumpKept b) (f : Boot → Boot) : a.jumpKept (b.bootSet f) :=
  ⟨h.1.trans (.of_regs (State.bootSet_regs _ _) _), h.2.trans ⟨rfl, rfl, rfl, rfl, rfl, rfl⟩⟩

theorem State.jumpKept.tiSet (h : a.jumpKept b) (f : TimeIsland → TimeIsland) : a.jumpKept (b.tiSet f) :=
  ⟨h.1.trans (.of_regs (State.tiSet_regs _ _) _), h.2.trans ⟨rfl, rfl, rfl, rfl, rfl, rfl⟩⟩

theorem State.jumpKept.emit (h : a.jumpKept b) (o : Output) : a.jumpKept (b.emit o) :=
  ⟨h.1.trans (.of_regs (State.emit_regs _ _) _), h.2.trans (b.only_emit o).memories⟩

end

theorem State.jumpKept_validate (s : State) : s.jumpKept s.validate := by
  unfold State.validate
  split
  · exact .refl s
  · exact ((State.jumpKept.refl s).wr (f := TI.SEL_STAT.SCHED_VALID) 1 (by simp [jumpRegs])).tiSet _

theorem State.jumpKept_wdtReload (s : State) : s.jumpKept s.wdtReload := by
  unfold State.wdtReload
  exact State.jumpKept.mgSet ((State.jumpKept.refl s).wr _ (by simp [jumpRegs])) rfl

theorem State.jumpKept_tryJump (s : State) : s.jumpKept s.tryJump := by
  unfold State.tryJump
  split
  · exact (((State.jumpKept.mgSet ((State.jumpKept.refl s).wrs (by simp [jumpRegs])) rfl).trans
      (State.jumpKept_wdtReload _)).bootSet _).emit _
  · exact .refl s

/-- TI's schedule time starts where TI's PLL locks. -/
def State.scheduleStart (s : State) : State :=
  let s' := s.wr TI.SCHED.TIME 0
  if s'.ringUsed then s' else s'.validate

theorem State.jumpKept_scheduleStart (s : State) : s.jumpKept s.scheduleStart := by
  have h : s.jumpKept (s.wr TI.SCHED.TIME 0) := (State.jumpKept.refl s).wr _ (by simp [jumpRegs])
  unfold State.scheduleStart
  dsimp only
  split
  · exact h
  · exact h.trans (State.jumpKept_validate _)

/-- The lock of an island's PLL is recorded. -/
def State.pllRises (s : State) (i : Nat) : State :=
  (s.orF MI.PLL_STAT.LOCK (2 ^ i)).islSet fun l => { l with relock := l.relock.erase i }

/-- An island that comes up runs, and its monitor counts. -/
def State.lockedUp (s : State) (i : Nat) : State := ((s.pllRises i).setIsl i 1).wr (MI.PMON_CFG.EN i) 1

theorem State.islandLocks_eq {b : State} {i : Nat} (hisl : b.isl? i = 2) (htrip : b.tripped i = false) :
    b.islandLocks i = (if i = 2 then (b.lockedUp i).scheduleStart else b.lockedUp i).tryJump := by
  have hr : (b.pllRises i).isl? i = 2 := by
    rw [State.isl?, State.pllRises, State.islSet_rd, State.rd_orF_ne _ _ (by decide)]
    exact hisl
  have ht : (b.pllRises i).tripped i = false := htrip
  unfold State.lockedUp State.scheduleStart State.islandLocks
  rw [← State.pllRises.eq_1 b i]
  by_cases h2 : i = 2
  · subst h2
    simp only [hr, ht, and_self, if_true]
  · simp only [hr, ht, h2, and_self, false_and, if_true, if_false]

/-- The monitors' registers. -/
theorem pmonEn_key (i : Nat) : (MI.PMON_CFG.EN i).key = 16400 + 512 * i := by
  simp only [MI.PMON_CFG.EN, Field.key]; omega

theorem State.lockedUp_shows (b : State) {i : Nat} (hi : i < 16) :
    bitOf ((b.lockedUp i).rd MI.PLL_STAT.LOCK) i = true ∧ (b.lockedUp i).isl? i = 1 ∧ (b.lockedUp i).rd (MI.PMON_CFG.EN i) = 1
      ∧ b.memoriesKept (b.lockedUp i) := by
  have hlock : bitOf ((b.pllRises i).rd MI.PLL_STAT.LOCK) i = true := by
    rw [State.pllRises, State.islSet_rd]
    exact b.bitOf_orF hi
  have hkey := pmonEn_key i
  have hne : ∀ f : Field, f.key < 16400 ∨ 24592 ≤ f.key → (b.lockedUp i).rd f = ((b.pllRises i).setIsl i 1).rd f :=
    fun f hf => State.rd_wr_ne _ _ (by omega)
  refine ⟨?_, ?_, State.rd_wr_same ((b.pllRises i).setIsl i 1) (MI.PMON_CFG.EN i) 1, ?_⟩
  · rw [hne _ (by decide), ((b.pllRises i).regsKept_setIsl i 1).rd (by decide)]
    exact hlock
  · rw [State.isl?, hne _ (by decide), ← State.isl?]
    exact (b.pllRises i).isl?_setIsl_same hi 1
  · exact ⟨rfl, rfl, rfl, rfl, rfl, rfl⟩

/-- An island that comes up at its lock runs, and its monitor counts. -/
theorem State.islandLocks_shows {b : State} {i : Nat} (hi : i < 16) (hisl : b.isl? i = 2) (htrip : b.tripped i = false) :
    bitOf ((b.islandLocks i).rd MI.PLL_STAT.LOCK) i = true ∧ (b.islandLocks i).isl? i = 1
      ∧ (b.islandLocks i).rd (MI.PMON_CFG.EN i) = 1 ∧ b.memoriesKept (b.islandLocks i) := by
  obtain ⟨hlock, hrun, hen, hmem⟩ := b.lockedUp_shows hi
  obtain ⟨hkept, hmem'⟩ : (b.lockedUp i).jumpKept (b.islandLocks i) := by
    rw [State.islandLocks_eq hisl htrip]
    split
    · exact (State.jumpKept_scheduleStart _).trans (State.jumpKept_tryJump _)
    · exact State.jumpKept_tryJump _
  have hmon : ∀ g ∈ jumpRegs, (MI.PMON_CFG.EN i).key ≠ g.key := by
    have hkey := pmonEn_key i
    have hreg : ∀ g ∈ jumpRegs, g.key < 16400 ∨ 24592 ≤ g.key := by decide
    intro g hg
    have := hreg g hg
    omega
  refine ⟨?_, ?_, ?_, hmem.trans hmem'⟩
  · rwa [hkept.rd (by decide)]
  · rwa [State.isl?, hkept.rd (by decide)]
  · rwa [hkept.rd hmon]

/-- Settles O18: the releases by `tryStart`, MI's lock by what the boot ROM does up to its LOAD, another island's lock by what
the start of schedule time and the jump to firmware leave alone. -/
theorem startUpFollowsTheReleases : Obligations.StartUpFollowsTheReleases := by
  unfold Obligations.StartUpFollowsTheReleases
  refine ⟨?releases, ?always, ?miLock, ?islandLock⟩
  case releases =>
    intro t s hheld hao
    exact ⟨.of_eq rfl (State.resetRelease_shows hheld hao), .of_eq rfl (State.coreRelease_shows hheld hao)⟩
  case always => exact fun t s hheld => .of_eq rfl (State.aoRelease_shows hheld)
  case miLock =>
    intro t s hheld hlock
    have heq : (s.begin t).pllLock 0 = (s.begin t).miLocks := by
      unfold State.pllLock
      rw [hheld, hlock]
      rfl
    exact .next rfl heq (State.miLocks_shows _)
  case islandLock =>
    intro i t s h2 hi hheld hlock hisl htrip
    have heq : (s.begin t).pllLock i = (s.begin t).islandLocks i := by
      unfold State.pllLock
      rw [hheld, hlock, if_neg (by decide), if_neg (by omega)]
    exact .next rfl heq (State.islandLocks_shows hi hisl htrip)

/- ## A pipeline and its contexts (R217) -/

section
variable (s : State)

theorem State.only_setPipe (k : Nat) (p : Pipe) : s.only (s.setPipe k p) [.pa, .pb] := by
  unfold State.setPipe
  split <;> exact .of_withParts rfl

@[simp] theorem State.pipe_setPipe_same (k : Nat) (p : Pipe) : (s.setPipe k p).pipe k = p := by
  unfold State.setPipe State.pipe
  split <;> rfl

/-- The other pipeline. -/
theorem State.pipe_setPipe_other {k : Nat} (hk : k < 2) (p : Pipe) : (s.setPipe k p).pipe (1 - k) = s.pipe (1 - k) := by
  obtain rfl | rfl : k = 0 ∨ k = 1 := by omega
  · rfl
  · rfl

/-- An update of a pipeline that leaves its contexts. -/
theorem State.ctxs_setPipe {k : Nat} {p : Pipe} (h : p.ctxs = (s.pipe k).ctxs) (j : Nat) :
    ((s.setPipe k p).pipe j).ctxs = (s.pipe j).ctxs := by
  unfold State.pipe at h
  unfold State.setPipe State.pipe
  split_ifs at h ⊢ <;> first | exact h | rfl

@[simp] theorem State.ctx?_setCtx_same (x : CtxId) (c : Ctx) : (s.setCtx x c).ctx? x = some c := by
  simp [State.ctx?, State.setCtx]

theorem State.ctxs_setCtx_ne (x : CtxId) (c : Ctx) {k : Nat} (h : k ≠ ctxKey x) :
    nget ((s.setCtx x c).pipe x.pipe).ctxs k = nget (s.pipe x.pipe).ctxs k := by
  simp [State.setCtx, nget_nset_ne _ _ h]

theorem State.ctx?_of_ctxs {a b : State} (h : ∀ k, (b.pipe k).ctxs = (a.pipe k).ctxs) (x : CtxId) : b.ctx? x = a.ctx? x := by
  unfold State.ctx?
  rw [h]

theorem State.only_setCtx (x : CtxId) (c : Ctx) : s.only (s.setCtx x c) [.pa, .pb] := s.only_setPipe _ _

theorem State.rd_setCtx (x : CtxId) (c : Ctx) (f : Field) : (s.setCtx x c).rd f = s.rd f := (s.only_setCtx x c).rd f

end

/- ## What issuing records (R217, R232, R552 to R557) -/

/-- Fields that issuing and sampling leave: those outside the pipelines, and those of a pipeline that stand before its
control store. -/
def Field.offRecord (f : Field) : Prop :=
  f.moving = false ∧ (f.key < 0x14000000 ∨ 0x1C000000 ≤ f.key ∨ f.key % 0x4000000 < 0x18000)

/-- The fields of a pipeline from its control store on. -/
def Field.inRecord (g : Field) (k : Nat) : Prop := g.isl = 5 + k ∧ 0x600 ≤ g.off ∧ g.off < 0xF0000 ∧ g.lo < 64

theorem Field.inRecord.of_place {g : Field} {k : Nat} (o l : Nat) (hisl : g.isl = 5 + k) (ho : g.off = o) (hl : g.lo = l)
    (h : 0x600 ≤ o ∧ o < 0xF0000 ∧ l < 64 := by decide) : g.inRecord k := ⟨hisl, ho ▸ h.1, ho ▸ h.2.1, hl ▸ h.2.2⟩

theorem Field.offRecord.key_ne {f g : Field} {k : Nat} (hf : f.offRecord) (hg : g.inRecord k) (hk : k < 2) : f.key ≠ g.key := by
  obtain ⟨-, hf⟩ := hf
  obtain ⟨hisl, hlo, hhi, hbit⟩ := hg
  have hkey : g.key = (g.isl * 0x100000 + g.off) * 64 + g.lo := rfl
  omega

/-- From `b` to `u` an instruction of context `x` may have been counted, chosen and recorded: every context, the other
pipeline, the memories and the fields of `Field.offRecord` are as they were. -/
structure State.recordKept (b u : State) (x : CtxId) : Prop where
  ctxs : ∀ k, (u.pipe k).ctxs = (b.pipe k).ctxs
  other : u.pipe (1 - x.pipe) = b.pipe (1 - x.pipe)
  memories : b.memoriesKept u
  rd : ∀ f : Field, f.offRecord → u.rd f = b.rd f

section
variable {a b : State} {x : CtxId}

theorem State.recordKept.refl (s : State) (x : CtxId) : s.recordKept s x := ⟨fun _ => rfl, rfl, .refl s, fun _ _ => rfl⟩

theorem State.recordKept.trans {c : State} (h : a.recordKept b x) (h' : b.recordKept c x) : a.recordKept c x :=
  ⟨fun k => (h'.ctxs k).trans (h.ctxs k), h'.other.trans h.other, h.memories.trans h'.memories,
    fun f hf => (h'.rd f hf).trans (h.rd f hf)⟩

/-- An operation that touches neither pipeline nor memory, and only registers of the record. -/
theorem State.recordKept.of_only {l : List StatePart} (ho : a.only b l) (hr : ∀ f : Field, f.offRecord → b.rd f = a.rd f)
    (hl : l ∩ [.pa, .pb, .sram, .dram, .flash, .host, .di, .mg] = [] := by decide) : a.recordKept b x := by
  have hp : ∀ p ∈ [StatePart.pa, .pb, .sram, .dram, .flash, .host, .di, .mg], p.same a b := fun p hp =>
    ho p fun hpl => List.eq_nil_iff_forall_not_mem.1 hl p (List.mem_inter_iff.2 ⟨hpl, hp⟩)
  have hpipe : ∀ k, b.pipe k = a.pipe k := by
    intro k
    unfold State.pipe
    rw [show b.pa = a.pa from hp .pa (by simp), show b.pb = a.pb from hp .pb (by simp)]
  have hdi : b.di = a.di := hp .di (by simp)
  have hmg : b.mg = a.mg := hp .mg (by simp)
  exact ⟨fun k => by rw [hpipe], hpipe _, ⟨hp .sram (by simp), hp .dram (by simp), hp .flash (by simp), hp .host (by simp),
    by rw [hdi], by rw [hmg]⟩, hr⟩

variable (hx : x.pipe < 2)
include hx

theorem State.recordKept.wr (h : a.recordKept b x) {g : Field} (v : Nat) (hg : g.inRecord x.pipe) : a.recordKept (b.wr g v) x :=
  h.trans (.of_only (b.only_wr g v) fun _ hf => b.rd_wr_ne v (hf.key_ne hg hx))

theorem State.recordKept.addOvf (h : a.recordKept b x) {f o : Field} (bits n : Nat) (hf : f.inRecord x.pipe)
    (ho : o.inRecord x.pipe) : a.recordKept (b.addOvf f o bits n) x := by
  unfold State.addOvf
  split
  · exact (h.wr hx _ hf).wr hx _ ho
  · exact h.wr hx _ hf

theorem State.recordKept.count (h : a.recordKept b x) (ev n : Nat) : a.recordKept (b.count (5 + x.pipe) ev n) x :=
  h.trans (.of_only (b.only_count _ ev n) fun _ hf => (b.restKept_count ev n (by omega)).rd hf.1 (by simp))

theorem State.recordKept.setPipe (h : a.recordKept b x) {p : Pipe} (hp : p.ctxs = (b.pipe x.pipe).ctxs) :
    a.recordKept (b.setPipe x.pipe p) x :=
  h.trans ⟨b.ctxs_setPipe hp, b.pipe_setPipe_other hx p, (b.only_setPipe _ p).memories, fun f _ => b.setPipe_rd _ p f⟩

omit hx in
theorem State.recordKept.raiseIf (h : a.recordKept b x) (y : Bool) {n : Nat} (hn : n < 128) : a.recordKept (b.raiseIf y n) x :=
  h.trans (.of_only (b.only_raiseIf y n) fun _ hf => (b.restKept_raiseIf y hn).rd hf.1 (by simp))

omit hx in
theorem State.recordKept.dramAsk (h : a.recordKept b x) (who : DramWho) (wr : Bool) (p n : Nat) (l : Frame) :
    a.recordKept (b.dramAsk who wr p n l) x :=
  h.trans ⟨fun _ => rfl, rfl, ⟨rfl, rfl, rfl, rfl, rfl, rfl⟩, fun _ _ => rfl⟩

theorem State.recordKept_noteIssue (s : State) : s.recordKept (s.noteIssue x) x :=
  ((State.recordKept.refl s x).setPipe hx (by rfl)).count hx _ _

theorem State.recordKept_stepSample (s : State) (c : Ctx) : s.recordKept (s.stepSample x c).2 x := by
  unfold State.stepSample
  dsimp only
  split
  · exact (State.recordKept.refl s x).setPipe hx rfl
  · exact .refl s x

theorem State.recordKept_fetchEcc (s : State) (ecc : Ecc) : s.recordKept (s.fetchEcc x.pipe ecc) x := by
  cases ecc with
  | clean => exact .refl s x
  | corrected =>
    exact (State.recordKept.refl s x).addOvf hx _ _ (.of_place 0x620 32 rfl rfl rfl) (.of_place 0x620 2 rfl rfl rfl)
  | uncorrectable =>
    have h : (P.CS_STAT.ECC_UNCORR x.pipe).inRecord x.pipe := .of_place 0x620 1 rfl rfl rfl
    exact ((State.recordKept.refl s x).wr hx 1 h).raiseIf _ (by omega)

theorem State.recordKept.sampleToDram (h : a.recordKept b x) (idx e : Nat) : a.recordKept (b.sampleToDram x.pipe idx e) x := by
  unfold State.sampleToDram
  split
  · exact h
  · split
    · exact h.dramAsk _ _ _ _ _
    · exact h.addOvf hx _ _ (.of_place 0x710 56 rfl rfl rfl) (.of_place 0x710 50 rfl rfl rfl)

omit hx in
theorem psBuf_inRecord (k idx j : Nat) (hj : j < 2) : (P.PS_BUF.DATA k (idx % 1024) j).inRecord k := by
  refine ⟨rfl, ?_, ?_, show 0 < 64 by decide⟩ <;> simp only [P.PS_BUF.DATA] <;> omega

/-- The entry of a chosen instruction is stored (R554, R557). -/
def State.sampleStored (s : State) (k idx e n : Nat) : State :=
  let s1 := (s.wr (P.PS_BUF.DATA k (idx % 1024) 0) e).wr (P.PS_BUF.DATA k (idx % 1024) 1) (e / 2 ^ 64)
  ((s1.addF (P.PS_STAT.WR_IDX k) 1).setPipe k { s1.pipe k with sampledSinceEn := n + 1 }).sampleToDram k idx e

theorem State.recordKept_sampleStored (s : State) (idx e n : Nat) : s.recordKept (s.sampleStored x.pipe idx e n) x := by
  have hbuf := ((State.recordKept.refl s x).wr hx e (psBuf_inRecord x.pipe idx 0 (by decide))).wr hx (e / 2 ^ 64)
    (psBuf_inRecord x.pipe idx 1 (by decide))
  have hidx : (P.PS_STAT.WR_IDX x.pipe).inRecord x.pipe := .of_place 0x710 0 rfl rfl rfl
  unfold State.sampleStored
  refine State.recordKept.sampleToDram hx (State.recordKept.setPipe hx (hbuf.wr hx _ hidx) ?_) idx e
  simp only [fun (u : State) f v => (u.only_wr f v).pipe x.pipe]

theorem State.recordKept_recordSample (s : State) (c : Ctx) (addr outcome : Nat) :
    s.recordKept (s.recordSample x c addr outcome) x := by
  unfold State.recordSample
  dsimp only
  split
  · exact (State.recordKept.refl s x).addOvf hx _ _ (.of_place 0x710 32 rfl rfl rfl) (.of_place 0x710 50 rfl rfl rfl)
  · have hstored := State.recordKept_sampleStored hx s (s.rd (P.PS_STAT.WR_IDX x.pipe)) (sampleEntry x c addr outcome s.time)
      (s.pipe x.pipe).sampledSinceEn
    have hfull : (P.PS_STAT.FULL x.pipe).inRecord x.pipe := .of_place 0x710 48 rfl rfl rfl
    have hseen : (P.PS_STAT.FULL_SEEN x.pipe).inRecord x.pipe := .of_place 0x710 49 rfl rfl rfl
    split
    · exact ((hstored.wr hx 1 hfull).wr hx 1 hseen).raiseIf _ (by omega)
    · exact hstored

theorem State.recordKept_sampleIf (s : State) (y : Bool) (c : Ctx) (addr outcome : Nat) :
    s.recordKept (s.sampleIf y x c addr outcome) x := by
  unfold State.sampleIf
  split
  · exact State.recordKept_recordSample hx s c addr outcome
  · exact .refl s x

end

/- ## One issued instruction (R217) -/

/-- The context as its instruction issues: one more issued, the waits for a response credit and for a corrected fetch noted. -/
def Ctx.issuing (c : Ctx) (b : State) (ecc : Ecc) : Ctx :=
  let waited := match c.creditSince with
    | some a => c.stalled 3 (b.time - a)
    | none => c
  if ecc = .corrected then { waited with issued := c.issued + 1 }.stalled 5 2 else { waited with issued := c.issued + 1 }

/-- Whether the selector chooses the instruction, and the state in which it takes effect. -/
def State.chosen (b : State) (x : CtxId) (c : Ctx) (ecc : Ecc) : Bool := ((b.noteIssue x).stepSample x (c.issuing b ecc)).1
def State.readied (b : State) (x : CtxId) (c : Ctx) (ecc : Ecc) : State :=
  ((b.noteIssue x).stepSample x (c.issuing b ecc)).2.fetchEcc x.pipe ecc

/-- An issuing context differs from the one it was in what it has issued and in its stalls. -/
theorem Ctx.issuing_eq (c : Ctx) (b : State) (ecc : Ecc) :
    ∃ l, c.issuing b ecc = { c with issued := c.issued + 1, stall := l } := by
  unfold Ctx.issuing
  dsimp only
  split <;> split <;> exact ⟨_, rfl⟩

/-- How an issued instruction goes on. -/
def State.goesOn (b : State) (x : CtxId) (c : Ctx) (ecc : Ecc) (r : Retire) : State :=
  let recorded := (b.readied x c ecc).sampleIf (b.chosen x c ecc) x (c.issuing b ecc) (c.issuing b ecc).pc
  match r with
  | .next s3 c3 => s3.retireAt x c3 (b.chosen x c ecc) (c.issuing b ecc).pc 0
  | .fault code data => (recorded 2).jugFault x (c.issuing b ecc) code data (c.issuing b ecc).pc
  | .wait s3 c3 => s3.setCtx x { c3 with sampled := b.chosen x c ecc }
  | .stay => b.setCtx x { c with creditSince := some (c.creditSince.getD b.time) }
  | .ended k => k (recorded 0)

/-- An instruction that issues takes its effect on the readied state. -/
theorem State.issue_eq {b : State} {x : CtxId} {c : Ctx} {ecc : Ecc} {row : State → Ctx → Micro → Bool}
    (eff : State → CtxId → Ctx → Micro → Retire) (h : b.issues x c ecc) (hrow : row b c (microOf (b.fetch x c)) = true) :
    b.issue x ecc false row eff
      = b.goesOn x c ecc (eff (b.readied x c ecc) x (c.issuing b ecc) (microOf (b.fetch x c))) := by
  obtain ⟨hctx, hmay, hecc, hcond, hholds⟩ := h
  obtain ⟨l, hl⟩ := c.issuing_eq b ecc
  have hh : (c.issuing b ecc).holds (microOf (b.fetch x c)).cond = true := by
    rw [hl]
    exact hholds
  have hbranches : ∃ uncorrectable unlisted skipped, b.issue x ecc false row eff =
      if b.mayIssue x c && row b c (microOf (b.fetch x c)) then
        if ecc = .uncorrectable then uncorrectable
        else if !(microOf (b.fetch x c)).condListed then unlisted
        else if false || (c.issuing b ecc).holds (microOf (b.fetch x c)).cond then
          b.goesOn x c ecc (eff (b.readied x c ecc) x (c.issuing b ecc) (microOf (b.fetch x c)))
        else skipped
      else b := by
    unfold State.issue State.goesOn
    rw [hctx]
    exact ⟨_, _, _, rfl⟩
  obtain ⟨_, _, _, heq⟩ := hbranches
  rw [heq, hmay, hrow, if_pos (by rfl), if_neg hecc, hcond, if_neg (by decide), hh, if_pos (by rfl)]

/- ## What an issued instruction leaves (R217, R236) -/

/-- The context with its next instruction from the cycle after `now`. -/
def Ctx.settled (c : Ctx) (now : Nat) : Ctx :=
  { c with readyAt := now + 2, stall := c.afterEmit, creditSince := none, sampled := false,
           gw := c.gw.map fun g => { g with copying := 0 } }

theorem State.retireAt_eq (s : State) (x : CtxId) (c : Ctx) (y : Bool) (addr outcome : Nat) :
    s.retireAt x c y addr outcome = (s.sampleIf y x c addr outcome).setCtx x (c.settled s.time) := rfl

/-- The place of a context that issues. -/
theorem State.issues.place {b : State} {x : CtxId} {c : Ctx} {ecc : Ecc} (h : b.issues x c ecc) :
    x.pipe < 2 ∧ x.jug < 16 ∧ x.ctx < 4 := by
  obtain ⟨-, hmay, -⟩ := h
  simp only [State.mayIssue, Bool.and_eq_true, decide_eq_true_eq] at hmay
  obtain ⟨⟨⟨⟨⟨hpipe, hjug⟩, hctx⟩, -⟩, -⟩, -⟩ := hmay
  exact ⟨hpipe, hjug, hctx⟩

section
variable {x : CtxId} (hx : x.pipe < 2) (b : State) (c : Ctx)
include hx

theorem State.recordKept_readied (ecc : Ecc) : b.recordKept (b.readied x c ecc) x :=
  ((State.recordKept_noteIssue hx b).trans (State.recordKept_stepSample hx _ _)).trans (State.recordKept_fetchEcc hx _ ecc)

theorem State.restKept_noteIssue : b.restKept (b.noteIssue x) [] :=
  ((State.restKept.refl b []).regs (b.setPipe_regs _ _)).count _ _ (by omega)

/-- With the sampler off and no error on the fetch, issuing moves counters only. -/
theorem State.readied_quiet (hen : b.isSet (P.PS_CFG.EN x.pipe) = false) :
    b.chosen x c .clean = false ∧ b.restKept (b.readied x c .clean) [] := by
  have hmoving : (P.PS_CFG.EN x.pipe).moving = false :=
    Field.not_moving_of_place (show 0 < 5 + x.pipe by omega) (show 0x700 < 0xF0100 by decide) (show 0 < 64 by decide)
  have hoff : (b.noteIssue x).isSet (P.PS_CFG.EN x.pipe) = false := by
    rw [← hen, State.isSet, State.isSet, (State.restKept_noteIssue hx b).rd hmoving (by simp)]
  have hstep : (b.noteIssue x).stepSample x (c.issuing b .clean) = (false, b.noteIssue x) := by
    simp [State.stepSample, hoff]
  unfold State.chosen State.readied
  rw [hstep]
  exact ⟨rfl, State.restKept_noteIssue hx b⟩

end

theorem State.only_noteIssue (b : State) (x : CtxId) : b.only (b.noteIssue x) [.regs, .out, .pa, .pb] :=
  ((State.only.refl b _).then (b.only_setPipe _ _)).then (State.only_count _ _ _ _)

theorem State.only_stepSample (b : State) (x : CtxId) (c : Ctx) : b.only (b.stepSample x c).2 [.pa, .pb] := by
  unfold State.stepSample
  dsimp only
  split
  · exact b.only_setPipe _ _
  · exact .refl b _

theorem State.only_fetchEcc (b : State) (k : Nat) (ecc : Ecc) : b.only (b.fetchEcc k ecc) [.regs, .out] := by
  cases ecc with
  | clean => exact .refl b _
  | corrected => exact (b.only_addOvf _ _ _ _).mono
  | uncorrectable => exact ((State.only.refl b _).then (b.only_wr _ _)).then (State.only_raiseIf _ _ _)

theorem State.only_readied (b : State) (x : CtxId) (c : Ctx) (ecc : Ecc) : b.only (b.readied x c ecc) [.regs, .out, .pa, .pb] :=
  ((b.only_noteIssue x).then (State.only_stepSample _ _ _)).then (State.only_fetchEcc _ _ _)

theorem State.only_sampleToDram (b : State) (k idx e : Nat) : b.only (b.sampleToDram k idx e) [.regs, .di] := by
  unfold State.sampleToDram
  split
  · exact .refl b _
  · split
    · exact .of_withParts rfl
    · exact (b.only_addOvf _ _ _ _).mono

theorem State.only_recordSample (b : State) (x : CtxId) (c : Ctx) (addr outcome : Nat) :
    b.only (b.recordSample x c addr outcome) [.regs, .out, .pa, .pb, .di] := by
  have hstored : ∀ idx e n, b.only (b.sampleStored x.pipe idx e n) [.regs, .out, .pa, .pb, .di] := fun idx e n =>
    ((((State.only.refl b _).then (b.only_wr _ _)).then (State.only_wr _ _ _)).then (State.only_wr _ _ _)).trans
      (((State.only_setPipe _ _ _).mono).then (State.only_sampleToDram _ _ _ _))
  unfold State.recordSample
  dsimp only
  split
  · exact (b.only_addOvf _ _ _ _).mono
  · split
    · exact ((hstored _ _ _).then (State.only_wrs _ _)).then (State.only_raiseIf _ _ _)
    · exact hstored _ _ _

theorem State.only_sampleIf (b : State) (y : Bool) (x : CtxId) (c : Ctx) (addr outcome : Nat) :
    b.only (b.sampleIf y x c addr outcome) [.regs, .out, .pa, .pb, .di] := by
  unfold State.sampleIf
  split
  · exact b.only_recordSample x c addr outcome
  · exact .refl b _

/-- An instruction retires: `s3` and `c3` are what its effect left, `v` what it was to leave of the context. -/
theorem State.retires_of_effect {b s3 : State} {x : CtxId} {ecc : Ecc} {c3 v : Ctx} {y : Bool} {addr outcome : Nat}
    (hx : x.pipe < 2) (hkept : b.recordKept s3 x) (hv : c3.settled b.time = v.retired b.time)
    (hquiet : ecc = .clean → b.isSet (P.PS_CFG.EN x.pipe) = false → y = false ∧ b.restKept s3 []) :
    b.retires (s3.retireAt x c3 y addr outcome) x ecc v := by
  have htime : s3.time = b.time := hkept.rd _ ⟨by decide, by decide⟩
  have hrec := hkept.trans (State.recordKept_sampleIf hx s3 y c3 addr outcome)
  rw [State.retireAt_eq, htime, hv]
  refine ⟨State.ctx?_setCtx_same _ _ _, fun k hk => ?_, ?_, ?_, fun hecc hen => ?_⟩
  · rw [State.ctxs_setCtx_ne _ _ _ hk, hrec.ctxs]
  · exact (State.pipe_setPipe_other _ hx _).trans hrec.other
  · exact hrec.memories.trans (State.only_setCtx _ _ _).memories
  · obtain ⟨rfl, hrest⟩ := hquiet hecc hen
    exact hrest.regs (State.setPipe_regs _ _ _)

/- ## SWAIT and the searches' results (R225 to R227, R272) -/

section
variable {s : State} {x : CtxId} {c : Ctx} {m : Micro}

theorem effSwait_pending (hslot : m.slot ∈ c.issuedSlots) (hst : c.slotStatus m.slot = 0xFF) :
    effSwait s x c m = .wait s { c with swait := some m.slot } := by
  simp [effSwait, hslot, hst]

theorem effSwait_answered (hslot : m.slot ∈ c.issuedSlots) (hst : c.slotStatus m.slot ≠ 0xFF) (hlost : c.slotStatus m.slot ≠ 2) :
    effSwait s x c m = .next s { c with
      hit := c.slotStatus m.slot == 1, swait := none,
      lastHit := if c.slotStatus m.slot = 1 then c.slotIndex m.slot else c.lastHit }.stepPc := by
  simp [effSwait, swaitDone, hslot, hst, hlost]

theorem effSwait_lost (hslot : m.slot ∈ c.issuedSlots) (hlost : c.slotStatus m.slot = 2) :
    effSwait s x c m = .ended fun s => s.endLost x c := by
  simp [effSwait, swaitDone, hslot, hlost]

end

/-- SWAIT on a pending slot holds the context there. -/
theorem State.swait_waits {b : State} {x : CtxId} {c : Ctx} {ecc : Ecc} (h : b.issues x c ecc)
    (hop : (microOf (b.fetch x c)).op = 0x0B) (hslot : (microOf (b.fetch x c)).slot ∈ c.issuedSlots)
    (hst : c.slotStatus (microOf (b.fetch x c)).slot = 0xFF) :
    let u := b.issue x ecc false (rowOp 0x0B) effSwait
    (∃ v, u.ctx? x = some v ∧ v.swait = some (microOf (b.fetch x c)).slot ∧ v.pc = c.pc ∧ v.phv = c.phv
        ∧ v.issued = c.issued + 1)
      ∧ b.memoriesKept u := by
  obtain ⟨hx, -, -⟩ := h.place
  obtain ⟨l, hl⟩ := c.issuing_eq b ecc
  intro u
  have hu : u = (b.readied x c ecc).setCtx x { c.issuing b ecc with
      swait := some (microOf (b.fetch x c)).slot, sampled := b.chosen x c ecc } := by
    show b.issue x ecc false (rowOp 0x0B) effSwait = _
    rw [State.issue_eq effSwait h (by simp [rowOp, hop]), effSwait_pending (by rw [hl]; exact hslot) (by rw [hl]; exact hst)]
    rfl
  rw [hu]
  refine ⟨⟨_, State.ctx?_setCtx_same _ _ _, rfl, ?_, ?_, ?_⟩,
    (State.recordKept_readied hx b c ecc).memories.trans (State.only_setCtx _ _ _).memories⟩ <;> rw [hl]

/-- SWAIT on a hit or a miss sets HIT and goes on. -/
theorem State.swait_goes {b : State} {x : CtxId} {c : Ctx} {ecc : Ecc} (h : b.issues x c ecc)
    (hop : (microOf (b.fetch x c)).op = 0x0B) (hslot : (microOf (b.fetch x c)).slot ∈ c.issuedSlots)
    (hst : c.slotStatus (microOf (b.fetch x c)).slot ≠ 0xFF) (hlost : c.slotStatus (microOf (b.fetch x c)).slot ≠ 2) :
    b.retires (b.issue x ecc false (rowOp 0x0B) effSwait) x ecc { c with
      hit := c.slotStatus (microOf (b.fetch x c)).slot == 1, swait := none,
      lastHit := if c.slotStatus (microOf (b.fetch x c)).slot = 1 then c.slotIndex (microOf (b.fetch x c)).slot
        else c.lastHit }.stepPc := by
  obtain ⟨hx, -, -⟩ := h.place
  obtain ⟨l, hl⟩ := c.issuing_eq b ecc
  rw [State.issue_eq effSwait h (by simp [rowOp, hop]),
    effSwait_answered (by rw [hl]; exact hslot) (by rw [hl]; exact hst) (by rw [hl]; exact hlost)]
  refine State.retires_of_effect hx (State.recordKept_readied hx b c ecc) ?_ fun hecc hen => ?_
  · rw [hl]; rfl
  · subst hecc
    exact State.readied_quiet hx b c hen

/-- A result returns to a context that does not wait for it: it stands in its slot. -/
theorem State.searchResponse_fills {b : State} {id st a i l : Nat} {r : SearchReq} {c : Ctx}
    (hreq : b.si.reqs.find? (fun r => r.id = id) = some r) (hres : r.result = some (st, a, i, l)) (hctx : b.ctx? r.ctx = some c)
    (hdone : c.done = false) (hwait : c.swait ≠ some r.slot) :
    b.searchResponse id = ({ b with si := { b.si with reqs := b.si.reqs.filter fun q => q.id ≠ id } }).setCtx r.ctx
      { c with
        outstanding := c.outstanding.filter fun o => o.2 ≠ r.id,
        phv := patchAt c.phv (0x140 + 16 * r.slot)
          (beBytes 8 a ++ beBytes 2 i ++ beBytes 1 st ++ beBytes 1 l ++ beBytes 4 0) } := by
  have hctx' : ({ b with si := { b.si with reqs := b.si.reqs.filter fun q => q.id ≠ id } } : State).ctx? r.ctx = some c := hctx
  unfold State.searchResponse
  rw [hreq]
  dsimp only
  rw [hres]
  unfold State.slotFilled
  dsimp only
  rw [hctx']
  dsimp only
  rw [hdone, if_neg (by decide), if_neg (by exact hwait)]
  rfl

/- ## SRCH (R58, R225) -/

section
variable {b u : State} (hrd : ∀ f : Field, f.offRecord → u.rd f = b.rd f)
include hrd

/-- The slices' configuration is none of what issuing records. -/
theorem State.rd_sliceCfg {f : Field} (hisl : f.isl = 7) (hoff : f.off < 0xF0100) (hlo : f.lo < 64) : u.rd f = b.rd f := by
  refine hrd f ⟨Field.not_moving_of_place (by omega) hoff hlo, .inr (.inl ?_)⟩
  have hkey : f.key = (f.isl * 0x100000 + f.off) * 64 + f.lo := rfl
  omega

theorem State.keyLen_of_rd (table : Nat) : u.keyLen table = b.keyLen table := by
  unfold State.keyLen
  by_cases h : table < 8
  · have hwidth : u.rd (SI.SLICE_CFG.WIDTH table) = b.rd (SI.SLICE_CFG.WIDTH table) :=
      State.rd_sliceCfg hrd rfl (show 0x0 + 0x8 * table < 0xF0100 by omega) (show 0 < 64 by decide)
    rw [if_pos h, if_pos h, State.sliceWidth, State.sliceWidth, hwidth]
  · rw [if_neg h, if_neg h]

theorem State.isCascade_of_rd (table : Nat) : u.isCascade table = b.isCascade table := by
  unfold State.isCascade
  by_cases h : table < 8
  · have hmode : u.rd (SI.SLICE_CFG.MODE table) = b.rd (SI.SLICE_CFG.MODE table) :=
      State.rd_sliceCfg hrd rfl (show 0x0 + 0x8 * table < 0xF0100 by omega) (show 6 < 64 by decide)
    rw [State.isSet, State.isSet, hmode]
  · simp [h]

theorem State.searchCredit_of_rd (hsi : u.si = b.si) (hchans : u.chans = b.chans) (k table : Nat) :
    u.searchCredit k table = b.searchCredit k table := by
  have hcasc : u.isCascade = b.isCascade := funext (State.isCascade_of_rd hrd)
  have hsend : u.canSend (searchChan k) = b.canSend (searchChan k) := by
    unfold State.canSend State.chan State.isl?
    rw [hrd _ ⟨by decide, by decide⟩, hchans]
  unfold State.searchCredit State.reserved State.cascadeWaiting
  rw [hcasc, hsend, hsi]

end

/-- A sender with a credit puts its item on the channel. -/
theorem State.chan_send_same {s : State} {c : Chan} (i : Item) (h : 0 < (s.chan c).credits) :
    (s.send c i).chan c = { s.chan c with credits := (s.chan c).credits - 1, inFlight := (s.chan c).inFlight ++ [i] } := by
  unfold State.send
  dsimp only
  rw [if_neg (by omega), (State.only_count _ _ _ _).chan, State.chan_setChan_same]

/-- The context behind its SRCH: the slot is issued, pending and outstanding. -/
def Ctx.searching (c : Ctx) (slot id : Nat) : Ctx :=
  { c with
    issuedSlots := if slot ∈ c.issuedSlots then c.issuedSlots else slot :: c.issuedSlots,
    outstanding := c.outstanding ++ [(slot, id)],
    phv := patchAt c.phv (0x140 + 16 * slot + 0xA) [0xFF] }.stepPc

/-- A request stands with SI, under the next number. -/
def State.withSearch (s : State) (r : SearchReq) : State :=
  { s with si := { s.si with reqs := s.si.reqs ++ [r], nextId := s.si.nextId + 1 } }

/-- A request goes to the search island under a credit. -/
theorem State.issueSearch_eq (s : State) (x : CtxId) (c : Ctx) (slot table : Nat) (key : Frame) :
    ∃ r : SearchReq, (r.id = s.si.nextId ∧ r.ctx = x ∧ r.slot = slot ∧ r.table = table ∧ r.key = key ∧ r.epoch = c.epoch
        ∧ r.result = none)
      ∧ s.issueSearch x c slot table key
        = ((s.withSearch r).send (searchChan x.pipe) (.search s.si.nextId)).count (5 + x.pipe) 0x102 1 := by
  unfold State.issueSearch
  exact ⟨_, ⟨rfl, rfl, rfl, rfl, rfl, rfl, rfl⟩, rfl⟩

/-- What the request leaves: it stands with SI, and on the channel, where a credit was free. -/
theorem State.issueSearch_shows {s : State} {x : CtxId} (c : Ctx) (slot table : Nat) (key : Frame)
    (hcredit : 0 < (s.chan (searchChan x.pipe)).credits) :
    let u := s.issueSearch x c slot table key
    (∃ r, u.si = { s.si with reqs := s.si.reqs ++ [r], nextId := s.si.nextId + 1 } ∧ r.id = s.si.nextId ∧ r.ctx = x
        ∧ r.slot = slot ∧ r.table = table ∧ r.key = key ∧ r.epoch = c.epoch ∧ r.result = none)
      ∧ (u.chan (searchChan x.pipe)).inFlight = (s.chan (searchChan x.pipe)).inFlight ++ [.search s.si.nextId]
      ∧ (u.chan (searchChan x.pipe)).credits + 1 = (s.chan (searchChan x.pipe)).credits := by
  obtain ⟨r, hr, heq⟩ := s.issueSearch_eq x c slot table key
  intro u
  have hu : u = _ := heq
  have hsi : u.si = { s.si with reqs := s.si.reqs ++ [r], nextId := s.si.nextId + 1 } := by
    rw [hu, State.only_count _ _ _ _ .si (by decide), State.only_send _ _ _ .si (by decide)]
    rfl
  have hchan : u.chan (searchChan x.pipe) = { s.chan (searchChan x.pipe) with
      credits := (s.chan (searchChan x.pipe)).credits - 1,
      inFlight := (s.chan (searchChan x.pipe)).inFlight ++ [.search s.si.nextId] } := by
    rw [hu, (State.only_count _ _ _ _).chan]
    exact State.chan_send_same _ hcredit
  rw [hchan]
  exact ⟨⟨r, hsi, hr⟩, rfl, Nat.sub_add_cancel hcredit⟩

theorem effSrch_issues {s : State} {x : CtxId} {c : Ctx} {m : Micro} (htable : m.sub ≤ 9)
    (hfree : c.outstanding.all (fun o => o.1 != m.slot) = true) (hkey : phvInRange m.off (s.keyLen m.sub) = true) :
    effSrch s x c m = if s.searchCredit x.pipe m.sub then
        .next (s.issueSearch x c m.slot m.sub (sliceAt c.phv m.off (s.keyLen m.sub))) (c.searching m.slot s.si.nextId)
      else .stay := by
  have hnone : (c.outstanding.any fun o => decide (o.1 = m.slot)) = false := by
    simpa [List.any_eq_false, List.all_eq_true] using hfree
  unfold effSrch
  rw [if_neg (by omega), hnone, if_neg (by decide), hkey, if_neg (by decide)]
  rfl

theorem State.recordKept_issueSearch {x : CtxId} (hx : x.pipe < 2) (s : State) (c : Ctx) (slot table : Nat) (key : Frame) :
    s.recordKept (s.issueSearch x c slot table key) x
      ∧ s.restKept (s.issueSearch x c slot table key) [] := by
  obtain ⟨r, -, heq⟩ := s.issueSearch_eq x c slot table key
  rw [heq]
  have hsrc : (searchChan x.pipe).src < 16 := show 5 + x.pipe < 16 by omega
  have hset : s.recordKept (s.withSearch r) x :=
    .of_only (l := [.si]) (.of_withParts rfl) fun _ _ => rfl
  refine ⟨State.recordKept.count hx (hset.trans (.of_only (State.only_send _ _ _) fun f hf => ?_)) _ _, ?_⟩
  · exact (State.restKept_send _ _ hsrc).rd hf.1 (by simp)
  · have hrest : s.restKept (s.withSearch r) [] := .of_regs rfl _
    exact (hrest.trans (State.restKept_send _ _ hsrc)).count _ _ (by omega)

theorem State.only_retireAt (s : State) (x : CtxId) (c : Ctx) (y : Bool) (addr outcome : Nat) :
    s.only (s.retireAt x c y addr outcome) [.regs, .out, .pa, .pb, .di] :=
  (s.only_sampleIf y x c addr outcome).then (State.only_setCtx _ _ _)

section
variable {b : State} {x : CtxId} {c : Ctx} {ecc : Ecc} {m : Micro} (h : b.issues x c ecc) (hm : m = microOf (b.fetch x c))
  (hop : m.op = 0x0A) (htable : m.sub ≤ 9) (hfree : c.outstanding.all (fun o => o.1 != m.slot) = true)
  (hkey : phvInRange m.off (b.keyLen m.sub) = true)
include h hm hop htable hfree hkey

/-- SRCH sends its request under a credit, and stays without one. -/
theorem State.srch_eq :
    b.issue x ecc false (rowOp 0x0A) effSrch =
      if b.searchCredit x.pipe m.sub then
        ((b.readied x c ecc).issueSearch x (c.issuing b ecc) m.slot m.sub (sliceAt c.phv m.off (b.keyLen m.sub))).retireAt x
          ((c.issuing b ecc).searching m.slot b.si.nextId) (b.chosen x c ecc) (c.issuing b ecc).pc 0
      else b.setCtx x { c with creditSince := some (c.creditSince.getD b.time) } := by
  obtain ⟨hx, -, -⟩ := h.place
  obtain ⟨l, hl⟩ := c.issuing_eq b ecc
  have hready := State.recordKept_readied hx b c ecc
  have honly := b.only_readied x c ecc
  have hsi : (b.readied x c ecc).si = b.si := honly .si (by decide)
  have hlen := State.keyLen_of_rd hready.rd m.sub
  have hphv : (c.issuing b ecc).phv = c.phv := by rw [hl]
  rw [State.issue_eq effSrch h (by simp [rowOp, ← hm, hop]), ← hm,
    effSrch_issues htable (by rw [hl]; exact hfree) (by rw [hlen]; exact hkey),
    State.searchCredit_of_rd hready.rd hsi (honly .chans (by decide)), hlen, hsi, hphv]
  split <;> rfl

theorem State.srch_sends (hcredit : b.searchCredit x.pipe m.sub = true) :
    let u := b.issue x ecc false (rowOp 0x0A) effSrch
    (∃ r, u.si = { b.si with reqs := b.si.reqs ++ [r], nextId := b.si.nextId + 1 } ∧ r.id = b.si.nextId ∧ r.ctx = x
        ∧ r.slot = m.slot ∧ r.table = m.sub ∧ r.key = sliceAt c.phv m.off (b.keyLen m.sub) ∧ r.epoch = c.epoch
        ∧ r.result = none)
      ∧ (u.chan (searchChan x.pipe)).inFlight = (b.chan (searchChan x.pipe)).inFlight ++ [.search b.si.nextId]
      ∧ (u.chan (searchChan x.pipe)).credits + 1 = (b.chan (searchChan x.pipe)).credits
      ∧ b.retires u x ecc (c.searching m.slot b.si.nextId) := by
  obtain ⟨hx, -, -⟩ := h.place
  obtain ⟨l, hl⟩ := c.issuing_eq b ecc
  let key := sliceAt c.phv m.off (b.keyLen m.sub)
  have honly := b.only_readied x c ecc
  have hsi : (b.readied x c ecc).si = b.si := honly .si (by decide)
  have hchan := honly.chan (searchChan x.pipe)
  have hcredits : 0 < (b.chan (searchChan x.pipe)).credits := by
    simp only [State.searchCredit, State.canSend, Bool.and_eq_true, decide_eq_true_eq] at hcredit
    exact hcredit.1.1.2
  obtain ⟨⟨r, hreq, hr⟩, hflight, hleft⟩ := State.issueSearch_shows (s := b.readied x c ecc) (x := x) (c.issuing b ecc) m.slot
    m.sub key (by rw [hchan]; exact hcredits)
  obtain ⟨hkept, hrest⟩ := State.recordKept_issueSearch hx (b.readied x c ecc) (c.issuing b ecc) m.slot m.sub key
  rw [hsi] at hreq hr hflight
  rw [hl] at hr
  rw [hchan] at hflight hleft
  have hretire := State.only_retireAt ((b.readied x c ecc).issueSearch x (c.issuing b ecc) m.slot m.sub key) x
    ((c.issuing b ecc).searching m.slot b.si.nextId) (b.chosen x c ecc) (c.issuing b ecc).pc 0
  have hv : ((c.issuing b ecc).searching m.slot b.si.nextId).settled b.time
      = (c.searching m.slot b.si.nextId).retired b.time := by
    rw [hl]; rfl
  intro u
  have hu : u = _ := (State.srch_eq h hm hop htable hfree hkey).trans (if_pos hcredit)
  rw [hu, hretire .si (by decide), hretire.chan]
  refine ⟨⟨r, hreq, hr⟩, hflight, hleft,
    State.retires_of_effect hx ((State.recordKept_readied hx b c ecc).trans hkept) hv fun hecc hen => ?_⟩
  subst hecc
  obtain ⟨hchosen, hquiet⟩ := State.readied_quiet hx b c hen
  exact ⟨hchosen, hquiet.trans hrest⟩

end

/- ## What the passing of ended packets leaves (R219) -/

/-- Fields outside MI that neither counting nor interrupts move. -/
def Field.offPassing (f : Field) : Prop := f.moving = false ∧ 0x4000000 ≤ f.key

/-- From `b` to `u` ended packets may have passed to BI: every context and the fields of `Field.offPassing` are as they
were. -/
structure State.passKept (b u : State) : Prop where
  ctxs : ∀ k, (u.pipe k).ctxs = (b.pipe k).ctxs
  rd : ∀ f : Field, f.offPassing → u.rd f = b.rd f

section
variable {a b : State}

theorem State.passKept.refl (s : State) : s.passKept s := ⟨fun _ => rfl, fun _ _ => rfl⟩

theorem State.passKept.trans {c : State} (h : a.passKept b) (h' : b.passKept c) : a.passKept c :=
  ⟨fun k => (h'.ctxs k).trans (h.ctxs k), fun f hf => (h'.rd f hf).trans (h.rd f hf)⟩

/-- An operation that touches no pipeline. -/
theorem State.passKept.of_only {l : List StatePart} (ho : a.only b l) (hr : ∀ f : Field, f.offPassing → b.rd f = a.rd f)
    (hl : .pa ∉ l := by decide) (hl' : .pb ∉ l := by decide) : a.passKept b :=
  ⟨fun k => by rw [ho.pipe k hl hl'], hr⟩

end

section
variable (s : State)

theorem State.passKept_setPipe {k : Nat} {p : Pipe} (hp : p.ctxs = (s.pipe k).ctxs) : s.passKept (s.setPipe k p) :=
  ⟨s.ctxs_setPipe hp, fun f _ => s.setPipe_rd k p f⟩

theorem State.passKept_setMac (p : Nat) (m : PortMac) : s.passKept (s.setMac p m) :=
  .of_only (s.only_setMac p m) fun f _ => (s.only_setMac p m).rd f

theorem State.passKept_progress {i : Nat} (hi : i < 16) : s.passKept (s.progress i) :=
  .of_only (s.only_progress i) fun _ hf => (s.restKept_progress hi).rd hf.1 (by simp)

theorem State.passKept_send {c : Chan} (i : Item) (hc : c.src < 16) : s.passKept (s.send c i) :=
  .of_only (s.only_send c i) fun _ hf => (s.restKept_send i hc).rd hf.1 (by simp)

theorem State.passKept_sendHeader (p : Nat) : s.passKept (s.sendHeader p) :=
  .of_only (s.only_sendHeader p) fun _ hf => (s.restKept_sendHeader p).rd hf.1 (by simp)

theorem State.passKept_commitCopy (src seq : Nat) : s.passKept (s.commitCopy src seq) := by
  unfold State.commitCopy
  dsimp only
  split
  · exact s.passKept_setMac _ _
  · exact ((s.passKept_setMac _ _).trans (State.passKept_progress _ (portIsl_lt src))).trans (State.passKept_sendHeader _ _)

theorem State.passKept_suppressed {i : Nat} (hi : i < 16) (n : Nat) : s.passKept (s.suppressed i n) := by
  refine .of_only (s.only_addOvf _ _ _ _) fun f hf => s.rd_addOvf_ne _ _ ?_ ?_ <;> obtain ⟨-, hf⟩ := hf
  · simp only [MI.REPLAY_STAT.ING_SUPPRESSED, Field.key] at hf ⊢; omega
  · simp only [MI.REPLAY_STAT.ING_SUPPRESSED_OVF, Field.key] at hf ⊢; omega

variable {k : Nat} (hk : k < 2)
include hk

theorem State.passKept_pumpAdmit (n : Nat) : s.passKept (s.pumpAdmit k n) := by
  induction n generalizing s with
  | zero => exact .refl s
  | succ n ih =>
    rw [State.pumpAdmit]
    split
    · exact .refl s
    · split
      · exact ((s.passKept_setPipe (by rfl)).trans
          (State.passKept_send _ _ (show 5 + k < 16 by omega))).trans (ih _)
      · exact .refl s

theorem State.passKept_passToBi (l : List Desc) : s.passKept (s.passToBi k l) :=
  (s.passKept_setPipe (by rfl)).trans (State.passKept_pumpAdmit _ hk _)

theorem State.passKept_passEnded (src n : Nat) : s.passKept (s.passEnded k src n) := by
  induction n generalizing s with
  | zero => exact .refl s
  | succ n ih =>
    rw [State.passEnded]
    dsimp only
    split
    · exact .refl s
    · rename_i e _
      have hout : s.passKept (s.setPipe k { s.pipe k with ended := (s.pipe k).ended.erase e }) := s.passKept_setPipe (by rfl)
      split
      · exact (hout.trans (State.passKept_suppressed _ (portIsl_lt _) _)).trans (ih _)
      · split
        · refine State.passKept.trans ?_ (ih _)
          split
          · exact (hout.trans (State.passKept_setMac _ _ _)).trans (State.passKept_commitCopy _ _ _)
          · exact (hout.trans (State.passKept_setMac _ _ _)).trans (State.passKept_passToBi _ hk _)
        · exact .refl s

theorem State.passKept_endPacket (src seq : Nat) (outs : List Desc) : s.passKept (s.endPacket k src seq outs) := by
  unfold State.endPacket
  exact (((s.passKept_setMac _ _).trans (State.passKept_progress _ (by omega))).trans
    (State.passKept_setPipe _ (by rfl))).trans (State.passKept_passEnded _ hk _ _)

end

/- ## The end of a routine (R227, R236) -/

/-- The fields of JUG_STAT. -/
theorem jugBusy_key (k j : Nat) : (P.JUG_STAT.BUSY k j).key = ((5 + k) * 0x100000 + (0x480 + 0x8 * j)) * 64 := by
  simp only [P.JUG_STAT.BUSY, Field.key]; omega

theorem jugBusy_offPassing {x : CtxId} (hx : x.pipe < 2) (hj : x.jug < 16) : (P.JUG_STAT.BUSY x.pipe x.jug).offPassing :=
  ⟨Field.not_moving_of_place (show 0 < 5 + x.pipe by omega) (show 0x480 + 0x8 * x.jug < 0xF0100 by omega)
    (show 0 < 64 by decide), by rw [jugBusy_key]; omega⟩

/-- Clearing a bit of a field that is wide enough. -/
theorem State.bitOf_andNotF (s : State) {f : Field} {i : Nat} (hi : i < f.width) :
    bitOf ((s.andNotF f (2 ^ i)).rd f) i = false := by
  have hlt : 2 ^ i < 2 ^ f.width := Nat.pow_lt_pow_right (by decide) hi
  have hbit : (2 ^ f.width - 1 - 2 ^ i % 2 ^ f.width).testBit i = false := by
    rw [Nat.mod_eq_of_lt hlt, Nat.sub_sub, Nat.add_comm, Nat.testBit_two_pow_sub_succ hlt]
    simp [Nat.testBit_two_pow_self]
  rw [State.andNotF, State.rd_wr_same, bitOf, Nat.testBit_mod_two_pow, Nat.testBit_and, hbit]
  simp

theorem State.only_markBusy (s : State) (x : CtxId) (y : Bool) : s.only (s.markBusy x y) [.regs] := by
  cases y <;> exact s.only_wr _ _

/-- A context that is cleared holds no work, and shows idle. -/
theorem State.clearCtx_freed (s : State) {x : CtxId} (hc : x.ctx < 4) : (s.clearCtx x).freed x := by
  constructor
  · unfold State.clearCtx State.ctx?
    rw [(State.only_markBusy _ _ _).pipe, State.pipe_setPipe_same]
    exact nget_nerase_same _ _
  · exact State.bitOf_andNotF _ (f := P.JUG_STAT.BUSY x.pipe x.jug) hc

theorem State.rd_clearCtx_ne (s : State) {x : CtxId} {f : Field} (hf : f.key ≠ (P.JUG_STAT.BUSY x.pipe x.jug).key) :
    (s.clearCtx x).rd f = s.rd f := (State.rd_andNotF_ne _ _ hf).trans (s.setPipe_rd _ _ f)

theorem State.releaseCtx_clears (s : State) (x : CtxId) {c : Ctx} (hout : c.outstanding = []) (hgw : c.gw = none) :
    s.releaseCtx x c = s.clearCtx x := by
  simp [State.releaseCtx, hout, hgw]

/-- A routine without outstanding searches and maps ends: its context is free, and fields outside MI but JUG_STAT's are as
they were. -/
theorem State.finishCtx_frees (s : State) {x : CtxId} {c : Ctx} (hx : x.pipe < 2) (hj : x.jug < 16) (hc : x.ctx < 4)
    (hout : c.outstanding = []) (hgw : c.gw = none) (outs : List Desc) :
    (s.finishCtx x c outs).freed x
      ∧ ∀ f : Field, f.offPassing → f.key ≠ (P.JUG_STAT.BUSY x.pipe x.jug).key → (s.finishCtx x c outs).rd f = s.rd f := by
  have hkept : (s.clearCtx x).passKept (s.finishCtx x c outs) := by
    unfold State.finishCtx
    rw [State.releaseCtx_clears s x hout hgw]
    split
    · exact ((s.clearCtx x).passKept_setPipe (by rfl)).trans (State.passKept_endPacket _ hx _ _ _)
    · exact .refl _
  obtain ⟨hnone, hidle⟩ := s.clearCtx_freed hc
  refine ⟨⟨?_, ?_⟩, fun f hf hne => (hkept.rd f hf).trans (s.rd_clearCtx_ne hne)⟩
  · rw [State.ctx?_of_ctxs hkept.ctxs, hnone]
  · rw [hkept.rd _ (jugBusy_offPassing hx hj), hidle]

/-- The decision of a first fragment moves one register: OCCUPANCY, which it writes again. -/
theorem State.rd_fragComplete (s : State) (p : Parsed) (d : Nat) {f : Field} (hf : f.key ≠ SI.FRAG_STAT.OCCUPANCY.key) :
    (s.fragComplete p d).rd f = s.rd f := by
  unfold State.fragComplete
  split
  · refine State.foldl_keeps (P := fun u => u.rd f = s.rd f) (fun u w h => ?_) _ ?_
    · exact (u.rd_setCtx _ _ f).trans h
    · exact State.rd_wr_ne _ _ hf
  · rfl

/-- The counter of the results that were lost. -/
theorem jugLost_key (k : Nat) : (P.JUG_LOST_CNT.COUNT k).key = ((5 + k) * 0x100000 + 0x520) * 64 := by
  simp only [P.JUG_LOST_CNT.COUNT, Field.key]; omega

theorem jugLostOvf_key (k : Nat) : (P.JUG_LOST_CNT.OVF k).key = ((5 + k) * 0x100000 + 0x520) * 64 + 63 := by
  simp only [P.JUG_LOST_CNT.OVF, Field.key]

theorem jugLost_not_moving (k : Nat) : (P.JUG_LOST_CNT.COUNT k).moving = false :=
  Field.not_moving_of_place (show 0 < 5 + k by omega) (show 0x520 < 0xF0100 by decide) (show 0 < 64 by decide)

/-- A lost result ends the routine, and is counted. -/
theorem State.endLost_shows (s : State) {x : CtxId} {c : Ctx} (hx : x.pipe < 2) (hj : x.jug < 16) (hc : x.ctx < 4)
    (hout : c.outstanding = []) (hgw : c.gw = none) :
    (s.endLost x c).freed x ∧ (s.endLost x c).rd (P.JUG_LOST_CNT.COUNT x.pipe)
      = (s.rd (P.JUG_LOST_CNT.COUNT x.pipe) + 1) % 2 ^ (P.JUG_LOST_CNT.COUNT x.pipe).width := by
  have hkey := jugLost_key x.pipe
  have hpass : (P.JUG_LOST_CNT.COUNT x.pipe).offPassing := ⟨jugLost_not_moving x.pipe, by omega⟩
  have hbusy : (P.JUG_LOST_CNT.COUNT x.pipe).key ≠ (P.JUG_STAT.BUSY x.pipe x.jug).key := by
    rw [hkey, jugBusy_key]; omega
  have hocc : (P.JUG_LOST_CNT.COUNT x.pipe).key ≠ SI.FRAG_STAT.OCCUPANCY.key := by
    have : SI.FRAG_STAT.OCCUPANCY.key = (7 * 0x100000 + 0x308) * 64 := by decide
    omega
  let s1 := s.addOvf (P.JUG_LOST_CNT.COUNT x.pipe) (P.JUG_LOST_CNT.OVF x.pipe) 1 1
  have hcount : s1.rd (P.JUG_LOST_CNT.COUNT x.pipe) = _ := s.rd_addOvf_same 1 1 (by rw [hkey, jugLostOvf_key]; omega)
  unfold State.endLost
  dsimp only
  split
  · rename_i p _
    obtain ⟨hfree, hrd⟩ := State.finishCtx_frees (s1.fragComplete p (2 ^ 63)) hx hj hc hout hgw []
    exact ⟨hfree, by rw [hrd _ hpass hbusy, State.rd_fragComplete _ _ _ hocc, hcount]⟩
  · obtain ⟨hfree, hrd⟩ := State.finishCtx_frees s1 hx hj hc hout hgw []
    exact ⟨hfree, by rw [hrd _ hpass hbusy, hcount]⟩

/-- SWAIT on a lost result ends the routine. -/
theorem State.swait_lost {b : State} {x : CtxId} {c : Ctx} {ecc : Ecc} (h : b.issues x c ecc) (hout : c.outstanding = [])
    (hgw : c.gw = none) (hop : (microOf (b.fetch x c)).op = 0x0B) (hslot : (microOf (b.fetch x c)).slot ∈ c.issuedSlots)
    (hlost : c.slotStatus (microOf (b.fetch x c)).slot = 2) :
    let u := b.issue x ecc false (rowOp 0x0B) effSwait
    u.freed x ∧ u.rd (P.JUG_LOST_CNT.COUNT x.pipe)
      = (b.rd (P.JUG_LOST_CNT.COUNT x.pipe) + 1) % 2 ^ (P.JUG_LOST_CNT.COUNT x.pipe).width := by
  obtain ⟨hx, hj, hc⟩ := h.place
  obtain ⟨l, hl⟩ := c.issuing_eq b ecc
  intro u
  have hu : u = ((b.readied x c ecc).sampleIf (b.chosen x c ecc) x (c.issuing b ecc) (c.issuing b ecc).pc 0).endLost x
      (c.issuing b ecc) := by
    show b.issue x ecc false (rowOp 0x0B) effSwait = _
    rw [State.issue_eq effSwait h (by simp [rowOp, hop]), effSwait_lost (by rw [hl]; exact hslot) (by rw [hl]; exact hlost)]
    rfl
  have hrec := (State.recordKept_readied hx b c ecc).trans (State.recordKept_sampleIf hx (b.readied x c ecc) (b.chosen x c ecc)
    (c.issuing b ecc) (c.issuing b ecc).pc 0)
  have hcount : (P.JUG_LOST_CNT.COUNT x.pipe).offRecord :=
    ⟨jugLost_not_moving x.pipe, .inr (.inr (by rw [jugLost_key]; omega))⟩
  obtain ⟨hfree, hrd⟩ := State.endLost_shows ((b.readied x c ecc).sampleIf (b.chosen x c ecc) x (c.issuing b ecc)
    (c.issuing b ecc).pc 0) (c := c.issuing b ecc) hx hj hc (by rw [hl]; exact hout) (by rw [hl]; exact hgw)
  rw [hrec.rd _ hcount] at hrd
  rw [hu]
  exact ⟨hfree, hrd⟩

/-- Settles O34: each clause by what SRCH, SWAIT or the response leaves, the issue of the instruction around it being
`State.issue_eq`. -/
theorem jugglerSearches : Obligations.JugglerSearches := by
  unfold Obligations.JugglerSearches
  refine ⟨?srch, ?waits, ?goes, ?lost, ?response⟩
  case srch =>
    intro x ecc t c s h b m hop htable hfree hkey
    refine .of_eq rfl ?_
    split
    · rename_i hcredit
      exact State.srch_sends h rfl hop htable hfree hkey hcredit
    · rename_i hcredit
      have heq := (State.srch_eq h rfl hop htable hfree hkey).trans (if_neg hcredit)
      rw [heq]
      have honly := b.only_setCtx x { c with creditSince := some (c.creditSince.getD b.time) }
      exact ⟨State.ctx?_setCtx_same _ _ _, honly .si (by decide), honly .chans (by decide), honly.regs⟩
  case waits => exact fun x ecc t c s h hop hslot hst => .of_eq rfl (State.swait_waits h hop hslot hst)
  case goes => exact fun x ecc t c s h hop hslot hst hlost => .of_eq rfl (State.swait_goes h hop hslot hst hlost)
  case lost => exact fun x ecc t c s h hout hgw hop hslot hlost => .of_eq rfl (State.swait_lost h hout hgw hop hslot hlost)
  case response =>
    intro id t st a i l r c s hreq hres hctx hdone hwait
    refine .next rfl (State.searchResponse_fills hreq hres hctx hdone hwait) ?_
    have hset : (s.begin t).only { s.begin t with si := { (s.begin t).si with
        reqs := (s.begin t).si.reqs.filter fun q => q.id ≠ id } } [.pa, .pb, .si] := .of_withParts rfl
    exact ⟨State.only_setCtx _ _ _ .si (by decide), State.ctx?_setCtx_same _ _ _, (hset.then (State.only_setCtx _ _ _)).eq⟩

/- ## A Juggler number whose JUG_STAT is the budget counter (R189, R236) -/

/-- The key of a fragmented datagram. -/
def someFragKey : FragKey := ⟨[], [], 0, 0⟩

/-- A packet of port 0, by sequence number and kind of fragment. -/
def fragmentOf (seq frag : Nat) : Parsed :=
  { parsedOf 0 ⟨seq, [], 0, 0, 0, some 0, false, 4, false⟩ 0 0 with frag := frag, fragKey := some someFragKey }

/-- A context that has its packet and nothing more to issue. -/
def spentCtx (p : Parsed) : Ctx := Ctx.start (some p) [] 0 0 false ⟨0, 0, false, 0⟩ 0 none

/-- PA runs. A first fragment's routine has issued its budget, and a later fragment of the datagram waits for it in a context
of Juggler 17. No run fills such a context: a pipeline has Jugglers 0 to 15. -/
def waiterBeyondJugglers : State :=
  { State.reset with
    regs := [(MI.ISL_STAT.STATE.key, 4 ^ 5)]
    pa := { State.reset.pa with
      ctxs := [(0, spentCtx (fragmentOf 0 1)), (68, { spentCtx (fragmentOf 1 2) with waitFrag := some someFragKey })] }
    si := { State.reset.si with frags := [⟨someFragKey, some (0, 0), 0, 0⟩] } }

/-- The stop counts in JUG_BUDGET_CNT; the end of the waiting fragment then clears a BUSY bit of Juggler 17, which is bit 0
of that counter. -/
theorem budgetStop_waiterBeyondJugglers :
    ((waiterBeyondJugglers.begin 0).budgetStop ⟨0, 0, 0⟩).rd (P.JUG_BUDGET_CNT.COUNT 0) = 0 := by
  decide +kernel

/-- Refutes O35: its last clause takes every state, and where a fragment waits in a context of a Juggler that a pipeline does
not have, the stop does not count in JUG_BUDGET_CNT. -/
theorem not_routinesEndAndForward : ¬ Obligations.RoutinesEndAndForward := by
  unfold Obligations.RoutinesEndAndForward
  rintro ⟨-, -, -, hstop⟩
  obtain ⟨u, hu, -, hcount, -⟩ := hstop ⟨0, 0, 0⟩ 0 (spentCtx (fragmentOf 0 1)) waiterBeyondJugglers (by decide +kernel)
    (by decide) (by decide) (by decide) (by decide) (by decide) (by decide) (by decide) (by decide +kernel) (by decide)
    (by decide)
  have hx : exec (.budgetStop ⟨0, 0, 0⟩ 0) waiterBeyondJugglers
      = .next ((waiterBeyondJugglers.begin 0).budgetStop ⟨0, 0, 0⟩) := rfl
  obtain rfl := Host.Outcome.next.inj (hx.symm.trans hu)
  have hbefore : (waiterBeyondJugglers.begin 0).rd (P.JUG_BUDGET_CNT.COUNT 0) = 0 := by decide +kernel
  rw [budgetStop_waiterBeyondJugglers, hbefore] at hcount
  exact absurd hcount (by decide)

end Sys2Proof.Machine

/-! PROOFS. Statements of the start-and-modes family. -/
namespace Sys2Proof.Machine

/- ## The Carousel's windows of one port (R312 to R314, R418) -/

section
variable {s : State} {p o c : Nat}

theorem State.car_setCar_ne (s : State) {p q : Nat} (v : CarPort) (h : q ≠ p) : (s.setCar p v).car q = s.car q :=
  ngetD_nput_ne _ _ _ _ h

theorem State.only.car {a b : State} {l : List StatePart} (h : a.only b l) (p : Nat) (hl : .bi ∉ l := by decide) :
    b.car p = a.car p := by
  unfold State.car
  rw [show b.bi = a.bi from h .bi hl]

/-- A step that writes one port's record leaves the others and every other part. -/
theorem State.setCar_shows (s : State) (p : Nat) (v : CarPort) :
    (s.setCar p v).car p = v ∧ (∀ q, q ≠ p → (s.setCar p v).car q = s.car q)
      ∧ s.setCar p v = { s with bi := (s.setCar p v).bi } :=
  ⟨s.car_setCar_same p v, fun _ hq => s.car_setCar_ne v hq, (s.only_setCar p v).eq⟩

theorem State.serviceStart_eq (h : s.portWindow p t = some (o, c)) :
    s.serviceStart p t
      = if o ≤ t + 2000 then s.setCar p { s.car p with service7 := true, openAt := o, closeAt := c } else s := by
  unfold State.serviceStart
  rw [h]

theorem State.guardStart_eq (h : s.portWindow p t = some (o, c)) :
    s.guardStart p t
      = if o ≤ t + s.guardNs p then s.setCar p { s.car p with guard := true, openAt := o, closeAt := c } else s := by
  unfold State.guardStart
  rw [h]

/-- The record of a port whose window has opened. -/
def CarPort.opened (k : CarPort) (o c : Nat) : CarPort :=
  { k with service7 := true, guard := true, openAt := o, closeAt := c, deferred := false }

theorem State.windowOpen_eq (h : s.portWindow p t = some (o, c)) :
    s.windowOpen p t
      = if o ≤ t ∧ t < c then (s.setCar p ((s.car p).opened o c)).wr (BI.CAR_PORT.WIN_OPEN p) 1 else s := by
  unfold State.windowOpen
  rw [h]
  rfl

theorem State.windowOpened_shows (s : State) (p : Nat) (v : CarPort) :
    let u := (s.setCar p v).wr (BI.CAR_PORT.WIN_OPEN p) 1
    u.rd (BI.CAR_PORT.WIN_OPEN p) = 1 ∧ u.car p = v ∧ (∀ q, q ≠ p → u.car q = s.car q)
      ∧ s.regsKept u [BI.CAR_PORT.WIN_OPEN p] ∧ u = { s with regs := u.regs, bi := u.bi } := by
  have hw := (s.setCar p v).only_wr (BI.CAR_PORT.WIN_OPEN p) 1
  refine ⟨State.rd_wr_same _ _ _, ?_, fun q hq => ?_, ?_, ?_⟩
  · rw [hw.car, State.car_setCar_same]
  · rw [hw.car, s.car_setCar_ne v hq]
  · exact (State.regsKept.of_regs (s.setCar_regs p v) _).wr 1 (by simp)
  · exact (((s.only_setCar p v).mono (l' := [.regs, .bi])).then hw).eq

/-- The closing of a window, the count of a carried frame apart (R313). -/
def State.deferNoted (s : State) (p : Nat) : State :=
  if !(s.mac p).sched.isEmpty && !(s.car p).deferred && s.isSet (BI.CAR_PORT.WIN_OPEN p) then s.countDefer p else s

theorem State.only_deferNoted (s : State) (p : Nat) : s.only (s.deferNoted p) [.regs] := by
  unfold State.deferNoted
  split
  · exact s.only_countDefer p
  · exact .refl s _

theorem State.regsKept_deferNoted (s : State) (p : Nat) :
    s.regsKept (s.deferNoted p) [BI.CAR_PORT.C7_DEFER p, BI.CAR_PORT.C7_DEFER_OVF p] := by
  unfold State.deferNoted
  split
  · exact (State.regsKept.refl s _).addOvf _ _ (by simp) (by simp)
  · exact .refl s _

theorem State.rd_deferNoted (hopen : s.isSet (BI.CAR_PORT.WIN_OPEN p) = true) :
    (s.deferNoted p).rd (BI.CAR_PORT.C7_DEFER p)
      = if (s.mac p).sched ≠ [] ∧ (s.car p).deferred = false then
          (s.rd (BI.CAR_PORT.C7_DEFER p) + 1) % 2 ^ (BI.CAR_PORT.C7_DEFER p).width
        else s.rd (BI.CAR_PORT.C7_DEFER p) := by
  have hcond : (!(s.mac p).sched.isEmpty && !(s.car p).deferred && s.isSet (BI.CAR_PORT.WIN_OPEN p)) = true
      ↔ (s.mac p).sched ≠ [] ∧ (s.car p).deferred = false := by simp [hopen]
  unfold State.deferNoted
  rw [if_congr hcond rfl rfl]
  split
  · exact s.rd_addOvf_same 1 1 State.carDefer_key
  · rfl

theorem carDefer_key_ne_open (p : Nat) : (BI.CAR_PORT.C7_DEFER p).key ≠ (BI.CAR_PORT.WIN_OPEN p).key := by
  simp only [BI.CAR_PORT.C7_DEFER, BI.CAR_PORT.WIN_OPEN, Field.key]
  omega

/-- The record of a port whose window has shut. -/
def CarPort.shut (k : CarPort) : CarPort :=
  { k with service7 := false, guard := false, deferred := false, openAt := 0, closeAt := 0 }

theorem State.shutWindow_eq (s : State) (p : Nat) :
    s.shutWindow p = ((s.deferNoted p).setCar p (s.car p).shut).wr (BI.CAR_PORT.WIN_OPEN p) 0 := rfl

theorem State.windowClose_eq (hopen : s.isSet (BI.CAR_PORT.WIN_OPEN p) = true) (hc : (s.car p).closeAt ≤ t) :
    s.windowClose p t = s.shutWindow p := by
  unfold State.windowClose
  rw [if_pos (by simp [hopen, hc])]

/-- A window shuts (R313, R418). -/
theorem State.shutWindow_shows (hopen : s.isSet (BI.CAR_PORT.WIN_OPEN p) = true) :
    let u := s.shutWindow p
    u.rd (BI.CAR_PORT.WIN_OPEN p) = 0 ∧ u.car p = (s.car p).shut ∧ (∀ q, q ≠ p → u.car q = s.car q)
      ∧ (if (s.mac p).sched ≠ [] ∧ (s.car p).deferred = false then
          u.rd (BI.CAR_PORT.C7_DEFER p) = (s.rd (BI.CAR_PORT.C7_DEFER p) + 1) % 2 ^ (BI.CAR_PORT.C7_DEFER p).width
        else u.rd (BI.CAR_PORT.C7_DEFER p) = s.rd (BI.CAR_PORT.C7_DEFER p))
      ∧ s.regsKept u [BI.CAR_PORT.WIN_OPEN p, BI.CAR_PORT.C7_DEFER p, BI.CAR_PORT.C7_DEFER_OVF p]
      ∧ u = { s with regs := u.regs, bi := u.bi } := by
  have hd := s.only_deferNoted p
  have hw := ((s.deferNoted p).setCar p (s.car p).shut).only_wr (BI.CAR_PORT.WIN_OPEN p) 0
  have hdefer : (s.shutWindow p).rd (BI.CAR_PORT.C7_DEFER p) = (s.deferNoted p).rd (BI.CAR_PORT.C7_DEFER p) := by
    rw [s.shutWindow_eq, State.rd_wr_ne _ _ (carDefer_key_ne_open p), State.setCar_rd]
  refine ⟨State.rd_wr_same _ _ _, ?_, fun q hq => ?_, ?_, ?_, ?_⟩
  · rw [s.shutWindow_eq, hw.car, State.car_setCar_same]
  · rw [s.shutWindow_eq, hw.car, State.car_setCar_ne _ _ hq, hd.car]
  · rw [hdefer, State.rd_deferNoted hopen]
    split <;> rfl
  · exact (((s.regsKept_deferNoted p).mono (by simp)).trans (.of_regs (State.setCar_regs _ _ _) _)).wr 0 (by simp)
  · exact (((hd.mono (l' := [.regs, .bi])).then (State.only_setCar _ _ _)).then hw).eq

end

/- ## Shapers (R315, R316, R318 to R320) -/

section
variable {s : State} {h : Nat}

@[simp] theorem State.shaper_setShaper_same (s : State) (h : Nat) (v : Shaper) : (s.setShaper h v).shaper h = v :=
  ngetD_nset_same _ _ _ _

theorem State.shaper_setShaper_ne (s : State) {h k : Nat} (v : Shaper) (hk : k ≠ h) :
    (s.setShaper h v).shaper k = s.shaper k := ngetD_nset_ne _ _ _ hk

theorem State.only_setShaper (s : State) (h : Nat) (v : Shaper) : s.only (s.setShaper h v) [.bi] := .of_withParts rfl

theorem State.only.shaper {a b : State} {l : List StatePart} (ho : a.only b l) (h : Nat) (hl : .bi ∉ l := by decide) :
    b.shaper h = a.shaper h := by
  unfold State.shaper
  rw [show b.bi = a.bi from ho .bi hl]

theorem State.only_showLevel (s : State) (h : Nat) : s.only (s.showLevel h) [.regs] := s.only_wr _ _

theorem State.regsKept_showLevel (s : State) (h : Nat) : s.regsKept (s.showLevel h) [BI.SHP_STAT.LEVEL h] :=
  (State.regsKept.refl s _).wr _ (by simp)

/-- A shaper whose RATE has been written. -/
def Shaper.rateSet (w : Shaper) (e f : Bool) : Shaper :=
  if e then { w with forgiveE := w.forgiveE || f } else { w with forgiveC := w.forgiveC || f }

/-- A shaper whose BURST has been written. -/
def Shaper.burstSet (w : Shaper) (e : Bool) : Shaper := if e then { w with clampE := true } else { w with clampC := true }

theorem not_beyond_shapers {e : Bool} (hh : h < if e then 816 else 918) :
    ¬ (decide (918 ≤ h) || (e && decide (816 ≤ h))) = true := by
  rw [Bool.or_eq_true, Bool.and_eq_true, decide_eq_true_eq, decide_eq_true_eq]
  cases e
  · rw [if_neg Bool.false_ne_true] at hh
    exact fun hb => hb.elim (fun hb => absurd hh (Nat.not_lt.2 hb)) fun hb => absurd hb.1 Bool.false_ne_true
  · rw [if_pos rfl] at hh
    exact fun hb => hb.elim (fun hb => by omega) fun hb => absurd hh (Nat.not_lt.2 hb.2)

theorem State.rateWrite_eq {e : Bool} (hh : h < if e then 816 else 918) (rate : Nat) (f : Bool) :
    s.rateWrite h e rate f = ((s.wr (rateF e h) rate).setShaper h ((s.shaper h).rateSet e f)).showLevel h := by
  unfold State.rateWrite
  rw [if_neg (not_beyond_shapers hh)]
  rfl

theorem State.burstWrite_eq {e : Bool} (hh : h < if e then 816 else 918) (burst : Nat) :
    s.burstWrite h e burst = (s.wr (burstF e h) burst).setShaper h ((s.shaper h).burstSet e) := by
  unfold State.burstWrite
  rw [if_neg (not_beyond_shapers hh)]
  rfl

theorem rateF_width (e : Bool) (h : Nat) : (rateF e h).width = 22 := by cases e <;> rfl

theorem burstF_width (e : Bool) (h : Nat) : (burstF e h).width = 31 := by cases e <;> rfl

theorem rateF_key_ne_level (e : Bool) (h : Nat) : (rateF e h).key ≠ (BI.SHP_STAT.LEVEL h).key := by
  unfold rateF
  split
  · simp only [BI.SHP_EIR.RATE, BI.SHP_STAT.LEVEL, Field.key]
    omega
  · simp only [BI.SHP_CIR.RATE, BI.SHP_STAT.LEVEL, Field.key]
    omega

/-- The core writes RATE (R318). -/
theorem State.rateWrite_shows {e : Bool} (hh : h < if e then 816 else 918) (rate : Nat) (f : Bool) :
    let u := s.rateWrite h e rate f
    u.rd (rateF e h) = rate % 2 ^ 22
      ∧ (if e then (u.shaper h).forgiveE = ((s.shaper h).forgiveE || f)
        else (u.shaper h).forgiveC = ((s.shaper h).forgiveC || f))
      ∧ s.regsKept u [rateF e h, BI.SHP_STAT.LEVEL h] ∧ u = { s with regs := u.regs, bi := u.bi } := by
  dsimp only
  rw [State.rateWrite_eq hh]
  have hl := ((s.wr (rateF e h) rate).setShaper h ((s.shaper h).rateSet e f)).only_showLevel h
  refine ⟨?_, ?_, ?_, ?_⟩
  · rw [(State.regsKept_showLevel _ h).rd (by simpa using rateF_key_ne_level e h), State.setShaper_rd, State.rd_wr_same,
      rateF_width]
  · rw [hl.shaper, State.shaper_setShaper_same]
    cases e <;> rfl
  · exact (((State.regsKept.refl s _).wr rate (by simp)).trans (.of_regs (State.setShaper_regs _ _ _) _)).trans
      ((State.regsKept_showLevel _ h).mono (by simp))
  · exact ((((s.only_wr _ _).mono (l' := [.regs, .bi])).then (State.only_setShaper _ _ _)).then hl).eq

/-- The core writes BURST (R319). -/
theorem State.burstWrite_shows {e : Bool} (hh : h < if e then 816 else 918) (burst : Nat) :
    let u := s.burstWrite h e burst
    u.rd (burstF e h) = burst % 2 ^ 31 ∧ (if e then (u.shaper h).clampE = true else (u.shaper h).clampC = true)
      ∧ s.regsKept u [burstF e h] ∧ u = { s with regs := u.regs, bi := u.bi } := by
  dsimp only
  rw [State.burstWrite_eq hh]
  refine ⟨?_, ?_, ?_, ?_⟩
  · rw [State.setShaper_rd, State.rd_wr_same, burstF_width]
  · rw [State.shaper_setShaper_same]
    cases e <;> rfl
  · exact ((State.regsKept.refl s _).wr burst (by simp)).trans (.of_regs (State.setShaper_regs _ _ _) _)
  · exact (((s.only_wr _ _).mono (l' := [.regs, .bi])).then (State.only_setShaper _ _ _)).eq

end

/- ## The refill tick (R316, R320, R321) -/

/-- What a shaper's tick reads and keeps of the committed bucket: its level, its rate and burst, its enable, and the record
beside the registers. -/
structure State.bucketKept (a b : State) (h : Nat) : Prop where
  level : b.rd (BI.SHP_LVL.CB h) = a.rd (BI.SHP_LVL.CB h)
  rate : b.rd (BI.SHP_CIR.RATE h) = a.rd (BI.SHP_CIR.RATE h)
  burst : b.rd (BI.SHP_CBS.BURST h) = a.rd (BI.SHP_CBS.BURST h)
  enable : b.rd (BI.SHP_CTL.EN h) = a.rd (BI.SHP_CTL.EN h)
  record : b.shaper h = a.shaper h

section
variable {s a b c : State} {h k : Nat}

theorem State.bucketKept.refl (s : State) (h : Nat) : s.bucketKept s h := ⟨rfl, rfl, rfl, rfl, rfl⟩

theorem State.bucketKept.trans (hab : a.bucketKept b h) (hbc : b.bucketKept c h) : a.bucketKept c h :=
  ⟨hbc.level.trans hab.level, hbc.rate.trans hab.rate, hbc.burst.trans hab.burst, hbc.enable.trans hab.enable,
    hbc.record.trans hab.record⟩

/-- The registers that the tick of shaper `k` moves. -/
def tickFields (k : Nat) : List Field := [BI.SHP_LVL.CB k, BI.SHP_LVL.EB k, BI.SHP_STAT.LEVEL k]

theorem State.regsKept_tickOn (s : State) (k : Nat) : s.regsKept (s.tickOn k) (tickFields k) := by
  unfold State.tickOn
  dsimp only
  split
  · exact (((State.regsKept.refl s (tickFields k)).wr (f := BI.SHP_LVL.CB k) _ (by simp [tickFields])).wr
      (f := BI.SHP_LVL.EB k) _ (by simp [tickFields])).trans (.of_regs (State.setShaper_regs _ _ _) _)
  · exact ((State.regsKept.refl s (tickFields k)).wr (f := BI.SHP_LVL.CB k) _ (by simp [tickFields])).trans
      (.of_regs (State.setShaper_regs _ _ _) _)

theorem State.only_tickOn (s : State) (k : Nat) : s.only (s.tickOn k) [.regs, .bi] := by
  unfold State.tickOn
  dsimp only
  split <;> exact .of_withParts rfl

theorem State.shaper_tickOn_ne (s : State) (hk : h ≠ k) : (s.tickOn k).shaper h = s.shaper h := by
  unfold State.tickOn
  dsimp only
  split <;> exact State.shaper_setShaper_ne _ _ hk

/-- The gate of a disabled shaper is removed (R76). -/
def State.ungated (s : State) (k : Nat) : State := s.setShaper k { s.shaper k with active := false }

theorem State.tickShaper_on (he : s.isSet (BI.SHP_CTL.EN k) = true) : s.tickShaper k = (s.tickOn k).showLevel k := by
  unfold State.tickShaper
  rw [if_pos he]

theorem State.tickShaper_off (he : s.isSet (BI.SHP_CTL.EN k) = false) : s.tickShaper k = (s.ungated k).showLevel k := by
  unfold State.tickShaper
  rw [if_neg (by simp [he])]
  rfl

theorem State.regsKept_tickShaper (s : State) (k : Nat) : s.regsKept (s.tickShaper k) (tickFields k) := by
  have hlevel : ∀ u : State, u.regsKept (u.showLevel k) (tickFields k) := fun u =>
    (u.regsKept_showLevel k).mono (by simp [tickFields])
  cases he : s.isSet (BI.SHP_CTL.EN k)
  · rw [State.tickShaper_off he]
    exact (State.regsKept.of_regs (State.setShaper_regs _ _ _) _).trans (hlevel _)
  · rw [State.tickShaper_on he]
    exact (s.regsKept_tickOn k).trans (hlevel _)

theorem State.only_tickShaper (s : State) (k : Nat) : s.only (s.tickShaper k) [.regs, .bi] := by
  cases he : s.isSet (BI.SHP_CTL.EN k)
  · rw [State.tickShaper_off he]
    exact ((s.only_setShaper _ _).mono (l' := [.regs, .bi])).then (State.only_showLevel _ _)
  · rw [State.tickShaper_on he]
    exact (s.only_tickOn k).then (State.only_showLevel _ _)

theorem State.shaper_tickShaper_ne (s : State) (hk : h ≠ k) : (s.tickShaper k).shaper h = s.shaper h := by
  cases he : s.isSet (BI.SHP_CTL.EN k)
  · rw [State.tickShaper_off he, (State.only_showLevel _ _).shaper]
    exact s.shaper_setShaper_ne _ hk
  · rw [State.tickShaper_on he, (State.only_showLevel _ _).shaper, s.shaper_tickOn_ne hk]

/-- What a tick reads of one shaper lies beside what it moves of another. -/
theorem shaperField_key_ne (hh : h < 918) (hk : k < 918) (hne : h ≠ k) {f g : Field}
    (hf : f ∈ [BI.SHP_LVL.CB h, BI.SHP_CIR.RATE h, BI.SHP_CBS.BURST h, BI.SHP_CTL.EN h]) (hg : g ∈ tickFields k) :
    f.key ≠ g.key := by
  simp only [tickFields, List.mem_cons, List.not_mem_nil, or_false] at hf hg
  rcases hf with rfl | rfl | rfl | rfl <;> rcases hg with rfl | rfl | rfl <;>
    simp only [BI.SHP_LVL.CB, BI.SHP_LVL.EB, BI.SHP_CIR.RATE, BI.SHP_CBS.BURST, BI.SHP_CTL.EN, BI.SHP_STAT.LEVEL,
      Field.key] <;> omega

/-- The tick of one shaper leaves the bucket of another. -/
theorem State.bucketKept_tickShaper (s : State) (hh : h < 918) (hk : k < 918) (hne : h ≠ k) :
    s.bucketKept (s.tickShaper k) h := by
  have hrd : ∀ f ∈ [BI.SHP_LVL.CB h, BI.SHP_CIR.RATE h, BI.SHP_CBS.BURST h, BI.SHP_CTL.EN h],
      (s.tickShaper k).rd f = s.rd f := fun f hf =>
    (s.regsKept_tickShaper k).rd fun g hg => shaperField_key_ne hh hk hne hf hg
  exact ⟨hrd _ (by simp), hrd _ (by simp), hrd _ (by simp), hrd _ (by simp), s.shaper_tickShaper_ne hne⟩

theorem State.bucketKept_ticks (hh : h < 918) {l : List (Nat × Shaper)} (hl : ∀ e ∈ l, e.1 < 918 ∧ e.1 ≠ h) (s : State) :
    s.bucketKept (l.foldl (fun s e => s.tickShaper e.1) s) h := by
  induction l generalizing s with
  | nil => exact .refl s h
  | cons e l ih =>
    obtain ⟨hlt, hne⟩ := hl e List.mem_cons_self
    exact (s.bucketKept_tickShaper hh hlt hne.symm).trans (ih (fun x hx => hl x (List.mem_cons_of_mem _ hx)) _)

/-- A sorted map lists a key once. -/
theorem nsorted_split {α : Type} {m : List (Nat × α)} {k : Nat} {v : α} (hs : nsorted m = true) (hv : nget m k = some v) :
    ∃ l r, m = l ++ (k, v) :: r ∧ (∀ e ∈ l, e.1 ≠ k) ∧ ∀ e ∈ r, e.1 ≠ k := by
  induction m with
  | nil => simp at hv
  | cons e m ih =>
    obtain ⟨j, x⟩ := e
    obtain ⟨habove, hm⟩ := (nsorted_cons _ _).1 hs
    by_cases hj : k = j
    · subst hj
      obtain rfl : x = v := by simpa [nget] using hv
      exact ⟨[], m, rfl, by simp, fun e he => (habove e he).ne'⟩
    · obtain ⟨l, r, rfl, hl, hr⟩ := ih hm (by simpa [nget, hj] using hv)
      refine ⟨(j, x) :: l, r, rfl, fun e he => ?_, hr⟩
      rcases List.mem_cons.1 he with rfl | he
      · exact fun hjk => hj hjk.symm
      · exact hl e he

/-- The committed bucket's value and accumulator after a tick (R316, R318, R319). -/
def State.tickedC (s : State) (h : Nat) : Int × Nat :=
  tickBucket (s.rdS (BI.SHP_LVL.CB h)) (s.shaper h).accC (s.rate false h) (s.rd (BI.SHP_CBS.BURST h)) (s.shaper h).forgiveC
    (s.shaper h).clampC

theorem State.bucketKept.tickedC (hk : a.bucketKept b h) : b.tickedC h = a.tickedC h := by
  obtain ⟨hlevel, hrate, hburst, -, hrecord⟩ := hk
  unfold State.tickedC State.rate State.rdS rateF
  rw [if_neg Bool.false_ne_true, hlevel, hrate, hburst, hrecord]

theorem unsignedOf_lt (w : Nat) (x : Int) : unsignedOf w x < 2 ^ w := by
  have hpos : (0 : Int) < 2 ^ w := by positivity
  have hlt := Int.emod_lt_of_pos x hpos
  have hnn := Int.emod_nonneg x hpos.ne'
  unfold unsignedOf
  zify
  rwa [Int.toNat_of_nonneg hnn]

theorem shpEB_key_ne (h : Nat) : (BI.SHP_LVL.CB h).key ≠ (BI.SHP_LVL.EB h).key := by
  simp only [BI.SHP_LVL.CB, BI.SHP_LVL.EB, Field.key]
  omega

theorem shpLevel_key_ne (h : Nat) : (BI.SHP_LVL.CB h).key ≠ (BI.SHP_STAT.LEVEL h).key := by
  simp only [BI.SHP_LVL.CB, BI.SHP_STAT.LEVEL, Field.key]
  omega

theorem State.rd_wrS_cb (s : State) (h : Nat) (x : Int) : (s.wrS (BI.SHP_LVL.CB h) x).rd (BI.SHP_LVL.CB h) = unsignedOf 32 x :=
  (State.rd_wrS_same _ _ _).trans (Nat.mod_eq_of_lt (unsignedOf_lt 32 x))

/-- An enabled shaper at a tick. -/
theorem State.tickOn_shows (s : State) (h : Nat) :
    (s.tickOn h).rd (BI.SHP_LVL.CB h) = unsignedOf 32 (s.tickedC h).1
      ∧ ((s.tickOn h).shaper h).accC = (s.tickedC h).2 ∧ ((s.tickOn h).shaper h).active = true
      ∧ ((s.tickOn h).shaper h).clampC = false ∧ ((s.tickOn h).shaper h).forgiveC = false := by
  unfold State.tickOn
  dsimp only
  split
  · simp only [State.shaper_setShaper_same, State.setShaper_rd, State.rd_wrS_ne _ _ (shpEB_key_ne h), State.rd_wrS_cb]
    exact ⟨rfl, rfl, trivial, trivial, trivial⟩
  · simp only [State.shaper_setShaper_same, State.setShaper_rd, State.rd_wrS_cb]
    exact ⟨rfl, rfl, trivial, trivial, trivial⟩

theorem State.tickShaper_enabled (he : s.isSet (BI.SHP_CTL.EN h) = true) :
    (s.tickShaper h).rd (BI.SHP_LVL.CB h) = unsignedOf 32 (s.tickedC h).1
      ∧ ((s.tickShaper h).shaper h).accC = (s.tickedC h).2 ∧ ((s.tickShaper h).shaper h).active = true
      ∧ ((s.tickShaper h).shaper h).clampC = false ∧ ((s.tickShaper h).shaper h).forgiveC = false := by
  rw [State.tickShaper_on he, (State.regsKept_showLevel _ h).rd (by simpa using shpLevel_key_ne h),
    (State.only_showLevel _ h).shaper]
  exact s.tickOn_shows h

theorem State.tickShaper_disabled (he : s.isSet (BI.SHP_CTL.EN h) = false) :
    (s.tickShaper h).rd (BI.SHP_LVL.CB h) = s.rd (BI.SHP_LVL.CB h)
      ∧ (s.tickShaper h).shaper h = { s.shaper h with active := false } := by
  rw [State.tickShaper_off he, (State.regsKept_showLevel _ h).rd (by simpa using shpLevel_key_ne h),
    (State.only_showLevel _ h).shaper]
  exact ⟨State.setShaper_rd _ _ _ _, State.shaper_setShaper_same _ _ _⟩

theorem State.refillTick_eq (hr : s.islRuns 8 = true) :
    s.refillTick = s.bi.shapers.foldl (fun s e => s.tickShaper e.1) s := by
  unfold State.refillTick
  rw [if_pos hr]

theorem State.only_refillTick (hr : s.islRuns 8 = true) : s.only s.refillTick [.regs, .bi] := by
  rw [State.refillTick_eq hr]
  exact State.only.foldl (f := fun u (e : Nat × Shaper) => u.tickShaper e.1) (fun u e => u.only_tickShaper e.1) s.bi.shapers s

/-- At a refill tick a touched shaper has its own tick, and those of the others leave its bucket. -/
theorem State.refillTick_at {w : Shaper} (hr : s.islRuns 8 = true) (hs : nsorted s.bi.shapers = true)
    (hlt : ∀ e ∈ s.bi.shapers, e.1 < 918) (hw : nget s.bi.shapers h = some w) :
    ∃ u, s.bucketKept u h ∧ (u.tickShaper h).bucketKept s.refillTick h := by
  obtain ⟨l, r, hsplit, hl, hrest⟩ := nsorted_split hs hw
  rw [hsplit] at hlt
  have hh : h < 918 := hlt (h, w) (by simp)
  refine ⟨l.foldl (fun s e => s.tickShaper e.1) s, ?_, ?_⟩
  · exact State.bucketKept_ticks hh (fun e he => ⟨hlt e (List.mem_append_left _ he), hl e he⟩) s
  · rw [State.refillTick_eq hr, hsplit, List.foldl_append, List.foldl_cons]
    exact State.bucketKept_ticks hh (fun e he =>
      ⟨hlt e (List.mem_append_right _ (List.mem_cons_of_mem _ he)), hrest e he⟩) _

theorem State.shaper_of_listed {w : Shaper} (hw : nget s.bi.shapers h = some w) : s.shaper h = w := by
  simp [State.shaper, ngetD, hw]

/-- A touched shaper that is enabled fills at a refill tick. -/
theorem State.refillTick_enabled {w : Shaper} (hr : s.islRuns 8 = true) (hs : nsorted s.bi.shapers = true)
    (hlt : ∀ e ∈ s.bi.shapers, e.1 < 918) (hw : nget s.bi.shapers h = some w) (he : s.isSet (BI.SHP_CTL.EN h) = true) :
    s.refillTick.rd (BI.SHP_LVL.CB h) = unsignedOf 32 (s.tickedC h).1
      ∧ (s.refillTick.shaper h).accC = (s.tickedC h).2 ∧ (s.refillTick.shaper h).active = true
      ∧ (s.refillTick.shaper h).clampC = false ∧ (s.refillTick.shaper h).forgiveC = false := by
  obtain ⟨u, hbefore, hafter⟩ := State.refillTick_at hr hs hlt hw
  rw [hafter.level, hafter.record, ← hbefore.tickedC]
  exact State.tickShaper_enabled ((State.isSet_congr hbefore.enable).trans he)

/-- A touched shaper that is disabled loses its gate and is frozen (R76, R320). -/
theorem State.refillTick_disabled {w : Shaper} (hr : s.islRuns 8 = true) (hs : nsorted s.bi.shapers = true)
    (hlt : ∀ e ∈ s.bi.shapers, e.1 < 918) (hw : nget s.bi.shapers h = some w) (he : s.isSet (BI.SHP_CTL.EN h) = false) :
    s.refillTick.rd (BI.SHP_LVL.CB h) = s.rd (BI.SHP_LVL.CB h) ∧ s.refillTick.shaper h = { w with active := false } := by
  obtain ⟨u, hbefore, hafter⟩ := State.refillTick_at hr hs hlt hw
  obtain ⟨hlevel, hrecord⟩ := State.tickShaper_disabled ((State.isSet_congr hbefore.enable).trans he)
  rw [hafter.level, hafter.record, hlevel, hrecord, hbefore.level, hbefore.record, State.shaper_of_listed hw]
  exact ⟨rfl, rfl⟩

end

/-- Settles O41: each window command is an `if` on its time, and a refill tick is a shaper's own tick among those of the
others, which leave it. -/
theorem windowsAndShapersOpenAndFill : Obligations.WindowsAndShapersOpenAndFill := by
  unfold Obligations.WindowsAndShapersOpenAndFill
  refine ⟨?opens, ?closes, ?rate, ?burst, ?tick⟩
  case opens =>
    intro p t o c s hw
    refine ⟨.next rfl (State.serviceStart_eq hw) ?_, .next rfl (State.guardStart_eq hw) ?_,
      .next rfl (State.windowOpen_eq hw) ?_⟩
    · dsimp only
      split
      · exact State.setCar_shows _ _ _
      · rfl
    · dsimp only
      split
      · exact State.setCar_shows _ _ _
      · rfl
    · dsimp only
      split
      · exact State.windowOpened_shows _ _ _
      · rfl
  case closes =>
    intro p t s hp hopen hclose
    obtain ⟨hshut, hcar, hothers, hcount, hkept, honly⟩ := State.shutWindow_shows hopen
    refine .next rfl ((if_pos hp).trans (State.windowClose_eq hopen hclose)) ⟨hshut, ?_, ?_, hothers, hcount, hkept, honly⟩
    · rw [hcar]; rfl
    · rw [hcar]; rfl
  case rate =>
    intro src h rate e f s hs hu hh hr
    exact .next rfl (State.regCmd_core hs (by simpa using hr) (by simpa using hu)) (State.rateWrite_shows hh rate f)
  case burst =>
    intro src h burst e s hs hu hh hr
    exact .next rfl (State.regCmd_core hs (by simpa using hr) (by simpa using hu)) (State.burstWrite_shows hh burst)
  case tick =>
    intro t h w s hr hs hlt hw
    have hlt' : ∀ e ∈ (s.begin t).bi.shapers, e.1 < 918 := by simpa using hlt
    refine .next rfl rfl ⟨?_, (State.only_refillTick hr).eq⟩
    split
    · rename_i he
      have hfill := State.refillTick_enabled hr hs hlt' hw he
      unfold State.tickedC at hfill
      rw [State.shaper_of_listed hw] at hfill
      exact hfill
    · rename_i he
      exact State.refillTick_disabled hr hs hlt' hw (by simpa using he)

/- ## What a device reset does to flash (R588) -/

section
variable {a b : State} {code : Nat}

/-- Two states agree in what an operation of the flash reads and changes: the controller's own state, flash, the free
values, and the flash size that places the journal. -/
structure State.flashSame (a b : State) : Prop where
  ctl : b.fl = a.fl
  flash : b.flash = a.flash
  free : b.free = a.free
  size : b.rd MI.FLASH_STAT.SIZE_MIB = a.rd MI.FLASH_STAT.SIZE_MIB

theorem State.only_flashProgram (s : State) (x : Nat) (l : Frame) : s.only (s.flashProgram x l) [.flash, .free] :=
  .of_withParts rfl

theorem State.only_flashUndefined (s : State) (x n : Nat) : s.only (s.flashUndefined x n) [.flash, .free] := .of_withParts rfl

theorem State.only_flashLeaves (s : State) (o : FlashOp) : s.only (s.flashLeaves o) [.flash, .free] := by
  cases o with
  | program fw x l => exact s.only_flashProgram x l
  | erase fw x n => exact .of_withParts rfl
  | journal h recs =>
    exact State.only.foldl (f := fun u (e : Frame × Nat) => u.flashProgram (u.jnlBase + (h + e.2) % jnlSlots * 64) e.1)
      (fun u e => u.only_flashProgram _ _) _ s

theorem State.only_flashAtReset (s : State) (code : Nat) : s.only (s.flashAtReset code) [.flash, .free] := by
  unfold State.flashAtReset
  split
  · exact .refl s _
  · rename_i o _
    split
    · exact s.only_flashLeaves o
    · cases o with
      | program fw x l => exact s.only_flashUndefined _ _
      | erase fw x n => exact s.only_flashUndefined _ _
      | journal h recs =>
        exact State.only.foldl
          (f := fun u (e : Frame × Nat) => u.flashUndefined (u.jnlBase + (h + e.2) % jnlSlots * 64) 64)
          (fun u e => u.only_flashUndefined _ _) _ s

theorem State.flashSame.foldl {α : Type} {f : State → α → State} (hf : ∀ (x y : State) (e : α), x.flashSame y →
    (f x e).flashSame (f y e)) (l : List α) (h : a.flashSame b) : (l.foldl f a).flashSame (l.foldl f b) := by
  induction l generalizing a b with
  | nil => exact h
  | cons e l ih => exact ih (hf a b e h)

theorem State.flashSame.jnlBase (h : a.flashSame b) : b.jnlBase = a.jnlBase := by
  unfold State.jnlBase State.bigFlash
  rw [h.size]

theorem State.flashSame.flashProgram (h : a.flashSame b) (x : Nat) (l : Frame) :
    (a.flashProgram x l).flashSame (b.flashProgram x l) := by
  obtain ⟨hfl, hflash, hfree, hsize⟩ := h
  refine ⟨hfl, ?_, hfree, hsize⟩
  unfold State.flashProgram State.flashWrite State.flashRead
  rw [hflash]

theorem State.flashSame.flashUndefined (h : a.flashSame b) (x n : Nat) :
    (a.flashUndefined x n).flashSame (b.flashUndefined x n) := by
  obtain ⟨hfl, hflash, hfree, hsize⟩ := h
  refine ⟨hfl, ?_, congrArg (· + 1) hfree, hsize⟩
  unfold State.flashUndefined State.flashWrite State.freeVal State.tookFree
  rw [hflash, hfree]

theorem State.flashSame.flashLeaves (h : a.flashSame b) (o : FlashOp) : (a.flashLeaves o).flashSame (b.flashLeaves o) := by
  cases o with
  | program fw x l => exact h.flashProgram x l
  | erase fw x n =>
    obtain ⟨hfl, hflash, hfree, hsize⟩ := h
    refine ⟨hfl, ?_, hfree, hsize⟩
    unfold State.flashLeaves State.flashErase
    rw [hflash]
  | journal k recs =>
    refine State.flashSame.foldl (f := fun u (e : Frame × Nat) => u.flashProgram (u.jnlBase + (k + e.2) % jnlSlots * 64) e.1)
      (fun x y e hxy => ?_) _ h
    rw [hxy.jnlBase]
    exact hxy.flashProgram _ _

/-- What a reset leaves in flash depends on the flash and its controller only. -/
theorem State.flashSame.flashAtReset (h : a.flashSame b) (code : Nat) :
    (a.flashAtReset code).flashSame (b.flashAtReset code) := by
  unfold State.flashAtReset
  rw [h.ctl]
  split
  · exact h
  · rename_i o _
    split
    · exact h.flashLeaves o
    · cases o with
      | program fw x l => exact h.flashUndefined _ _
      | erase fw x n => exact h.flashUndefined _ _
      | journal k recs =>
        refine State.flashSame.foldl
          (f := fun u (e : Frame × Nat) => u.flashUndefined (u.jnlBase + (k + e.2) % jnlSlots * 64) 64)
          (fun x y e hxy => ?_) _ h
        rw [hxy.jnlBase]
        exact hxy.flashUndefined _ _

end

/- ## The cleared device (R125, R144) -/

theorem nget_filter {α : Type} (p : Nat → Bool) (m : List (Nat × α)) (k : Nat) :
    nget (m.filter fun e => p e.1) k = if p k then nget m k else none := by
  induction m with
  | nil => simp
  | cons e m ih =>
    obtain ⟨j, v⟩ := e
    by_cases hj : k = j
    · subst hj
      cases hp : p k <;> simp [nget, hp, ih]
    · cases hp : p j <;> simp [nget, hp, hj, ih]

/-- The fields that a device reset itself sets, the reset cause apart. -/
def resetFields (code : Nat) : List Field :=
  [DI.TRN_STAT.SR_RETAINED, MI.HU_STAT.PF, MI.WDT_STAT.REMAIN] ++ if code = 1 then [AO.TAG_PEND.PEND] else []

section
variable {s b : State} {code : Nat} {f : Field}

theorem Field.outlives_congr {g : Field} (h : f.key = g.key) (code : Nat) : f.outlives code = g.outlives code := by
  unfold Field.outlives
  rw [h]

theorem Field.key_ne_of_outlives {g : Field} (hf : f.outlives code = true) (hg : g.outlives code = false) : f.key ≠ g.key :=
  fun h => by rw [Field.outlives_congr h, hg] at hf; exact Bool.false_ne_true hf

/-- A register behind a reset holds what it held where the source keeps it, and else its reset value. -/
theorem State.rd_afterReset (s : State) (hf : ∀ g ∈ resetFields code, f.key ≠ g.key) :
    (s.afterReset code).rd f = if f.outlives code then s.rd f else f.reset := by
  obtain ⟨c, hc, hregs⟩ : ∃ c : State, c.regs = s.regs.filter (fun e => keepsField code (e.1 / 64 / 0x100000)
      (e.1 / 64 % 0x100000) (e.1 % 64)) ∧ c.regsKept (s.afterReset code) (resetFields code) := by
    refine ⟨{ s with regs := _ }, rfl, ?_⟩
    have hset : ∀ u : State, ∀ v w : Nat, u.regsKept ((u.wr DI.TRN_STAT.SR_RETAINED v).wr MI.HU_STAT.PF w) (resetFields code) :=
      fun u v w => ((State.regsKept.refl u _).wr v (by simp [resetFields])).wr w (by simp [resetFields])
    have hwdt : ∀ u : State, u.regsKept u.wdtReload (resetFields code) := fun u =>
      ((State.regsKept.refl u _).wr (f := MI.WDT_STAT.REMAIN) _ (by simp [resetFields])).trans (.of_regs (State.mgSet_regs _ _) _)
    unfold State.afterReset
    dsimp only
    refine State.regsKept.trans ?_ (hwdt _)
    split
    · rename_i h1
      exact State.regsKept.wr (State.regsKept.trans (.of_regs rfl _) (hset _ _ _)) _ (by simp [resetFields, h1])
    · exact State.regsKept.trans (.of_regs rfl _) (hset _ _ _)
  rw [hregs.rd hf]
  unfold State.rd ngetD
  rw [hc, nget_filter fun k => keepsField code (k / 64 / 0x100000) (k / 64 % 0x100000) (k % 64)]
  show Option.getD (if f.outlives code = true then _ else _) _ = _
  split <;> rfl

/-- Whether a reset keeps DRAM: its source allows it, and the initialisation is done or the devices refresh themselves. -/
def State.retains (s : State) (code : Nat) : Bool :=
  !hardSource code && (s.isSet DI.TRN_STAT.INIT_DONE || s.di.selfRefresh)

theorem State.afterReset_shows (s : State) (code : Nat) :
    (s.afterReset code).sram = [] ∧ (s.afterReset code).host = s.host ∧ (s.afterReset code).flash = s.flash
      ∧ (s.afterReset code).mg.resets = s.mg.resets + 1 ∧ (s.afterReset code).boot.held = true
      ∧ (s.afterReset code).boot.aoPor = (code == 1)
      ∧ (s.afterReset code).dram = (if s.retains code then s.dram else [])
      ∧ (s.afterReset code).di.inits = (if s.retains code then s.di.inits else s.di.inits + 1) := by
  unfold State.afterReset
  dsimp only
  split <;> exact ⟨rfl, rfl, rfl, rfl, rfl, rfl, rfl, rfl⟩

/-- What a SEAL that is lost shows. -/
def sealFields : List Field := [AO.SEAL_CMD.FAIL, AO.SEAL_CMD.FAIL_AT, AO.SEAL_CMD.BUSY]

theorem State.only_sealAtReset (s : State) : s.only s.sealAtReset [.regs, .fl] := by
  unfold State.sealAtReset State.sealFail
  split
  · exact ((s.only_wrs _).mono (l' := [.regs, .fl])).trans (.of_withParts rfl)
  · exact .refl s _

theorem State.regsKept_sealAtReset (s : State) : s.regsKept s.sealAtReset sealFields := by
  unfold State.sealAtReset State.sealFail
  split
  · exact ((State.regsKept.refl s _).wrs (by simp [sealFields])).trans (.of_regs rfl _)
  · exact .refl s _

theorem State.only_resetPins (s was : State) : s.only (s.resetPins was) [.out] := by
  unfold State.resetPins
  dsimp only
  refine State.only.then ?_ (State.only_emit _ _)
  have hlow : ∀ (u : State) (x : Bool) (o : Output), u.only (if x then u.emit o else u) [.out] := by
    intro u x o
    split
    · exact u.only_emit o
    · exact .refl u _
  exact (hlow _ _ _).trans (hlow _ _ _)

/-- A device whose flash operation and queued SEAL have ended, on the way into a reset. -/
def State.atRest (s : State) (code : Nat) : State := (s.flashAtReset code).sealAtReset

theorem State.only_atRest (s : State) (code : Nat) : s.only (s.atRest code) [.flash, .free, .regs, .fl] :=
  ((s.only_flashAtReset code).mono).then (State.only_sealAtReset _)

theorem State.flash_atRest (s : State) (code : Nat) : (s.atRest code).flash = (s.flashAtReset code).flash :=
  (State.only_sealAtReset _) .flash (by decide)

theorem State.rd_atRest (s : State) (code : Nat) (hf : ∀ g ∈ sealFields, f.key ≠ g.key) : (s.atRest code).rd f = s.rd f :=
  ((State.regsKept_sealAtReset _).rd hf).trans ((s.only_flashAtReset code).rd f)

theorem State.retains_atRest (s : State) (code : Nat) : (s.atRest code).retains code = s.retains code := by
  unfold State.retains
  rw [State.isSet_congr (s.rd_atRest code (by decide)), (s.only_atRest code) .di (by decide)]

theorem State.clearDevice_eq (s : State) (hcode : code ≠ 1) : s.clearDevice code = ((s.atRest code).afterReset code).resetPins s := by
  unfold State.clearDevice State.fusesAtReset
  rw [if_neg hcode]
  rfl

/-- A cleared device: its memories, and that it is held in reset. -/
theorem State.clearDevice_shows (s : State) (hcode : code ≠ 1) :
    let u := s.clearDevice code
    u.sram = [] ∧ u.host = s.host ∧ u.flash = (s.flashAtReset code).flash ∧ u.mg.resets = s.mg.resets + 1
      ∧ u.boot.held = true ∧ u.boot.aoPor = false ∧ u.dram = (if s.retains code then s.dram else [])
      ∧ u.di.inits = (if s.retains code then s.di.inits else s.di.inits + 1) := by
  obtain ⟨hsram, hhost, hflash, hresets, hheld, hao, hdram, hinits⟩ := (s.atRest code).afterReset_shows code
  have hp := State.only_resetPins ((s.atRest code).afterReset code) s
  have hr := s.only_atRest code
  have hdi : (s.atRest code).di = s.di := hr .di (by decide)
  rw [s.retains_atRest code, hr .dram (by decide)] at hdram
  rw [s.retains_atRest code, hdi] at hinits
  dsimp only
  rw [s.clearDevice_eq hcode, hp .sram (by decide), hp .host (by decide), hp .flash (by decide), hp .mg (by decide),
    hp .boot (by decide), hp .dram (by decide), hp .di (by decide)]
  refine ⟨hsram, hhost.trans (hr .host (by decide)), hflash.trans (s.flash_atRest code), ?_, hheld, ?_, hdram, hinits⟩
  · rw [hresets, hr .mg (by decide)]
  · rw [hao]
    simpa using hcode

theorem State.rd_clearDevice_lost (s : State) (code : Nat) (hf : f.outlives code = false)
    (hx : ∀ g ∈ resetFields code, f.key ≠ g.key) : (s.clearDevice code).rd f = f.reset := by
  unfold State.clearDevice
  rw [(State.only_resetPins _ s).rd, State.rd_afterReset _ hx, hf]
  rfl

theorem resetFields_lost (hcode : code ≠ 1) : ∀ g ∈ resetFields code, g.outlives code = false := by
  intro g hg
  simp only [resetFields, hcode, if_false, List.append_nil, List.mem_cons, List.not_mem_nil, or_false] at hg
  rcases hg with rfl | rfl | rfl <;>
    simp [Field.outlives, keepsField, DI.TRN_STAT.SR_RETAINED, MI.HU_STAT.PF, MI.WDT_STAT.REMAIN, Field.key]

theorem State.rd_clearDevice_kept (s : State) (hcode : code ≠ 1) (hf : f.outlives code = true)
    (hx : ∀ g ∈ sealFields, f.key ≠ g.key) : (s.clearDevice code).rd f = s.rd f := by
  have hlost : ∀ g ∈ resetFields code, f.key ≠ g.key := fun g hg =>
    Field.key_ne_of_outlives hf (resetFields_lost hcode g hg)
  rw [s.clearDevice_eq hcode, (State.only_resetPins _ s).rd, State.rd_afterReset _ hlost, hf, if_pos rfl, s.rd_atRest code hx]

/- ## A source of reset (R125, R145) -/

/-- The reset cause as a source records it. -/
def State.causeNoted (s : State) (code : Nat) : State :=
  ((s.orF AO.RST_CAUSE.SEEN (2 ^ (code - 1))).addF AO.RST_CAUSE.RST_CNT 1).wr AO.RST_CAUSE.LAST code

def causeFields : List Field := [AO.RST_CAUSE.LAST, AO.RST_CAUSE.SEEN, AO.RST_CAUSE.RST_CNT]

theorem State.only_causeNoted (s : State) (code : Nat) : s.only (s.causeNoted code) [.regs] := .of_withParts rfl

theorem State.regsKept_causeNoted (s : State) (code : Nat) : s.regsKept (s.causeNoted code) causeFields :=
  (((State.regsKept.refl s causeFields).wr (f := AO.RST_CAUSE.SEEN) _ (by simp [causeFields])).wr
    (f := AO.RST_CAUSE.RST_CNT) _ (by simp [causeFields])).wr _ (by simp [causeFields])

theorem State.rd_causeNoted (s : State) (hlow : 2 ≤ code) (hhigh : code ≤ 8) :
    (s.causeNoted code).rd AO.RST_CAUSE.LAST = code ∧ bitOf ((s.causeNoted code).rd AO.RST_CAUSE.SEEN) (code - 1) = true := by
  constructor
  · exact (State.rd_wr_same _ _ _).trans (Nat.mod_eq_of_lt (show code < 16 by omega))
  · have hseen : (s.causeNoted code).rd AO.RST_CAUSE.SEEN = (s.orF AO.RST_CAUSE.SEEN (2 ^ (code - 1))).rd AO.RST_CAUSE.SEEN :=
      (State.rd_wr_ne _ _ (by decide)).trans (State.rd_addF_ne _ _ (by decide))
    rw [hseen]
    exact s.bitOf_orF (show code - 1 < 8 by omega)

theorem State.deviceReset_eq (hcode : code ≠ 1) (hj : s.joinsReset = false) :
    s.deviceReset code = ((s.causeNoted code).clearDevice code).tryStart := by
  have hj' : (s.joinsReset = true) = False := by simp [hj]
  unfold State.deviceReset
  simp only [if_neg hcode, hj', if_false]
  rfl

theorem State.rd_deviceReset_kept (hcode : code ≠ 1) (hj : s.joinsReset = false) (hf : f.outlives code = true)
    (hx : ∀ g ∈ causeFields ++ sealFields, f.key ≠ g.key) : (s.deviceReset code).rd f = s.rd f := by
  rw [State.deviceReset_eq hcode hj, (State.only_tryStart _).rd,
    State.rd_clearDevice_kept _ hcode hf fun g hg => hx g (List.mem_append_right _ hg),
    (s.regsKept_causeNoted code).rd fun g hg => hx g (List.mem_append_left _ hg)]

theorem State.rd_deviceReset_lost (hcode : code ≠ 1) (hj : s.joinsReset = false) (hf : f.outlives code = false)
    (hx : ∀ g ∈ [DI.TRN_STAT.SR_RETAINED, MI.HU_STAT.PF, MI.WDT_STAT.REMAIN], f.key ≠ g.key) :
    (s.deviceReset code).rd f = f.reset := by
  rw [State.deviceReset_eq hcode hj, (State.only_tryStart _).rd]
  exact State.rd_clearDevice_lost _ code hf (by simpa [resetFields, hcode] using hx)

/-- The reset cause outlives every source but AO_POR. -/
theorem causeFields_outlive (hcode : code ≠ 1) : ∀ g ∈ causeFields, g.outlives code = true := by
  intro g hg
  simp only [causeFields, List.mem_cons, List.not_mem_nil, or_false] at hg
  rcases hg with rfl | rfl | rfl <;> simp [Field.outlives, keepsField, AO.RST_CAUSE.LAST, AO.RST_CAUSE.SEEN,
    AO.RST_CAUSE.RST_CNT, Field.key, hcode]

/-- A source of reset, on a device that is not in a reset: `b` is the device before the source has noted its own facts. -/
theorem State.wasReset_deviceReset {ex : List Field} (hlow : 2 ≤ code) (hhigh : code ≤ 8) (hj : s.joinsReset = false)
    (hparts : b.only s [.regs, .mg]) (hresets : s.mg.resets = b.mg.resets)
    (hinit : s.rd DI.TRN_STAT.INIT_DONE = b.rd DI.TRN_STAT.INIT_DONE)
    (hsize : s.rd MI.FLASH_STAT.SIZE_MIB = b.rd MI.FLASH_STAT.SIZE_MIB)
    (hkept : ∀ f : Field, f.outlives code = true → (∀ g ∈ ex, f.key ≠ g.key) → s.rd f = b.rd f) :
    b.wasReset (s.deviceReset code) code ex := by
  have hcode : code ≠ 1 := by omega
  obtain ⟨hlast, hseen⟩ := s.rd_causeNoted hlow hhigh
  have hnoted : b.only (s.causeNoted code) [.regs, .mg] := hparts.then (s.only_causeNoted code)
  have hst := State.only_tryStart ((s.causeNoted code).clearDevice code)
  rw [← State.deviceReset_eq hcode hj] at hst
  obtain ⟨hsram, hhost, hflash, hmg, -, -, hdram, hinits⟩ := (s.causeNoted code).clearDevice_shows hcode
  have hcause : ∀ g ∈ causeFields, (s.deviceReset code).rd g = (s.causeNoted code).rd g := by
    intro g hg
    rw [hst.rd, State.rd_clearDevice_kept _ hcode (causeFields_outlive hcode g hg)]
    simp only [causeFields, List.mem_cons, List.not_mem_nil, or_false] at hg
    rcases hg with rfl | rfl | rfl <;> decide
  have hsame : b.flashSame (s.causeNoted code) :=
    ⟨hnoted .fl (by decide), hnoted .flash (by decide), hnoted .free (by decide),
      ((s.regsKept_causeNoted code).rd (by decide)).trans hsize⟩
  have hretains : (s.causeNoted code).retains code = b.retains code := by
    unfold State.retains
    rw [State.isSet_congr ((s.regsKept_causeNoted code).rd (by decide)), State.isSet_congr hinit, hnoted .di (by decide)]
  rw [hretains] at hdram hinits
  refine ⟨?_, ?_, fun f hf hx => State.rd_deviceReset_lost hcode hj hf hx, fun f hf hx => ?_, ?_, ?_, ?_, ?_, ?_⟩
  · rw [hcause _ (by simp [causeFields]), hlast]
  · rw [hcause _ (by simp [causeFields]), hseen]
  · rw [State.rd_deviceReset_kept hcode hj hf fun g hg => hx g (List.mem_append_left _ hg)]
    exact hkept f hf fun g hg => hx g (List.mem_append_right _ hg)
  · rw [hst .sram (by decide), hsram]
  · rw [hst .host (by decide), hhost, hnoted .host (by decide)]
  · rw [hst .flash (by decide), hflash, (hsame.flashAtReset code).flash]
  · rw [hst .mg (by decide), hmg, (s.only_causeNoted code) .mg (by decide), hresets]
  · rw [hst .di (by decide), hst .dram (by decide), hdram, hinits, hnoted .dram (by decide), hnoted .di (by decide)]
    show if b.retains code = true then _ else _
    split <;> exact ⟨rfl, rfl⟩

/-- A device whose inputs do not release it stays in reset. -/
theorem State.held_deviceReset (hcode : code ≠ 1) (hj : s.joinsReset = false) :
    (s.deviceReset code).boot.held = !s.inputsRelease := by
  obtain ⟨-, -, -, -, hheld, hao, -, -⟩ := (s.causeNoted code).clearDevice_shows hcode
  have hpin : ∀ g ∈ [AO.PIN_STAT.RESET_N, AO.PIN_STAT.VDD_CORE_OK],
      ((s.causeNoted code).clearDevice code).rd g = s.rd g := by
    intro g hg
    simp only [List.mem_cons, List.not_mem_nil, or_false] at hg
    rcases hg with rfl | rfl <;>
      exact (State.rd_clearDevice_kept _ hcode (by simp [Field.outlives, keepsField, AO.PIN_STAT.RESET_N,
        AO.PIN_STAT.VDD_CORE_OK, Field.key, hcode]) (by decide)).trans ((s.regsKept_causeNoted code).rd (by decide))
  have hin : ((s.causeNoted code).clearDevice code).inputsRelease = s.inputsRelease := by
    unfold State.inputsRelease
    rw [State.isSet_congr (hpin _ (by simp)), State.isSet_congr (hpin _ (by simp))]
  rw [State.deviceReset_eq hcode hj, (State.tryStart_shows hheld hao).1, hin]

/-- A device that is in no reset has no source of this instant behind it. -/
theorem State.not_joinsReset (hj : s.joinsReset = false) : s.boot.held = false ∧ ∀ code, s.resetNow code = false := by
  unfold State.joinsReset at hj
  rw [Bool.or_eq_false_iff] at hj
  exact ⟨hj.1, fun code => by unfold State.resetNow; rw [hj.2, Bool.false_and]⟩

/-- A reset behind one register write. -/
theorem State.wasReset_wr (hlow : 2 ≤ code) (hhigh : code ≤ 8) (hj : s.joinsReset = false) (g : Field) (v : Nat)
    (hinit : DI.TRN_STAT.INIT_DONE.key ≠ g.key) (hsize : MI.FLASH_STAT.SIZE_MIB.key ≠ g.key) :
    s.wasReset ((s.wr g v).deviceReset code) code [g] :=
  State.wasReset_deviceReset hlow hhigh hj ((s.only_wr g v).mono) rfl (s.rd_wr_ne v hinit) (s.rd_wr_ne v hsize)
    fun _ _ hf => s.rd_wr_ne v (hf g (by simp))

/-- A reset with nothing noted before it. -/
theorem State.wasReset_plain (hlow : 2 ≤ code) (hhigh : code ≤ 8) (hj : s.joinsReset = false) :
    s.wasReset (s.deviceReset code) code [] :=
  State.wasReset_deviceReset hlow hhigh hj (.refl s _) rfl rfl rfl fun _ _ _ => rfl

theorem State.pinReset_shows (hj : s.joinsReset = false) :
    let u := (s.wr AO.PIN_STAT.RESET_N 0).deviceReset 3
    s.wasReset u 3 [AO.PIN_STAT.RESET_N] ∧ u.boot.held = true ∧ u.mode = 0 := by
  have hj' : (s.wr AO.PIN_STAT.RESET_N 0).joinsReset = false := hj
  have hin : (s.wr AO.PIN_STAT.RESET_N 0).inputsRelease = false := by
    simp [State.inputsRelease, State.isSet_eq]
  refine ⟨State.wasReset_wr (by decide) (by decide) hj _ _ (by decide) (by decide), ?_,
    State.rd_deviceReset_lost (by decide) hj' (by decide) (by decide)⟩
  rw [State.held_deviceReset (by decide) hj', hin]
  rfl

theorem State.coreLoss_shows (hj : s.joinsReset = false) :
    let u := (s.wr AO.PIN_STAT.VDD_CORE_OK 0).deviceReset 2
    s.wasReset u 2 [AO.PIN_STAT.VDD_CORE_OK] ∧ u.dram = [] ∧ u.boot.held = true := by
  have hj' : (s.wr AO.PIN_STAT.VDD_CORE_OK 0).joinsReset = false := hj
  have hin : (s.wr AO.PIN_STAT.VDD_CORE_OK 0).inputsRelease = false := by
    simp [State.inputsRelease, State.isSet_eq]
  have hw := s.wasReset_wr (code := 2) (by decide) (by decide) hj AO.PIN_STAT.VDD_CORE_OK 0 (by decide) (by decide)
  refine ⟨hw, ?_, ?_⟩
  · obtain ⟨-, -, -, -, -, -, -, -, hdram⟩ := hw
    exact hdram.1
  · rw [State.held_deviceReset (by decide) hj', hin]
    rfl

/-- A pin reset in a reset joins it: only the cause is recorded (R145). -/
theorem State.pinReset_joins (hj : s.joinsReset = true) :
    let u := (s.wr AO.PIN_STAT.RESET_N 0).deviceReset 3
    u.rd AO.RST_CAUSE.LAST = min 3 (s.rd AO.RST_CAUSE.LAST) ∧ bitOf (u.rd AO.RST_CAUSE.SEEN) 2 = true
      ∧ s.regsKept u [AO.RST_CAUSE.LAST, AO.RST_CAUSE.SEEN, AO.PIN_STAT.RESET_N] ∧ u = { s with regs := u.regs } := by
  let w := s.wr AO.PIN_STAT.RESET_N 0
  have heq : w.deviceReset 3
      = (w.orF AO.RST_CAUSE.SEEN (2 ^ 2)).wr AO.RST_CAUSE.LAST (min 3 (w.rd AO.RST_CAUSE.LAST)) := by
    have hj' : (w.joinsReset = true) = True := eq_true hj
    unfold State.deviceReset
    simp only [hj', if_true]
    rfl
  have hlast : w.rd AO.RST_CAUSE.LAST = s.rd AO.RST_CAUSE.LAST := s.rd_wr_ne _ (by decide)
  show (w.deviceReset 3).rd _ = _ ∧ _
  rw [heq, hlast]
  refine ⟨?_, ?_, ?_, rfl⟩
  · exact (State.rd_wr_same _ _ _).trans (Nat.mod_eq_of_lt (lt_of_le_of_lt (min_le_left _ _) (by decide)))
  · rw [State.rd_wr_ne _ _ (by decide)]
    exact w.bitOf_orF (by decide)
  · exact (((State.regsKept.refl s _).wr 0 (by simp)).wr (f := AO.RST_CAUSE.SEEN) _ (by simp)).wr _ (by simp)

/- ## The watchdog (R491) -/

/-- What an expiry of the watchdog notes before the reset. -/
def State.evidenced (s : State) (pc : Nat) (machine : Bool) : State :=
  (s.wrs [(MI.WDT_EVID_PC.PC, pc), (MI.WDT_EVID_PC.PRIV, machine.toNat), (MI.WDT_EVID_PC.DEBUG_HALTED, s.mg.halted.toNat),
    (MI.WDT_EVID_PC.VALID, 1)]).addF MI.WDT_STAT.EXPIRED_CNT 1

def evidenceFields : List Field :=
  [MI.WDT_EVID_PC.PC, MI.WDT_EVID_PC.PRIV, MI.WDT_EVID_PC.DEBUG_HALTED, MI.WDT_EVID_PC.VALID, MI.WDT_STAT.EXPIRED_CNT]

theorem State.regsKept_evidenced (s : State) (pc : Nat) (machine : Bool) : s.regsKept (s.evidenced pc machine) evidenceFields :=
  ((State.regsKept.refl s _).wrs (by simp [evidenceFields])).wr _ (by simp [evidenceFields])

theorem State.only_evidenced (s : State) (pc : Nat) (machine : Bool) : s.only (s.evidenced pc machine) [.regs] :=
  (s.only_wrs _).then (State.only_wr _ _ _)

theorem State.rd_evidenced (s : State) (pc : Nat) (machine : Bool) :
    let u := s.evidenced pc machine
    u.rd MI.WDT_EVID_PC.PC = pc % 2 ^ MI.WDT_EVID_PC.PC.width ∧ u.rd MI.WDT_EVID_PC.VALID = 1
      ∧ u.rd MI.WDT_EVID_PC.PRIV = machine.toNat
      ∧ u.rd MI.WDT_STAT.EXPIRED_CNT = (s.rd MI.WDT_STAT.EXPIRED_CNT + 1) % 2 ^ 16 := by
  dsimp only [State.evidenced, State.wrs_cons, State.wrs_nil]
  refine ⟨?_, ?_, ?_, ?_⟩
  · rw [State.rd_addF_ne _ _ (by decide), State.rd_wr_ne _ _ (by decide), State.rd_wr_ne _ _ (by decide),
      State.rd_wr_ne _ _ (by decide), State.rd_wr_same]
  · rw [State.rd_addF_ne _ _ (by decide), State.rd_wr_same]
    rfl
  · rw [State.rd_addF_ne _ _ (by decide), State.rd_wr_ne _ _ (by decide), State.rd_wr_ne _ _ (by decide), State.rd_wr_same]
    cases machine <;> rfl
  · rw [State.rd_addF_same, State.rd_wr_ne _ _ (by decide), State.rd_wr_ne _ _ (by decide), State.rd_wr_ne _ _ (by decide),
      State.rd_wr_ne _ _ (by decide)]
    rfl

theorem State.wdtExpire_eq (pc : Nat) (machine : Bool) (hj : s.joinsReset = false) (hen : s.isSet MI.WDT_CFG.EN = true)
    (hrem : s.wdtSync.rd MI.WDT_STAT.REMAIN = 0) :
    s.wdtExpire pc machine = (s.wdtSync.evidenced pc machine).deviceReset 4 := by
  have hen' : s.wdtSync.isSet MI.WDT_CFG.EN = true := by
    rw [State.isSet_congr (s.restKept_wdtSync.rd (by decide) (by decide)), hen]
  have hheld : s.wdtSync.boot.held = false := by
    rw [s.wdtSync_only]
    exact (State.not_joinsReset hj).1
  unfold State.wdtExpire
  rw [if_pos (by simp [hen', hrem, hheld])]
  rfl

theorem State.regsKept_wdtSync (s : State) : s.regsKept s.wdtSync [MI.WDT_STAT.REMAIN] := by
  obtain ⟨g, h⟩ | ⟨v, g, h⟩ := s.wdtSync_cases <;> rw [h]
  · exact .of_regs rfl _
  · exact ((State.regsKept.refl s _).wr (f := MI.WDT_STAT.REMAIN) v (by simp)).trans (.of_regs rfl _)

theorem evidenceFields_outlive : ∀ g ∈ evidenceFields, g.outlives 4 = true ∧ ∀ x ∈ causeFields ++ sealFields, g.key ≠ x.key := by
  decide

/-- The watchdog expires (R491). -/
theorem State.wdtExpire_shows (pc : Nat) (machine : Bool) (hj : s.joinsReset = false) (hen : s.isSet MI.WDT_CFG.EN = true)
    (hrem : s.wdtSync.rd MI.WDT_STAT.REMAIN = 0) :
    let u := s.wdtExpire pc machine
    s.wasReset u 4 evidenceFields ∧ u.rd MI.WDT_EVID_PC.PC = pc % 2 ^ MI.WDT_EVID_PC.PC.width
      ∧ u.rd MI.WDT_EVID_PC.VALID = 1 ∧ u.rd MI.WDT_EVID_PC.PRIV = machine.toNat
      ∧ u.rd MI.WDT_STAT.EXPIRED_CNT = (s.rd MI.WDT_STAT.EXPIRED_CNT + 1) % 2 ^ 16 := by
  have hsync : s.only s.wdtSync [.regs, .mg] := .of_withParts s.wdtSync_only
  have hev := s.wdtSync.only_evidenced pc machine
  have hj' : (s.wdtSync.evidenced pc machine).joinsReset = false := by
    unfold State.joinsReset
    rw [hev .boot (by decide), hev.now, hsync .boot (by decide), hsync.now]
    exact hj
  have hregs : s.regsKept (s.wdtSync.evidenced pc machine) (MI.WDT_STAT.REMAIN :: evidenceFields) :=
    (s.regsKept_wdtSync.mono (by simp)).trans ((s.wdtSync.regsKept_evidenced pc machine).mono fun g hg => .tail _ hg)
  have hreset := State.wasReset_deviceReset (code := 4) (ex := evidenceFields) (by decide) (by decide) hj' (hsync.then hev)
    (by rw [hev .mg (by decide), s.jnlKept_wdtSync.resets]) (hregs.rd (by decide)) (hregs.rd (by decide)) fun f hf hx =>
      hregs.rd fun g hg => by
        rcases List.mem_cons.1 hg with rfl | hg
        · exact Field.key_ne_of_outlives hf (by decide)
        · exact hx g hg
  have hrd : ∀ g ∈ evidenceFields, ((s.wdtSync.evidenced pc machine).deviceReset 4).rd g
      = (s.wdtSync.evidenced pc machine).rd g := fun g hg =>
    State.rd_deviceReset_kept (by decide) hj' (evidenceFields_outlive g hg).1 (evidenceFields_outlive g hg).2
  obtain ⟨hpc, hvalid, hpriv, hcount⟩ := s.wdtSync.rd_evidenced pc machine
  dsimp only
  rw [State.wdtExpire_eq pc machine hj hen hrem]
  refine ⟨hreset, (hrd _ (by simp [evidenceFields])).trans hpc, (hrd _ (by simp [evidenceFields])).trans hvalid,
    (hrd _ (by simp [evidenceFields])).trans hpriv, (hrd _ (by simp [evidenceFields])).trans (hcount.trans ?_)⟩
  rw [s.regsKept_wdtSync.rd (by decide)]

/- ## Software's sources (R144, R473) -/

/-- FW_RESET is the core's, with its key; any other write of it is one to an unoccupied offset. -/
theorem State.fwReset_shows {src : Src} (key : Nat) (hj : s.joinsReset = false) (hr : s.reaches src .store 0 0x58 = true) :
    let u := s.fwReset src key
    if src ≠ .host ∧ key = 0xA5 then s.wasReset u 5 [] else u.rd MI.ACC_STAT.UNMAPPED = 1 ∧ u = { s with regs := u.regs } := by
  have heq : s.fwReset src key = if src ≠ .host ∧ key = 0xA5 then s.deviceReset 5 else s.unmapped src 0 0x58 :=
    (State.guarded_reached _ hr).trans (if_congr (by simp) rfl rfl)
  dsimp only
  rw [heq]
  split
  · exact State.wasReset_plain (by decide) (by decide) hj
  · exact ⟨(s.unmapped_rd src 0 0x58).1, s.unmapped_only src 0 0x58⟩

/-- HOST_RESET is the host's, with its key, where SECURITY permits it. -/
theorem State.hostReset_shows {src : Src} (key : Nat) (hj : s.joinsReset = false) (hr : s.reaches src .store 0 0x58 = true) :
    let u := s.hostReset src key
    if src = .host ∧ key = 0xA5 ∧ s.policy 0 = true then s.wasReset u 6 []
    else u.rd MI.ACC_STAT.UNMAPPED = 1 ∧ u = { s with regs := u.regs } := by
  have heq : s.hostReset src key
      = if src = .host ∧ key = 0xA5 ∧ s.policy 0 = true then s.deviceReset 6 else s.unmapped src 0 0x58 :=
    (State.guarded_reached _ hr).trans (if_congr (by simp [(State.not_joinsReset hj).2 6, and_assoc]) rfl rfl)
  dsimp only
  rw [heq]
  split
  · exact State.wasReset_plain (by decide) (by decide) hj
  · exact ⟨(s.unmapped_rd src 0 0x58).1, s.unmapped_only src 0 0x58⟩

/- ## AO_POR -/

/-- AO_POR leaves the always-on island in reset, and what no fuse and no tag holds at its reset value. -/
theorem State.aoPor_shows (s : State) :
    let u := s.deviceReset 1
    u.boot.held = true ∧ u.boot.aoPor = true ∧ u.sram = [] ∧ u.dram = []
      ∧ ∀ f : Field, f.outlives 1 = false →
        (∀ g ∈ [DI.TRN_STAT.SR_RETAINED, MI.HU_STAT.PF, MI.WDT_STAT.REMAIN, AO.TAG_PEND.PEND], f.key ≠ g.key) →
        u.rd f = f.reset := by
  have heq : s.deviceReset 1 = s.clearDevice 1 := if_pos rfl
  obtain ⟨r, hr⟩ : ∃ r : State, s.clearDevice 1 = (r.afterReset 1).resetPins s := ⟨_, rfl⟩
  obtain ⟨hsram, -, -, -, hheld, hao, hdram, -⟩ := r.afterReset_shows 1
  have hp := (r.afterReset 1).only_resetPins s
  rw [← hr] at hp
  dsimp only
  rw [heq, hp .boot (by decide), hp .sram (by decide), hp .dram (by decide)]
  refine ⟨hheld, hao, hsram, ?_, fun f hf hx => s.rd_clearDevice_lost 1 hf hx⟩
  rw [hdram]
  rfl

end

/-- Settles O17: every source notes its own facts and then resets the device in one way; one that joins a reset only records
itself. -/
theorem deviceResetsClearWhatTheTableSays : Obligations.DeviceResetsClearWhatTheTableSays := by
  unfold Obligations.DeviceResetsClearWhatTheTableSays
  refine ⟨?pin, ?watchdog, ?firmware, ?denied, ?joins, ?host, ?debug, ?core, ?por⟩
  case pin =>
    intro t s hj
    exact .next rfl rfl (State.pinReset_shows hj)
  case watchdog =>
    intro pc t machine s hj hen hrem
    exact .next rfl rfl (State.wdtExpire_shows pc machine hj hen hrem)
  case firmware =>
    intro src key t s hj hr
    exact .next rfl rfl (State.fwReset_shows key hj hr)
  case denied =>
    intro src key t s hr
    exact ⟨.next rfl (State.guarded_denied _ hr) rfl, .next rfl (State.guarded_denied _ hr) rfl⟩
  case joins =>
    intro t s hj
    exact .next rfl rfl (State.pinReset_joins hj)
  case host =>
    intro src key t s hj hr
    exact .next rfl rfl (State.hostReset_shows key hj hr)
  case debug =>
    intro t s hj ho
    exact .next rfl (if_pos (by simp [ho])) (State.wasReset_plain (by decide) (by decide) hj)
  case core =>
    intro t s hj
    exact .next rfl rfl (State.coreLoss_shows hj)
  case por =>
    intro t s
    exact .next rfl rfl (s.begin t).aoPor_shows

/-! PROOFS. The replay engine, the core's accesses to SRAM and the host's doorbell (O22). -/

/- ## The phase of the boot ROM, which the journal and the flash controller leave -/

/-- From `a` to `b` the boot ROM's phase stays. -/
def State.phaseKept (a b : State) : Prop := b.phase = a.phase

section
variable {a b c : State}

theorem State.phaseKept.refl (s : State) : s.phaseKept s := rfl

theorem State.phaseKept.trans (h : a.phaseKept b) (h' : b.phaseKept c) : a.phaseKept c := Eq.trans h' h

theorem State.phaseKept.regs (h : a.phaseKept b) (hc : c.regs = b.regs) : a.phaseKept c :=
  h.trans (by simp [State.phaseKept, State.phase, State.rd, hc])

/-- The controller's own state. -/
theorem State.phaseKept.setFl (h : a.phaseKept b) (x : Persist) : a.phaseKept { b with fl := x } := h.regs rfl

theorem State.phaseKept.wr (h : a.phaseKept b) {g : Field} (v : Nat) (hg : MI.BOOT_STAT.PHASE.key ≠ g.key := by decide) :
    a.phaseKept (b.wr g v) := h.trans (b.rd_wr_ne v hg)

theorem State.phaseKept.addOvf (h : a.phaseKept b) {f o : Field} (bits n : Nat)
    (hf : MI.BOOT_STAT.PHASE.key ≠ f.key := by decide) (ho : MI.BOOT_STAT.PHASE.key ≠ o.key := by decide) :
    a.phaseKept (b.addOvf f o bits n) := h.trans (b.rd_addOvf_ne bits n hf ho)

theorem State.phaseKept.raise (h : a.phaseKept b) {n : Nat} (hn : n < 128 := by decide) : a.phaseKept (b.raise n) :=
  h.trans ((b.restKept_raise hn).rd (by decide) (by simp))

theorem State.phaseKept.raiseIf (h : a.phaseKept b) (x : Bool) {n : Nat} (hn : n < 128 := by decide) :
    a.phaseKept (b.raiseIf x n) := h.trans ((b.restKept_raiseIf x hn).rd (by decide) (by simp))

theorem State.phaseKept.logEvent (h : a.phaseKept b) (cause i : Nat) : a.phaseKept (b.logEvent cause i) :=
  h.trans ((b.restKept_logEvent cause i).rd (by decide) (by decide))

end

section
variable (s : State)

theorem State.phaseKept_wdtSync : s.phaseKept s.wdtSync :=
  (s.restKept_wdtSync).rd (by decide) (by decide)

theorem State.phaseKept_wdtResume : s.phaseKept s.wdtResume := by
  unfold State.wdtResume
  split
  · exact .refl s
  · exact (State.phaseKept.refl s).wr _

theorem State.phaseKept_eraseSuspends (x : Bool) : s.phaseKept (s.eraseSuspends x) := by
  have h : s.phaseKept ((s.wdtSync.flag MI.WDT_STAT.ERASE_SUSP x).flag MI.FLASH_STAT.ERASING x) :=
    (s.phaseKept_wdtSync.wr _).wr _
  unfold State.eraseSuspends
  dsimp only
  split
  · exact h.trans (State.phaseKept_wdtResume _)
  · exact h

theorem State.phaseKept_holdup (k : Store) : s.phaseKept (s.holdup k).2 := by
  obtain ⟨v, h | h⟩ := s.holdup_cases k <;> rw [h]
  · exact (State.phaseKept.refl s).wr _
  · exact ((((State.phaseKept.refl s).wr _).addOvf _ _).wr _).logEvent _ _

/-- The hold-up check under a name of its own: its arithmetic, on energies of many digits, is not to be looked into. -/
theorem State.holdup_opaquePhase : ∃ check, check = State.holdup ∧ ∀ (u : State) (k : Store), u.phaseKept (check u k).2 :=
  ⟨_, rfl, State.phaseKept_holdup⟩

theorem State.phaseKept_flashStart (o : FlashOp) : s.phaseKept (s.flashStart o) := by
  have h : s.phaseKept { s with fl := { s.fl with op := some o, opSince := s.now } } := rfl
  unfold State.flashStart
  cases o with
  | erase fw a n => exact h.trans (State.phaseKept_eraseSuspends _ _)
  | program fw a l => exact h
  | journal h' l => exact h

theorem State.phaseKept_jnlDefer : s.phaseKept s.jnlDefer := by
  unfold State.jnlDefer
  dsimp only
  split
  · exact (State.phaseKept.raise (State.phaseKept.wr rfl _)).logEvent _ _
  · rfl

theorem State.phaseKept_flashThenTries : s.phaseKept s.flashThenTries := by
  unfold State.flashThenTries
  split
  · exact ((State.phaseKept.refl s).setFl _).trans (State.phaseKept_flashStart _ _)
  · exact .refl s

theorem State.phaseKept_flashNote (f : Field) (hf : MI.BOOT_STAT.PHASE.key ≠ f.key := by decide) : s.phaseKept (s.flashNote f) :=
  ((State.phaseKept.refl s).wr _ hf).raiseIf _

theorem State.phaseKept_flashThenFirmware : s.phaseKept s.flashThenFirmware := by
  obtain ⟨check, hc, hcheck⟩ := State.holdup_opaquePhase
  unfold State.flashThenFirmware
  rw [← hc]
  split
  · rename_i o _ _
    have h := ((State.phaseKept.refl s).setFl { s.fl with want := none }).trans
      (hcheck _ (State.storeOf { s with fl := { s.fl with want := none } } o))
    dsimp only
    split
    · exact h.trans (State.phaseKept_flashStart _ _)
    · exact (h.wr _).trans (State.phaseKept_flashNote _ _)
  · exact .refl s

theorem State.phaseKept_flashThenOldest : s.phaseKept s.flashThenOldest := by
  obtain ⟨check, hc, hcheck⟩ := State.holdup_opaquePhase
  unfold State.flashThenOldest
  rw [← hc]
  split
  · have h := ((State.phaseKept.refl s).setFl { s.fl with wantOldest := false }).trans (hcheck _ .erase64k)
    dsimp only
    split
    · exact h.trans (State.phaseKept_flashStart _ _)
    · exact h
  · exact .refl s

theorem State.flashThenOldest_opaquePhase : ∃ last, last = State.flashThenOldest ∧ ∀ u : State, u.phaseKept (last u) :=
  ⟨_, rfl, State.phaseKept_flashThenOldest⟩

theorem State.phaseKept_flashPump : s.phaseKept s.flashPump := by
  obtain ⟨check, hc, hcheck⟩ := State.holdup_opaquePhase
  obtain ⟨last, hl, hlast⟩ := State.flashThenOldest_opaquePhase
  have hthen : ∀ u : State, u.phaseKept (last u.flashThenTries.flashThenFirmware) := fun u =>
    (u.phaseKept_flashThenTries.trans (State.phaseKept_flashThenFirmware _)).trans (hlast _)
  unfold State.flashPump
  rw [← hc, ← hl]
  split
  · exact .refl s
  · split
    · rename_i o _
      have h := hcheck s (s.storeOf o)
      dsimp only
      split
      · exact h.trans (State.phaseKept_flashStart _ _)
      · exact (h.trans (State.phaseKept_jnlDefer _)).trans (hthen _)
    · exact hthen s

theorem State.phaseKept_jnlAppend (r : Frame) (device : Bool) : s.phaseKept (s.jnlAppend r device) := by
  have hcounts : ∀ u : State, u.phaseKept u.jnlCounts := fun u => ((State.phaseKept.refl u).wr _).wr _
  unfold State.jnlAppend State.jnlQueue
  exact (((((State.phaseKept.refl s).wr _).setFl _).setFl _).trans (hcounts _)).trans
    (State.phaseKept_flashPump _)

theorem State.phaseKept_jnlDevice (ty : Nat) (payload : Frame) : s.phaseKept (s.jnlDevice ty payload) := by
  unfold State.jnlDevice
  split
  · exact s.phaseKept_jnlAppend _ _
  · exact ((((State.phaseKept.refl s).addOvf _ _).wr _).raiseIf _).logEvent _ _

/- ## Importing tag pages (R509) -/

/-- An import is turned away, stops at the hold-up check, or stores an object and appends its record. -/
theorem State.importPage_cases (p : Nat) :
    s.importPage p = s ∨ s.importPage p = (s.holdup .program).2
      ∨ ∃ a d l x, s.importPage p = { ((s.holdup .program).2.tookFree.flashProgram a d).tookFree.jnlDevice 4 l with fl := x } := by
  unfold State.importPage
  generalize s.holdup .program = r
  obtain ⟨ok, u⟩ := r
  dsimp only
  split
  · exact .inl rfl
  · split
    · exact .inr (.inl rfl)
    · exact .inr (.inr ⟨_, _, _, _, rfl⟩)

/-- An import leaves the boot ROM's phase and the replay engine's state. -/
theorem State.importPage_keeps (p : Nat) : s.phaseKept (s.importPage p) ∧ (s.importPage p).boot = s.boot := by
  have hphase := s.phaseKept_holdup .program
  have hboot : (s.holdup .program).2.boot = s.boot := (s.jnlKept_holdup .program).parts .boot (by decide)
  obtain h | h | ⟨a, d, l, x, h⟩ := s.importPage_cases p <;> rw [h]
  · exact ⟨rfl, rfl⟩
  · exact ⟨hphase, hboot⟩
  · generalize (s.holdup .program).2 = u at hphase hboot
    have hstored : s.phaseKept (u.tookFree.flashProgram a d).tookFree := hphase.regs rfl
    have hnoted := (u.tookFree.flashProgram a d).tookFree.jnlKept_jnlDevice 4 l
    exact ⟨(hstored.trans (State.phaseKept_jnlDevice _ _ _)).setFl x,
      Eq.trans (hnoted.parts .boot (by decide)) hboot⟩

theorem State.importAll_keeps : s.phaseKept s.importAll ∧ s.importAll.boot = s.boot :=
  State.foldl_rel (R := fun a b => a.phaseKept b ∧ b.boot = a.boot) (f := State.importPage) (fun _ => ⟨rfl, rfl⟩)
    (fun _ _ _ h h' => ⟨h.1.trans h'.1, h'.2.trans h.2⟩) State.importPage_keeps _ s

end

/- ## The replay engine's steps (R131, R527, R528) -/

/-- What holds from the call of the replay engine until its end: it has been called, and PHASE stays. -/
def State.replayKept (a b : State) : Prop := a.phaseKept b ∧ b.boot.called = a.boot.called

section
variable {a b c : State}

theorem State.replayKept.trans (h : a.replayKept b) (h' : b.replayKept c) : a.replayKept c :=
  ⟨h.1.trans h'.1, h'.2.trans h.2⟩

theorem State.replayKept.wr (h : a.replayKept b) {g : Field} (v : Nat) (hg : MI.BOOT_STAT.PHASE.key ≠ g.key := by decide) :
    a.replayKept (b.wr g v) := ⟨h.1.wr v hg, h.2⟩

end

section
variable (s : State)

theorem State.replayKept.refl : s.replayKept s := ⟨rfl, rfl⟩

theorem State.replayKept_replayWait : s.replayKept s.replayWait := ⟨rfl, rfl⟩

theorem State.replayKept_replayPartial : s.replayKept s.replayPartial :=
  ((State.replayKept.refl s).wr _).trans (State.replayKept_replayWait _)

theorem State.replayKept_replayTook : s.replayKept s.replayTook := by
  have h : s.replayKept (s.addF MI.RPLY_STAT.EPOCHS 1) := (State.replayKept.refl s).wr _
  exact ⟨h.1.regs rfl, h.2⟩

theorem State.replayKept_alignNow : s.replayKept s.alignNow := by
  unfold State.alignNow
  split <;> exact ⟨rfl, rfl⟩

/-- STAGE hands nothing over when it starts: only its result is kept. -/
theorem State.replayKept_imgStart_stage : s.replayKept (s.imgStart 3) := by
  have hover : ∀ u : State, u.handOver 3 = u := fun u => by simp [State.handOver]
  have h : s.replayKept (s.wrs [(MI.IMG_STAT.BUSY, 1), (MI.IMG_STAT.LAST_CMD, 3)]) := ((State.replayKept.refl s).wr _).wr _
  unfold State.imgStart
  simp only [hover, ite_self]
  exact ⟨h.1.regs rfl, h.2⟩

theorem State.replayImage_eq (r : Frame) : ∃ addr len, s.replayImage r
    = (((s.wr MI.IMG_SRC.ADDR addr).wr MI.IMG_SRC.LEN len).bootSet fun b => { b with staging := true }).imgStart 3 := by
  unfold State.replayImage
  exact ⟨0x20000000 + s.storeBase + commitOff r + 64, commitLen r, rfl⟩

theorem State.replayKept_replayImage (r : Frame) : s.replayKept (s.replayImage r) := by
  obtain ⟨addr, len, heq⟩ := s.replayImage_eq r
  have h : s.replayKept ((s.wr MI.IMG_SRC.ADDR addr).wr MI.IMG_SRC.LEN len) := ((State.replayKept.refl s).wr _).wr _
  have hset : s.replayKept (((s.wr MI.IMG_SRC.ADDR addr).wr MI.IMG_SRC.LEN len).bootSet fun b => { b with staging := true }) :=
    ⟨h.1.regs rfl, h.2⟩
  rw [heq]
  exact hset.trans (State.replayKept_imgStart_stage _)

theorem State.replayKept_acceptCommit (x : Bool) : s.replayKept (s.acceptCommit x) := by
  unfold State.acceptCommit
  exact State.replayKept.wr ⟨rfl, rfl⟩ _

theorem State.replayKept_setBank (x : Bool) (k : Bank) : s.replayKept (s.setBank x k) := by
  cases x <;> exact ⟨rfl, rfl⟩

theorem State.replayKept_replaySet (d : Frame) : s.replayKept (s.replaySet d) := by
  unfold State.replaySet
  dsimp only
  split
  · exact s.replayKept_replayPartial
  · split
    · exact s.replayKept_replayPartial
    · exact ((((s.replayKept_setBank _ _).wr _).trans (State.replayKept_acceptCommit _ _)).trans
        (State.replayKept_alignNow _)).trans (State.replayKept_replayTook _)

theorem State.replayKept_replayNext : s.replayKept s.replayNext := by
  unfold State.replayNext
  split
  · exact .refl s
  split
  · exact s.replayKept_replayWait
  · split
    · exact s.replayKept_replayPartial
    · split
      · exact s.replayKept_replayImage _
      split
      · exact s.replayKept_replaySet _
      · exact s.replayKept_replayPartial

/-- The first call with a journal takes PHASE to 6 and begins with the oldest record of the chain. -/
theorem State.replayCall_begins (hpmp : (false || !s.pmpAllows .coreM .fetch 0x100 4) = false) (hmode : s.mode = 1)
    (hcalled : s.boot.called = false) (hhead : s.fl.head ≠ none) :
    (s.replayCall false).boot.called = true ∧ (s.replayCall false).phase = 6 := by
  let s1 := (s.bootSet fun b => { b with called := true }).wr MI.BOOT_STAT.PHASE 6
  have hbegun : ∀ u : State, s1.replayKept u → u.boot.called = true ∧ u.phase = 6 := fun u h =>
    ⟨h.2, Eq.trans h.1 (State.rd_wr_same _ _ _)⟩
  have himport : s1.replayKept s1.importAll := ⟨s1.importAll_keeps.1, by rw [s1.importAll_keeps.2]⟩
  have hsome : s.fl.head.isNone = false := Option.isNone_eq_false_iff.2 (Option.isSome_iff_ne_none.2 hhead)
  have heq : s.replayCall false = match s1.importAll.replayChain with
      | some l => (s1.importAll.bootSet fun b => { b with chain := l }).replayNext
      | none => (s1.importAll.wr MI.RPLY_STAT.CHAIN_BROKEN 1).replayNext := by
    unfold State.replayCall
    rw [hpmp]
    simp only [hmode, hcalled, hsome]
    rfl
  rw [heq]
  split
  · exact hbegun _ ((himport.trans ⟨rfl, rfl⟩).trans (State.replayKept_replayNext _))
  · exact hbegun _ ((himport.wr _).trans (State.replayKept_replayNext _))

/-- The engine's end. -/
theorem State.replayEnd_shows : s.replayEnd.rd MI.MODE_COND.REPLAY_DONE = 1 ∧ s.replayEnd.phase = 7
    ∧ s.replayEnd.boot.waitAt = none ∧ s.replayEnd.resp = 0 := by
  have h : ∀ f : Field, s.replayEnd.rd f = ((s.wr MI.MODE_COND.REPLAY_DONE 1).wr MI.BOOT_STAT.PHASE 7).rd f := fun _ => rfl
  refine ⟨?_, ?_, rfl, rfl⟩
  · rw [h, State.rd_wr_ne _ _ (by decide), State.rd_wr_same]; rfl
  · rw [State.phase, h, State.rd_wr_same]; rfl

theorem State.regsKept_replayEnd : s.regsKept s.replayEnd [MI.MODE_COND.REPLAY_DONE, MI.BOOT_STAT.PHASE] :=
  ((State.regsKept.refl s _).wrs (by simp)).trans (.of_regs rfl _)

/-- Once schedule time has settled, the engine judges the commands and ends. -/
theorem State.poranReplay_settled {a : Nat} (hwait : s.boot.waitAt = some a) (hphase : s.phase = 6)
    (hvalid : s.isSet TI.SEL_STAT.SCHED_VALID = true)
    (hset : max a s.ti.validAt + s.rd MI.RPLY_CFG.SETTLE_MS * 1000000 ≤ s.now) :
    ∃ u : State, s.poranReplay = u.replayEnd := by
  unfold State.poranReplay
  rw [hwait]
  exact ⟨_, if_pos ⟨hphase, hvalid, hset⟩⟩

/-- Without schedule time the engine ends after its wait, with SCHED_TIMEOUT. -/
theorem State.replayTimeout_expired {a : Nat} (hwait : s.boot.waitAt = some a) (hphase : s.phase = 6)
    (hvalid : s.isSet TI.SEL_STAT.SCHED_VALID = false)
    (hend : a + s.rd MI.RPLY_CFG.SCHED_WAIT_S * 1000000000 ≤ s.now) :
    s.replayTimeout = (s.wr MI.RPLY_STAT.SCHED_TIMEOUT 1).replayEnd := by
  unfold State.replayTimeout
  rw [hwait]
  exact if_pos ⟨hphase, hvalid, hend⟩

end

/- ## Bytes under a veil, and SRAM (notes/assumptions/4.md, R470) -/

section
variable (free : Nat → Nat → Nat) (k a : Nat) (l : Frame)

@[simp] theorem veil_length : (veil free k a l).length = l.length := by
  unfold veil
  split <;> simp

/-- A veil is lifted by itself. -/
theorem veil_veil : veil free k a (veil free k a l) = l := by
  unfold veil
  split
  · rfl
  · apply List.ext_getElem
    · simp
    · intro i h _
      simp

/-- The veil of one byte among others is that of the byte alone. -/
theorem veil_at {i : Nat} (h : i < l.length) :
    veil free k (a + i) [(veil free k a l)[i]'(by simpa using h)] = [l[i]] := by
  unfold veil
  split
  · simp
  · simp

@[simp] theorem leBytes_length (n v : Nat) : (leBytes n v).length = n := by
  induction n generalizing v with
  | zero => rfl
  | succ n ih => simp [leBytes, ih]

theorem leBytes_getElem {n v i : Nat} (h : i < (leBytes n v).length) : (leBytes n v)[i] = BitVec.ofNat 8 (v / 256 ^ i) := by
  induction n generalizing v i with
  | zero => simp [leBytes] at h
  | succ n ih =>
    cases i with
    | zero => simp [leBytes]
    | succ i =>
      simp only [leBytes, List.getElem_cons_succ]
      rw [ih, Nat.div_div_eq_div_mul, pow_succ, Nat.mul_comm]

end

section
variable (s : State)

/-- What SRAM reads depends on its bytes and on the resets that lost them. -/
theorem State.sramRead_congr {u : State} (hb : u.sram = s.sram) (hr : u.mg.resets = s.mg.resets) (j n : Nat) :
    u.sramRead j n = s.sramRead j n := by
  unfold State.sramRead
  rw [hb, hr]

/-- Bytes written to SRAM read as written. -/
theorem State.sramRead_sramWrite_same (a : Nat) (l : Frame) : (s.sramWrite a l).sramRead a l.length = l := by
  have h := readBytes_writeBytes ramBlank s.sram a (veil Config.sramByte s.mg.resets a l)
  rw [veil_length] at h
  simp only [State.sramRead, State.sramWrite_sram, State.sramWrite_mg, h, veil_veil]

/-- One byte of SRAM after a write: one of the written bytes, or the byte that stood there. -/
theorem State.sramRead_sramWrite_one (j n data a : Nat) :
    (s.sramWrite j (leBytes n data)).sramRead a 1
      = if j ≤ a ∧ a < j + n then [BitVec.ofNat 8 (data / 256 ^ (a - j))] else s.sramRead a 1 := by
  simp only [State.sramRead, State.sramWrite_sram, State.sramWrite_mg, readBytes]
  split
  case isTrue h =>
    obtain ⟨i, rfl⟩ := Nat.exists_eq_add_of_le h.1
    have hi : i < (leBytes n data).length := by simp; omega
    rw [ngetD_writeBytes_inside _ _ _ _ (i := i) (by simpa using hi), veil_at _ _ _ _ hi, leBytes_getElem hi,
      Nat.add_sub_cancel_left]
  case isFalse h => rw [ngetD_writeBytes_outside _ _ _ _ (by simp; omega)]

/-- The check of a word counts an error and leaves SRAM. -/
theorem State.only_sramCheck (e : Ecc) : s.only (s.sramCheck e) [.regs, .out] := by
  have hcounted : ∀ f o g : Field, ∀ x, s.only (((s.addOvf f o 1 1).wr g 1).raiseIf x 6) [.regs, .out] := fun f o _ x =>
    (((s.only_addOvf f o 1 1).then (State.only_wr _ _ _)).mono (l' := [.regs, .out])).then (State.only_raiseIf _ x 6)
  cases e with
  | clean => exact .refl s _
  | corrected => exact hcounted _ _ _ _
  | uncorrectable => exact hcounted _ _ _ _

theorem State.sramRead_sramCheck (e : Ecc) (j n : Nat) : (s.sramCheck e).sramRead j n = s.sramRead j n :=
  s.sramRead_congr (s.only_sramCheck e .sram (by decide)) (congrArg Mgmt.resets (s.only_sramCheck e .mg (by decide))) j n

/-- An uncorrectable word is noted. -/
theorem State.sramCheck_uncorrectable : (s.sramCheck .uncorrectable).rd MI.SRAM_ECC.UNCORR_SEEN = 1 :=
  ((State.restKept_raiseIf _ _ (by decide)).rd (by decide) (by simp)).trans (State.rd_wr_same _ _ _)

end

section
variable (s : State) {src : Src} {a n : Nat}

/- ## The core's accesses to SRAM, case by case (R466, R470, R473) -/

/-- A misaligned access takes its exception before PMP is asked. -/
theorem State.coreSram_misaligned {k : AccKind} (data : Nat) (ecc : Ecc) (hs : src ≠ .host) (hin : inSram a n = true)
    (hmis : accMisaligned k a n = true) :
    s.coreSram src k a n data ecc = s.emit (.coreFault (misCauseOf k) a) := by
  simp [State.coreSram, hs, hin, hmis]

theorem State.coreSram_denied {k : AccKind} (data : Nat) (ecc : Ecc) (hs : src ≠ .host) (hin : inSram a n = true)
    (hmis : accMisaligned k a n = false) (hpmp : s.pmpAllows src k a n = false) :
    s.coreSram src k a n data ecc = s.emit (.coreFault (faultCauseOf k) a) := by
  simp [State.coreSram, hs, hin, hmis, hpmp]

variable (hs : src ≠ .host) (hin : inSram a n = true)
include hs hin

/-- A store that is made writes its bytes, behind the check of the words it does not fill. -/
theorem State.coreSram_store (data : Nat) {ecc : Ecc} (hmis : accMisaligned .store a n = false)
    (hpmp : s.pmpAllows src .store a n = true) (hecc : ecc ≠ .uncorrectable ∨ n % 4 = 0) :
    ∃ e, s.coreSram src .store a n data ecc = (s.sramCheck e).sramWrite (a - 0x10000000) (leBytes n data) := by
  by_cases hwhole : n % 4 = 0
  · exact ⟨.clean, by simp [State.coreSram, hs, hin, hmis, hpmp, hwhole, State.sramCheck]⟩
  · exact ⟨ecc, by simp [State.coreSram, hs, hin, hmis, hpmp, hwhole, hecc.resolve_right hwhole, isAtomic]⟩

/-- A load or a fetch answers the bytes it finds. -/
theorem State.coreSram_read {k : AccKind} (data : Nat) {ecc : Ecc} (hk : k = .load ∨ k = .fetch)
    (hmis : accMisaligned k a n = false) (hpmp : s.pmpAllows src k a n = true) (hecc : ecc ≠ .uncorrectable) :
    s.coreSram src k a n data ecc = (s.sramCheck ecc).answer (leNat (s.sramRead (a - 0x10000000) n)) := by
  obtain rfl | rfl := hk <;> simp [State.coreSram, hs, hin, hmis, hpmp, hecc, isAtomic]

/-- A load of an uncorrectable word is noted and faults. -/
theorem State.coreSram_load_uncorrectable (data : Nat) (hmis : accMisaligned .load a n = false)
    (hpmp : s.pmpAllows src .load a n = true) :
    s.coreSram src .load a n data .uncorrectable = (s.sramCheck .uncorrectable).emit (.coreFault 5 a) := by
  simp [State.coreSram, hs, hin, hmis, hpmp, State.sramFails, faultCauseOf]

end

section
variable (s : State) {src : Src} {a : Nat} (hs : src ≠ .host) (hin : inSram a 4 = true) (hal : a % 4 = 0) {ecc : Ecc}
  (hecc : ecc ≠ .uncorrectable)
include hs hin hal hecc

theorem State.coreSram_lr (data : Nat) (hpmp : s.pmpAllows src .lr a 4 = true) :
    s.coreSram src .lr a 4 data ecc = (s.sramCheck ecc).sramAtomic .lr a data := by
  simp [State.coreSram, hs, hin, hal, hecc, hpmp, accMisaligned, isAtomic]

/-- SC reads nothing that could be uncorrectable. -/
theorem State.coreSram_sc (data : Nat) (hpmp : s.pmpAllows src .sc a 4 = true) :
    s.coreSram src .sc a 4 data ecc = s.sramAtomic .sc a data := by
  simp [State.coreSram, hs, hin, hal, hecc, hpmp, accMisaligned, isAtomic]

theorem State.coreSram_amo (op data : Nat) (hpmp : s.pmpAllows src (.amo op) a 4 = true) :
    s.coreSram src (.amo op) a 4 data ecc = (s.sramCheck ecc).sramAtomic (.amo op) a data := by
  simp [State.coreSram, hs, hin, hal, hecc, hpmp, accMisaligned, isAtomic]

end

section
variable (s : State) (a v : Nat)

theorem State.sramRead_answered_word (r : Nat) : ((s.sramWrite a (leBytes 4 v)).answer r).sramRead a 4 = leBytes 4 v := by
  have h := s.sramRead_sramWrite_same a (leBytes 4 v)
  rw [leBytes_length] at h
  exact (State.sramRead_congr (s.sramWrite a (leBytes 4 v)) rfl rfl a 4).trans h

theorem State.sramAtomic_lr : s.sramAtomic .lr a v
    = (s.mgSet fun m => { m with reservation := some a }).answer (leNat (s.sramRead (a - 0x10000000) 4)) := rfl

/-- SC ends the reservation, and stores only where it stood for the word. -/
theorem State.sramAtomic_sc_shows : (s.sramAtomic .sc a v).mg.reservation = none
    ∧ (if s.mg.reservation = some a
      then (s.sramAtomic .sc a v).resp = 0 ∧ (s.sramAtomic .sc a v).sramRead (a - 0x10000000) 4 = leBytes 4 v
      else (s.sramAtomic .sc a v).resp = 1 ∧ (s.sramAtomic .sc a v).sram = s.sram) := by
  unfold State.sramAtomic
  dsimp only
  split
  · exact ⟨rfl, rfl, State.sramRead_answered_word _ _ v 0⟩
  · exact ⟨rfl, rfl, rfl⟩

/-- An AMO answers the word it finds and stores its result. -/
theorem State.sramAtomic_amo {op w : Nat} (hw : amoResult op (leNat (s.sramRead (a - 0x10000000) 4)) (v % 2 ^ 32) = some w) :
    s.sramAtomic (.amo op) a v
      = (s.sramWrite (a - 0x10000000) (leBytes 4 w)).answer (leNat (s.sramRead (a - 0x10000000) 4)) := by
  unfold State.sramAtomic
  dsimp only
  rw [hw]

end

/- ## The host's doorbell (R484) -/

/-- A bell without bit 31 only rings: the boot ROM does not go on. -/
theorem State.h2c_host (s : State) {mask : Nat} (hmask : bitOf mask 31 = false) :
    s.h2c .host mask = (s.counted 0).ring! MI.MBX_H2C_BELL.BELL 1 mask := by
  simp [State.h2c, hmask]

/-- Ringing ORs the bits in; the interrupt moves nothing else. -/
theorem State.ring!_bell_shows (s : State) (n mask : Nat) (hn : n < 128) :
    (s.ring! MI.MBX_H2C_BELL.BELL n mask).rd MI.MBX_H2C_BELL.BELL = (s.rd MI.MBX_H2C_BELL.BELL ||| mask % 2 ^ 32) % 2 ^ 32
      ∧ s.restKept (s.ring! MI.MBX_H2C_BELL.BELL n mask) [MI.MBX_H2C_BELL.BELL]
      ∧ s.only (s.ring! MI.MBX_H2C_BELL.BELL n mask) [.regs, .out] := by
  have hset : s.restKept (s.orF MI.MBX_H2C_BELL.BELL (mask % 2 ^ 32)) [MI.MBX_H2C_BELL.BELL] :=
    (State.restKept.refl s _).wr _ (.inl (by simp))
  refine ⟨?_, hset.raiseIf _ hn, ((s.only_wr _ _).mono (l' := [.regs, .out])).then (State.only_raiseIf _ _ n)⟩
  exact ((State.restKept_raiseIf _ _ hn).rd (by decide) (by simp)).trans (State.rd_wr_same _ _ _)

/-- Settles O22: the engine's call is a chain of refusals before it begins, and what it does then leaves PHASE alone; an
access to SRAM is one branch of `State.coreSram`, and a byte written reads back under the veil of lost content. -/
theorem replayEngineAndSram : Obligations.ReplayEngineAndSram := by
  unfold Obligations.ReplayEngineAndSram
  refine ⟨?call, ?poran, ?timeout, ?fault, ?store, ?read, ?badLoad, ?lrsc, ?amo, ?bell, ?coreBell⟩
  case call =>
    intro user t s
    refine Completes.next rfl rfl ?_
    dsimp only
    generalize s.begin t = b
    by_cases hpmp : (user || !b.pmpAllows .coreM .fetch 0x100 4) = true
    · rw [if_pos hpmp]
      exact if_pos hpmp
    rw [if_neg hpmp]
    have huser : user = false := by cases user <;> simp_all
    subst huser
    by_cases hmode : b.mode ≠ 1
    · have heq : b.replayCall false = (b.bootSet fun x => { x with called := true }).answer 1 :=
        (if_neg hpmp).trans (if_pos hmode)
      rw [if_pos hmode, heq]
      exact ⟨rfl, rfl⟩
    rw [if_neg hmode]
    by_cases hcalled : b.boot.called = true
    · have heq : b.replayCall false = (b.bootSet fun x => { x with called := true }).answer 2 :=
        (if_neg hpmp).trans ((if_neg hmode).trans (if_pos hcalled))
      rw [if_pos hcalled, heq]
      exact ⟨rfl, rfl⟩
    rw [if_neg hcalled]
    by_cases hhead : b.fl.head = none
    · have heq : b.replayCall false = (b.bootSet fun x => { x with called := true }).answer 3 :=
        (if_neg hpmp).trans ((if_neg hmode).trans ((if_neg hcalled).trans (if_pos (by simp [hhead]))))
      rw [if_pos hhead, heq]
      exact ⟨rfl, rfl⟩
    · rw [if_neg hhead]
      exact b.replayCall_begins (by simpa using hpmp) (not_not.1 hmode) (by simpa using hcalled) hhead
  case poran =>
    intro t a s hwait hphase hvalid hset
    obtain ⟨u, hu⟩ := (s.begin t).poranReplay_settled hwait hphase hvalid hset
    exact Completes.next rfl hu u.replayEnd_shows
  case timeout =>
    intro t a s hwait hphase hvalid hend
    refine Completes.next rfl ((s.begin t).replayTimeout_expired hwait hphase hvalid hend) ?_
    generalize s.begin t = b
    have hkept := (b.wr MI.RPLY_STAT.SCHED_TIMEOUT 1).regsKept_replayEnd
    obtain ⟨hdone, h7, -, hresp⟩ := (b.wr MI.RPLY_STAT.SCHED_TIMEOUT 1).replayEnd_shows
    exact ⟨(hkept.rd (by decide)).trans (State.rd_wr_same _ _ _), hdone, h7, hresp,
      ((State.regsKept.refl b _).wr _ (by simp)).trans (hkept.mono (by simp)), rfl⟩
  case fault =>
    intro src k addr n data t ecc s hs hin
    exact ⟨fun hmis => Completes.next rfl ((s.begin t).coreSram_misaligned data ecc hs hin hmis) rfl,
      fun hmis hpmp => Completes.next rfl ((s.begin t).coreSram_denied data ecc hs hin hmis hpmp) rfl⟩
  case store =>
    intro src addr n data t ecc s hs hin hmis hpmp hecc
    obtain ⟨e, he⟩ := (s.begin t).coreSram_store hs hin data hmis hpmp hecc
    refine Completes.next rfl he fun a => ?_
    rw [State.sramRead_sramWrite_one, State.sramRead_sramCheck]
  case read =>
    intro src k addr n data t ecc s hs hin hk hmis hpmp hecc
    exact Completes.next rfl ((s.begin t).coreSram_read hs hin data hk hmis hpmp hecc)
      ⟨rfl, (s.begin t).only_sramCheck ecc .sram (by decide)⟩
  case badLoad =>
    intro src addr n data t s hs hin hmis hpmp
    refine Completes.next rfl ((s.begin t).coreSram_load_uncorrectable hs hin data hmis hpmp)
      ⟨by simp [State.emit], (s.begin t).sramCheck_uncorrectable, (s.begin t).only_sramCheck .uncorrectable .sram (by decide)⟩
  case lrsc =>
    intro src addr data t ecc s hs hin hal hecc b old
    refine ⟨fun hpmp => ?_, fun hpmp => ?_⟩
    · refine Completes.next rfl (b.coreSram_lr hs hin hal hecc data hpmp) ?_
      rw [State.sramAtomic_lr, State.sramRead_sramCheck]
      exact ⟨rfl, rfl, b.only_sramCheck ecc .sram (by decide)⟩
    · exact Completes.next rfl (b.coreSram_sc hs hin hal hecc data hpmp) (b.sramAtomic_sc_shows addr data)
  case amo =>
    intro src addr data t op v ecc s hs hin hal hecc hpmp old hv
    refine Completes.next rfl ((s.begin t).coreSram_amo hs hin hal hecc op data hpmp) ?_
    rw [State.sramAtomic_amo _ _ _ (by rw [State.sramRead_sramCheck]; exact hv), State.sramRead_sramCheck]
    exact ⟨rfl, State.sramRead_answered_word _ _ v _⟩
  case bell =>
    intro mask t s hmask
    refine Completes.next rfl ((s.begin t).h2c_host hmask) ?_
    generalize s.begin t = b
    obtain ⟨hbell, hkept, honly⟩ := (b.counted 0).ring!_bell_shows 1 mask (by decide)
    have hcount := b.restKept_counted (i := 0) (by decide)
    exact ⟨by rw [hbell, hcount.rd (by decide) (by simp)], (hcount.mono (by simp)).trans hkept,
      ((b.only_count 0 5 1).trans honly).eq⟩
  case coreBell =>
    intro src mask t s hs hr
    refine Completes.next rfl (((s.begin t).h2c_core mask hs).trans (State.guarded_reached _ hr)) ?_
    exact ⟨((s.begin t).unmapped_rd src 0 0x7F00).1, (s.begin t).unmapped_only src 0 0x7F00⟩

/- ## A sequence number wider than its register (R422, R463) -/

/-- RI runs, PUB_SEQ of signal window 0 holds 65536, more than its 16 bits can, and the window has been published in this RI
cycle. No run brings it there: every write is cut to the width of its field. -/
def wideSequence : State :=
  { State.reset with
    regs := [(MI.ISL_STAT.STATE.key, 4 ^ 3), ((RI.SIG_STAT.PUB_SEQ 0).key, 65536)]
    gw := { State.reset.gw with pubAt := [(0, 1)] } }

/-- The state that SIG_PUB with mask 1 leaves of it. -/
def wideSequencePublished : State :=
  wideSequence.quiet.regCmd .coreM 3 0x420 false fun s =>
    (List.range 32).foldl (fun s w => if bitOf 1 w then s.publish w else s) s

/-- A second publication in one RI cycle leaves the number as it stands, and does not cut it to 16 bits. -/
theorem rd_wideSequencePublished :
    (wideSequence.quiet.counted 3).rd (RI.SIG_STAT.PUB_SEQ 0) = 65536
      ∧ wideSequencePublished.rd (RI.SIG_STAT.PUB_SEQ 0) = 65536 := by decide +kernel

theorem pubAt_wideSequence : ngetD (wideSequence.quiet.counted 3).gw.pubAt 0 0
    = cyclesTo 3 (wideSequence.quiet.counted 3).now + 1 := by decide +kernel

/-- Refutes O50: its clause of SIG_PUB takes every state, and adds to PUB_SEQ under the width of the field even where the
window has been published in this RI cycle and the model leaves the register, which may hold more than that width. -/
theorem not_ringScheduleAndSignalsRun : ¬ Obligations.RingScheduleAndSignalsRun := by
  unfold Obligations.RingScheduleAndSignalsRun
  rintro ⟨-, -, -, -, -, -, -, -, -, hpub, -⟩
  obtain ⟨u, hu, hwindows, -, -⟩ := hpub .coreM 1 wideSequence (by decide) (by decide +kernel) (by decide +kernel)
  have hx : exec (.sigPub .coreM 1) wideSequence = .next wideSequencePublished := rfl
  obtain rfl := Host.Outcome.next.inj (hx.symm.trans hu)
  obtain ⟨hbefore, hafter⟩ := rd_wideSequencePublished
  have hwindow := hwindows 0 (by decide)
  rw [if_pos (by decide)] at hwindow
  obtain ⟨-, hseq⟩ := hwindow
  rw [hafter, hbefore, if_pos pubAt_wideSequence] at hseq
  exact absurd hseq (by decide)

end Sys2Proof.Machine

/-!
PROOFS. The ports family: link state (R161), the I²C masters (R163, R164) and power allocation (R165).
-/
namespace Sys2Proof.Machine

-- Lean elaborates the proofs above side by side, each in a thread with a stack of its own. Those below come one after
-- another, so that the whole text stays within the memory that the check allows.
set_option Elab.async false

/- ## A queue statistic that lies on a port's LINK (R161) -/

/-- The stray frame in queue 2 of its port: the drop counter of that queue would lie on the PORT_STAT of port 2. -/
def strayDescOnLink : Desc := { strayDesc with queue := 2 }

/-- Port 2 is enabled and has link, its LINK_FLUSH stands at its reset value 1, and the stray frame waits in its scheduled
lane. No run brings it there: a frame goes into the lanes of its own port. -/
def strayFrameOnLinkedPort : State :=
  { State.reset with
    regs := [((portEn 2).key, 1), ((portLink 2).key, 1)]
    ports := [(2, { State.reset.mac 2 with sched := [strayDescOnLink] })] }

/-- The loss clears LINK, and the discard of the stray frame then counts LINK up again. -/
theorem linkDown_strayFrameOnLinkedPort :
    ((strayFrameOnLinkedPort.begin 0).linkDown 2).rd (portLink 2) = 1 := by decide

/-- Refutes O24: its clause of a port with LINK_FLUSH = 1 takes every state, and where a frame of a port that BI does not
have waits in a lane of the port, LINK can stand set after the loss. -/
theorem not_linksComeAndGo : ¬ Obligations.LinksComeAndGo := by
  unfold Obligations.LinksComeAndGo
  rintro ⟨-, -, hflush, -⟩
  obtain ⟨u, hu, -, -, hlink, -⟩ := hflush 2 0 strayFrameOnLinkedPort (by decide) (by decide) (by decide)
    (by decide) (by decide)
  have hx : exec (.linkDown 2 0) strayFrameOnLinkedPort = .next ((strayFrameOnLinkedPort.begin 0).linkDown 2) :=
    congrArg Host.Outcome.next (if_neg fun h => absurd h.1 (by decide))
  obtain rfl := Host.Outcome.next.inj (hx.symm.trans hu)
  rw [linkDown_strayFrameOnLinkedPort] at hlink
  exact absurd hlink (by decide)

/- ## Little-endian numbers and slices of bytes -/

theorem leNat_lt (l : List Byte) : leNat l < 256 ^ l.length := by
  induction l with
  | nil => simp [leNat]
  | cons b l ih =>
    have hb : b.toNat < 256 := b.isLt
    rw [leNat, List.length_cons, pow_succ]
    omega

/-- The bytes of the number that a list of bytes is. -/
theorem leBytes_leNat (l : List Byte) : leBytes l.length (leNat l) = l := by
  induction l with
  | nil => rfl
  | cons b l ih =>
    have hb : b.toNat < 256 := b.isLt
    rw [List.length_cons, leBytes, leNat, show (b.toNat + 256 * leNat l) / 256 = leNat l by omega, ih]
    congr 1
    apply BitVec.eq_of_toNat_eq
    rw [BitVec.toNat_ofNat]
    omega

/-- The slices of a list, one behind another, are its front. -/
theorem flatMap_sliceAt {α : Type} (l : List α) (m n : Nat) :
    (List.range n).flatMap (fun w => sliceAt l (m * w) m) = l.take (m * n) := by
  induction n with
  | zero => simp
  | succ n ih => rw [List.range_succ, List.flatMap_append, ih, Nat.mul_succ, List.take_add]; simp [sliceAt]

theorem patchAt_length {l : List Byte} {i : Nat} (bs : List Byte) (h : i ≤ l.length) :
    (patchAt l i bs).length = l.length := by
  simp only [patchAt, List.length_take, List.length_append, List.length_drop]
  omega

/- ## Several fields -/

theorem State.wrs_append (s : State) (l l' : List (Field × Nat)) : s.wrs (l ++ l') = (s.wrs l).wrs l' :=
  List.foldl_append

/-- The keys of the fields that a list of writes names. -/
def writtenKeys (l : List (Field × Nat)) : List Nat := l.map fun p => p.1.key

/-- Of several fields with keys of their own, each reads what was written to it. -/
theorem State.rd_wrs_mem (s : State) {l : List (Field × Nat)} (hl : (writtenKeys l).Nodup) {f : Field} {v : Nat}
    (hf : (f, v) ∈ l) : (s.wrs l).rd f = v % 2 ^ f.width := by
  induction l generalizing s with
  | nil => cases hf
  | cons q l ih =>
    obtain ⟨hq, hl⟩ := List.nodup_cons.1 hl
    rw [State.wrs_cons]
    rcases List.mem_cons.1 hf with rfl | hf
    · rw [State.rd_wrs_ne _ _ fun r hr hk => hq (List.mem_map.2 ⟨r, hr, hk.symm⟩), State.rd_wr_same]
    · exact ih _ hl hf

/-- Registers and the masters' transfers are parts of their own. -/
theorem State.wrs_with_i2c (s : State) (x : List (Nat × I2cOp)) (l : List (Field × Nat)) :
    ({ s with i2c := x } : State).wrs l = { s.wrs l with i2c := x } := by
  induction l generalizing s with
  | nil => rfl
  | cons p l ih => exact ih (s.wr p.1 p.2)

/- ## The buffer of an I²C master (R163) -/

/-- The writes that put 32 bytes into the buffer of master `k`. -/
def i2cWords (k : Nat) (l : Frame) : List (Field × Nat) :=
  (List.range 4).map fun w => (MI.I2C_BUF.DATA k w, leNat (sliceAt l (8 * w) 8))

theorem i2cWords_nodup (k : Nat) (l : Frame) : (writtenKeys (i2cWords k l)).Nodup := by
  rw [writtenKeys, i2cWords, List.map_map]
  refine List.nodup_range.map fun w v h => ?_
  simp only [Function.comp, MI.I2C_BUF.DATA, Field.key] at h
  omega

section
variable {s u : State} {k : Nat}

theorem State.setI2cBuf_eq (l : Frame) :
    s.setI2cBuf k l = s.wrs (i2cWords k (patchAt (s.i2cBuf k 32) 0 (l.take 32))) := by
  rw [State.wrs, i2cWords, List.foldl_map]
  rfl

theorem State.i2cBuf_length : (s.i2cBuf k 32).length = 32 := by
  simp [State.i2cBuf, List.range_succ]

theorem State.i2cBuf_congr (h : ∀ w, w < 4 → u.rd (MI.I2C_BUF.DATA k w) = s.rd (MI.I2C_BUF.DATA k w)) (n : Nat) :
    u.i2cBuf k n = s.i2cBuf k n := by
  unfold State.i2cBuf
  rw [List.flatMap_congr fun w hw => by rw [h w (List.mem_range.1 hw)]]

/-- The buffer holds the bytes put there. -/
theorem State.i2cBuf_words {l : Frame} (hl : l.length = 32) : (s.wrs (i2cWords k l)).i2cBuf k 32 = l := by
  have hword : ∀ w ∈ List.range 4,
      leBytes 8 ((s.wrs (i2cWords k l)).rd (MI.I2C_BUF.DATA k w)) = sliceAt l (8 * w) 8 := by
    intro w hw
    have hw4 := List.mem_range.1 hw
    have hlen : (sliceAt l (8 * w) 8).length = 8 := by simp [sliceAt]; omega
    have hlt : leNat (sliceAt l (8 * w) 8) < 2 ^ 64 := (leNat_lt _).trans_eq (by rw [hlen]; rfl)
    rw [s.rd_wrs_mem (i2cWords_nodup k l) (List.mem_map_of_mem hw), show (MI.I2C_BUF.DATA k w).width = 64 from rfl,
      Nat.mod_eq_of_lt hlt]
    simpa [hlen] using leBytes_leNat (sliceAt l (8 * w) 8)
  unfold State.i2cBuf
  rw [List.flatMap_congr hword, flatMap_sliceAt, List.take_take, List.take_of_length_le (by omega)]

end

/- ## The start of a transfer and of a bus clear (R163, R164) -/

/-- The fields that I2C_GO writes. -/
def i2cXfer (k a r w : Nat) : List (Field × Nat) :=
  [(MI.I2C_XFER.ADDR k, a), (MI.I2C_XFER.RD_LEN k, r), (MI.I2C_XFER.WR_LEN k, w)]

/-- They and BUSY are four fields. -/
theorem i2cXfer_nodup (k a r w : Nat) :
    (writtenKeys (i2cXfer k a r w ++ [(MI.I2C_STAT.BUSY k, 1)])).Nodup := by
  simp [writtenKeys, i2cXfer, MI.I2C_XFER.ADDR, MI.I2C_XFER.RD_LEN, MI.I2C_XFER.WR_LEN, MI.I2C_STAT.BUSY, Field.key]
  omega

theorem i2cXfer_key_ne_data {k a r w : Nat} (hk : k < 4) (v : Nat) {p : Field × Nat} (hp : p ∈ i2cXfer k a r w) :
    (MI.I2C_BUF.DATA k v).key ≠ p.1.key := by
  simp only [i2cXfer, List.mem_cons, List.not_mem_nil, or_false] at hp
  obtain rfl | rfl | rfl := hp <;>
    simp only [MI.I2C_BUF.DATA, MI.I2C_XFER.ADDR, MI.I2C_XFER.RD_LEN, MI.I2C_XFER.WR_LEN, Field.key] <;> omega

section
variable {s : State} {k : Nat}

theorem State.i2cGo_ignored {a r w : Nat} (h : s.i2cIdle k = false) : s.i2cGo k a r w = s.wrs (i2cXfer k a r w) := by
  simp [State.i2cGo, h, i2cXfer]

/-- On an idle bus the transfer begins with the bytes that stand in the buffer. -/
theorem State.i2cGo_idle {a r w : Nat} (hk : k < 4) (h : s.i2cIdle k = true) :
    s.i2cGo k a r w = { s.wrs (i2cXfer k a r w ++ [(MI.I2C_STAT.BUSY k, 1)]) with
      i2c := nset s.i2c k ⟨false, s.now, a, r, w⟩, out := s.out ++ [.i2c k a (s.i2cBuf k w)] } := by
  have hbuf : (s.wrs (i2cXfer k a r w)).i2cBuf k w = s.i2cBuf k w :=
    State.i2cBuf_congr (fun v _ => s.rd_wrs_ne _ fun _ hp => i2cXfer_key_ne_data hk v hp) w
  rw [State.wrs_append, ← hbuf, State.i2cGo, if_pos h]
  rfl

theorem State.busClear_idle (h : s.i2cIdle k = true) :
    s.busClear k = { s.wr (MI.I2C_STAT.BUSY k) 1 with
      i2c := nset s.i2c k ⟨true, s.now, 0, 0, 0⟩, out := s.out ++ [.pin "I2C_BUS_CLEAR" k] } := by
  rw [State.busClear, if_pos h]
  rfl

theorem State.busClear_ignored (h : s.i2cIdle k = false) : s.busClear k = s := by simp [State.busClear, h]

/-- What I2C_GO leaves, on an idle bus and on any other. -/
theorem State.i2cGo_shows (hk : k < 4) (a r w : Nat) :
    let u := s.i2cGo k a r w
    u.rd (MI.I2C_XFER.ADDR k) = a % 2 ^ (MI.I2C_XFER.ADDR k).width
      ∧ u.rd (MI.I2C_XFER.RD_LEN k) = r % 2 ^ (MI.I2C_XFER.RD_LEN k).width
      ∧ u.rd (MI.I2C_XFER.WR_LEN k) = w % 2 ^ (MI.I2C_XFER.WR_LEN k).width
      ∧ u = { s with regs := u.regs, i2c := u.i2c, out := u.out }
      ∧ (if s.i2cIdle k then nget u.i2c k = some ⟨false, s.now, a, r, w⟩ ∧ u.rd (MI.I2C_STAT.BUSY k) = 1
          ∧ u.out = s.out ++ [.i2c k a (s.i2cBuf k w)]
          ∧ s.regsKept u [MI.I2C_XFER.ADDR k, MI.I2C_XFER.RD_LEN k, MI.I2C_XFER.WR_LEN k, MI.I2C_STAT.BUSY k]
        else u.i2c = s.i2c ∧ u.out = s.out
          ∧ s.regsKept u [MI.I2C_XFER.ADDR k, MI.I2C_XFER.RD_LEN k, MI.I2C_XFER.WR_LEN k]) := by
  have hnodup := i2cXfer_nodup k a r w
  have hmem : (MI.I2C_XFER.ADDR k, a) ∈ i2cXfer k a r w ∧ (MI.I2C_XFER.RD_LEN k, r) ∈ i2cXfer k a r w
      ∧ (MI.I2C_XFER.WR_LEN k, w) ∈ i2cXfer k a r w := by simp [i2cXfer]
  obtain ⟨haddr, hrd, hwr⟩ := hmem
  dsimp only
  cases h : s.i2cIdle k
  · have hxfer : (writtenKeys (i2cXfer k a r w)).Nodup := by
      rw [writtenKeys, List.map_append] at hnodup
      exact hnodup.of_append_left
    rw [State.i2cGo_ignored h]
    exact ⟨s.rd_wrs_mem hxfer haddr, s.rd_wrs_mem hxfer hrd, s.rd_wrs_mem hxfer hwr,
      ((s.only_wrs _).mono (l' := [.regs, .i2c, .out])).eq, s.wrs_i2c _, s.wrs_out _,
      (State.regsKept.refl s _).wrs (by simp [i2cXfer])⟩
  · rw [State.i2cGo_idle hk h]
    refine ⟨s.rd_wrs_mem hnodup (List.mem_append_left _ haddr), s.rd_wrs_mem hnodup (List.mem_append_left _ hrd),
      s.rd_wrs_mem hnodup (List.mem_append_left _ hwr), ?_, nget_nset_same _ _ _,
      s.rd_wrs_mem hnodup (List.mem_append_right _ List.mem_cons_self), rfl, ?_⟩
    · rw [State.wrs_only]
    · exact State.regsKept.trans (b := s.wrs (i2cXfer k a r w ++ [(MI.I2C_STAT.BUSY k, 1)]))
        ((State.regsKept.refl s _).wrs (by simp [i2cXfer])) (.of_regs rfl _)

/-- What a bus clear leaves. -/
theorem State.busClear_shows (s : State) (k : Nat) :
    let u := s.busClear k
    if s.i2cIdle k then nget u.i2c k = some ⟨true, s.now, 0, 0, 0⟩ ∧ u.rd (MI.I2C_STAT.BUSY k) = 1
      ∧ s.regsKept u [MI.I2C_STAT.BUSY k]
      ∧ u = { s with regs := u.regs, i2c := u.i2c, out := s.out ++ [.pin "I2C_BUS_CLEAR" k] }
    else u = s := by
  dsimp only
  cases h : s.i2cIdle k
  · exact State.busClear_ignored h
  · rw [State.busClear_idle h]
    exact ⟨nget_nset_same _ _ _, s.rd_wr_same (MI.I2C_STAT.BUSY k) 1,
      ((State.regsKept.refl s _).wr (f := MI.I2C_STAT.BUSY k) 1 (by simp)).trans (.of_regs rfl _), rfl⟩

end

/- ## The end of a transfer (R163, R164) -/

/-- What a master puts out on its lines at the end. -/
def LineEnd.outputs (e : LineEnd) (k : Nat) : List Output :=
  match e with
  | .stop => [.pin "I2C_STOP" k]
  | .release => [.pin "I2C_RELEASE" k]
  | .nothing => []

/-- The fields of I2C_STAT behind BUSY and DONE, which tell the outcome. -/
def Field.i2cOutcome (f : Field) (k : Nat) : Prop := f.isl = 0 ∧ f.off = 0x840 + 0x8 * k ∧ 2 ≤ f.lo ∧ f.lo < 64

/-- The writes to the buffer at the end: the bytes that a transfer read. -/
def State.i2cReadBack (s : State) (k : Nat) (op : I2cOp) (data : Frame) : List (Field × Nat) :=
  if op.busClear then [] else i2cWords k (patchAt (s.i2cBuf k 32) 0 ((data.take op.rdLen).take 32))

/-- The writes to I2C_STAT at the end. -/
def i2cFlagged (k : Nat) (flags : List (Field × Nat)) : List (Field × Nat) :=
  (MI.I2C_STAT.BUSY k, 0) :: (MI.I2C_STAT.DONE k, 1) :: flags

section
variable {s : State} {k : Nat} {op : I2cOp} {data : Frame} {e : LineEnd} {flags : List (Field × Nat)}

theorem i2cFlagged_nodup (hkeys : (writtenKeys flags).Nodup) (hout : ∀ p ∈ flags, p.1.i2cOutcome k) :
    (writtenKeys (i2cFlagged k flags)).Nodup := by
  have hne : ∀ f : Field, f.isl = 0 → f.off = 0x840 + 0x8 * k → f.lo < 2 → f.key ∉ writtenKeys flags := by
    intro f hfisl hfoff hflo hmem
    obtain ⟨p, hp, hkey⟩ := List.mem_map.1 hmem
    obtain ⟨hisl, hoff, hlow, hhigh⟩ := hout p hp
    simp only [Field.key, hisl, hoff, hfisl, hfoff] at hkey
    omega
  have hdone := hne (MI.I2C_STAT.DONE k) rfl rfl (by decide : 1 < 2)
  refine List.nodup_cons.2 ⟨fun h => ?_, List.nodup_cons.2 ⟨hdone, hkeys⟩⟩
  rcases List.mem_cons.1 h with h | h
  · simp only [MI.I2C_STAT.BUSY, MI.I2C_STAT.DONE, Field.key] at h
    omega
  · exact hne (MI.I2C_STAT.BUSY k) rfl rfl (by decide : 0 < 2) h

theorem i2cData_key_ne_flagged (hk : k < 4) (hout : ∀ p ∈ flags, p.1.i2cOutcome k) (w : Nat) {p : Field × Nat}
    (hp : p ∈ i2cFlagged k flags) : (MI.I2C_BUF.DATA k w).key ≠ p.1.key := by
  rcases List.mem_cons.1 hp with rfl | hp
  · simp only [MI.I2C_BUF.DATA, MI.I2C_STAT.BUSY, Field.key]; omega
  · rcases List.mem_cons.1 hp with rfl | hp
    · simp only [MI.I2C_BUF.DATA, MI.I2C_STAT.DONE, Field.key]; omega
    · obtain ⟨hisl, hoff, hlow, hhigh⟩ := hout p hp
      simp only [MI.I2C_BUF.DATA, Field.key, hisl, hoff]
      omega

theorem State.i2cLines_eq : s.i2cLines k e = { s with out := s.out ++ e.outputs k } := by
  cases e
  case nothing => simp [State.i2cLines, LineEnd.outputs]
  all_goals rfl

/-- The steps behind the reading back, as one list of writes and two parts of the state. -/
theorem State.i2cFinish_eq (u : State) :
    ((({ u with i2c := nerase u.i2c k } : State).wrs [(MI.I2C_STAT.BUSY k, 0), (MI.I2C_STAT.DONE k, 1)]).wrs flags).i2cLines k e
      = { u.wrs (i2cFlagged k flags) with i2c := nerase u.i2c k, out := u.out ++ e.outputs k } := by
  rw [State.i2cLines_eq, ← State.wrs_append, State.wrs_with_i2c, ← u.wrs_out (i2cFlagged k flags)]
  rfl

/-- The end of what runs is one list of writes, the transfer's removal and what goes out on the lines. -/
theorem State.i2cEnd_eq (hop : nget s.i2c k = some op) :
    s.i2cEnd k data e flags = { (s.wrs (s.i2cReadBack k op data)).wrs (i2cFlagged k flags) with
      i2c := nerase s.i2c k, out := s.out ++ e.outputs k } := by
  have hread : (if op.busClear then s else s.setI2cBuf k (data.take op.rdLen)) = s.wrs (s.i2cReadBack k op data) := by
    unfold State.i2cReadBack
    split
    · rfl
    · exact State.setI2cBuf_eq _
  simp only [State.i2cEnd, hop]
  rw [hread, State.i2cFinish_eq, State.wrs_i2c, State.wrs_out]

theorem State.i2cBuf_readBack :
    (s.wrs (s.i2cReadBack k op data)).i2cBuf k 32 = (if op.busClear then s.i2cBuf k 32
      else patchAt (s.i2cBuf k 32) 0 ((data.take op.rdLen).take 32)) := by
  unfold State.i2cReadBack
  split
  · rfl
  · refine State.i2cBuf_words ?_
    rw [patchAt_length _ (Nat.zero_le _), State.i2cBuf_length]

theorem State.i2cReadBack_data {p : Field × Nat} (hp : p ∈ s.i2cReadBack k op data) :
    p.1 ∈ (List.range 4).map (MI.I2C_BUF.DATA k) := by
  unfold State.i2cReadBack at hp
  split at hp
  · cases hp
  · obtain ⟨w, hw, rfl⟩ := List.mem_map.1 hp
    exact List.mem_map_of_mem hw

/-- What the end of a transfer or of a bus clear leaves, whatever its outcome. -/
theorem State.i2cEnd_shows (hk : k < 4) (hop : nget s.i2c k = some op) (hkeys : (writtenKeys flags).Nodup)
    (hout : ∀ p ∈ flags, p.1.i2cOutcome k) :
    let u := s.i2cEnd k data e flags
    nget u.i2c k = none ∧ (∀ j, j ≠ k → nget u.i2c j = nget s.i2c j)
      ∧ (∀ f v, (f, v) ∈ i2cFlagged k flags → u.rd f = v % 2 ^ f.width)
      ∧ u.i2cBuf k 32 = (if op.busClear then s.i2cBuf k 32
          else patchAt (s.i2cBuf k 32) 0 ((data.take op.rdLen).take 32))
      ∧ s.regsKept u ((i2cFlagged k flags).map Prod.fst ++ (List.range 4).map (MI.I2C_BUF.DATA k))
      ∧ u = { s with regs := u.regs, i2c := u.i2c, out := s.out ++ e.outputs k } := by
  dsimp only
  rw [State.i2cEnd_eq hop]
  refine ⟨nget_nerase_same _ _, fun j hj => nget_nerase_ne _ hj,
    fun f v hf => State.rd_wrs_mem _ (i2cFlagged_nodup hkeys hout) hf, ?_, ?_, ?_⟩
  · rw [← State.i2cBuf_readBack]
    exact State.i2cBuf_congr (fun w _ => State.rd_wrs_ne _ _ fun _ hp => i2cData_key_ne_flagged hk hout w hp) 32
  · refine State.regsKept.trans (b := (s.wrs (s.i2cReadBack k op data)).wrs (i2cFlagged k flags)) ?_ (.of_regs rfl _)
    refine ((State.regsKept.refl s _).wrs fun p hp => ?_).wrs fun p hp => ?_
    · exact List.mem_append_right _ (State.i2cReadBack_data hp)
    · exact List.mem_append_left _ (List.mem_map_of_mem hp)
  · exact ((((s.only_wrs _).mono (l' := [.regs, .i2c, .out])).then (State.only_wrs _ _)).trans (.of_withParts rfl)).eq

/-- How a transfer's end leaves the lines (R163). -/
def i2cLineOf : I2cEnd → LineEnd
  | .arbLost => .nothing
  | _ => .stop

/-- What a transfer's end sets in I2C_STAT besides DONE (R163). -/
def i2cFlagsOf (k : Nat) : I2cEnd → List (Field × Nat)
  | .ok => []
  | .nack n => [(MI.I2C_STAT.NACK k, 1), (MI.I2C_STAT.NACK_AT k, n)]
  | .arbLost => [(MI.I2C_STAT.ARB_LOST k, 1)]

theorem State.i2cDone_eq (s : State) (k : Nat) (o : I2cEnd) (data : Frame) :
    s.i2cDone k o data = s.i2cEnd k data (i2cLineOf o) (i2cFlagsOf k o) := by
  cases o <;> rfl

theorem i2cFlagsOf_nodup (k : Nat) (o : I2cEnd) : (writtenKeys (i2cFlagsOf k o)).Nodup := by
  cases o
  case nack n => simp [writtenKeys, i2cFlagsOf, MI.I2C_STAT.NACK, MI.I2C_STAT.NACK_AT, Field.key]
  all_goals simp [writtenKeys, i2cFlagsOf]

theorem i2cFlagsOf_outcome {k : Nat} {o : I2cEnd} {p : Field × Nat} (hp : p ∈ i2cFlagsOf k o) : p.1.i2cOutcome k := by
  cases o <;> simp only [i2cFlagsOf, List.mem_cons, List.not_mem_nil, or_false] at hp
  case nack n => obtain rfl | rfl := hp <;> exact ⟨rfl, rfl, by simp [MI.I2C_STAT.NACK, MI.I2C_STAT.NACK_AT]⟩
  case arbLost => subst hp; exact ⟨rfl, rfl, by simp [MI.I2C_STAT.ARB_LOST]⟩

theorem i2cFlagsOf_fields {k : Nat} {o : I2cEnd} {g : Field} (hg : g ∈ (i2cFlagged k (i2cFlagsOf k o)).map Prod.fst) :
    g ∈ [MI.I2C_STAT.BUSY k, MI.I2C_STAT.DONE k, MI.I2C_STAT.NACK k, MI.I2C_STAT.NACK_AT k, MI.I2C_STAT.ARB_LOST k] := by
  have hsub : ((i2cFlagged k (i2cFlagsOf k o)).map Prod.fst) ⊆
      [MI.I2C_STAT.BUSY k, MI.I2C_STAT.DONE k, MI.I2C_STAT.NACK k, MI.I2C_STAT.NACK_AT k, MI.I2C_STAT.ARB_LOST k] := by
    cases o <;> simp [i2cFlagged, i2cFlagsOf]
  exact hsub hg

/-- A clock line that has been low for longer than TIMEOUT, of the time the transfer has run, ends a transfer. -/
theorem State.i2cTimeout_transfer {w : I2cStall} (hop : nget s.i2c k = some op) (hclear : op.busClear = false)
    (hlow : max 1 (s.rd (MI.I2C_CFG.TIMEOUT k)) * 1000000 < w.low) (hsince : op.since + w.low ≤ s.now) :
    s.i2cTimeout k w = s.i2cEnd k w.data .release [(MI.I2C_STAT.TIMEOUT k, 1)] := by
  simp [State.i2cTimeout, hop, hclear, State.i2cLimit, hlow, hsince]

/-- A bus clear has no timeout. -/
theorem State.i2cTimeout_busClear {w : I2cStall} (hop : nget s.i2c k = some op) (hclear : op.busClear = true) :
    s.i2cTimeout k w = s := by
  simp [State.i2cTimeout, hop, hclear]

end

/- ## Power allocation (R165) -/

/-- ALLOC and P_FULL of a port and the sum of a domain are three fields. -/
theorem alloc_nodup (k d a f sum : Nat) :
    (writtenKeys [(BI.PWR_PORT.ALLOC k, a), (BI.PWR_PORT.P_FULL k, f), (BI.PWR_DOM.SUM_ALLOC d, sum)]).Nodup := by
  simp only [writtenKeys, BI.PWR_PORT.ALLOC, BI.PWR_PORT.P_FULL, BI.PWR_DOM.SUM_ALLOC, Field.key, List.map_cons, List.map_nil,
    List.nodup_cons, List.mem_cons, List.not_mem_nil, List.nodup_nil, or_false, not_false_eq_true, and_true]
  omega

/-- What a write of ALLOC and P_FULL leaves, refused or not. -/
theorem State.allocWrite_shows (s : State) (k a f : Nat) :
    let u := s.allocWrite k a f
    let d := s.rd (BI.PWR_PORT.DOMAIN k)
    let sum := s.rd (BI.PWR_DOM.SUM_ALLOC d) + a % 65536 - s.rd (BI.PWR_PORT.ALLOC k)
    u = { s with regs := u.regs }
      ∧ (if a % 65536 < f % 65536 ∨ (d < 8 ∧ s.rd (BI.PWR_DOM.BUDGET d) < sum) then
          u.rd BI.PWR_STAT.ALLOC_REFUSED = 1 ∧ s.regsKept u [BI.PWR_STAT.ALLOC_REFUSED]
        else u.rd (BI.PWR_PORT.ALLOC k) = a % 65536 ∧ u.rd (BI.PWR_PORT.P_FULL k) = f % 65536
          ∧ (d < 8 → u.rd (BI.PWR_DOM.SUM_ALLOC d) = sum % 2 ^ (BI.PWR_DOM.SUM_ALLOC d).width
              ∧ s.regsKept u [BI.PWR_PORT.ALLOC k, BI.PWR_PORT.P_FULL k, BI.PWR_DOM.SUM_ALLOC d])
          ∧ (8 ≤ d → s.regsKept u [BI.PWR_PORT.ALLOC k, BI.PWR_PORT.P_FULL k])) := by
  dsimp only
  unfold State.allocWrite
  dsimp only
  generalize s.rd (BI.PWR_PORT.DOMAIN k) = d
  generalize s.rd (BI.PWR_DOM.SUM_ALLOC d) + a % 65536 - s.rd (BI.PWR_PORT.ALLOC k) = sum
  split
  · exact ⟨rfl, s.rd_wr_same BI.PWR_STAT.ALLOC_REFUSED 1, (State.regsKept.refl s _).wr 1 (by simp)⟩
  · split
    · rename_i hd
      have hread := fun g v => s.rd_wrs_mem (alloc_nodup k d (a % 65536) (f % 65536) sum) (f := g) (v := v)
      refine ⟨rfl, ?_, ?_, fun _ => ⟨hread (BI.PWR_DOM.SUM_ALLOC d) sum (by simp), ?_⟩, fun h => absurd hd (by omega)⟩
      · exact (hread (BI.PWR_PORT.ALLOC k) (a % 65536) (by simp)).trans (Nat.mod_mod _ _)
      · exact (hread (BI.PWR_PORT.P_FULL k) (f % 65536) (by simp)).trans (Nat.mod_mod _ _)
      · exact ((State.regsKept.refl s _).wrs (by simp)).wr sum (by simp)
    · rename_i hd
      have hread := fun g v => s.rd_wrs_mem (alloc_nodup k d (a % 65536) (f % 65536) sum).of_append_left
        (l := [(BI.PWR_PORT.ALLOC k, a % 65536), (BI.PWR_PORT.P_FULL k, f % 65536)]) (f := g) (v := v)
      refine ⟨rfl, ?_, ?_, fun h => absurd h hd, fun _ => (State.regsKept.refl s _).wrs (by simp)⟩
      · exact (hread (BI.PWR_PORT.ALLOC k) (a % 65536) (by simp)).trans (Nat.mod_mod _ _)
      · exact (hread (BI.PWR_PORT.P_FULL k) (f % 65536) (by simp)).trans (Nat.mod_mod _ _)

/-- What a write of BUDGET and RISE_MAX leaves, refused or not. -/
theorem State.budgetWrite_shows (s : State) (d v r : Nat) :
    let u := s.budgetWrite d v r
    u = { s with regs := u.regs }
      ∧ (if v % 65536 < s.rd (BI.PWR_DOM.SUM_ALLOC d) then
          u.rd BI.PWR_STAT.ALLOC_REFUSED = 1 ∧ s.regsKept u [BI.PWR_STAT.ALLOC_REFUSED]
        else u.rd (BI.PWR_DOM.BUDGET d) = v % 65536 ∧ u.rd (BI.PWR_DOM.RISE_MAX d) = r % 65536
          ∧ s.regsKept u [BI.PWR_DOM.BUDGET d, BI.PWR_DOM.RISE_MAX d]) := by
  have hkey : (BI.PWR_DOM.BUDGET d).key ≠ (BI.PWR_DOM.RISE_MAX d).key := by
    simp only [BI.PWR_DOM.BUDGET, BI.PWR_DOM.RISE_MAX, Field.key]
    omega
  dsimp only
  unfold State.budgetWrite
  split
  · exact ⟨rfl, s.rd_wr_same BI.PWR_STAT.ALLOC_REFUSED 1, (State.regsKept.refl s _).wr 1 (by simp)⟩
  · exact ⟨rfl, (State.rd_wr_ne _ r hkey).trans (s.rd_wr_same (BI.PWR_DOM.BUDGET d) v),
      State.rd_wr_same _ (BI.PWR_DOM.RISE_MAX d) r, (State.regsKept.refl s _).wrs (by simp)⟩

/-- Settles O25: a command of the core is the operation in the state that counts the access; every end of what runs on a bus
is one list of writes to fields of their own, and an allocation or a budget is one write or a refusal. -/
theorem i2cTransfersAndPowerStaysInBudget : Obligations.I2cTransfersAndPowerStaysInBudget := by
  unfold Obligations.I2cTransfersAndPowerStaysInBudget
  refine ⟨?go, ?clear, ?done, ?timeout, ?alloc, ?budget⟩
  case go =>
    intro src k a r w s hs hk hu hr
    exact .next rfl (State.regCmd_core hs (by simpa using hr) (by simpa using hu)) (State.i2cGo_shows hk a r w)
  case clear =>
    intro src k s hs hu hr
    exact .next rfl (State.regCmd_core hs (by simpa using hr) (by simpa using hu)) (State.busClear_shows _ k)
  case done =>
    intro k op o data s hk hop
    obtain ⟨hnone, hothers, hflags, hbuf, hkept, honly⟩ := State.i2cEnd_shows (s := s.quiet) (data := data) 
      (e := i2cLineOf o) hk hop (i2cFlagsOf_nodup k o) fun _ => i2cFlagsOf_outcome
    refine .next rfl (s.quiet.i2cDone_eq k o data) ⟨hnone, hothers, hflags (MI.I2C_STAT.BUSY k) 0 (by simp [i2cFlagged]),
      hflags (MI.I2C_STAT.DONE k) 1 (by simp [i2cFlagged]), ?_, ?_, hbuf, ?_, ?_⟩
    · rintro n rfl
      exact ⟨hflags (MI.I2C_STAT.NACK k) 1 (by simp [i2cFlagged, i2cFlagsOf]),
        hflags (MI.I2C_STAT.NACK_AT k) n (by simp [i2cFlagged, i2cFlagsOf])⟩
    · rintro rfl
      exact hflags (MI.I2C_STAT.ARB_LOST k) 1 (by simp [i2cFlagged, i2cFlagsOf])
    · refine State.regsKept.mono hkept fun g hg => ?_
      exact List.mem_append.2 ((List.mem_append.1 hg).imp_left i2cFlagsOf_fields)
    · cases o <;> exact honly
  case timeout =>
    intro k low t op data s hk hop hlow hsince
    dsimp only
    cases hclear : op.busClear
    · obtain ⟨hnone, hothers, hflags, hbuf, hkept, honly⟩ := State.i2cEnd_shows (s := s.begin t) (data := data)
        (e := .release) (flags := [(MI.I2C_STAT.TIMEOUT k, 1)]) hk hop (List.nodup_singleton _)
        fun p hp => by
          obtain rfl := List.mem_singleton.1 hp
          exact ⟨rfl, rfl, by simp [MI.I2C_STAT.TIMEOUT]⟩
      rw [hclear] at hbuf
      exact .next rfl (State.i2cTimeout_transfer hop hclear hlow hsince) ⟨hnone, hothers,
        hflags (MI.I2C_STAT.BUSY k) 0 (by simp [i2cFlagged]), hflags (MI.I2C_STAT.DONE k) 1 (by simp [i2cFlagged]),
        hflags (MI.I2C_STAT.TIMEOUT k) 1 (by simp [i2cFlagged]), hbuf, hkept, honly⟩
    · exact .next rfl (State.i2cTimeout_busClear hop hclear) rfl
  case alloc =>
    intro src k a f s hs hk hu hr
    exact .next rfl ((State.regCmd_core hs (by simpa using hr) (by simpa using hu)).trans (if_pos hk))
      (State.allocWrite_shows _ k a f)
  case budget =>
    intro src d v r s hs hd hu hr
    exact .next rfl ((State.regCmd_core hs (by simpa using hr) (by simpa using hu)).trans (if_pos hd))
      (State.budgetWrite_shows _ d v r)

end Sys2Proof.Machine

/-!
PROOFS. Statements of the parse-and-classify family: rule epochs and paused updates (R195 to R212), the parse walk (R174 to
R185), the Juggler's rewrites (R192, R194, R222, R229), and searches and probes (R249 to R275).
-/
namespace Sys2Proof.Machine

/- ## Register files that several writes leave -/

theorem State.restKept.raise {a b : State} {ex : List Field} (h : a.restKept b ex) {n : Nat} (hn : n < 128) :
    a.restKept (b.raise n) ex := h.trans ((b.restKept_raise hn).mono (by simp))

theorem State.rd_raise (s : State) {n : Nat} (hn : n < 128) {f : Field} (hf : f.moving = false) : (s.raise n).rd f = s.rd f :=
  (s.restKept_raise hn).rd hf (by simp)

/-- What a register reads depends on the register file only. -/
theorem State.rd_congr {a b : State} (h : b.regs = a.regs) (f : Field) : b.rd f = a.rd f := by
  unfold State.rd
  rw [h]

theorem State.wrs_regs_congr {a b : State} (h : b.regs = a.regs) (l : List (Field × Nat)) : (b.wrs l).regs = (a.wrs l).regs := by
  induction l generalizing a b with
  | nil => exact h
  | cons p l ih => exact ih (by simp [h])

/- ## A slow retirement (R199) -/

section
variable {s : State}

theorem State.retireSlow_late (hv : s.isSet MI.EPOCH_STAT.RETIRING_VALID = true)
    (ht : s.epoch.retireSince + max 1 (s.rd MI.EPOCH_CFG.RETIRE_WARN) * 1000000 < s.now) :
    s.retireSlow = (s.wr MI.EPOCH_STAT.RETIRE_SLOW 1).raise 3 := by
  simp [State.retireSlow, hv, ht]

theorem State.retireSlow_in_time (h : s.isSet MI.EPOCH_STAT.RETIRING_VALID = false
      ∨ s.now ≤ s.epoch.retireSince + max 1 (s.rd MI.EPOCH_CFG.RETIRE_WARN) * 1000000) : s.retireSlow = s := by
  unfold State.retireSlow
  rcases h with hv | ht
  · simp [hv]
  · rw [if_neg (by simp only [Bool.and_eq_true, decide_eq_true_eq]; omega)]

theorem State.epochRetire_inFlight (h : s.inFlightAll (s.rd MI.EPOCH_STAT.RETIRING) ≠ 0) : s.epochRetire = s := by
  simp [State.epochRetire, h]

/-- Outside replay no loader command of the replay engine follows. -/
theorem State.replayNext_outside (h : s.phase ≠ 6) : s.replayNext = s := by
  simp [State.replayNext, h]

end

/-- Settles O26: the warning is one write and an interrupt, and the condition of EPOCH_RETIRE is the in-flight count of zero. -/
theorem slowRetirementIsReportedOnly : Obligations.SlowRetirementIsReportedOnly := by
  unfold Obligations.SlowRetirementIsReportedOnly
  refine ⟨?late, ?inTime, ?inFlight⟩
  case late =>
    intro t s hv ht
    have hkept : (s.begin t).restKept (((s.begin t).wr MI.EPOCH_STAT.RETIRE_SLOW 1).raise 3) [MI.EPOCH_STAT.RETIRE_SLOW] :=
      ((State.restKept.refl _ _).wr _ (.inl (by simp))).raise (by decide)
    refine .next rfl (State.retireSlow_late hv ht) ⟨?_, ?_, hkept, ?_⟩
    · rw [State.rd_raise _ (by decide) (by decide), State.rd_wr_same]; rfl
    · rw [State.isSet_congr (hkept.rd (by decide) (by decide)), hv]
    · rw [State.raise_only]; rfl
  case inTime =>
    intro t s h
    exact .next rfl (State.retireSlow_in_time h) rfl
  case inFlight =>
    intro t s hphase hflight
    refine .next (x := (s.begin t).epochRetire.replayNext) rfl ?_ rfl
    rw [State.epochRetire_inFlight hflight, State.replayNext_outside hphase]

/- ## A pause that ends (R209, R210) -/

section
variable (s : State)

theorem State.only_pauseSources (l : List Nat) (b : Bool) : s.only (s.pauseSources l b) [.ports] :=
  .foldl (fun u p => u.only_setMac p _) l s

/-- Every port of the list is held, or resumed. -/
theorem State.paused_pauseSources (l : List Nat) (b : Bool) {p : Nat} (h : p ∈ l ∨ (s.mac p).paused = b) :
    ((s.pauseSources l b).mac p).paused = b := by
  induction l generalizing s with
  | nil => exact h.resolve_left List.not_mem_nil
  | cons q l ih =>
    refine ih (s.setMac q { s.mac q with paused := b }) ?_
    by_cases hq : p = q
    · subst hq
      exact .inr (by simp)
    · rw [State.mac_setMac_ne _ _ hq]
      exact h.imp_left fun hp => (List.mem_cons.1 hp).resolve_left hq

theorem State.only_shiftHeads (a z : Nat) (sel : Nat → Bool) : s.only (s.shiftHeads a z sel) [.pa, .pb] := .of_withParts rfl

/-- The state of a pause's end before its registers show it: the named ports dispatch, and held heads have not waited. -/
def State.pauseLifted (s : State) (t : Nat) : State :=
  [0, 1].foldl (fun s k => s.shiftHeads (s.waitClock k true t) (s.waitClock k false t) fun p =>
    pipeOf p == k && s.epoch.pausePorts.contains p) (s.pauseSources s.epoch.pausePorts false)

theorem State.only_pauseLifted (t : Nat) : s.only (s.pauseLifted t) [.ports, .pa, .pb] :=
  ((s.only_pauseSources _ _).mono).trans (.foldl (fun u k => (u.only_shiftHeads _ _ _).mono) _ _)

theorem State.mac_pauseLifted (t p : Nat) : (s.pauseLifted t).mac p = (s.pauseSources s.epoch.pausePorts false).mac p :=
  State.only.mac (l := [.pa, .pb]) (.foldl (fun u k => u.only_shiftHeads _ _ _) _ _) p

theorem State.pauseEnd_eq (t : Nat) :
    s.pauseEnd t = ((s.pauseLifted t).wrs [(MI.TUPD_STAT.PAUSE_RUNNING, 0),
      (MI.TUPD_STAT.PAUSE_LAST_NS, min 65535 ((t - s.epoch.pauseAt) / 16))]).ectl fun c => { c with pausePorts := [] } := rfl

theorem State.only_ectl (f : EpochCtl → EpochCtl) : s.only (s.ectl f) [.epoch] := .of_withParts rfl

/-- The writes that a paused update's timeout makes. -/
def timeoutWrites (lasted : Nat) : List (Field × Nat) :=
  [(MI.TUPD_STAT.BATCH_LEN, 0), (MI.TUPD_STAT.PAUSE_RUNNING, 0), (MI.TUPD_STAT.PAUSE_LAST_NS, lasted),
    (MI.TUPD_STAT.ERROR, 0x0A), (MI.TUPD_STAT.ERR, 1), (MI.TUPD_STAT.PAUSE_FAIL, 1)]

theorem timeoutWrites_nodup (lasted : Nat) : (writtenKeys (timeoutWrites lasted)).Nodup :=
  (by decide : (writtenKeys (timeoutWrites 0)).Nodup)

/-- The state of a timeout before its interrupt. -/
def State.pauseTimedOut (s : State) (t : Nat) : State := ((s.emptyBatch.pauseEnd t).tupdEnd 0x0A).wr MI.TUPD_STAT.PAUSE_FAIL 1

theorem State.failed_regs (lasted : Nat) (f : EpochCtl → EpochCtl) :
    ((((s.wrs [(MI.TUPD_STAT.PAUSE_RUNNING, 0), (MI.TUPD_STAT.PAUSE_LAST_NS, lasted)]).ectl f).tupdEnd 0x0A).wr
      MI.TUPD_STAT.PAUSE_FAIL 1).regs = (s.wrs (timeoutWrites lasted).tail).regs := by
  unfold State.tupdEnd
  rw [if_neg (by decide)]
  simp only [timeoutWrites, List.tail_cons, State.wrs_cons, State.wrs_nil, State.wr_regs, State.ectl_regs]

theorem State.wrs_timeoutWrites (lasted : Nat) :
    s.wrs (timeoutWrites lasted) = (s.wr MI.TUPD_STAT.BATCH_LEN 0).wrs (timeoutWrites lasted).tail := rfl

theorem State.pauseTimedOut_regs (t : Nat) :
    (s.pauseTimedOut t).regs = (s.wrs (timeoutWrites (min 65535 ((t - s.epoch.pauseAt) / 16)))).regs := by
  have hlift : (s.emptyBatch.pauseLifted t).regs = (s.wr MI.TUPD_STAT.BATCH_LEN 0).regs := (State.only_pauseLifted _ t).regs
  have hat : s.emptyBatch.epoch.pauseAt = s.epoch.pauseAt := rfl
  rw [State.pauseTimedOut, State.pauseEnd_eq, State.failed_regs, hat, State.wrs_regs_congr hlift, State.wrs_timeoutWrites]

theorem State.only_pauseTimedOut (t : Nat) : s.only (s.pauseTimedOut t) [.regs, .epoch, .ports, .pa, .pb] :=
  (((((((State.only.refl s _).then (s.only_ectl _)).then (State.only_wr _ _ _)).then (State.only_pauseLifted _ t)).then
    (State.only_wrs _ _)).then (State.only_ectl _ _)).then (State.only_wrs _ [(_, _), (_, _)])).then (State.only_wr _ _ _)

theorem State.epoch_pauseTimedOut (t : Nat) : (s.pauseTimedOut t).epoch = { s.epoch with batch := [], pausePorts := [] } := by
  have hlift : (s.emptyBatch.pauseLifted t).epoch = { s.epoch with batch := [] } :=
    s.emptyBatch.only_pauseLifted t .epoch (by decide)
  show { (s.emptyBatch.pauseLifted t).epoch with pausePorts := [] } = _
  rw [hlift]

theorem State.paused_pauseTimedOut (t : Nat) {p : Nat} (hp : p ∈ s.epoch.pausePorts) :
    ((s.pauseTimedOut t).mac p).paused = false := by
  show ((s.emptyBatch.pauseLifted t).mac p).paused = false
  rw [State.mac_pauseLifted]
  exact State.paused_pauseSources _ _ _ (.inl hp)

variable {s}

theorem State.pauseTimeout_due {t : Nat} (hr : s.isSet MI.TUPD_STAT.PAUSE_RUNNING = true) (ht : s.epoch.pauseAt + 100000 ≤ t) :
    s.pauseTimeout t = (s.pauseTimedOut t).raise 3 := by
  unfold State.pauseTimeout
  rw [if_pos (by simp [hr, ht])]
  rfl

theorem State.pauseTimeout_early {t : Nat} (h : s.isSet MI.TUPD_STAT.PAUSE_RUNNING = false ∨ t < s.epoch.pauseAt + 100000) :
    s.pauseTimeout t = s := by
  unfold State.pauseTimeout
  rcases h with hr | ht
  · simp [hr]
  · rw [if_neg (by simp only [Bool.and_eq_true, decide_eq_true_eq]; omega)]

end

/-- Settles O27: the batch was never written, so that emptying it and resuming dispatch restores every table; what the registers
show of it are six writes. -/
theorem pauseTimeoutUndoesTheUpdate : Obligations.PauseTimeoutUndoesTheUpdate := by
  unfold Obligations.PauseTimeoutUndoesTheUpdate
  refine ⟨?due, ?early⟩
  case due =>
    intro t s hr ht
    let b := s.begin t
    let lasted := min 65535 ((b.time - b.epoch.pauseAt) / 16)
    have hraise := State.only_raise (b.pauseTimedOut b.time) 3
    have honly : b.only ((b.pauseTimedOut b.time).raise 3) [.regs, .epoch, .ports, .pa, .pb, .out] :=
      ((b.only_pauseTimedOut b.time).mono).then hraise
    have hrd : ∀ f v, (f, v) ∈ timeoutWrites lasted → f.moving = false →
        ((b.pauseTimedOut b.time).raise 3).rd f = v % 2 ^ f.width := fun f v hmem hm => by
      rw [State.rd_raise _ (by decide) hm, State.rd_congr (b.pauseTimedOut_regs b.time),
        State.rd_wrs_mem b (timeoutWrites_nodup _) hmem]
    have hepoch : ((b.pauseTimedOut b.time).raise 3).epoch = { b.epoch with batch := [], pausePorts := [] } := by
      rw [State.raise_epoch, State.epoch_pauseTimedOut]
    refine .next rfl (State.pauseTimeout_due hr ht) ⟨honly .bank0 (by decide), honly .bank1 (by decide), honly .curBank (by decide),
      fun p hp => ?_, ?_, hrd MI.TUPD_STAT.BATCH_LEN 0 (by simp [timeoutWrites]) (by decide),
      hrd MI.TUPD_STAT.PAUSE_RUNNING 0 (by simp [timeoutWrites]) (by decide),
      hrd MI.TUPD_STAT.PAUSE_FAIL 1 (by simp [timeoutWrites]) (by decide),
      hrd MI.TUPD_STAT.ERROR 0x0A (by simp [timeoutWrites]) (by decide), honly.memories, ?_⟩
    · rw [hraise.mac]
      exact State.paused_pauseTimedOut b b.time hp
    · rw [hepoch]
    · refine State.restKept.raise (State.restKept.trans ?_ (.of_regs (b.pauseTimedOut_regs b.time) _)) (by decide)
      exact ((State.regsKept.refl b _).wrs (by simp [timeoutWrites])).rest
  case early =>
    intro t s h
    exact .next rfl (State.pauseTimeout_early h) rfl

/- ## An image's identity wider than its register (R105, R205) -/

/-- The serving islands run, a commit of a staged image is pending at ALIGN 0, and IMG_STAGED_ID holds 2^64, more than its 64
bits can. No run brings it there: every write is cut to the width of its field. -/
def wideStagedId : State :=
  { State.reset with
    regs := [(MI.ISL_STAT.STATE.key, 0), (MI.IMG_STAGED_ID.ID.key, 2 ^ 64), (MI.EPOCH_STAT.PENDING.key, 1)]
    epoch := { State.reset.epoch with fromImage := true } }

/-- The switch cuts the identity to its width, as every write does. -/
theorem rd_wideStagedId_switched : (wideStagedId.begin 0).epoch.fromImage = true
    ∧ (wideStagedId.begin 0).rd MI.IMG_STAGED_ID.ID = 2 ^ 64
    ∧ ((wideStagedId.begin 0).epochSwitch (wideStagedId.begin 0).time).rd MI.IMG_CONFIG_ID.ID = 0 := by decide +kernel

/-- Refutes O28: its clause of EPOCH_SWITCH takes every state, and has IMG_CONFIG_ID read what IMG_STAGED_ID reads even where that
is more than the width of the field. -/
theorem not_epochsCommitAbortAndSwitch : ¬ Obligations.EpochsCommitAbortAndSwitch := by
  unfold Obligations.EpochsCommitAbortAndSwitch
  rintro ⟨-, -, hswitch, -⟩
  obtain ⟨u, hu, -, -, -, -, -, -, -, -, himage, -⟩ := hswitch 0 wideStagedId (by decide +kernel) (by decide +kernel)
  have hx : exec (.epochSwitch 0) wideStagedId
    = .next ((wideStagedId.begin 0).epochSwitch (wideStagedId.begin 0).time) := rfl
  obtain rfl := Host.Outcome.next.inj (hx.symm.trans hu)
  obtain ⟨hfrom, hstaged, hconfig⟩ := rd_wideStagedId_switched
  rw [if_pos hfrom, hstaged, hconfig] at himage
  exact absurd himage.1 (by decide)

/- ## What the end of a packet touches (R219) -/

/-- The parts of the state that the end of a packet touches. -/
def packetParts : List StatePart := [.regs, .out, .isl, .ports, .chans, .pa, .pb]

/-- From `b` to `u` packets may have ended: nothing but `packetParts` changed, and the heads that wait for dispatch are the same. -/
structure State.packetKept (b u : State) : Prop where
  only : b.only u packetParts
  heads : ∀ j, (u.pipe j).heads = (b.pipe j).heads

section
variable {a b c : State}

theorem State.packetKept.refl (s : State) : s.packetKept s := ⟨.refl s _, fun _ => rfl⟩

theorem State.packetKept.trans (h : a.packetKept b) (h' : b.packetKept c) : a.packetKept c :=
  ⟨h.only.trans h'.only, fun j => (h'.heads j).trans (h.heads j)⟩

theorem State.packetKept.of_only {l : List StatePart} (h : a.only b l) (hl : l ⊆ packetParts := by decide)
    (ha : .pa ∉ l := by decide) (hb : .pb ∉ l := by decide) : a.packetKept b := ⟨h.mono hl, fun j => by rw [h.pipe j ha hb]⟩

end

section
variable (s : State)

theorem State.packetKept_setPipe {k : Nat} {p : Pipe} (hp : p.heads = (s.pipe k).heads) : s.packetKept (s.setPipe k p) := by
  refine ⟨(s.only_setPipe k p).mono, fun j => ?_⟩
  unfold State.pipe at hp
  unfold State.setPipe State.pipe
  split_ifs at hp ⊢
  · exact hp
  · rfl
  · rfl
  · exact hp

theorem State.packetKept_suppressed (i n : Nat) : s.packetKept (s.suppressed i n) := .of_only (s.only_addOvf _ _ _ _)

theorem State.packetKept_pumpAdmit (k n : Nat) : s.packetKept (s.pumpAdmit k n) := by
  induction n generalizing s with
  | zero => exact .refl s
  | succ n ih =>
    rw [State.pumpAdmit]
    split
    · exact .refl s
    · split
      · exact ((s.packetKept_setPipe (by rfl)).trans (.of_only (State.only_send _ _ _))).trans (ih _)
      · exact .refl s

theorem State.packetKept_passToBi (k : Nat) (l : List Desc) : s.packetKept (s.passToBi k l) :=
  (s.packetKept_setPipe (by rfl)).trans (State.packetKept_pumpAdmit _ k _)

theorem State.packetKept_passEnded (k src n : Nat) : s.packetKept (s.passEnded k src n) := by
  induction n generalizing s with
  | zero => exact .refl s
  | succ n ih =>
    rw [State.passEnded]
    dsimp only
    split
    · exact .refl s
    · rename_i e _
      have hout : s.packetKept (s.setPipe k { s.pipe k with ended := (s.pipe k).ended.erase e }) :=
        s.packetKept_setPipe (by rfl)
      split
      · exact (hout.trans (State.packetKept_suppressed _ _ _)).trans (ih _)
      · split
        · refine State.packetKept.trans ?_ (ih _)
          split
          · exact (hout.trans (.of_only (State.only_setMac _ _ _))).trans (.of_only (State.only_commitCopy _ _ _))
          · exact (hout.trans (.of_only (State.only_setMac _ _ _))).trans (State.packetKept_passToBi _ k _)
        · exact .refl s

theorem State.packetKept_endPacket (k src seq : Nat) (outs : List Desc) : s.packetKept (s.endPacket k src seq outs) := by
  unfold State.endPacket
  exact (((State.packetKept.of_only (s.only_setMac _ _)).trans (.of_only (State.only_progress _ _))).trans
    (State.packetKept_setPipe _ (by rfl))).trans (State.packetKept_passEnded _ _ _ _)

end

/- ## A header comes off its channel and its copy is stamped (R83, R174, R195) -/

theorem pipeOf_lt (p : Nat) : pipeOf p < 2 := by
  unfold pipeOf
  split <;> omega

/-- The state in which a header is parsed: it is off its channel, and its copy bears its epoch. -/
def State.stamped (s : State) (src seq : Nat) (c : Copy) : State :=
  let s0 := s.take (ingressChan src) (.header src seq)
  s0.setMac src ((s0.mac src).setCopy seq fun x => { x with epoch := some (s.stampFor c), stage := 3 })

section
variable {s : State}

theorem State.only_take (s : State) (c : Chan) (i : Item) : s.only (s.take c i) [.chans] := by
  unfold State.take
  dsimp only
  split
  · exact s.only_setChan _ _
  · exact .refl s _

/-- An item comes off its channel, and its credit starts back (R55). -/
theorem State.chan_take {c : Chan} {i : Item} (h : i ∈ (s.chan c).arrived) : (s.take c i).chan c
    = { s.chan c with arrived := (s.chan c).arrived.erase i, returning := (s.chan c).returning + 1 } := by
  unfold State.take
  dsimp only
  rw [if_pos h, State.chan_setChan_same]

theorem State.arrivedHeader_mem {src seq : Nat} (h : s.arrivedHeader src = some seq) :
    Item.header src seq ∈ (s.chan (ingressChan src)).arrived := by
  obtain ⟨i, hi, hseq⟩ := List.exists_of_findSome?_eq_some h
  cases i with
  | header a q =>
    obtain ⟨rfl, rfl⟩ : a = src ∧ q = seq := by simpa using hseq
    exact hi
  | _ => simp at hseq

theorem State.only_stamped (s : State) (src seq : Nat) (c : Copy) : s.only (s.stamped src seq c) [.chans, .ports] :=
  ((s.only_take _ _).mono).then (State.only_setMac _ _ _)

theorem State.copies_stamped (s : State) (src seq : Nat) (c : Copy) : ((s.stamped src seq c).mac src).copies
    = (s.mac src).copies.map fun x => if x.seq = seq then { x with epoch := some (s.stampFor c), stage := 3 } else x := by
  unfold State.stamped
  dsimp only
  rw [State.mac_setMac_same, (s.only_take _ _).mac]
  rfl

theorem State.chan_stamped {src seq : Nat} (c : Copy) (h : s.arrivedHeader src = some seq) :
    (s.stamped src seq c).chan (ingressChan src) = { s.chan (ingressChan src) with
      arrived := (s.chan (ingressChan src)).arrived.erase (.header src seq)
      returning := (s.chan (ingressChan src)).returning + 1 } :=
  State.chan_take (State.arrivedHeader_mem h)

theorem State.slowMode_congr {a b : State} (h : b.regs = a.regs) (p : Nat) : b.slowMode p = a.slowMode p := by
  unfold State.slowMode
  rw [State.rd_congr h]

/-- The walk that a source's oldest header takes. -/
def State.walkOf (s : State) (src : Nat) (c : Copy) : WalkEnd :=
  Machine.walk (((s.epochBank (s.stampFor c)).pipe (pipeOf src)).graph) c.bytes s.freeVal 24
    (((s.epochBank (s.stampFor c)).pipe (pipeOf src)).graph.start) 0 WalkRec.empty

/-- PARSE_WALK of a header that has arrived, its pipeline up, no trial frame without anything staged, and not aborted. -/
theorem State.parseWalk_eq {src seq : Nat} {c : Copy} (t : Nat) (harr : s.arrivedHeader src = some seq)
    (hcopy : (s.mac src).copies.find? (fun c => c.seq = seq) = some c) (hstage : c.stage ≠ 0)
    (hup : s.islUp (5 + pipeOf src) = true) (htrial : c.trial = false ∨ c.epoch ≠ none ∨ s.somethingStaged = true)
    (hab : s.isAborted src seq = false) :
    s.parseWalk src t = ((s.stamped src seq c).parsed (pipeOf src) (parsedOf src c (s.stampFor c) t)
      (s.walkOf src c)).tookFree := by
  have hstale : (c.trial && c.epoch.isNone && !s.somethingStaged) = false := by
    rcases htrial with h | h | h <;> simp [h]
  unfold State.parseWalk
  simp only [harr, hcopy, hup]
  rw [if_neg hstage, hstale, if_neg (by decide), hab, if_neg (by decide)]
  rfl

theorem State.parseWalk_idle {src : Nat} (t : Nat) (h : s.arrivedHeader src = none) : s.parseWalk src t = s := by
  simp [State.parseWalk, h]

end

/- ## How a walk ends (R177, R178, R183 to R185) -/

/-- What the registers note of a walk that ends in a result. -/
def State.walkNoted (s : State) (k code : Nat) (r : WalkRec) : State :=
  (if code = 0x7F then s.addOvf (P.PARSE_STAT.SHORT k) (P.PARSE_STAT.SHORT_OVF k) 1 1 else s).noteBadFrag k r.badFrag

/-- The fields that it notes them in. -/
def walkFields (k code : Nat) (bad : Bool) : List Field :=
  (if code = 0x7F then [P.PARSE_STAT.SHORT k, P.PARSE_STAT.SHORT_OVF k] else []) ++ if bad then [P.PARSE_STAT.BAD_FRAG k] else []

/-- The packet with what its walk recorded. -/
def Parsed.walked (p : Parsed) (code visits : Nat) (r : WalkRec) : Parsed :=
  { p with result := code, layers := r.layers, tagOuter := r.tagOuter, tagInner := r.tagInner, tagOvf := r.tagOvf,
           frag := r.frag, fragKey := r.fragKey, visits := visits }

section
variable {s : State} {k : Nat} {p : Parsed} {r : WalkRec}

theorem parseStat_key (k : Nat) :
    (P.PARSE_STAT.DEPTH k).key = ((5 + k) * 0x100000 + 0x208) * 64 + 32
      ∧ (P.PARSE_STAT.DEPTH_OVF k).key = ((5 + k) * 0x100000 + 0x208) * 64 + 63
      ∧ (P.PARSE_STAT.SHORT k).key = ((5 + k) * 0x100000 + 0x208) * 64 + 1
      ∧ (P.PARSE_STAT.SHORT_OVF k).key = ((5 + k) * 0x100000 + 0x208) * 64 + 31
      ∧ (P.PARSE_STAT.BAD_FRAG k).key = ((5 + k) * 0x100000 + 0x208) * 64 + 0 := by
  simp only [P.PARSE_STAT.DEPTH, P.PARSE_STAT.DEPTH_OVF, P.PARSE_STAT.SHORT, P.PARSE_STAT.SHORT_OVF, P.PARSE_STAT.BAD_FRAG,
    Field.key, and_self]

theorem State.only_noteBadFrag (s : State) (k : Nat) (bad : Bool) : s.only (s.noteBadFrag k bad) [.regs] := by
  unfold State.noteBadFrag
  split
  · exact s.only_wr _ _
  · exact .refl s _

theorem State.rd_noteBadFrag_ne (s : State) (bad : Bool) {f : Field} (hf : f.key ≠ (P.PARSE_STAT.BAD_FRAG k).key) :
    (s.noteBadFrag k bad).rd f = s.rd f := by
  unfold State.noteBadFrag
  split
  · exact s.rd_wr_ne _ hf
  · rfl

theorem State.rd_noteBadFrag (s : State) (k : Nat) : (s.noteBadFrag k true).rd (P.PARSE_STAT.BAD_FRAG k) = 1 :=
  s.rd_wr_same _ 1

theorem State.only_walkNoted (s : State) (k code : Nat) (r : WalkRec) : s.only (s.walkNoted k code r) [.regs] := by
  unfold State.walkNoted
  refine State.only.then ?_ (State.only_noteBadFrag _ _ _)
  split
  · exact s.only_addOvf _ _ _ _
  · exact .refl s _

theorem State.regsKept_walkNoted (s : State) (k code : Nat) (r : WalkRec) :
    s.regsKept (s.walkNoted k code r) (walkFields k code r.badFrag) := by
  have hshort : s.regsKept (if code = 0x7F then s.addOvf (P.PARSE_STAT.SHORT k) (P.PARSE_STAT.SHORT_OVF k) 1 1 else s)
      (walkFields k code r.badFrag) := by
    split
    · rename_i h
      exact (State.regsKept.refl s _).addOvf _ _ (by simp [walkFields, h]) (by simp [walkFields, h])
    · exact .refl s _
  unfold State.walkNoted State.noteBadFrag
  split
  · rename_i h
    exact hshort.wr _ (by simp [walkFields, h])
  · exact hshort

theorem State.rd_walkNoted_short (s : State) (k : Nat) (r : WalkRec) : (s.walkNoted k 0x7F r).rd (P.PARSE_STAT.SHORT k)
    = (s.rd (P.PARSE_STAT.SHORT k) + 1) % 2 ^ (P.PARSE_STAT.SHORT k).width := by
  obtain ⟨-, -, hshort, hovf, hbad⟩ := parseStat_key k
  unfold State.walkNoted
  rw [if_pos rfl, State.rd_noteBadFrag_ne _ _ (by omega), State.rd_addOvf_same _ _ _ (by omega)]

theorem State.rd_walkNoted_badFrag (s : State) (k code : Nat) (h : r.badFrag = true) :
    (s.walkNoted k code r).rd (P.PARSE_STAT.BAD_FRAG k) = 1 := by
  unfold State.walkNoted
  rw [h, State.rd_noteBadFrag]

/-- A packet with a result waits for dispatch, unless it is a fragment on a SLOW port. -/
theorem State.parsed_waits {code v : Nat} (h : r.frag = 0 ∨ s.slowMode p.ingress = false) :
    let u := s.parsed k p (.result code v r)
    s.only u [.regs, .pa, .pb] ∧ (u.pipe k).heads = (s.pipe k).heads ++ [p.walked code v r]
      ∧ ∀ f, u.rd f = (s.walkNoted k code r).rd f := by
  have hnoted := s.only_walkNoted k code r
  have heq : s.parsed k p (.result code v r)
      = (s.walkNoted k code r).setPipe k { s.pipe k with heads := (s.pipe k).heads ++ [p.walked code v r] } := by
    rw [← hnoted.pipe k]
    unfold State.parsed
    dsimp only
    rw [if_neg (by rcases h with h | h <;> simp [h])]
    rfl
  dsimp only
  rw [heq]
  refine ⟨(hnoted.mono (by decide)).then (State.only_setPipe _ _ _), ?_, fun f => State.setPipe_rd _ _ _ f⟩
  rw [State.pipe_setPipe_same]

/-- A fragment on a SLOW port ends with its walk. -/
theorem State.parsed_slow {code v : Nat} (hf : r.frag ≠ 0) (h : s.slowMode p.ingress = true) :
    ∃ outs, s.parsed k p (.result code v r) = (s.walkNoted k code r).endPacket k p.source p.seq outs := by
  unfold State.parsed
  dsimp only
  rw [if_pos ⟨hf, h⟩]
  exact ⟨_, rfl⟩

theorem State.packetKept_parsed_slow {code v : Nat} (hf : r.frag ≠ 0) (h : s.slowMode p.ingress = true) :
    s.packetKept (s.parsed k p (.result code v r)) := by
  obtain ⟨outs, heq⟩ := State.parsed_slow (k := k) (code := code) (v := v) hf h
  rw [heq]
  exact (State.packetKept.of_only (s.only_walkNoted k code r)).trans (State.packetKept_endPacket _ _ _ _ _)

theorem State.packetKept_parsed_depth (s : State) (k : Nat) (p : Parsed) (node : Nat) (bad : Bool) :
    s.packetKept (s.parsed k p (.depth node bad)) :=
  ((State.packetKept.of_only (s.only_noteBadFrag k bad)).trans (.of_only (State.only_addOvf _ _ _ _ _))).trans
    (State.packetKept_endPacket _ _ _ _ _)

/-- PARSE_DEPTH is counted, and BAD_FRAG set where the walk found one. -/
theorem State.rd_parsed_depth (s : State) (hk : k < 2) (p : Parsed) (node : Nat) (bad : Bool) :
    let u := s.parsed k p (.depth node bad)
    u.rd (P.PARSE_STAT.DEPTH k) = (s.rd (P.PARSE_STAT.DEPTH k) + 1) % 2 ^ (P.PARSE_STAT.DEPTH k).width
      ∧ (bad = true → u.rd (P.PARSE_STAT.BAD_FRAG k) = 1) := by
  obtain ⟨hdepth, hovf, -, -, hbad⟩ := parseStat_key k
  have hpass := fun outs => State.passKept_endPacket ((s.noteBadFrag k bad).addOvf (P.PARSE_STAT.DEPTH k)
    (P.PARSE_STAT.DEPTH_OVF k) 1 1) hk p.source p.seq outs
  have hoff : (P.PARSE_STAT.DEPTH k).offPassing := ⟨Field.not_moving_of_place (show 0 < 5 + k by omega)
    (show 0x208 < 0xF0100 by decide) (show 32 < 64 by decide), by omega⟩
  have hoffBad : (P.PARSE_STAT.BAD_FRAG k).offPassing := ⟨Field.not_moving_of_place (show 0 < 5 + k by omega)
    (show 0x208 < 0xF0100 by decide) (show 0 < 64 by decide), by omega⟩
  refine ⟨((hpass _).rd _ hoff).trans ?_, fun h => ((hpass _).rd _ hoffBad).trans ?_⟩
  · rw [State.rd_addOvf_same _ _ _ (by omega), State.rd_noteBadFrag_ne _ _ (by omega)]
  · rw [State.rd_addOvf_ne _ _ _ (by omega) (by omega), h, State.rd_noteBadFrag]

end

/-- Settles O30: a header's walk starts from the state that took it off its channel and stamped its copy, and either adds one head
and its notes or ends the packet, which leaves the heads and the memories. -/
theorem parsingClassifiesFrames : Obligations.ParsingClassifiesFrames := by
  unfold Obligations.ParsingClassifiesFrames
  refine ⟨?result, ?slow, ?depth, ?idle⟩
  case result =>
    intro src seq t code v c r s hsrc harr hcopy hstage hup htrial hab hwalk hfast
    have hend : (s.begin t).walkOf src c = .result code v r := hwalk
    have hstamped := (s.begin t).only_stamped src seq c
    have hseq : c.seq = seq := by simpa using List.find?_some hcopy
    have hfast' : r.frag = 0 ∨ ((s.begin t).stamped src seq c).slowMode c.ingress = false :=
      hfast.imp_right fun h => (State.slowMode_congr hstamped.regs _).trans h
    obtain ⟨hwaits, hheads, hrd⟩ := State.parsed_waits (k := pipeOf src)
      (p := parsedOf src c ((s.begin t).stampFor c) (s.begin t).time) (code := code) (v := v) hfast'
    have hu := State.parseWalk_eq (s.begin t).time harr hcopy hstage hup htrial hab
    rw [hend] at hu
    have hall := (hstamped.mono (l' := [.regs, .pa, .pb, .chans, .ports])).then hwaits
    refine .next rfl hu
      ⟨⟨_, hheads.trans (by rw [hstamped.pipe]), rfl, hseq, rfl, rfl, rfl, rfl, rfl, rfl, rfl, rfl, rfl, rfl, rfl⟩,
      (congrArg PortMac.copies (hwaits.mac src)).trans (State.copies_stamped ..), ?_, ?_, fun hcode => (hrd _).trans ?_,
      fun hbad => (hrd _).trans (State.rd_walkNoted_badFrag _ _ _ hbad), fun f hf => (hrd f).trans ?_,
      congrArg State.tookFree hall.eq⟩
    · exact congrArg Channel.arrived ((hwaits.chan _).trans (State.chan_stamped c harr))
    · exact congrArg Channel.returning ((hwaits.chan _).trans (State.chan_stamped c harr))
    · rw [hcode, State.rd_walkNoted_short, hstamped.rd]
    · rw [State.regsKept_walkNoted _ _ _ _ f hf, hstamped.rd]
  case slow =>
    intro src seq t code v c r s hsrc harr hcopy hstage hup htrial hab hwalk hfrag hslow
    have hend : (s.begin t).walkOf src c = .result code v r := hwalk
    have hstamped := (s.begin t).only_stamped src seq c
    have hslow' : ((s.begin t).stamped src seq c).slowMode c.ingress = true := (State.slowMode_congr hstamped.regs _).trans hslow
    have hkept := (State.packetKept.of_only hstamped).trans (State.packetKept_parsed_slow (k := pipeOf src)
      (p := parsedOf src c ((s.begin t).stampFor c) (s.begin t).time) (code := code) (v := v) hfrag hslow')
    have hu := State.parseWalk_eq (s.begin t).time harr hcopy hstage hup (.inl htrial) hab
    rw [hend] at hu
    exact .next rfl hu ⟨hkept.heads _, hkept.only.memories⟩
  case depth =>
    intro src seq t node bad c s hsrc harr hcopy hstage hup htrial hab hwalk
    have hend : (s.begin t).walkOf src c = .depth node bad := hwalk
    have hstamped := (s.begin t).only_stamped src seq c
    have hkept := (State.packetKept.of_only hstamped).trans (State.packetKept_parsed_depth _ (pipeOf src)
      (parsedOf src c ((s.begin t).stampFor c) (s.begin t).time) node bad)
    obtain ⟨hdepth, hbad⟩ := State.rd_parsed_depth ((s.begin t).stamped src seq c) (pipeOf_lt src)
      (parsedOf src c ((s.begin t).stampFor c) (s.begin t).time) node bad
    rw [hstamped.rd] at hdepth
    have hu := State.parseWalk_eq (s.begin t).time harr hcopy hstage hup (.inl htrial) hab
    rw [hend] at hu
    exact .next rfl hu ⟨hkept.heads _, hdepth, hbad, hkept.only.memories⟩
  case idle =>
    intro src t s h
    exact .next rfl (State.parseWalk_idle _ h) rfl

/- ## An instruction that goes on to the following word (R217) -/

section
variable {b : State} {x : CtxId} {c : Ctx} {ecc : Ecc} {row : State → Ctx → Micro → Bool}
  {eff : State → CtxId → Ctx → Micro → Retire} (h : b.issues x c ecc) (hrow : row b c (microOf (b.fetch x c)) = true)
  {s3 : State} {c3 : Ctx}
  (heff : eff (b.readied x c ecc) x (c.issuing b ecc) (microOf (b.fetch x c)) = .next s3 c3)
include h hrow heff

theorem State.issue_next :
    b.issue x ecc false row eff = s3.retireAt x c3 (b.chosen x c ecc) (c.issuing b ecc).pc 0 := by
  rw [State.issue_eq eff h hrow, heff]
  rfl

/-- It retires, where its effect on the state is no more than a free value taken. -/
theorem State.retires_next (hs3 : (b.readied x c ecc).only s3 [.free]) {v : Ctx} (hv : c3.settled b.time = v.retired b.time) :
    b.retires (b.issue x ecc false row eff) x ecc v := by
  obtain ⟨hx, -, -⟩ := h.place
  rw [State.issue_next h hrow heff]
  refine State.retires_of_effect hx ((State.recordKept_readied hx b c ecc).trans (.of_only hs3 fun f _ => hs3.rd f)) hv
    fun hecc hen => ?_
  subst hecc
  obtain ⟨hchosen, hrest⟩ := State.readied_quiet hx b c hen
  exact ⟨hchosen, hrest.regs hs3.regs⟩

/-- An effect on its context alone. -/
theorem State.goesOn_context (hs3 : s3 = b.readied x c ecc) {v : Ctx} (hv : c3.settled b.time = v.retired b.time) :
    let u := b.issue x ecc false row eff
    b.retires u x ecc v ∧ u = { b with regs := u.regs, pa := u.pa, pb := u.pb, di := u.di, out := u.out } := by
  refine ⟨State.retires_next h hrow heff (hs3 ▸ .refl _ _) hv, ?_⟩
  rw [State.issue_next h hrow heff, hs3]
  exact (((b.only_readied x c ecc).mono (l' := [.regs, .pa, .pb, .di, .out])).then (State.only_retireAt _ _ _ _ _ _)).eq

end

/- ## Actions, checksum and time (R192, R194, R222, R229) -/

section
variable {s : State} {x : CtxId} {c : Ctx} {m : Micro}

/-- The context with an action word merged into its accumulator. -/
def Ctx.merged (c : Ctx) (w index : Nat) : Ctx :=
  { c with phv := patchAt c.phv 0xE0 (beBytes 8 (mergeAct c.acc w)),
           copyIndex := if actCopy w then index else c.copyIndex,
           mirrorIndex := if actMirror w then index else c.mirrorIndex }

theorem Ctx.apply_eq {w : Nat} (index : Nat) (h : actBad w = false) : c.apply w index = some (c.merged w index) := by
  simp [Ctx.apply, h, Ctx.merged, Ctx.setAcc, Ctx.patch, Ctx.acc, phvAcc]

theorem effActImm_next (h : actBad m.imm = false) : effActImm s x c m = .next s (c.merged m.imm 0xFFFF).stepPc := by
  rw [effActImm, Ctx.apply_eq _ h]

theorem effActSlot_hit (hst : c.slotStatus m.slot = 1) (h : actBad (c.slotAction m.slot) = false) :
    effActSlot s x c m = .next s (c.merged (c.slotAction m.slot) (c.slotIndex m.slot)).stepPc := by
  rw [effActSlot, if_pos hst, Ctx.apply_eq _ h]

theorem effActSlot_noHit (hst : c.slotStatus m.slot ≠ 1) : effActSlot s x c m = .next s c.stepPc := if_neg hst

theorem effCsum_next (h : phvMayWrite m.off 2 = true) :
    effCsum s x c m = .next s (c.patch m.off (beBytes 2 (csumUpdate (beNat (sliceAt c.phv m.off 2))
      ((c.reg m.ra).toNat % 65536) ((c.reg m.rb).toNat % 65536)))).stepPc := if_pos h

theorem effTime_next (h : phvMayWrite m.off 8 = true) :
    effTime s x c m = .next s (c.patch m.off (beBytes 8 s.time)).stepPc := if_pos h

end

theorem State.time_readied {b : State} {x : CtxId} (hx : x.pipe < 2) (c : Ctx) (ecc : Ecc) : (b.readied x c ecc).time = b.time :=
  (State.recordKept_readied hx b c ecc).rd _ ⟨by decide, by decide⟩

/- ## INS and DEL on the header window (R229) -/

section
variable {l w bs tail : List Byte} {i off n v : Nat}

/-- A patched byte is the patch's where the patch stands, and the list's elsewhere. -/
theorem getD_patchAt (h : i + bs.length ≤ l.length) (j : Nat) :
    (patchAt l i bs).getD j 0 = if i ≤ j ∧ j < i + bs.length then bs.getD (j - i) 0 else l.getD j 0 := by
  have hi : min i l.length = i := by omega
  simp only [patchAt, List.getD_eq_getElem?_getD, List.getElem?_take, List.getElem?_append, List.getElem?_drop, List.length_take,
    List.length_append, hi]
  by_cases hj : j < l.length
  · by_cases h1 : j < i
    · simp [hj, h1, show j < i + bs.length by omega, show ¬ i ≤ j by omega]
    · by_cases h2 : j < i + bs.length
      · simp [hj, h1, h2, show i ≤ j by omega]
      · simp [hj, h2, show i + bs.length + (j - (i + bs.length)) = j by omega]
  · simp [hj, show ¬ j < i + bs.length by omega]

/-- The header window with `n` zero bytes put in at `off`. -/
def gapOpened (w : List Byte) (off n : Nat) : List Byte := (w.take off ++ List.replicate n 0 ++ w.drop off).take 160

/-- The header window with the `n` bytes at `off` taken out, and `tail` behind. -/
def gapClosed (w : List Byte) (off n : Nat) (tail : List Byte) : List Byte := w.take off ++ w.drop (off + n) ++ tail

theorem gapOpened_length (hw : w.length = 160) (h : off ≤ 160) : (gapOpened w off n).length = 160 := by
  simp only [gapOpened, List.length_take, List.length_append, List.length_replicate, List.length_drop]
  omega

theorem gapClosed_length (hw : w.length = 160) (htail : tail.length = n) (h : off + n ≤ 160) :
    (gapClosed w off n tail).length = 160 := by
  simp only [gapClosed, List.length_take, List.length_append, List.length_drop]
  omega

theorem getD_gapOpened (hw : w.length = 160) (h : off ≤ 160) (j : Nat) (hj : j < 160) :
    (gapOpened w off n).getD j 0 = if j < off then w.getD j 0 else if j < off + n then 0 else w.getD (j - n) 0 := by
  have hoff : min off w.length = off := by omega
  simp only [gapOpened, List.getD_eq_getElem?_getD, List.getElem?_take, List.getElem?_append, List.getElem?_drop,
    List.length_take, List.length_append, List.length_replicate, List.getElem?_replicate, hoff, hj, if_true]
  by_cases h1 : j < off
  · simp [h1, show j < off + n by omega]
  · by_cases h2 : j < off + n
    · simp [h1, h2, show j - off < n by omega]
    · simp [h1, h2, show off + (j - (off + n)) = j - n by omega]

theorem getD_gapClosed (hw : w.length = 160) (h : off + n ≤ 160) (j : Nat) (hj : j < 160 - n) :
    (gapClosed w off n tail).getD j 0 = if j < off then w.getD j 0 else w.getD (j + n) 0 := by
  have hoff : min off w.length = off := by omega
  simp only [gapClosed, List.getD_eq_getElem?_getD, List.getElem?_take, List.getElem?_append, List.getElem?_drop,
    List.length_take, List.length_append, List.length_drop, hoff]
  rw [if_pos (by omega)]
  split
  · rfl
  · rw [show off + n + (j - off) = j + n by omega]

theorem getD_take (hj : i < n) : (l.take n).getD i 0 = l.getD i 0 := by
  simp [List.getD_eq_getElem?_getD, hj]

end

section
variable {c : Ctx} {w : Frame} (hphv : c.phv.length = 0x180)
include hphv

/-- With the window and EMIT rewritten, the window's bytes are the new ones. -/
theorem Ctx.window_setByte (hw : w.length = 160) (v : Nat) {j : Nat} (hj : j < 160) :
    (((c.patch 0 w).setByte phvEmit v).stepPc).phv.getD j 0 = w.getD j 0 := by
  have hlen : (patchAt c.phv 0 w).length = 0x180 := (patchAt_length w (Nat.zero_le _)).trans hphv
  show (patchAt (patchAt c.phv 0 w) 0xD2 _).getD j 0 = _
  rw [getD_patchAt (by rw [hlen]; simp), if_neg (by omega), getD_patchAt (by omega), if_pos (by omega), Nat.sub_zero]

theorem Ctx.emit_setByte {v : Nat} (hv : v < 256) : (((c.patch 0 w).setByte phvEmit v).stepPc).emit = v := by
  have hlen : (patchAt c.phv 0 w).length = 0x180 := (patchAt_length w (Nat.zero_le _)).trans hphv
  show ((patchAt (patchAt c.phv 0 w) 0xD2 [BitVec.ofNat 8 v]).getD 0xD2 0).toNat = v
  rw [getD_patchAt (by rw [hlen]; simp), if_pos (by simp)]
  simpa using hv

end

section
variable {s : State} {x : CtxId} {c : Ctx} {m : Micro}

theorem effIns_next (h1 : 1 ≤ m.imm % 64) (h2 : m.imm % 64 ≤ 32) (hoff : m.off ≤ c.emit) (hfits : c.emit + m.imm % 64 ≤ 160) :
    effIns s x c m = .next s ((c.patch 0 (gapOpened (c.phv.take 160) m.off (m.imm % 64))).setByte phvEmit
      (c.emit + m.imm % 64)).stepPc := if_pos ⟨h1, h2, hoff, hfits⟩

theorem effDel_next (h1 : 1 ≤ m.imm % 64) (h2 : m.imm % 64 ≤ 32) (hoff : m.off + m.imm % 64 ≤ c.emit) :
    effDel s x c m = .next s.tookFree ((c.patch 0 (gapClosed (c.phv.take 160) m.off (m.imm % 64)
      (freeBytes s.freeVal (m.imm % 64)))).setByte phvEmit (c.emit - m.imm % 64)).stepPc := if_pos ⟨h1, h2, hoff⟩

end

/-- Settles O33: each instruction goes on from the readied state with its rewritten context; INS and DEL are the gap opened and
closed in the header window. -/
theorem jugglerRewritesFrames : Obligations.JugglerRewritesFrames := by
  unfold Obligations.JugglerRewritesFrames
  refine ⟨?context, ?ins, ?del⟩
  case context =>
    intro x ecc t c c' cmd s h m hm
    obtain ⟨l, hl⟩ := c.issuing_eq (s.begin t) ecc
    rcases hm with ⟨hop, hsub, rfl, hok, rfl⟩ | ⟨hop, hsub, rfl, hst, hok, rfl⟩ | ⟨hop, hsub, rfl, hst, rfl⟩
      | ⟨hop, rfl, hmay, rfl⟩ | ⟨hop, rfl, hmay, rfl⟩
    · exact .next rfl rfl (State.goesOn_context h (by simp [m, hop, hsub]) (effActImm_next hok) rfl (by rw [hl]; rfl))
    · exact .next rfl rfl (State.goesOn_context h (by simp [m, hop, hsub])
        (effActSlot_hit (by rw [hl]; exact hst) (by rw [hl]; exact hok)) rfl (by rw [hl]; rfl))
    · exact .next rfl rfl (State.goesOn_context h (by simp [m, hop, hsub])
        (effActSlot_noHit (by rw [hl]; exact hst)) rfl (by rw [hl]; rfl))
    · exact .next rfl rfl (State.goesOn_context h (by simp [m, rowOp, hop]) (effCsum_next hmay) rfl (by rw [hl]; rfl))
    · obtain ⟨hx, -, -⟩ := h.place
      exact .next rfl rfl (State.goesOn_context h (by simp [m, rowOp, hop]) (effTime_next hmay) rfl
        (by rw [hl, State.time_readied hx]; rfl))
  case ins =>
    intro x ecc t c s h hphv m n hop h1 h2 hoff hfits
    obtain ⟨l, hl⟩ := c.issuing_eq (s.begin t) ecc
    have hw : (c.phv.take 160).length = 160 := by simp [hphv]
    have hgap : (gapOpened (c.phv.take 160) m.off n).length = 160 := gapOpened_length hw (by omega)
    refine .next rfl rfl ⟨((c.patch 0 (gapOpened (c.phv.take 160) m.off n)).setByte phvEmit (c.emit + n)).stepPc,
      State.retires_next h (by simp [m, rowOp, hop]) (effIns_next h1 h2 (by rw [hl]; exact hoff) (by rw [hl]; exact hfits))
        (.refl _ _) (by rw [hl]; rfl), rfl, Ctx.emit_setByte hphv (by omega), rfl, fun i hi => ?_⟩
    rw [Ctx.window_setByte hphv hgap _ hi, getD_gapOpened hw (by omega) i hi, getD_take hi, getD_take (by omega)]
  case del =>
    intro x ecc t c s h hphv m n hop h1 h2 hoff hemit
    obtain ⟨l, hl⟩ := c.issuing_eq (s.begin t) ecc
    have hw : (c.phv.take 160).length = 160 := by simp [hphv]
    let tail := freeBytes ((s.begin t).readied x c ecc).freeVal n
    have hgap : (gapClosed (c.phv.take 160) m.off n tail).length = 160 :=
      gapClosed_length hw (by simp [tail, freeBytes]) (by omega)
    refine .next rfl rfl ⟨((c.patch 0 (gapClosed (c.phv.take 160) m.off n tail)).setByte phvEmit (c.emit - n)).stepPc,
      State.retires_next h (by simp [m, rowOp, hop]) (effDel_next h1 h2 (by rw [hl]; exact hoff))
        (State.only_tookFree _) (by rw [hl]; rfl), rfl, Ctx.emit_setByte hphv (by omega), rfl, fun i hi => ?_⟩
    rw [Ctx.window_setByte hphv hgap _ (by omega), getD_gapClosed hw (by omega) i hi, getD_take (by omega), getD_take (by omega)]

/- ## The slices' settings (R249 to R252) -/

section
variable {a b : State}

/-- From `a` to `b` the search island's settings of its slices and its place in the cascade read the same. -/
def State.slicesKept (a b : State) : Prop := ∀ f : Field, f.isl = 7 → f.off ≤ 0x40 → f.lo < 64 → b.rd f = a.rd f

/-- Counting leaves them, and so does writing fields of the probe ports. -/
theorem State.restKept.slices {ex : List Field} (h : a.restKept b ex)
    (hex : ∀ g ∈ ex, (7 * 0x100000 + 0x400) * 64 ≤ g.key := by simp) : a.slicesKept b := by
  intro f hisl hoff hlo
  refine h.rd (Field.not_moving_of_place (by omega) (by omega) hlo) fun g hg hk => ?_
  have hkey : f.key = (f.isl * 0x100000 + f.off) * 64 + f.lo := rfl
  have := hex g hg
  omega

variable (h : a.slicesKept b)
include h

theorem State.slicesKept.sliceWidth {n : Nat} (hn : n < 8) : b.sliceWidth n = a.sliceWidth n := by
  unfold State.sliceWidth
  rw [h (SI.SLICE_CFG.WIDTH n) rfl (show 0x0 + 0x8 * n ≤ 0x40 by omega) (show 0 < 64 by decide)]

theorem State.slicesKept.keyLen (n : Nat) : b.keyLen n = a.keyLen n := by
  unfold State.keyLen
  split
  · rename_i hn
    rw [h.sliceWidth hn]
  · rfl

theorem State.slicesKept.isCascade (n : Nat) : b.isCascade n = a.isCascade n := by
  unfold State.isCascade State.isSet
  by_cases hn : n < 8
  · rw [h (SI.SLICE_CFG.MODE n) rfl (show 0x0 + 0x8 * n ≤ 0x40 by omega) (show 6 < 64 by decide)]
  · simp [hn]

theorem State.slicesKept.tcamOwn {n : Nat} (hn : n < 8) (k : Bank) (key : Frame) : b.tcamOwn k n key = a.tcamOwn k n key := by
  unfold State.tcamOwn State.tcamWinner State.isSet
  rw [h.sliceWidth hn, h (SI.SLICE_CFG.TYPE n) rfl (show 0x0 + 0x8 * n ≤ 0x40 by omega) (show 5 < 64 by decide),
    h (SI.SLICE_CFG.DEPTH n) rfl (show 0x0 + 0x8 * n ≤ 0x40 by omega) (show 48 < 64 by decide),
    h SI.CAS_CFG.POSITION rfl (by decide) (by decide)]

end

/- ## Banks and probes where they are not touched -/

section
variable {a b : State} {l : List StatePart} (h : a.only b l)
include h

theorem State.only.si (hl : .si ∉ l := by decide) : b.si = a.si := h .si hl
theorem State.only.di (hl : .di ∉ l := by decide) : b.di = a.di := h .di hl
theorem State.only.out (hl : .out ∉ l := by decide) : b.out = a.out := h .out hl

theorem State.only.bank (v : Bool) (hl : .bank0 ∉ l ∧ .bank1 ∉ l := by decide) : b.bank v = a.bank v := by
  unfold State.bank
  rw [show b.bank0 = a.bank0 from h .bank0 hl.1, show b.bank1 = a.bank1 from h .bank1 hl.2]

theorem State.only.probeBank (n : Nat) (hl : .curBank ∉ l := by decide) : b.probeBank n = a.probeBank n := by
  unfold State.probeBank
  rw [show b.curBank = a.curBank from h .curBank hl]

theorem State.only.epochBank (e : Nat) (hl : l ∩ [.regs, .bank0, .bank1, .curBank] = [] := by decide) :
    b.epochBank e = a.epochBank e := by
  have hp : ∀ p ∈ [StatePart.regs, .bank0, .bank1, .curBank], p ∉ l := fun p hp hpl =>
    List.eq_nil_iff_forall_not_mem.1 hl p (List.mem_inter_iff.2 ⟨hpl, hp⟩)
  unfold State.epochBank State.bankOf State.curEpoch
  rw [h.bank _ ⟨hp _ (by simp), hp _ (by simp)⟩, h.rd _ (hp _ (by simp)),
    show b.curBank = a.curBank from h .curBank (hp _ (by simp))]

theorem State.only.probe? (p : Nat) (hl : .si ∉ l := by decide) : b.probe? p = a.probe? p := by
  unfold State.probe?
  rw [h.si hl]

end

theorem State.only_setSi (s : State) (f : Search → Search) : s.only (s.setSi f) [.si] := .of_withParts rfl

/- ## Asking DRAM for an overflow set (R257, R258) -/

theorem dramPieces_who {who : DramWho} {wr : Bool} {now fuel a n : Nat} {data : Frame} {x : DramReq}
    (hx : x ∈ dramPieces who wr now fuel a n data) : x.who = who ∧ x.wr = wr := by
  induction fuel generalizing a n data with
  | zero => cases hx
  | succ fuel ih =>
    rw [dramPieces] at hx
    split at hx
    · cases hx
    · rcases List.mem_cons.1 hx with rfl | hx
      · exact ⟨rfl, rfl⟩
      · exact ih hx

theorem dramPieces_ne_nil {who : DramWho} {wr : Bool} {now fuel a n : Nat} {data : Frame} (hn : n ≠ 0) :
    dramPieces who wr now (fuel + 1) a n data ≠ [] := by
  rw [dramPieces, if_neg hn]
  exact List.cons_ne_nil _ _

section
variable (s : State) (id : Nat) (v y : Bool) (key : Frame)

theorem State.overflowSet_pos : (s.overflowSet v y key).2 ≠ 0 := by
  unfold State.overflowSet
  cases y <;> simp

theorem State.only_askOverflow : s.only (s.askOverflow id v y key) [.di] := .of_withParts rfl

/-- A search of the overflow set puts its reads behind the others. -/
theorem State.askOverflow_queue : ∃ q, q ≠ [] ∧ (s.askOverflow id v y key).di.queue = s.di.queue ++ q
    ∧ ∀ x ∈ q, x.who = .ovf id ∧ x.wr = false :=
  ⟨_, dramPieces_ne_nil (s.overflowSet_pos v y key), rfl, fun _ hx => dramPieces_who hx⟩

end

/- ## A lookup's result (R249 to R261) -/

section
variable (s : State)

/-- A request's result is put to it. -/
theorem State.setResult_si (id : Nat) (r : SearchResult) : (s.setResult id r).si
    = { s.si with reqs := s.si.reqs.map fun q => if q.id = id then { q with result := some r } else q } :=
  State.only.si (State.only_progress (s.casResolve (.search id) r) 7)

theorem State.only_setResult (id : Nat) (r : SearchResult) : s.only (s.setResult id r) [.regs, .si, .isl, .out] :=
  State.only.then (b := s.casResolve (.search id) r) (.of_withParts rfl) (State.only_progress _ 7)

theorem State.restKept_setResult (id : Nat) (r : SearchResult) : s.restKept (s.setResult id r) [] :=
  ((State.restKept.refl s []).regs (show (s.casResolve (.search id) r).regs = s.regs from rfl)).progress (by decide)

/-- What a hash search counts. -/
def State.hashCounted (b : Bank) (y : Bool) (key : Frame) : State :=
  if (b.hash y).readsOverflow y (hashKey y key) then (s.count 7 0x101 1).count 7 0x102 1 else s.count 7 0x101 1

theorem State.only_hashCounted (b : Bank) (y : Bool) (key : Frame) : s.only (s.hashCounted b y key) [.regs, .out] := by
  unfold State.hashCounted
  split
  · exact (s.only_count _ _ _).then (State.only_count _ _ _ _)
  · exact s.only_count _ _ _

theorem State.restKept_hashCounted (b : Bank) (y : Bool) (key : Frame) : s.restKept (s.hashCounted b y key) [] := by
  have h := (State.restKept.refl s []).count (i := 7) 0x101 1 (by decide)
  unfold State.hashCounted
  split
  · exact h.count _ _ (by decide)
  · exact h

/-- A hash search that learns nothing. -/
theorem State.hashSearch_unlearning (b : Bank) (y : Bool) (key : Frame) (o : Bool) {ingress : Option Nat}
    (h : ingress = none ∨ s.isSet SI.HASH_CFG.LEARN_EN = false) :
    s.hashSearch b y key ingress o = (ofHash ((b.hash y).lookup y (hashKey y key) o), s.hashCounted b y key) := by
  unfold State.hashSearch State.hashCounted
  cases ingress with
  | none => rfl
  | some p => simp [h.resolve_left (by simp)]

end

/- ## SEARCH_LOOKUP (R195, R251, R258) -/

section
variable {b : State} {id : Nat} {r : SearchReq}
  (hreq : b.si.reqs.find? (fun r => r.id = id) = some r) (hruns : b.islRuns 7 = true)
  (harr : (b.chan (searchChan r.ctx.pipe)).arrived.contains (.search id) = true)
include hreq hruns harr

/-- A request that has arrived is looked up from the state that took it off its channel. -/
theorem State.searchLookup_taken : ∃ a, b.only a [.chans]
    ∧ (a.chan (searchChan r.ctx.pipe)).arrived = (b.chan (searchChan r.ctx.pipe)).arrived.erase (.search id)
    ∧ b.searchLookup id = a.lookup r := by
  refine ⟨b.take (searchChan r.ctx.pipe) (.search id), b.only_take _ _,
    congrArg Channel.arrived (State.chan_take (by simpa using harr)), ?_⟩
  unfold State.searchLookup
  rw [hreq]
  dsimp only
  rw [hruns, harr]
  rfl

end

section
variable {a : State} {r : SearchReq}

theorem State.lookup_slice (ht : r.table < 8) (hc : a.isCascade r.table = false) : a.lookup r
    = (a.count 7 0x100 1).setResult r.id (ofOwn (a.tcamOwn (a.epochBank r.epoch) r.table r.key)) := by
  have hown := ((a.restKept_count 0x100 1 (i := 7) (by decide)).slices).tcamOwn ht (a.epochBank r.epoch) r.key
  unfold State.lookup
  dsimp only
  rw [if_pos ht, hc, if_neg (by decide), hown]

theorem State.lookup_cascade (hc : a.isCascade r.table = true) : a.lookup r
    = (a.count 7 0x100 1).casStart (.search r.id) r.table r.key (a.tcamOwn (a.epochBank r.epoch) r.table r.key) := by
  have ht : r.table < 8 := by
    unfold State.isCascade at hc
    simp only [Bool.and_eq_true, decide_eq_true_eq] at hc
    exact hc.1
  have hown := ((a.restKept_count 0x100 1 (i := 7) (by decide)).slices).tcamOwn ht (a.epochBank r.epoch) r.key
  unfold State.lookup
  dsimp only
  rw [if_pos ht, if_pos hc, hown]

theorem State.lookup_overflow (ht : 8 ≤ r.table) (hdi : a.islRuns 9 = true)
    (hread : ((a.epochBank r.epoch).hash (r.table == 8)).readsOverflow (r.table == 8) (hashKey (r.table == 8) r.key) = true) :
    a.lookup r = a.askOverflow r.id (a.bankOf r.epoch) (r.table == 8) r.key := by
  unfold State.lookup
  dsimp only
  rw [if_neg (by omega), hread, hdi]
  rfl

theorem State.lookup_hash (ht : 8 ≤ r.table) (hlearn : a.isSet SI.HASH_CFG.LEARN_EN = false)
    (hread : ((a.epochBank r.epoch).hash (r.table == 8)).readsOverflow (r.table == 8) (hashKey (r.table == 8) r.key) = false) :
    a.lookup r = (a.hashCounted (a.epochBank r.epoch) (r.table == 8) r.key).setResult r.id
      (ofHash (((a.epochBank r.epoch).hash (r.table == 8)).lookup (r.table == 8) (hashKey (r.table == 8) r.key) false)) := by
  unfold State.lookup
  dsimp only
  rw [if_neg (by omega), hread, State.hashSearch_unlearning _ _ _ _ _ (.inr hlearn)]
  rfl

end

/- ## A cascade search of an UP member (R264) -/

theorem execSlotFor_ge (count pos t : Nat) : t + 32 ≤ execSlotFor count pos t := by
  unfold execSlotFor
  split <;> omega

theorem State.nextExec_ge (s : State) (t : Nat) : t + 32 ≤ s.nextExec t := by
  have := execSlotFor_ge s.casCount s.casPos t
  unfold State.nextExec
  dsimp only
  split <;> omega

section
variable (s : State) (o : CasOwner) (table : Nat) (key : Frame) (own : Option (Nat × Nat))

/-- The search that this member starts, and its request. -/
def State.casAsked : CasSearch :=
  { owner := o, origin := s.casPos, tag := s.si.nextTag, table, key,
    issueSlot := max s.slotNow (s.nextExec s.slotNow - 32 - s.casCount), execSlot := s.nextExec s.slotNow, seen := 0, own,
    executed := false, outcome := none }
def State.casRequest : CasMsg :=
  { kind := 1, origin := s.casPos, sender := s.casPos, seen := 0, tag := s.si.nextTag, table,
    execSlot := s.nextExec s.slotNow % 65536, key, action := 0, index := 0 }

variable {s}

theorem State.casStart_up (h : s.casUp = true) : s.casStart o table key own = ((s.count 7 0x103 1).setSi fun i =>
    { i with casc := i.casc ++ [s.casAsked o table key own], nextTag := (s.si.nextTag + 1) % 4096,
             lastExec := s.nextExec s.slotNow + 1 }).casEmit (s.casRequest table key) := by
  unfold State.casStart
  rw [h]
  rfl

theorem State.casStart_si (h : s.casUp = true) : (s.casStart o table key own).si = { s.si with
    casc := s.si.casc ++ [s.casAsked o table key own], nextTag := (s.si.nextTag + 1) % 4096,
    lastExec := s.nextExec s.slotNow + 1 } := by
  rw [State.casStart_up o table key own h, ← (s.only_count 7 0x103 1).si]
  rfl

/-- Its request is the last that leaves. -/
theorem State.casStart_out (h : s.casUp = true) : (s.casStart o table key own).out.getLast?
    = some (.cascade (casLane 1) (casBlocks (s.casRequest table key))) := by
  rw [State.casStart_up o table key own h]
  exact List.getLast?_concat ..

theorem State.only_casStart (h : s.casUp = true) : s.only (s.casStart o table key own) [.regs, .out, .si] := by
  rw [State.casStart_up o table key own h]
  exact (((s.only_count _ _ _).mono).then (State.only_setSi _ _)).then (State.only_emit _ _)

theorem State.restKept_casStart (h : s.casUp = true) : s.restKept (s.casStart o table key own) [] := by
  rw [State.casStart_up o table key own h]
  exact (s.restKept_count 0x103 1 (by decide)).regs rfl

end

/- ## LEARNED_AGE_OUT (R261) -/

/-- A bridge table without the learned entry of a key. -/
def HashTable.forgot (t : HashTable) (k : Frame) : HashTable :=
  { t with entries := t.entries.filter fun e => ¬ (e.key = k ∧ e.learned = true) }

section
variable {b : State} {k : Frame}

theorem State.ageOut_eq (hage : b.rd SI.HASH_CFG.AGE_S ≠ 0)
    (hold : (b.bank b.curBank).bridge.entries.any (fun e => decide (e.key = k ∧ e.learned = true
      ∧ e.hitAt + b.rd SI.HASH_CFG.AGE_S * 1000000000 ≤ b.now)) = true) :
    b.ageOut k = ((b.bothBridges fun t => t.forgot k).addOvf SI.HASH_STAT.AGED SI.HASH_STAT.OVF 1 1).recalcOcc :=
  if_pos ⟨hage, hold⟩

theorem State.ageOut_off (hage : b.rd SI.HASH_CFG.AGE_S = 0) : b.ageOut k = b := if_neg fun h => h.1 hage

end

section
variable (s : State)

theorem State.only_recalcOcc : s.only s.recalcOcc [.regs] := s.only_wrs _

theorem State.regsKept_recalcOcc : s.regsKept s.recalcOcc [SI.HASH_OCC.BR_USED, SI.HASH_OCC.FLOW_USED, SI.HASH_OCC.BR_OVF_USED,
    SI.HASH_OCC.FLOW_OVF_USED] := (State.regsKept.refl s _).wrs (by simp)

/-- An entry that aged is counted. -/
theorem State.aged_shows : let u := (s.addOvf SI.HASH_STAT.AGED SI.HASH_STAT.OVF 1 1).recalcOcc
    u.rd SI.HASH_STAT.AGED = (s.rd SI.HASH_STAT.AGED + 1) % 2 ^ SI.HASH_STAT.AGED.width
      ∧ s.regsKept u [SI.HASH_STAT.AGED, SI.HASH_STAT.OVF, SI.HASH_OCC.BR_USED, SI.HASH_OCC.FLOW_USED,
          SI.HASH_OCC.BR_OVF_USED, SI.HASH_OCC.FLOW_OVF_USED]
      ∧ s.only u [.regs] := by
  refine ⟨?_, ((State.regsKept.refl s _).addOvf _ _ (by simp) (by simp)).trans ((State.regsKept_recalcOcc _).mono (by simp)),
    (s.only_addOvf _ _ _ _).then (State.only_recalcOcc _)⟩
  rw [(State.regsKept_recalcOcc _).rd (by decide), State.rd_addOvf_same _ _ _ (by decide)]

end

/- ## The probe ports (R273 to R275) -/

/-- The fields of a probe's result, and with them those of its command. -/
def probeResult (p : Nat) : List Field := [SI.PROBE_RES0.VALID p, SI.PROBE_RES0.SEQ p, SI.PROBE_RES0.STATUS p, SI.PROBE_RES0.LOC p,
  SI.PROBE_RES0.INDEX p, SI.PROBE_RES1.ACTION p]
def probeFields (p : Nat) : List Field :=
  [SI.PROBE_CMD.SEQ p, SI.PROBE_CMD.BANK p, SI.PROBE_CMD.TABLE p] ++ probeResult p

/-- What PROBE_GO writes at once. -/
def probeCommand (p seq bk tb : Nat) : List (Field × Nat) :=
  [(SI.PROBE_CMD.SEQ p, seq), (SI.PROBE_CMD.BANK p, bk), (SI.PROBE_CMD.TABLE p, tb)] ++ (probeResult p).map fun f => (f, 0)

/-- What a probe's result writes. -/
def probeAnswer (p seq : Nat) (r : SearchResult) : List (Field × Nat) :=
  [(SI.PROBE_RES0.VALID p, 1), (SI.PROBE_RES0.SEQ p, seq), (SI.PROBE_RES0.STATUS p, r.1), (SI.PROBE_RES0.LOC p, r.2.2.2),
    (SI.PROBE_RES0.INDEX p, r.2.2.1), (SI.PROBE_RES1.ACTION p, r.2.1)]

/-- Where a probe's fields stand, in bits from the front of PROBE_CMD. -/
def probePlaces : List Nat := [48, 16, 0, 512 + 63, 512 + 32, 512 + 24, 512 + 16, 512, 1024]

theorem probeFields_keys (p : Nat) : (probeFields p).map Field.key = probePlaces.map ((SI.PROBE_CMD.TABLE p).key + ·) := by
  simp only [probeFields, probeResult, probePlaces, SI.PROBE_CMD.SEQ, SI.PROBE_CMD.BANK, SI.PROBE_CMD.TABLE, SI.PROBE_RES0.VALID,
    SI.PROBE_RES0.SEQ, SI.PROBE_RES0.STATUS, SI.PROBE_RES0.LOC, SI.PROBE_RES0.INDEX, SI.PROBE_RES1.ACTION, Field.key,
    List.map_cons, List.map_nil, List.cons_append, List.nil_append, List.cons.injEq, and_true, true_and]
  omega

theorem probeFields_nodup (p : Nat) : ((probeFields p).map Field.key).Nodup := by
  rw [probeFields_keys]
  exact List.Nodup.map (fun _ _ => Nat.add_left_cancel) (by decide)

theorem probeFields_ge {p : Nat} {g : Field} (hg : g ∈ probeFields p) : (SI.PROBE_CMD.TABLE p).key ≤ g.key := by
  have hk : g.key ∈ probePlaces.map ((SI.PROBE_CMD.TABLE p).key + ·) := probeFields_keys p ▸ List.mem_map_of_mem hg
  obtain ⟨o, -, ho⟩ := List.mem_map.1 hk
  omega

theorem probeCommand_ne_result {p : Nat} {f : Field} (hf : f ∈ [SI.PROBE_CMD.SEQ p, SI.PROBE_CMD.BANK p, SI.PROBE_CMD.TABLE p]) :
    ∀ g ∈ probeResult p, f.key ≠ g.key := fun _ hg =>
  (List.nodup_append.1 (List.map_append (f := Field.key) ▸ probeFields_nodup p)).2.2 _ (List.mem_map_of_mem hf) _
    (List.mem_map_of_mem hg)

theorem probeTable_key (p : Nat) : (SI.PROBE_CMD.TABLE p).key = (7 * 0x100000 + (0x428 + 0x80 * p)) * 64 + 0 := rfl

section
variable (s : State) {p : Nat} (seq bk tb : Nat)

theorem probeCommand_nodup : (writtenKeys (probeCommand p seq bk tb)).Nodup := probeFields_nodup p

theorem probeAnswer_nodup (r : SearchResult) : (writtenKeys (probeAnswer p seq r)).Nodup :=
  (List.nodup_append.1 (List.map_append (f := Field.key) ▸ probeFields_nodup p)).2.1

@[simp] theorem State.probe?_setProbe_same (v : Option Probe) : (s.setProbe p v).probe? p = v := by
  unfold State.probe? State.setProbe State.setSi
  dsimp only
  split <;> rfl

theorem State.probe?_setProbe_other (hp : p < 2) (v : Option Probe) : (s.setProbe p v).probe? (1 - p) = s.probe? (1 - p) := by
  obtain rfl | rfl : p = 0 ∨ p = 1 := by omega
  · rfl
  · rfl

theorem State.only_setProbe (v : Option Probe) : s.only (s.setProbe p v) [.si] := s.only_setSi _

/-- A result shown ends its probe. -/
theorem State.probeShow_shows (hp : p < 2) (r : SearchResult) : let u := s.probeShow p seq r
    u.probe? p = none ∧ u.rd (SI.PROBE_RES0.VALID p) = 1 ∧ u.rd (SI.PROBE_RES0.SEQ p) = seq % 65536
      ∧ u.rd (SI.PROBE_RES0.STATUS p) = r.1 % 2 ^ (SI.PROBE_RES0.STATUS p).width
      ∧ u.rd (SI.PROBE_RES1.ACTION p) = r.2.1 % 2 ^ 64 ∧ u.rd (SI.PROBE_RES0.INDEX p) = r.2.2.1 % 65536
      ∧ u.rd (SI.PROBE_RES0.LOC p) = r.2.2.2 % 2 ^ (SI.PROBE_RES0.LOC p).width
      ∧ u.probe? (1 - p) = s.probe? (1 - p) ∧ s.regsKept u (probeResult p) ∧ s.only u [.regs, .si] := by
  have hwrs := (s.setProbe p none).only_wrs (probeAnswer p seq r)
  have hrd : ∀ f v, (f, v) ∈ probeAnswer p seq r → (s.probeShow p seq r).rd f = v % 2 ^ f.width :=
    fun f v hf => State.rd_wrs_mem _ (probeAnswer_nodup seq r) hf
  refine ⟨(hwrs.probe? p).trans (State.probe?_setProbe_same s none),
    hrd (SI.PROBE_RES0.VALID p) 1 (by simp [probeAnswer]), hrd _ _ (by simp [probeAnswer]), hrd _ _ (by simp [probeAnswer]),
    hrd _ _ (by simp [probeAnswer]), hrd _ _ (by simp [probeAnswer]),
    hrd _ _ (by simp [probeAnswer]), (hwrs.probe? _).trans (State.probe?_setProbe_other s hp none),
    ((State.regsKept.refl s _).trans (.of_regs (s.only_setProbe none).regs _)).wrs (by simp [probeResult]),
    ((s.only_setProbe none).mono).then hwrs⟩

/-- What PROBE_GO leaves in the registers of its probe, and what it leaves of the others. -/
theorem State.probeCommand_shows : let u := s.wrs (probeCommand p seq bk tb)
    u.rd (SI.PROBE_CMD.SEQ p) = seq % 65536 ∧ u.rd (SI.PROBE_CMD.BANK p) = bk % 2 ∧ u.rd (SI.PROBE_CMD.TABLE p) = tb % 16
      ∧ u.rd (SI.PROBE_RES0.VALID p) = 0 ∧ s.regsKept u (probeFields p) ∧ s.only u [.regs] := by
  have hrd : ∀ f v, (f, v) ∈ probeCommand p seq bk tb → (s.wrs (probeCommand p seq bk tb)).rd f = v % 2 ^ f.width :=
    fun f v hf => s.rd_wrs_mem (probeCommand_nodup seq bk tb) hf
  exact ⟨hrd _ _ (by simp [probeCommand]), hrd _ _ (by simp [probeCommand]), hrd _ _ (by simp [probeCommand]),
    hrd (SI.PROBE_RES0.VALID p) 0 (by simp [probeCommand, probeResult]),
    (State.regsKept.refl s _).wrs (by simp [probeCommand, probeFields, probeResult]), s.only_wrs _⟩

/-- The key, its length, the slices and the overflow sets are as before the command. -/
theorem State.probeCommand_keeps : let u := s.wrs (probeCommand p seq bk tb)
    u.probeKey p = s.probeKey p ∧ s.slicesKept u ∧ ∀ table key, u.probeOverflows bk table key = s.probeOverflows bk table key := by
  obtain ⟨-, -, -, -, hregs, honly⟩ := s.probeCommand_shows (p := p) seq bk tb
  refine ⟨?_, hregs.rest.slices fun g hg => ?_, fun table key => ?_⟩
  · unfold State.probeKey
    refine List.flatMap_congr fun w hw => ?_
    have hw5 : w < 5 := List.mem_range.1 hw
    rw [hregs.rd fun g hg => ?_]
    have hge := probeFields_ge hg
    have hkey : (SI.PROBE_KEY.KEY p w).key = (7 * 0x100000 + (0x400 + 0x80 * p + 0x8 * w)) * 64 + 0 := rfl
    rw [probeTable_key] at hge
    omega
  · have hge := probeFields_ge hg
    rw [probeTable_key] at hge
    omega
  · have hruns : (s.wrs (probeCommand p seq bk tb)).islRuns 9 = s.islRuns 9 := by
      unfold State.islRuns State.isl?
      rw [hregs.rd fun g hg => ?_]
      have hge := probeFields_ge hg
      have hkey : MI.ISL_STAT.STATE.key < 7 * 0x100000 * 64 := by decide
      rw [probeTable_key] at hge
      omega
    unfold State.probeOverflows
    rw [honly.bank, honly.probeBank, hruns]

end

/- ## PROBE_GO (R273, R274) -/

/-- The state in which a probe has taken its number and asks for its overflow set. -/
def State.probeAsking (s : State) (p : Nat) (q : Probe) : State :=
  ((s.setProbe p (some { q with asked := none })).setProbe p (some q)).setSi fun i => { i with nextId := s.si.nextId + 1 }

theorem State.probeAsking_shows (s : State) {p : Nat} (hp : p < 2) (q : Probe) : let u := s.probeAsking p q
    u.probe? p = some q ∧ u.probe? (1 - p) = s.probe? (1 - p) ∧ s.only u [.si] := by
  refine ⟨State.probe?_setProbe_same (s.setProbe p (some { q with asked := none })) (some q), ?_,
    ((s.only_setProbe _).then (State.only_setProbe _ _)).then (State.only_setSi _ _)⟩
  exact (State.probe?_setProbe_other _ hp (some q)).trans (s.probe?_setProbe_other hp _)

section
variable {s s0 : State} {p : Nat} {seq bk tb : Nat} (hs0 : s0 = s.wrs (probeCommand p seq bk tb))
include hs0

theorem State.probeGo_badTable (h : 9 < tb % 16) : ∃ r : SearchResult, r.1 = 0x10
    ∧ s.probeGo p seq bk tb = s0.tookFree.probeShow p (seq % 65536) r := by
  subst hs0
  exact ⟨_, rfl, if_pos h⟩

variable {key : Frame} (hkey : key = (s0.probeKey p).take (s0.keyLen (tb % 16)))
include hkey

theorem State.probeGo_started (h : ¬ 9 < tb % 16) (hc : s0.isCascade (tb % 16) = false)
    (ho : s0.probeOverflows bk (tb % 16) key = false) :
    s.probeGo p seq bk tb = s0.setProbe p (some ⟨seq % 65536, bk % 2, tb % 16, key, none, none⟩) := by
  subst hs0 hkey
  refine (if_neg h).trans ?_
  dsimp only
  rw [if_neg (by rw [Bool.not_eq_true]; exact hc), if_neg (by rw [Bool.not_eq_true]; exact ho)]
  rfl

theorem State.probeGo_asks (h : ¬ 9 < tb % 16) (hc : s0.isCascade (tb % 16) = false)
    (ho : s0.probeOverflows bk (tb % 16) key = true) : s.probeGo p seq bk tb
      = (s0.probeAsking p ⟨seq % 65536, bk % 2, tb % 16, key, none, some s0.si.nextId⟩).askOverflow s0.si.nextId
          (s0.probeBank bk) (tb % 16 == 8) key := by
  subst hs0 hkey
  refine (if_neg h).trans ?_
  dsimp only
  rw [if_neg (by rw [Bool.not_eq_true]; exact hc), if_pos (by exact ho)]
  rfl

end

/-- PROBE_GO of a table that is no cascade slice. -/
theorem State.probeGo_shows (s : State) {p : Nat} (hp : p < 2) (seq bk tb : Nat) (hc : s.isCascade (tb % 16) = false) :
    let u := s.probeGo p seq bk tb
    let key := (s.probeKey p).take (s.keyLen (tb % 16))
    (u.rd (SI.PROBE_CMD.SEQ p) = seq % 65536 ∧ u.rd (SI.PROBE_CMD.BANK p) = bk % 2 ∧ u.rd (SI.PROBE_CMD.TABLE p) = tb % 16)
      ∧ (if 9 < tb % 16 then u.rd (SI.PROBE_RES0.VALID p) = 1 ∧ u.rd (SI.PROBE_RES0.SEQ p) = seq % 65536
          ∧ u.rd (SI.PROBE_RES0.STATUS p) = 0x10 ∧ u.probe? p = none
        else u.rd (SI.PROBE_RES0.VALID p) = 0
          ∧ (if s.probeOverflows bk (tb % 16) key then
              u.probe? p = some ⟨seq % 65536, bk % 2, tb % 16, key, none, some s.si.nextId⟩
              ∧ (∃ q, q ≠ [] ∧ u.di.queue = s.di.queue ++ q ∧ ∀ x ∈ q, x.who = .ovf s.si.nextId ∧ x.wr = false)
            else u.probe? p = some ⟨seq % 65536, bk % 2, tb % 16, key, none, none⟩ ∧ u.di = s.di))
      ∧ u.probe? (1 - p) = s.probe? (1 - p) ∧ s.regsKept u (probeFields p) ∧ s.only u [.regs, .si, .di, .free] := by
  intro u key
  obtain ⟨hseq, hbank, htable, hvalid, hregs, honly⟩ := s.probeCommand_shows (p := p) seq bk tb
  obtain ⟨hprobeKey, hslices, hovf⟩ := s.probeCommand_keeps (p := p) seq bk tb
  generalize hs0 : s.wrs (probeCommand p seq bk tb) = s0 at *
  have hkey : key = (s0.probeKey p).take (s0.keyLen (tb % 16)) := by rw [hprobeKey, hslices.keyLen]
  have hc0 : s0.isCascade (tb % 16) = false := (hslices.isCascade _).trans hc
  have hstarts : s0.only u [.si, .di] → (u.rd (SI.PROBE_CMD.SEQ p) = seq % 65536 ∧ u.rd (SI.PROBE_CMD.BANK p) = bk % 2
      ∧ u.rd (SI.PROBE_CMD.TABLE p) = tb % 16) ∧ u.rd (SI.PROBE_RES0.VALID p) = 0 ∧ s.regsKept u (probeFields p)
      ∧ s.only u [.regs, .si, .di, .free] := fun h =>
    ⟨⟨(h.rd _).trans hseq, (h.rd _).trans hbank, (h.rd _).trans htable⟩, (h.rd _).trans hvalid,
      hregs.trans (.of_regs h.regs _), (honly.mono).then h⟩
  by_cases h9 : 9 < tb % 16
  · obtain ⟨r, hr, hu⟩ := State.probeGo_badTable hs0.symm h9
    obtain ⟨hnone, hval, hsq, hst, -, -, -, hother, hres, hshow⟩ := s0.tookFree.probeShow_shows (seq % 65536) hp r
    have hcmd : ∀ f ∈ [SI.PROBE_CMD.SEQ p, SI.PROBE_CMD.BANK p, SI.PROBE_CMD.TABLE p], u.rd f = s0.rd f := fun f hf =>
      (congrArg (State.rd · f) hu).trans (hres.rd (probeCommand_ne_result hf))
    rw [← hu] at hnone hval hsq hst hother hres hshow
    rw [if_pos h9]
    refine ⟨⟨(hcmd _ (by simp)).trans hseq, (hcmd _ (by simp)).trans hbank, (hcmd _ (by simp)).trans htable⟩,
      ⟨hval, hsq.trans (Nat.mod_mod _ _), by rw [hst, hr]; rfl, hnone⟩, hother.trans (honly.probe? _),
      hregs.trans (State.regsKept.mono (a := s0) hres (by simp +contextual [probeFields])), ?_⟩
    exact ((honly.mono).then (State.only_tookFree s0)).then hshow
  · rw [if_neg h9]
    cases ho : s.probeOverflows bk (tb % 16) key with
    | false =>
      have hu := State.probeGo_started hs0.symm hkey h9 hc0 ((hovf _ _).trans ho)
      have hset := s0.only_setProbe (p := p) (some ⟨seq % 65536, bk % 2, tb % 16, key, none, none⟩)
      obtain ⟨hcmd, hval, hregs, hall⟩ := hstarts ((hset.mono).trans (.of_eq hu _))
      refine ⟨hcmd, ⟨hval, ?_⟩, ?_, hregs, hall⟩
      · rw [if_neg (by decide)]
        exact ⟨(congrArg (State.probe? · p) hu).trans (State.probe?_setProbe_same _ _),
          (congrArg State.di hu).trans (hset.di.trans honly.di)⟩
      · exact (congrArg (State.probe? · (1 - p)) hu).trans ((State.probe?_setProbe_other _ hp _).trans (honly.probe? _))
    | true =>
      have hu := State.probeGo_asks hs0.symm hkey h9 hc0 ((hovf _ _).trans ho)
      obtain ⟨hprobe, hother, hask⟩ := s0.probeAsking_shows hp ⟨seq % 65536, bk % 2, tb % 16, key, none, some s0.si.nextId⟩
      generalize s0.probeAsking p _ = a at *
      have hread := a.only_askOverflow s0.si.nextId (s0.probeBank bk) (tb % 16 == 8) key
      obtain ⟨q, hq, hqueue, hwho⟩ := a.askOverflow_queue s0.si.nextId (s0.probeBank bk) (tb % 16 == 8) key
      rw [← hu] at hread hqueue
      obtain ⟨hcmd, hval, hregs, hall⟩ := hstarts ((hask.mono).then hread)
      rw [if_pos rfl]
      rw [honly.si] at hprobe hwho
      exact ⟨hcmd, ⟨hval, (hread.probe? _).trans hprobe, q, hq, by rw [hqueue, hask.di, honly.di], hwho⟩,
        (hread.probe? _).trans (hother.trans (honly.probe? _)), hregs, hall⟩

/-- PROBE_GO that reaches SI is done for its own side, and recorded as unmapped for the other. -/
theorem execProbeGo_reached {src : Src} {p t : Nat} {s : State} (seq bk tb : Nat) (hp : p < 2) (hup : (s.begin t).islUp 7 = true)
    (hreach : (s.begin t).reaches src .store 7 (0x428 + 0x80 * p) = true) : execProbeGo src p seq bk tb t s
      = .next (if src = .host ↔ p = 1 then ((s.begin t).counted 7).probeGo p seq bk tb
          else (s.begin t).unmapped src 7 (0x428 + 0x80 * p)) := by
  unfold execProbeGo
  dsimp only
  rw [Nat.mod_eq_of_lt hp, State.guarded_reached _ hreach, hup, if_neg (by decide)]
  by_cases hside : src = .host ↔ p = 1 <;> simp [hside]

/- ## PROBE_COMPLETE (R273) -/

/-- What a lookup of an outstanding probe answers. -/
def State.probeLookup (s : State) (q : Probe) : SearchResult :=
  if q.table < 8 then ofOwn (s.tcamOwn (s.bank (s.probeBank q.bank)) q.table q.key)
  else ofHash (((s.bank (s.probeBank q.bank)).hash (q.table == 8)).lookup (q.table == 8) (hashKey (q.table == 8) q.key) false)

/-- The probe's answer is shown, once its lookup has been counted where it is made now. -/
theorem State.probeComplete_shows {s : State} {p : Nat} {q : Probe} (hq : s.probe? p = some q) (hr : s.islRuns 7 = true)
    (h : q.result.isSome = true ∨ s.isCascade q.table = false ∧ q.asked = none) :
    ∃ a, s.restKept a [] ∧ s.only a [.regs, .out]
      ∧ s.probeComplete p = a.probeShow p q.seq (q.result.getD (s.probeLookup q)) := by
  unfold State.probeComplete
  rw [hq]
  dsimp only
  rw [hr, if_neg (by decide)]
  cases hres : q.result with
  | some r => exact ⟨s, .refl s [], .refl s _, rfl⟩
  | none =>
    obtain ⟨hc, hasked⟩ := h.resolve_left (by simp [hres])
    dsimp only
    rw [hc, hasked, if_neg (by decide)]
    unfold State.probeLookup
    split
    · exact ⟨s.count 7 0x100 1, s.restKept_count _ _ (by decide), s.only_count _ _ _, rfl⟩
    · rw [State.hashSearch_unlearning _ _ _ _ _ (.inl rfl)]
      exact ⟨_, s.restKept_hashCounted _ _ _, s.only_hashCounted _ _ _, rfl⟩

/-- Settles O36: a lookup runs from the state that took its request, and a probe shows what its lookup finds or has brought. -/
theorem searchesAndProbesAnswer : Obligations.SearchesAndProbesAnswer := by
  unfold Obligations.SearchesAndProbesAnswer
  refine ⟨?slice, ?cascade, ?hash, ?overflow, ?aged, ?young, ?go, ?other, ?complete⟩
  case slice =>
    intro id t r s hreq hruns harr ht hc
    obtain ⟨a, htook, hchan, hu⟩ := State.searchLookup_taken hreq hruns harr
    have hslices := (State.restKept.of_regs htook.regs []).slices
    rw [State.lookup_slice ht ((hslices.isCascade _).trans hc), hslices.tcamOwn ht, htook.epochBank] at hu
    have hcount := a.only_count 7 0x100 1
    have hset := (a.count 7 0x100 1).only_setResult r.id (ofOwn ((s.begin t).tcamOwn ((s.begin t).epochBank r.epoch) r.table r.key))
    refine .next rfl hu ⟨?_, ?_, ?_, State.only.eq (l := [.regs, .si, .chans, .isl, .out])
      (((htook.mono).then hcount).then hset)⟩
    · rw [State.setResult_si, hcount.si, htook.si]
      rfl
    · rw [hset.chan, hcount.chan, hchan]
    · exact (((State.restKept.of_regs htook.regs []).count _ _ (by decide)).trans (State.restKept_setResult _ _ _))
  case cascade =>
    intro id t r s hreq hruns harr ht hc hup
    obtain ⟨a, htook, -, hu⟩ := State.searchLookup_taken hreq hruns harr
    have hslices := (State.restKept.of_regs htook.regs []).slices
    rw [State.lookup_cascade ((hslices.isCascade _).trans hc), hslices.tcamOwn ht, htook.epochBank] at hu
    have hcount := a.only_count 7 0x100 1
    have hrest := (State.restKept.of_regs htook.regs []).count (i := 7) 0x100 1 (by decide)
    have hup' : (a.count 7 0x100 1).casUp = true := by
      rw [State.casUp, hrest.rd (by decide) (by simp)]
      exact hup
    have hpos : (a.count 7 0x100 1).casPos = (s.begin t).casPos := hrest.rd (by decide) (by simp)
    have hsi : (a.count 7 0x100 1).si = (s.begin t).si := hcount.si.trans htook.si
    have hslot : (a.count 7 0x100 1).slotNow = (s.begin t).slotNow := by
      unfold State.slotNow
      rw [hsi, hcount.now, htook.now]
    generalize a.count 7 0x100 1 = c at *
    let own := (s.begin t).tcamOwn ((s.begin t).epochBank r.epoch) r.table r.key
    have hall := State.only_casStart (.search r.id) r.table r.key own hup'
    have hkept := ((htook.mono (l' := [.chans, .regs, .out, .si])).then hcount).then hall
    have hcasc := State.casStart_si (.search r.id) r.table r.key own hup'
    refine .next rfl hu ⟨⟨c.casAsked (.search r.id) r.table r.key own, ?_, rfl, hpos, ?_, rfl, rfl, rfl, ?_⟩,
      ⟨c.casRequest r.table r.key, _, State.casStart_out _ _ _ own hup', rfl, ?_, rfl⟩, ?_,
      hrest.trans (State.restKept_casStart _ _ _ own hup'), ?_, ?_⟩
    · rw [hcasc, hsi]
    · exact congrArg Search.nextTag hsi
    · exact hslot ▸ c.nextExec_ge c.slotNow
    · exact congrArg Search.nextTag hsi
    · rw [hcasc, hsi]
    · exact hkept .bank0 (by decide)
    · exact hkept .bank1 (by decide)
  case hash =>
    intro id t r s hreq hruns harr ht hlearn hread
    obtain ⟨a, htook, -, hu⟩ := State.searchLookup_taken hreq hruns harr
    rw [← htook.epochBank] at hread
    rw [State.lookup_hash ht (by rw [State.isSet, htook.rd]; exact hlearn) hread, htook.epochBank] at hu
    have hcount := a.only_hashCounted ((s.begin t).epochBank r.epoch) (r.table == 8) r.key
    refine .next rfl hu ⟨?_, ?_, State.only.eq (l := [.regs, .si, .chans, .isl, .out])
      (((htook.mono).then hcount).then (State.only_setResult _ _ _))⟩
    · rw [State.setResult_si, hcount.si, htook.si]
      rfl
    · exact ((State.restKept.of_regs htook.regs []).trans (State.restKept_hashCounted _ _ _ _)).trans
        (State.restKept_setResult _ _ _)
  case overflow =>
    intro id t r s hreq hruns harr ht hdi hread
    obtain ⟨a, htook, -, hu⟩ := State.searchLookup_taken hreq hruns harr
    rw [← htook.epochBank] at hread
    rw [State.lookup_overflow ht (by rw [State.islRuns, State.isl?, htook.rd]; exact hdi) hread] at hu
    have hask := a.only_askOverflow r.id (a.bankOf r.epoch) (r.table == 8) r.key
    obtain ⟨q, hq, hqueue, hwho⟩ := a.askOverflow_queue r.id (a.bankOf r.epoch) (r.table == 8) r.key
    exact .next rfl hu ⟨⟨q, hq, by rw [hqueue, htook.di], hwho⟩, hask.si.trans htook.si, hask.regs.trans htook.regs⟩
  case aged =>
    intro vm t s hage hold
    have hu := State.ageOut_eq hage hold
    obtain ⟨haged, hregs, honly⟩ := State.aged_shows ((s.begin t).bothBridges fun x => x.forgot (bridgeKey (beBytes 8 vm)))
    exact .next rfl hu ⟨honly .bank0 (by decide), honly .bank1 (by decide), haged, hregs,
      State.only.eq (State.only.then (l := [.regs, .bank0, .bank1]) (.of_withParts rfl) honly)⟩
  case young => exact fun vm t s hage => .next rfl (State.ageOut_off hage) rfl
  case go =>
    intro src p seq bk tb t s hp hside hup hreach hc
    obtain ⟨⟨hseq, hbank, htable⟩, hmain, hother, hregs, honly⟩ := ((s.begin t).counted 7).probeGo_shows hp seq bk tb hc
    rw [State.counted_reaches] at hreach
    rw [State.counted_islUp _ (by decide)] at hup
    exact .next (execProbeGo_reached seq bk tb hp hup hreach) (if_pos hside)
      ⟨hseq, hbank, htable, hmain, hother, hregs, honly.eq⟩
  case other =>
    intro src p seq bk tb t s hp hside hup hreach
    obtain ⟨hun, haddr, hisl, -⟩ := (s.begin t).unmapped_rd src 7 (0x428 + 0x80 * p)
    exact .next (execProbeGo_reached seq bk tb hp hup hreach) (if_neg hside)
      ⟨hun, hisl, haddr.trans (Nat.mod_eq_of_lt (by omega)), State.unmapped_only _ _ _ _⟩
  case complete =>
    intro p t q s hp hq hr hdone
    obtain ⟨a, hrest, honly, hu⟩ := State.probeComplete_shows hq hr hdone
    obtain ⟨hnone, hval, hseq, hst, hact, hidx, hloc, -, hregs, hshow⟩ :=
      a.probeShow_shows q.seq hp (q.result.getD ((s.begin t).probeLookup q))
    refine .next rfl ((congrArg _ (Nat.mod_eq_of_lt hp)).trans hu) ⟨hnone, hval, hseq, hst, hact, hidx, hloc,
      (hrest.mono (by simp)).trans hregs.rest, State.only.eq (l := [.regs, .si, .out]) ((honly.mono).then hshow)⟩

end Sys2Proof.Machine
